-- ==== Sys2Proof/Word.lean ====
section
/-! DEFINITION. The word types of the PQ64 (R2, R5): bytes, 32-bit register words and 64-bit quantities, with the
plainest arithmetic on them. -/

namespace Sys2Proof

/-- One byte of memory, of a packet or of the Key. -/
abbrev Byte := BitVec 8

/-- One register word (R5: every register is 32 bits wide). -/
abbrev Word := BitVec 32

/-- A quantity of two consecutive registers (R8). -/
abbrev DWord := BitVec 64

/-- The word whose bits are `n` modulo 2^32. -/
abbrev Word.of (n : Nat) : Word := BitVec.ofNat 32 n

/-- The byte whose bits are `n` modulo 256. -/
abbrev Byte.of (n : Nat) : Byte := BitVec.ofNat 8 n

end Sys2Proof
end

