-- ==== Sys2Proof/Syntax.lean ====
section
/-! DEFINITION. The commands of the PQ64: one constructor for each row of the table of operations and events, with
the operands that come from outside the block (a requester, an address, a value, the levels at the pins, a
measured quantity, a moment). -/

namespace Sys2Proof

/-- Who makes a register access (R8, R13): an engine by its number, a DMA channel, or the host with a role
(0 none, 1 observer, 2 maintainer, 3 commissioner) and its source address. -/
inductive Who where
  | eng (e : Nat)
  | dma (ch : Nat)
  | host (role : Nat) (src : Nat)
deriving DecidableEq, Repr

/-- What a slice measures in one slot (R91, R92, R99): the input, without the slice's corrections, in nV in the voltage ranges and in
pA in the current range, and the voltage of the selected reference in µV. -/
structure Sample where
  level : Int := 0
  vref : Nat := 4096000
deriving DecidableEq, Repr


/-- One conversion result of the analogue path: the 16-bit code as a signed number and the marks of R100. -/
structure Conv where
  code : Int := 0
  ovr : Bool := false
  sus : Bool := false
deriving DecidableEq, Repr

/-- A frame-memory burst request (R54): requester, first byte address, length in bytes, write data (a read has
none), and the cycle of the request. -/
structure BurstReq where
  req : Nat := 0
  addr : Nat := 0
  len : Nat := 0
  write : Bool := false
  data : List Byte := []
  at_ : Nat := 0
  state : Bool := false
  alt : Nat := 0
deriving DecidableEq, Repr


/-- What the latch phase of a frame samples and meets (R35, R73, R80, R99, R107, R218): the 96 raw terminal samples, the six supply
and six terminal voltages in µV as their slice measures them (and the overlapping spare), the voltage of the internal
reference in µV, references inside their windows, AVS in current limit, encoder amplitudes, the SP's safety input levels (RAW), pair node levels, captures of
the SP that differ from the port's, frame-memory upsets, and the banks whose scrubber is served. -/
structure FrameIn where
  raw : Nat := 0
  osv : List Int := []
  tv : List Int := []
  osvAlt : List Int := []
  tvAlt : List Int := []
  vint : Nat := 4096000
  refIn : List Bool := []
  avsLim : Bool := false
  amp : List Nat := []
  si : Nat := 0
  hsNode : Nat := 0
  lsNode : Nat := 0
  sosMv : Nat := 24000
  spCap : List (Nat × Nat) := []
  upsets : List (Nat × Nat) := []
  served : List Bool := []
  lf : Nat := 24000
  apDur : Nat := 0
deriving DecidableEq, Repr


/-- A frame as a CAN controller receives it (R308, R314). -/
structure CanFrame where
  ide : Bool := false
  id : Nat := 0
  dlc : Nat := 0
  fdf : Bool := false
  esi : Bool := false
  remote : Bool := false
  data : List Byte := []
deriving DecidableEq, Repr


/-- The calibration of one delay line (R122): its group and number, its largest tap deviation in ps, and its 32 tap delays in ps. -/
structure LineCal where
  g : Nat := 0
  i : Nat := 0
  err : Int := 0
  taps : List Nat := []
deriving DecidableEq, Repr


/-- What powering up the field domain meets (R102, R122, R417): ms from the end of step 1 to the first tick, corrections of the
slices' calibration (offset in LSB, gain in 0.01 %), calibrations of delay lines (ideal where not listed), slots that fail their check, checks in a
row up to the first tick that found the internal reference inside its window (R99), and whether PRESENT is high: no carrier, so no Key, is
fitted (R465). -/
structure StartIn where
  ms : Nat := 0
  refRun : Nat := 0
  slices : List (Int × Int) := []
  lines : List LineCal := []
  bad : List Nat := []
  noKey : Bool := false
deriving DecidableEq, Repr

/-- A level at a pin: the cycle at which it takes effect and the cycles for which it stood (R107, R121). -/
structure Pulse where
  at_ : Nat := 0
  len : Nat := 0
deriving DecidableEq, Repr

/-- The commands. -/
inductive Instr where
  /-- FRAME_TICK (R35): At each tick the staged outputs take effect together, the frame counter increments and the latch phase of the new frame begins. -/
  | frameTick (o : FrameIn)
  /-- END_OF_LATCH (R35): At cycle 1,200 the input images are published, host commands are applied and the frame-bound engines start their work. -/
  | endOfLatch (t : Nat) (torn : List (Nat × Nat))
  /-- COMMIT_POINT (R35): At L−400 the frame generator samples done flags, moves finished results to the output shadows and takes the active AP's latest output image. -/
  | commitPoint (fin : List (Option Nat)) (token : Bool)
  /-- FAILURE_BY_OVERRUN (R41): An engine whose overrun count reaches CONSEC or WIN fails, and its failure action (graft, stop, safe state or give-up) is taken. -/
  | failureByOverrun (e : Nat)
  /-- FRAME_LOCK_BEACON (R47): At each beacon with frame lock set, the phase error is measured, frame-length corrections are scheduled and the lock state bits are updated. -/
  | frameLockBeacon (tickNs : Nat)
  /-- LOCK_HOLDOVER (R47): After 40 TDMA cycles without a beacon, the frame generator enters holdover and keeps its last rate correction. -/
  | lockHoldover
  /-- FRM_CTL_LOCK_WRITE (R45): A write of FRM_CTL.LOCK starts or stops frame lock, or is refused with LOCK_REFUSED when L is incompatible. -/
  | frmCtlLockWrite (who : Who) (v : Word)
  /-- FRM_PEAK_CLEAR (R48): A write of 1 to FRM_PEAK[e].CLR sets the engine's PEAK to 0. -/
  | frmPeakClear (who : Who) (e : Nat) (v : Word)
  /-- REGISTER_WRITE (R5): A write to a register without a row of its own acts under its access code, with ownership, alignment, 64-bit commit and W1C rules applied. -/
  | registerWrite (who : Who) (idx c : Nat) (v : Word) (narrow : Bool)
  /-- BARRIER_CYCLE (R476): Every 4,000 FCLK cycles a barrier cycle begins, cells are allotted by type priority and a TIM cell carrying the frame counter is sent. -/
  | barrierCycle (c : Nat) (unlocked : List Nat) (hv : Nat)
  /-- BARRIER_CELL (R18): A barrier cell arrives at the far side and is checked by CRC and type, stored as a message fragment or discarded for resend. -/
  | barrierCell (toField : Bool) (lane pos : Nat) (bytes : List Byte)
  /-- LANE_OUT_OF_SERVICE (R22): A lane with 16 CRC errors in 1,000 barrier cycles, or no symbol lock for 3 cycles, is taken out of service. -/
  | laneOutOfService (l : Nat)
  /-- LANE_GRAFT (R22): A healthy lane 4 is grafted into the position of a failed lane within 100 barrier cycles. -/
  | laneGraft
  /-- CMD_MESSAGE (R23): A whole CMD message is applied at the end of latch of the first frame that begins after it has arrived, all accesses in packet order. -/
  | cmdMessage
  /-- OPERATOR_MARK (R28): A DEV_CTL write with MARK inserts an operator mark into the event log and every active stream in that frame. -/
  | operatorMark (who : Who) (v : Word)
  /-- HOST_WARM_RESTART (R425): DEV_CTL.HOST_RST, a 2 ms HX silence or a host supply fault warm-restarts the host domain within 8 ms. -/
  | hostWarmRestart (trig : Nat) (who : Who)
  /-- ROLE_LOCKOUT_END (R31): After 60 s the lockout of a source with 8 refused role-key presentations ends. -/
  | roleLockoutEnd (src : Nat)
  /-- BURST_REQUEST (R56): A requester's frame-memory burst request is arbitrated by rank, round-robin and fair slots, checked by the MPU and run beat by beat. -/
  | burstRequest (reqs : List BurstReq)
  /-- BEAT_TIMEOUT (R66): A beat not completed within 16 cycles ends the burst and is handled as a fault of R66. -/
  | beatTimeout (r : BurstReq) (k : Nat)
  /-- GRANT_TIMEOUT (R66): A request not granted within TMO cycles is abandoned with no beat performed. -/
  | grantTimeout (r : BurstReq)
  /-- ROW_GRAFT (R52): A row reaching CE_GRAFT corrected errors or showing a double-bit error starts being copied onto a free spare row. -/
  | rowGraft (row : Nat)
  /-- ROW_COPY_COMPLETE (R52): The copy of a grafted row completes, the row is remapped and the remap is recorded in field code flash. -/
  | rowCopyComplete (row : Nat)
  /-- SCRUB_PASS_LATE (R53): A scrub pass taking more than 8,448 frames raises an event. -/
  | scrubPassLate (bank : Nat)
  /-- DMA_GO (R61): A write of GO starts a DMA channel at its first descriptor, which is checked and then transferred burst by burst. -/
  | dmaGo (who : Who) (ch c : Nat) (v : Word)
  /-- DMA_STOP (R60): A write of STOP stops the DMA channel at the next burst boundary in state STOPPED. -/
  | dmaStop (who : Who) (ch c : Nat) (v : Word)
  /-- DESCRIPTOR_DONE (R60): A descriptor completes, raising an event if EVT is set and continuing with NEXT if CHAIN is set. -/
  | descriptorDone (ch c : Nat)
  /-- MEM_CLR_PEAKS (R69): A write of MEM_CLR.PEAKS sets every MEM_ARB_PEAK to 0. -/
  | memClrPeaks (who : Who) (v : Word)
  /-- OVERLOAD_TRIP (R83): A terminal continuously in current limit for 36 to 44 µs opens in hardware and sets OVERLOAD. -/
  | overloadTrip (t c : Nat)
  /-- THERMAL_SHUTDOWN (R83): A terminal switch at 150 °C junction opens and sets THERMAL. -/
  | thermalShutdown (t c : Nat)
  /-- SUPPLY_COMPARATOR_TRIP (R87): A group supply falling below 12.0 V opens every switch of the group within 5 µs in hardware. -/
  | supplyComparatorTrip (g c : Nat)
  /-- GROUP_WATCHDOG_EXPIRY (R78): A group watchdog reaching WDOG frames without a new output image expires and the safe states apply from the next tick. -/
  | groupWatchdogExpiry (g : Nat)
  /-- TRM_CLRALL (R89): A write of TRM_CTL.CLRALL clears every W1C bit of every TRM_TSTAT, subject to R88. -/
  | trmClrall (who : Who) (v : Word)
  /-- ADC_SCAN_TRIGGER (R93): A frame-offset or PWM-reload trigger starts a role's scan of its mask, or is counted as missed while the role is busy. -/
  | adcScanTrigger (k c : Nat)
  /-- CONVERSION_COMPLETE (R91): An 80-cycle conversion completes with its code and its overrange, suspect and reference flags. -/
  | conversionComplete (k ch c : Nat) (inp alt : List Sample)
  /-- SLICE_FAILURE (R105): A slice with two consecutive TC0 or TC1 conversions outside limits fails and marks its conversions suspect. -/
  | sliceFailure (x c : Nat)
  /-- SLICE_REPLACED (R105): At the next tick the spare takes the failed slice's role without CAL or OVERLAP and the failed slice is retired. -/
  | sliceReplaced
  /-- ANNEAL_CAL_END (R103): After 2,048 frames of calibration the spare slice enters WAIT. -/
  | annealCalEnd (ofs gain : Int)
  /-- ANNEAL_WAIT_END (R103): When DWELL frames have passed since the step began, the anneal step enters OVERLAP. -/
  | annealWaitEnd
  /-- ANNEAL_STEP (R103): ADC_CTL.STEP ends the WAIT phase of the anneal at the next tick. -/
  | annealStep (who : Who) (v : Word)
  /-- ANNEAL_SWITCH (R104): At the tick ending OVERLAP the spare takes the role if its mean differences lie within TOL, otherwise it retries or is retired. -/
  | annealSwitch
  /-- ENCODER_EDGE (R107): A counted encoder edge changes POS and its sub-frame time, and a Z edge is captured into ADC_EP_IDX. -/
  | encoderEdge (p : Nat) (c : Pulse) (delta : Int) (z : Bool)
  /-- ENCODER_FAULT (R108): A line, illegal-transition, amplitude or SSI fault sets its bit and clears VALID. -/
  | encoderFault (p b c : Nat) (on : Bool)
  /-- SSI_READ (R109): In frames with n mod (EVERY+1) = 0 an SSI transaction is started so that its last bit is sampled by cycle 960. -/
  | ssiRead (p c raw : Nat) (err : Bool)
  /-- PWM_RELOAD_POINT (R117): At a selected reload point the armed set becomes active, TOP changes, SYNC correction is applied and pulse suppression is judged. -/
  | pwmReloadPoint (g c : Nat) (top : Bool)
  /-- GATE_DRIVER_FAULT (R121): A GFg assertion lasting GFFILT cycles sets FAULT and turns every output of the group off in hardware. -/
  | gateDriverFault (g : Nat) (c : Pulse) (on : Bool)
  /-- DELAY_LINE_CAL_END (R123): After 256 frames the spare delay line's calibration ends, retiring it on failure, and WAIT begins. -/
  | delayLineCalEnd (g : Nat) (err : Int) (taps : List Nat)
  /-- DELAY_LINE_WAIT_END (R123): When DWELL frames have passed, the delay-line anneal step enters SWAP. -/
  | delayLineWaitEnd (g : Nat)
  /-- DELAY_LINE_SWAP (R123): At the first cycle with no edge due within 8 cycles the spare line takes the output and the released line becomes the spare. -/
  | delayLineSwap (g c : Nat)
  /-- PWM_CLRCNT (R124): A write of PWM_CTL.CLRCNT sets every PWM_GRP_CNT to 0. -/
  | pwmClrcnt (who : Who) (v : Word)
  /-- SLOT_STALE_FAULT (R138): A slot whose STALERUN reaches STALEMAX faults and stops running. -/
  | slotStaleFault (k : Nat)
  /-- PAGE_SWAP_REQUEST (R145): A change of LP_PAGE.SEL starts a check of the requested page by the active AP, abandoning any check in progress. -/
  | pageSwapRequest (who : Who) (k : Nat) (v : Word)
  /-- PAGE_CHECK_DONE (R145): A page check completes within 4 frames, putting the page in use or returning SEL with PAGEERR. -/
  | pageCheckDone (k : Nat)
  /-- SLOT_RESTART (R139): LP_CTL.RESTART clears FAULT, zeroes the history and STALERUN and makes the next running frame a first running frame. -/
  | slotRestart (who : Who) (k : Nat) (v : Word)
  /-- TARGET_WRITE (R159): A value written to MG_TGT is judged in the frame it takes effect and accepted or refused with TGTREF or TGTLIM. -/
  | targetWrite (who : Who) (a v : Nat)
  /-- REACH_QUERY (R163): A write of MG_QPOS poses a reachability query answered in MG_QRES with REACH, LIMIT and ETA. -/
  | reachQuery (who : Who) (a v : Nat)
  /-- AXIS_HOLD (R160): HOLD makes the axis plan to its stop point and rest there; clearing it plans towards the target in force. -/
  | axisHold (who : Who) (a : Nat) (v : Word)
  /-- QUICK_STOP (R161): QSTOP, or clearing EN while moving, sets the target to the stop point under the quick-stop limits. -/
  | quickStop (who : Who) (a : Nat) (v : Word)
  /-- AXIS_ENABLE (R178): EN going to 1 sets the commanded state from feedback or the last position with v and a at 0. -/
  | axisEnable (who : Who) (a : Nat) (v : Word)
  /-- REFERENCE_COMMAND (R173): REF starts a stall reference run on a step axis at rest, or shifts a servo axis's positions, or sets REFFAIL. -/
  | referenceCommand (who : Who) (a : Nat) (v : Word)
  /-- REFERENCE_RUN_FAIL (R173): A reference run travelling REFMAX·256 counts without a stall quick-stops and sets REFFAIL. -/
  | referenceRunFail (a : Nat)
  /-- REVERSAL_DWELL_END (R158): After REVDWELL frames at rest the axis plans from rest towards the target. -/
  | reversalDwellEnd (a : Nat)
  /-- FEEDBACK_LOST (R164): After 4 frames with the port invalid the axis sets FBLOST and starts a quick stop. -/
  | feedbackLost (a : Nat)
  /-- FOLLOWING_ERROR (R165): A following error above FERRLIM in 2 consecutive frames sets FERR and starts a quick stop. -/
  | followingError (a : Nat)
  /-- STALL_DETECTED (R172): ρ below RHO for STALLN frames finds a stall: the axis rests at P0, sets STALL, or ends a reference run. -/
  | stallDetected (a : Nat)
  /-- STALL_CLEAR (R172): Clearing STALL ends the stall hold. -/
  | stallClear (who : Who) (a : Nat) (v : Word)
  /-- ENERGY_OVER (R176): Measured door energy above 1.25·E in 4 governed frames sets EOVER and raises an event. -/
  | energyOver (a : Nat)
  /-- SCAN (R257): A scan takes the latest input image, applies pending batches, evaluates every block and closes the output image and write list. -/
  | scan (c dur : Nat) (torn : List (Nat × Nat))
  /-- SCAN_TOO_LONG (R262): A scan lasting longer than SCANMAX frames fails the active AP, which gives up control. -/
  | scanTooLong (c : Nat)
  /-- AND (R269): The AND block outputs 1 if every input is true. -/
  | and_ (inst : Nat)
  /-- OR (R269): The OR block outputs 1 if any input is true. -/
  | or_ (inst : Nat)
  /-- XOR (R269): The XOR block outputs 1 if exactly one input is true. -/
  | xor_ (inst : Nat)
  /-- NOT (R269): The NOT block outputs the inverse of its input. -/
  | not_ (inst : Nat)
  /-- SR (R269): The SR block is a set-dominant bistable. -/
  | sr (inst : Nat)
  /-- RS (R269): The RS block is a reset-dominant bistable. -/
  | rs (inst : Nat)
  /-- R_TRIG (R271): The R_TRIG block outputs a rising edge of CLK. -/
  | rTrig (inst : Nat)
  /-- F_TRIG (R271): The F_TRIG block outputs a falling edge of CLK. -/
  | fTrig (inst : Nat)
  /-- TP (R270): The TP block emits a pulse of PT frames on a rising IN. -/
  | tp (inst : Nat)
  /-- TON (R270): The TON block is an on-delay timer of PT frames. -/
  | ton (inst : Nat)
  /-- TOF (R270): The TOF block is an off-delay timer of PT frames. -/
  | tof (inst : Nat)
  /-- CTU (R270): The CTU block counts rising CU edges up to PV. -/
  | ctu (inst : Nat)
  /-- CTD (R270): The CTD block counts rising CD edges down from PV. -/
  | ctd (inst : Nat)
  /-- CTUD (R270): The CTUD block counts up and down with reset and load. -/
  | ctud (inst : Nat)
  /-- GT (R269): The GT block compares IN1 greater than IN2. -/
  | gt_ (inst : Nat)
  /-- GE (R269): The GE block compares IN1 greater than or equal to IN2. -/
  | ge_ (inst : Nat)
  /-- EQ (R269): The EQ block compares IN1 equal to IN2. -/
  | eq_ (inst : Nat)
  /-- NE (R269): The NE block compares IN1 not equal to IN2. -/
  | ne_ (inst : Nat)
  /-- LE (R269): The LE block compares IN1 less than or equal to IN2. -/
  | le_ (inst : Nat)
  /-- LT (R269): The LT block compares IN1 less than IN2. -/
  | lt_ (inst : Nat)
  /-- ADD (R267): The ADD block forms the exact saturated sum of its inputs. -/
  | add_ (inst : Nat)
  /-- SUB (R269): The SUB block forms I1 − I2, saturated. -/
  | sub_ (inst : Nat)
  /-- MUL (R267): The MUL block forms the exact saturated product of its inputs. -/
  | mul_ (inst : Nat)
  /-- DIV (R267): The DIV block forms a truncated quotient, leaving Q unchanged on division by zero. -/
  | div_ (inst : Nat)
  /-- MOD (R267): The MOD block forms the remainder with the sign of I1, leaving Q unchanged on zero divisor. -/
  | mod_ (inst : Nat)
  /-- ABS (R269): The ABS block forms the saturated magnitude. -/
  | abs_ (inst : Nat)
  /-- NEG (R269): The NEG block forms the saturated negation. -/
  | neg_ (inst : Nat)
  /-- MIN (R269): The MIN block outputs its smallest input. -/
  | min_ (inst : Nat)
  /-- MAX (R269): The MAX block outputs its largest input. -/
  | max_ (inst : Nat)
  /-- LIMIT (R269): The LIMIT block clamps IN between MN and MX. -/
  | limit (inst : Nat)
  /-- SEL (R269): The SEL block selects IN1 if G, otherwise IN0. -/
  | sel (inst : Nat)
  /-- MUX (R269): The MUX block selects input K, unchanged if K is out of range. -/
  | mux (inst : Nat)
  /-- MOVE (R269): The MOVE block copies its input. -/
  | move (inst : Nat)
  /-- QADD (R269): The QADD block forms a Q15.16 sum. -/
  | qadd (inst : Nat)
  /-- QSUB (R269): The QSUB block forms a Q15.16 difference. -/
  | qsub (inst : Nat)
  /-- QMUL (R269): The QMUL block forms a rounded Q15.16 product. -/
  | qmul (inst : Nat)
  /-- QDIV (R269): The QDIV block forms a rounded Q15.16 quotient, unchanged on zero divisor. -/
  | qdiv (inst : Nat)
  /-- QSCALE (R269): The QSCALE block forms rnd(K·X,16) + C. -/
  | qscale (inst : Nat)
  /-- DINT_TO_Q (R269): The DINT_TO_Q block converts an integer to Q15.16. -/
  | dintToQ (inst : Nat)
  /-- Q_TO_DINT (R269): The Q_TO_DINT block rounds a Q15.16 value to an integer. -/
  | qToDint (inst : Nat)
  /-- HYST (R269): The HYST block switches at HI and LO with hysteresis. -/
  | hyst (inst : Nat)
  /-- LAG (R269): The LAG block applies a first-order lag of time constant TAU frames. -/
  | lag (inst : Nat)
  /-- RAMP (R269): The RAMP block moves Y towards X by at most RATE·Δ. -/
  | ramp (inst : Nat)
  /-- BLINK (R269): The BLINK block alternates TH frames on and TL frames off while enabled. -/
  | blink (inst : Nat)
  /-- PACK (R269): The PACK block packs bits into a word. -/
  | pack (inst : Nat)
  /-- UNPACK (R269): The UNPACK block splits a word into bits. -/
  | unpack (inst : Nat)
  /-- RD_REG (R269): The RD_REG block reads a register live at execution. -/
  | rdReg (inst : Nat)
  /-- WR_REG (R269): The WR_REG block places one register write in the scan's write list while enabled. -/
  | wrReg (inst : Nat)
  /-- WR_REG64 (R269): The WR_REG64 block places a 64-bit register write in the write list under R8. -/
  | wrReg64 (inst : Nat)
  /-- EVENT (R269): The EVENT block raises a user event on an edge of TRIG. -/
  | eventBlock (inst : Nat)
  /-- MARK_BLOCK (R269): The MARK block writes an operator mark to DEV_CTL on an edge of TRIG. -/
  | markBlock (inst : Nat)
  /-- DMA_COPY (R269): The DMA_COPY block writes a descriptor address and GO for its channel through the write list on an edge of GO. -/
  | dmaCopy (inst : Nat)
  /-- CB_RX (R315): The CB_RX block reads a CAN buffer under the new-data protocol. -/
  | cbRx (inst : Nat)
  /-- CB_TX (R323): The CB_TX block places data words and TXRQ of an event TX buffer in the write list. -/
  | cbTx (inst : Nat)
  /-- STN_STAT (R282): The STN_STAT block outputs a station's status word. -/
  | stnStat (inst : Nat)
  /-- FRAME (R269): The FRAME block outputs the scan frame, its Δ and the scan period. -/
  | frameBlock (inst : Nat)
  /-- RTC (R269): The RTC block outputs the calendar seconds from the LG mirror. -/
  | rtc (inst : Nat)
  /-- LIFT_CAR (R193): The LIFT_CAR block references the car, sequences run starts and stops, re-levels and supervises shaft divergence. -/
  | liftCar (inst : Nat)
  /-- LIFT_STOPS (R196): The LIFT_STOPS block picks the next candidate landing, queries the car axis and writes targets or declines calls. -/
  | liftStops (inst : Nat)
  /-- LIFT_DOOR (R198): The LIFT_DOOR block runs the door state machine, reversals, nudging and travel learning. -/
  | liftDoor (inst : Nat)
  /-- LIFT_GROUP (R210): The LIFT_GROUP block publishes the group record and gives assigned hall calls to its cars. -/
  | liftGroup (inst : Nat)
  /-- ESC_RUN (R207): The ESC_RUN block runs an escalator drive by keeping its target ahead, stops it and changes its speed. -/
  | escRun (inst : Nat)
  /-- LIFT_INSP (R274): The LIFT_INSP block runs inspection travel while inspection mode is on and UP or DOWN is held. -/
  | liftInsp (inst : Nat)
  /-- SF_DIVERSE (R273): The SF_DIVERSE block fills the diverse stamp, position and speed cells of a monitor channel from the shaft position. -/
  | sfDiverse (inst : Nat)
  /-- LIFT_WAIT_TIMEOUT (R193): A start or stop wait exceeding TMAIN or TBRK makes the car perform its stop sequence and go out of service. -/
  | liftWaitTimeout (mch : Nat)
  /-- RELEVEL_LIMIT (R195): A car needing more than RLMAX re-levels in 60 s is taken out of service. -/
  | relevelLimit (mch : Nat)
  /-- DOOR_DWELL_EXPIRY (R198): After DWELL frames in OPEN the door enters CLOSING. -/
  | doorDwellExpiry (mch side : Nat)
  /-- DOOR_LOCK_TIMEOUT (R199): SFCHAIN not permitting within TLOCK of CLOSED reopens the door, and after LKRETRY attempts the door faults. -/
  | doorLockTimeout (mch side : Nat)
  /-- DOOR_FORCE_TIMEOUT (R200): A force condition held for OBSN frames above CZONE reverses the door into OPENING. -/
  | doorForceTimeout (mch side : Nat)
  /-- SHAFT_SOURCE_LOST (R192): A shaft source unusable for 4·SHAGE frames while the car moves quick-stops the car and takes it out of service. -/
  | shaftSourceLost (mch : Nat)
  /-- GROUP_ASSIGNMENT (R211): After each complete TDMA cycle every member runs the same hall-call assignment over the latest group records. -/
  | groupAssignment (cycle : Nat) (loads : List Nat)
  /-- STATION_ABSENT (R283): A station without a valid input frame for ABS frames, or SYNCT in a synchronous mode, becomes absent. -/
  | stationAbsent (k : Nat)
  /-- STATION_RETURN (R283): A valid input frame from an absent station puts it into RECOVERY. -/
  | stationReturn (k : Nat)
  /-- STATION_TEST_END (R282): A station's TEST mode ends at the boundary after its duration. -/
  | stationTestEnd (k : Nat)
  /-- TEST_PULSE (R220): A test-pulse source pulses low for TPW µs from cycle 1,200 and its inputs' dip latches are judged. -/
  | testPulse (low : Bool)
  /-- SI_DIP (R219): A low of 1 µs or longer on a safety input is captured by its dip latch. -/
  | siDip (k : Nat)
  /-- ASSAY_SLOT (R235): Every 31.25 ms an assay slot starts a switch test pulse, RAM and flash tests and a Key comparison step. -/
  | assaySlot (ramOk flashOk keyOk : Bool)
  /-- SWITCH_TEST_READBACK (R226): 290 µs into a switch test pulse the pair nodes are read back and the switch finding is judged. -/
  | switchTestReadback (hs ls : Bool)
  /-- CLOCK_WINDOW (R215): Every 10 ms the SP reference cycles are compared with FCLK, setting CLKWARN or an internal fault. -/
  | clockWindow (n : Nat)
  /-- SP_INTERNAL_FAULT (R216): An SP internal fault opens every switch and the supply switch at once and stops the SP. -/
  | spInternalFault
  /-- PAIR_OVERLOAD_TRIP (R224): A pair in current limit for 150 to 180 µs opens both switches and sets OVL. -/
  | pairOverloadTrip (k : Nat)
  /-- EDM_TIMEOUT (R225): Feedback not following a pair within EDMT sets EDMF and the pair SAFE. -/
  | edmTimeout (k : Nat)
  /-- SOS_OK (R228): SOS rising to 16.0 V sets SOSOK and closes the supply switch at power-up. -/
  | sosOk (mv : Nat)
  /-- DIVERSE_TIMEOUT (R231): No new diverse stamp for DIVT ms sets DIVLOST and starts degraded mode with cause 2. -/
  | diverseTimeout (c : Nat)
  /-- DEGRADED_TIME_EXPIRY (R237): A degraded timer reaching TIME makes the function FAILED with cause 12. -/
  | degradedTimeExpiry (f : Nat)
  /-- DEGRADED_TIMER_RESET (R237): After 3,600 s outside degraded mode a function's degraded timer returns to 0. -/
  | degradedTimerReset (f : Nat)
  /-- REARM (R238): SF_CTL.REARM clears eligible FAILED causes, returns SAFE pairs to OFF and clears input faults. -/
  | rearm (who : Who) (v : Word)
  /-- SF_STATUS (R251): SF_STATUS returns the set state, Hallmark, REV, confirmation and inspection status. -/
  | sfStatus (src seq : Nat) (payload : List Byte)
  /-- EDIT_OPEN (R249): EDIT_OPEN stops function evaluation and makes the SF registers writable by the session's source. -/
  | editOpen (src seq : Nat) (payload : List Byte)
  /-- SET_LOAD (R251): SET_LOAD writes bytes of BODY into the SF registers in an open edit session. -/
  | setLoad (src seq : Nat) (payload : List Byte)
  /-- EDIT_COMMIT (R249): EDIT_COMMIT writes a new unconfirmed set with REV + 1 to copies A and B and closes the session. -/
  | editCommit (src seq : Nat) (payload : List Byte)
  /-- EDIT_ABORT (R249): EDIT_ABORT reloads the SF registers from the Key and closes the session. -/
  | editAbort (src seq : Nat) (payload : List Byte)
  /-- EDIT_SESSION_TIMEOUT (R249): An edit session without a command for 600 s closes as if aborted. -/
  | editSessionTimeout
  /-- CONFIRM (R250): CONFIRM with a matching Hallmark, REV and mask writes CONF and sets HALLMARK_OK. -/
  | confirm (src seq : Nat) (payload : List Byte)
  /-- KEY_WRITE_COMPLETE (R249): A set or record write to the Key completes within 50 ms and BUSY clears. -/
  | keyWriteComplete
  /-- SET_READ (R251): SET_READ returns bytes of a copy of the safety parameter set from the Key. -/
  | setRead (src seq : Nat) (payload : List Byte)
  /-- INSPECT_ON (R254): INSPECT_ON starts inspection mode with the fixed inspection inputs and permit. -/
  | inspectOn (src seq : Nat) (payload : List Byte)
  /-- INSPECT_KEEP (R256): INSPECT_KEEP restarts the 2 s keep-alive of inspection mode. -/
  | inspectKeep (src seq : Nat) (payload : List Byte)
  /-- INSPECT_OFF (R256): INSPECT_OFF ends inspection mode at the next end of latch. -/
  | inspectOff (src seq : Nat) (payload : List Byte)
  /-- INSPECT_CFG (R253): INSPECT_CFG writes a valid inspection record to the Key while inspection mode is off. -/
  | inspectCfg (src seq : Nat) (payload : List Byte)
  /-- INSPECTION_TIMEOUT (R256): Inspection mode ends after TMAX s or 2 s without INSPECT_KEEP and every pair is opened. -/
  | inspectionTimeout
  /-- PRG_STATUS (R279): PRG_STATUS returns the scan program's identity, counts, periods, tickets and station masks. -/
  | prgStatus (src seq : Nat) (payload : List Byte)
  /-- IMG_READ (R279): IMG_READ returns bytes of the image in force. -/
  | imgRead (src seq : Nat) (payload : List Byte)
  /-- PARAM_BATCH (R276): PARAM_BATCH is judged as a batch and, if accepted, queued on both APs with a ticket. -/
  | paramBatch (src seq : Nat) (payload : List Byte)
  /-- PARAM_READ (R279): PARAM_READ returns applied values of parameter cells. -/
  | paramRead (src seq : Nat) (payload : List Byte)
  /-- STN_TEST (R282): STN_TEST puts the named stations into TEST for a duration, or ends TEST. -/
  | stnTest (src seq : Nat) (payload : List Byte)
  /-- IMG_PUT (R279): IMG_PUT adds bytes to the staged scan image for a later update. -/
  | imgPut (src seq : Nat) (payload : List Byte)
  /-- MIRROR_RECORD (R286): Each frame the active AP sends a mirror record that the standby uses to follow and check its scans. -/
  | mirrorRecord (num : Nat) (same : Bool)
  /-- SCAN_MISMATCH (R288): An unsynchronised standby scan or missing mirror record returns the standby to SYNCING and starts a transfer. -/
  | scanMismatch
  /-- STATE_TRANSFER_COMPLETE (R289): When the marked blocks total 16 KiB or less, they are copied at a scan boundary and both sides start the same scan. -/
  | stateTransferComplete
  /-- AP_GIVE_UP (R291): The active AP gives up control at the commit point for a fault cause and goes to RESTARTING. -/
  | apGiveUp (x cause : Nat)
  /-- FAIL_OVER (R292): The standby side becomes ACTIVE at the tick after a give-up, outputs hold for the 2-frame gap and write lists are applied once. -/
  | failOver (dur : Nat)
  /-- HELD_ENTRY (R294): A give-up with no side in STANDBY puts the field domain in HELD and quick-stops every axis. -/
  | heldEntry
  /-- HELD_CELLS_RELEASE (R427): In HELD, once every axis rests or HELDT expires, the image's AP cells are set to 0. -/
  | heldCellsRelease
  /-- HELD_END (R427): An AP side completing its restart ends HELD and becomes ACTIVE without synchronisation. -/
  | heldEnd (x : Nat)
  /-- TAKE_BACK (R295): After 1,000 synchronised frames the home side becomes ACTIVE again at a commit point without a gap. -/
  | takeBack
  /-- DX_STATUS (R305): DX_STATUS returns the duplex status registers. -/
  | dxStatus (src seq : Nat) (payload : List Byte)
  /-- DX_SWITCH (R296): DX_SWITCH switches control to the other side at the next eligible commit point. -/
  | dxSwitch (src seq : Nat) (payload : List Byte)
  /-- DX_RESTORE (R297): DX_RESTORE returns a RETIRED side to RESTARTING and clears its counts. -/
  | dxRestore (src seq : Nat) (payload : List Byte)
  /-- SPR_STATUS (R305): SPR_STATUS returns the spare status and part registers. -/
  | sprStatus (src seq : Nat) (payload : List Byte)
  /-- SPR_GRAFT (R301): SPR_GRAFT commands a graft of a spare for an engine, slice, lane or row. -/
  | sprGraft (src seq : Nat) (payload : List Byte)
  /-- SPR_RELEASE (R301): SPR_RELEASE gives a grafted engine back at a named frame. -/
  | sprRelease (src seq : Nat) (payload : List Byte)
  /-- PLANNED_GRAFT (R301): At frame G a checked planned graft or release moves an engine's work without holding outputs. -/
  | plannedGraft
  /-- WEAR_UPDATE (R302): Each hour WEAR of every part increases with temperature, raising a warning or grafting at thresholds. -/
  | wearUpdate (ecc : List Nat)
  /-- FLASH_BLOCK_GRAFT (R304): A flash block reaching ERASEMAX or failing verification is grafted onto a spare block. -/
  | flashBlockGraft (block : Nat)
  /-- CAN_FRAME_RECEIVED (R314): A received CAN data frame is matched to an RX buffer and stored with its status, or dropped. -/
  | canFrameReceived (k c dur : Nat) (f : CanFrame)
  /-- CAN_COLUMN_START (R318): At the start of a schedule column the controller sends its EXCL cell or serves ARB requests and the REF frame. -/
  | canColumnStart (k c : Nat)
  /-- CAN_TRANSMIT_END (R318): A CAN transmission ends, succeeding or setting TXFAIL or retrying in an ARB column. -/
  | canTransmitEnd (k c res lec : Nat)
  /-- CELL_MISS (R320): An RX cell not satisfied by the end of its column sets MISS. -/
  | cellMiss (k b : Nat)
  /-- TRANSMIT_REQUEST (R316): A write of TXRQ copies the staging copy to the transmit copy and requests or arms transmission. -/
  | transmitRequest (who : Who) (k b : Nat)
  /-- CAN_MODE_OFF (R311): A MODE write of OFF takes the controller off the bus, unless refused under R322. -/
  | canModeOff (who : Who) (k : Nat)
  /-- CAN_MODE_NORMAL (R311): A MODE write of NORMAL checks the configuration and integrates the controller onto the bus. -/
  | canModeNormal (who : Who) (k : Nat)
  /-- CAN_MODE_LISTEN (R311): A MODE write of LISTEN integrates the controller for reception only. -/
  | canModeListen (who : Who) (k : Nat)
  /-- CAN_MODE_SLEEP (R325): A MODE write of SLEEP puts the transceiver in low power at the next basic-cycle boundary. -/
  | canModeSleep (who : Who) (k : Nat)
  /-- INTEGRATION_COMPLETE (R311): After 11 recessive bits the controller joins the bus and the schedule starts at the next basic cycle. -/
  | integrationComplete (k : Nat)
  /-- BUS_OFF (R324): Entry into bus-off stops all transmission, counts it and starts or awaits recovery. -/
  | busOff (k c : Nat)
  /-- ERROR_PASSIVE (R324): Entry into error-passive sets EPEVT and raises an event. -/
  | errorPassive (k c tec rec : Nat)
  /-- BOREC (R324): BOREC starts bus-off recovery. -/
  | borec (who : Who) (k : Nat)
  /-- BUS_OFF_RECOVERY_END (R324): After 128 sequences of 11 recessive bits the controller leaves bus-off and integrates. -/
  | busOffRecoveryEnd (k : Nat)
  /-- CAN_WAKE (R325): A dominant phase or matching wake-up frame wakes a sleeping transceiver and sets WAKE. -/
  | canWake (k c : Nat) (dominant errors : Bool) (f : CanFrame)
  /-- FORCED_MARK (R334): With AUTO, TMO·16 frames without a trigger mark places a FORCED mark. -/
  | forcedMark (t : Nat)
  /-- INGOT_ARRIVAL (R339): HX checks an arriving ingot, writes it to the history and queues it for the node slot. -/
  | ingotArrival
  /-- STREAM_ACTIVATION (R344): At frame A the streams in force end and the new configuration's streams start with START marks. -/
  | streamActivation
  /-- STM_STATUS (R345): STM_STATUS returns the stream status. -/
  | stmStatus (src seq : Nat) (payload : List Byte)
  /-- STM_SUBSCRIBE (R345): STM_SUBSCRIBE subscribes a source to stream notices or ends the subscription. -/
  | stmSubscribe (src seq : Nat) (payload : List Byte)
  /-- STM_LOAD (R344): STM_LOAD judges a stream configuration and schedules its activation frame. -/
  | stmLoad (src seq : Nat) (payload : List Byte)
  /-- STM_STOP (R344): STM_STOP ends the named streams at the end of latch. -/
  | stmStop (src seq : Nat) (payload : List Byte)
  /-- STM_FETCH (R340): STM_FETCH returns ingots from the history by SEQ. -/
  | stmFetch (src seq : Nat) (payload : List Byte)
  /-- AQ_CLRCNT (R346): AQ_CTL.CLRCNT sets the stream, trigger and queue-peak counters to 0. -/
  | aqClrcnt (who : Who) (v : Word)
  /-- EVT_MESSAGE (R349): An EVT message carrying field events and ledger increments is written to the log and ledger. -/
  | evtMessage
  /-- EVENT_RECORD (R350): An event is written as a record, counted as a repeat, rate-limited or lost when the log is full. -/
  | eventRecord (code src arg0 arg1 frame sub : Nat)
  /-- EV_STATUS (R363): EV_STATUS returns the log counts and flags. -/
  | evStatus (src seq : Nat) (payload : List Byte)
  /-- EV_READ (R363): EV_READ returns log records. -/
  | evRead (src seq : Nat) (payload : List Byte)
  /-- EV_CLEAR (R354): EV_CLEAR with the expected count empties the log and writes a log-cleared record. -/
  | evClear (src seq : Nat) (payload : List Byte)
  /-- LG_STATUS (R363): LG_STATUS returns the ledger status, calendar, inspection date and mirror. -/
  | lgStatus (src seq : Nat) (payload : List Byte)
  /-- LG_READ (R363): LG_READ returns life counters. -/
  | lgRead (src seq : Nat) (payload : List Byte)
  /-- CAL_SET (R360): CAL_SET steps the calendar and makes it valid. -/
  | calSet (src seq : Nat) (payload : List Byte)
  /-- INSP_SET (R361): INSP_SET sets or removes the next-inspection date. -/
  | inspSet (src seq : Nat) (payload : List Byte)
  /-- CALENDAR_SECOND (R361): Each calendar second the inspection date is evaluated for DUE and OVERDUE and time counters advance. -/
  | calendarSecond
  /-- LEDGER_MIRROR_WRITE (R358): Every 600 s, on shutdown or after CAL_SET or INSP_SET, HX writes the ledger mirror to the Key. -/
  | ledgerMirrorWrite (ok : Bool)
  /-- CELL_LOW (R362): The ledger cell falling below 2.6 V sets CELLLOW. -/
  | cellLow
  /-- BEACON (R369): A valid beacon is time-stamped, updates delays, system time, joining and wrap state. -/
  | beacon (a b : List Byte) (ta tb : Nat)
  /-- DOWNLINK_SLOT (R371): The host downlink slot delivers ACK bits and request packets, fixing the module's node slot content. -/
  | downlinkSlot (a b : List Byte)
  /-- NODE_SLOT_PASS (R372): The module writes its node slot with an ingot, group record and fragment, and reads other nodes' group records. -/
  | nodeSlotPass (k ring : Nat) (second : Bool) (bytes : List Byte)
  /-- PORT_DOWN (R377): An input port losing lock or beacons goes down and the module wraps. -/
  | portDown (x : Nat) (lock : Bool)
  /-- PORT_UP (R377): An input port with 400 good cycles comes up again. -/
  | portUp (x : Nat)
  /-- REQUEST_PACKET (R380): A received request is checked in the order of R380 and executed, refused, ignored or answered from the cache. -/
  | requestPacket (j : Nat) (a b : List Byte)
  /-- SESSION_TIMEOUT (R387): A session with no packet for SESSTMO seconds ends. -/
  | sessionTimeout
  /-- NOP (R386): NOP returns its payload unchanged. -/
  | nop (src seq : Nat) (payload : List Byte)
  /-- IDENT (R386): IDENT returns the module identity, state, counters and the source's role. -/
  | ident (src seq : Nat) (payload : List Byte)
  /-- SESSION_OPEN (R387): SESSION_OPEN grants a role for a matching key, or refuses it with KEY, LOCKOUT or BUSY. -/
  | sessionOpen (src seq : Nat) (payload : List Byte)
  /-- SESSION_CLOSE (R387): SESSION_CLOSE ends the source's session. -/
  | sessionClose (src seq : Nat) (payload : List Byte)
  /-- MARK (R386): MARK acts as a write of an operator mark to DEV_CTL. -/
  | markOp (src seq : Nat) (payload : List Byte)
  /-- LINK_STATUS (R386): LINK_STATUS returns the Link status registers. -/
  | linkStatus (src seq : Nat) (payload : List Byte)
  /-- ROLE_KEY_SET (R387): ROLE_KEY_SET sets or removes a role key and writes it to the Key. -/
  | roleKeySet (src seq : Nat) (payload : List Byte)
  /-- REG_READ (R388): REG_READ returns the values of listed registers read in one frame. -/
  | regRead (src seq : Nat) (payload : List Byte)
  /-- REG_READ_RANGE (R388): REG_READ_RANGE returns the values of consecutive registers. -/
  | regReadRange (src seq : Nat) (payload : List Byte)
  /-- REG_WRITE (R389): REG_WRITE applies register writes in one frame, as a batch when parameter cells are written. -/
  | regWrite (src seq : Nat) (payload : List Byte)
  /-- UPD_STATUS (R413): UPD_STATUS returns the update status registers. -/
  | updStatus (src seq : Nat) (payload : List Byte)
  /-- UPD_BEGIN (R398): UPD_BEGIN discards any staged bundle, erases staging flash and sets RECEIVING. -/
  | updBegin (src seq : Nat) (payload : List Byte)
  /-- UPD_PUT (R398): UPD_PUT checks and stores one block of the bundle. -/
  | updPut (src seq : Nat) (payload : List Byte)
  /-- UPD_VERIFY (R398): UPD_VERIFY starts the ordered checks of the staged bundle. -/
  | updVerify (src seq : Nat) (payload : List Byte)
  /-- VERIFY_COMPLETE (R398): Verification ends with the bundle STAGED or refused with its error code. -/
  | verifyComplete
  /-- UPD_LOAD (R399): UPD_LOAD starts writing the staged bundle to the inactive slot, shadow banks and frame memory. -/
  | updLoad (src seq : Nat) (payload : List Byte)
  /-- LOAD_COMPLETE (R399): Loading ends with the state LOADED, or STAGED on failure. -/
  | loadComplete (bad : List Nat) (flashOk : Bool)
  /-- UPD_ARM (R401): UPD_ARM names the activation frame F and arms the update. -/
  | updArm (src seq : Nat) (payload : List Byte)
  /-- UPD_DISARM (R403): UPD_DISARM abandons an armed activation before F. -/
  | updDisarm (src seq : Nat) (payload : List Byte)
  /-- UPD_CANCEL (R413): UPD_CANCEL discards a RECEIVING, STAGED or LOADED bundle. -/
  | updCancel (src seq : Nat) (payload : List Byte)
  /-- UPD_ROLLBACK (R411): UPD_ROLLBACK activates the inactive slot at a named frame. -/
  | updRollback (src seq : Nat) (payload : List Byte)
  /-- UPD_READ (R413): UPD_READ returns bytes of the staged bundle. -/
  | updRead (src seq : Nat) (payload : List Byte)
  /-- UPD_KEY_SET (R397): UPD_KEY_SET sets the installation signing key on the Key. -/
  | updKeySet (src seq : Nat) (payload : List Byte)
  /-- READINESS_CHECK (R403): At the commit point of F−16 the required engines must all be ready, or the activation is abandoned. -/
  | readinessCheck
  /-- ACTIVATION_GO (R403): At the commit point of F−1 the activation goes if readiness holds, otherwise it is abandoned. -/
  | activationGo
  /-- ACTIVATION (R404): At the tick of F every engine changes to its new firmware, configuration and frame length. -/
  | activation
  /-- HX_BANK_CHANGE (R407): HX changes to its new bank at the first TDMA cycle after GO arrives. -/
  | hxBankChange
  /-- UPDATE_COMPLETION (R408): After GO the new configuration, safety set and boot record are written and the state returns to IDLE. -/
  | updateCompletion (p : StartIn)
  /-- SLOT_PROVEN (R410): A TRIAL slot running 86,400 s without faults, or reaching RUNNING at power-up, becomes PROVEN. -/
  | slotProven
  /-- IN_PLACE_RELEASE (R400): After rewriting an engine's bank in place, the loader releases the standing-in spare at frame G′. -/
  | inPlaceRelease (e : Nat)
  /-- LF_POWER_UP (R417): LF at 18.0 V for 10 ms starts the field domain through RESET, KEY_READ, BOOT and FIELD_START. -/
  | lfPowerUp (p : StartIn)
  /-- RUNNING_TIMEOUT (R423): RUNNING not reached within 30 s raises an event and fails a TRIAL slot. -/
  | runningTimeout (p : StartIn)
  /-- HV_POWER_UP (R424): HV at 20.0 V for 10 ms starts the host domain, which boots, checks the log and joins. -/
  | hvPowerUp (cellLost : Bool)
  /-- ENGINE_RESTART_COMPLETE (R425): An engine's warm restart completes with a self-test, making it available or retiring it. -/
  | engineRestartComplete (e : Nat) (ok : Bool)
  /-- POWER_FAIL (R428): LF below 16.5 V for 20 µs or a supply fault enters POWER_FAIL, turning outputs off and ending the frame. -/
  | powerFail (c cause lf : Nat)
  /-- JOURNAL_WRITE_COMPLETE (R429): The power-fail journal record with pending increments and events is written to the Key. -/
  | journalWriteComplete
  /-- POWER_RECOVERY (R430): LF at 18.0 V for 100 ms after POWER_FAIL enters RESET for a full power-up. -/
  | powerRecovery
  /-- SHUT (R432): PWR_CTL.SHUT writes the ledger mirror and a journal and sets SHUTOK when all is at rest. -/
  | shut (who : Who) (v : Word)
  /-- CLRMIN (R435): PWR_CTL.CLRMIN sets LFMIN to 0xFFFF. -/
  | clrmin (who : Who) (v : Word)
  /-- HOST_POWER_LOSS (R431): Loss of HV stops the host domain after it finishes any log record in progress, while the field domain runs on. -/
  | hostPowerLoss
  /-- MIRROR_WRITE_TIMEOUT (R358): A ledger mirror write that fails or is not confirmed within 1 s sets MIRRERR, raises code 0x0007 and waits for the next 600 s. -/
  | mirrorWriteTimeout
  /-- TEST_PULSE_SOURCE_SHUTOFF (R459): A test-pulse source that stays in current limit for 100 ms switches itself off, so that its pulses then fail under R221. -/
  | testPulseSourceShutoff (k : Nat)
  /-- ENGINE_CORE_FAULT (R299): A loop engine or motion generator that fails its core self-test in service is stopped and a free spare is grafted in its place. -/
  | engineCoreFault (e : Nat)
deriving DecidableEq, Repr

end Sys2Proof
end

