-- ==== Sys2Proof/Config.lean ====
section
/-! DEFINITION. What the spec fixes for no reader: free values (constants without a body, so no proof can use a
number) and the functions of published standards that the module carries and the spec only names. -/

namespace Sys2Proof.Config

/-- The k-th free value: a value the spec leaves open, drawn by the counter `free` of the state (assumption 2).
It is reduced to the width of the place it is stored in. -/
opaque freeValue : Nat → Nat

/-- Ed25519 verification (R397): public key, message, signature. The spec names the standard; its curve
arithmetic is not modelled, so the answer is open (assumption 3). -/
opaque ed25519Verify : List Byte → List Byte → List Byte → Bool

/-- How far the module's sine of an angle lies from the exact sine, in units of 2^-28 before the bound of the
spec is applied (assumption 4). -/
opaque sineDeviation : Nat → Int

/-- How a slice's corrections round: gain (0.01 %), offset and uncorrected code. R102 applies them digitally and states neither
their order nor their rounding (assumption 5). -/
opaque correctionRound : Int → Int → Int → Int

/-- The effective limit where the governor's cap comes out as 0 (R156, R175; assumption 8), less one unit of 2^-16. -/
opaque freeCap : Nat → Nat

/-- The event code of an operator mark in the event log: no rule names it (R27, R348; assumption 9). -/
opaque operatorMarkCode : Nat

/-- Argument k (0 or 1) of an event whose code R348 gives no such argument (assumption 9). -/
opaque eventArg : Nat → Nat → Nat

/-- The cells that an EVT message of so many records and increments takes beyond the first: its layout is not given
(R19; assumption 10). -/
opaque evtCells : Nat → Nat → Nat

/-- The fixed cost of the frame-bound duty of an AP in cycles: the spec gives no figure (R38; assumption 12). -/
opaque apBudget : Nat

/-- That cost as `FRM_BUD` shows it and W is held against it: R33 admits every frame length from 5,000 cycles on, so it lies within the
window of the shortest frame, 3,400 cycles (assumption 12). -/
def apCost : Nat := min apBudget 3400

/-- The public Ed25519 release keys 0 to 3, fixed at manufacture: the spec does not print them (R397; assumption 3). -/
opaque releaseKey : Nat → List Byte

/-- The terminal of machine i's contactor (0) or brake (1) feedback where the machine is an escalator: R207 has ESC_RUN use
them, and no parameter or table of the spec names them (assumption 42). -/
opaque escTerminal : Nat → Nat → Nat

/-- KT, KS, FULL and DECLT (0 to 3) of the assignment that an ungrouped module runs over its own cars: R211 has it run, and
only the group table holds these values (assumption 43). -/
opaque ungrouped : Nat → Nat

/-- What a scan state map names: kind (0 variable, 1 block instance), old index, new index. Its layout is not given (R406;
assumption 13). -/
opaque stateMap : List Byte → List (Nat × Nat × Nat)

end Sys2Proof.Config
end

