-- ==== Sys2Proof/Machine/Arith.lean ====
section
/-! DEFINITION. Bit fields, signed numbers, rounding, byte order and list access: the arithmetic every chapter uses. -/

namespace Sys2Proof.Machine

open Sys2Proof

/-- Bits [hi:lo] of a word, as a number. -/
def getBits (w : Word) (hi lo : Nat) : Nat := (w.toNat >>> lo) % 2 ^ (hi + 1 - lo)

/-- The word with bits [hi:lo] replaced by `v` (its low bits). -/
def setBits (w : Word) (hi lo v : Nat) : Word :=
  Word.of (w.toNat - getBits w hi lo * 2 ^ lo + (v % 2 ^ (hi + 1 - lo)) * 2 ^ lo)

/-- Bit i of a number. -/
def bit (n i : Nat) : Bool := (n >>> i) % 2 == 1

/-- 1 for true, 0 for false. -/
def b2n (b : Bool) : Nat := if b then 1 else 0

/-- The number with bit i set to b. -/
def setBit (n i : Nat) (b : Bool) : Nat :=
  if bit n i then (if b then n else n - 2 ^ i) else (if b then n + 2 ^ i else n)

/-- The two's-complement value of the low `w` bits of `n` (R3). -/
def sgn (w n : Nat) : Int :=
  let k := n % 2 ^ w
  if k < 2 ^ (w - 1) then (k : Int) else (k : Int) - (2 ^ w : Nat)

/-- The low `w` bits of an integer, two's complement (R3). -/
def wrap (w : Nat) (x : Int) : Nat := (x % ((2 ^ w : Nat) : Int)).toNat

/-- Clamp to a range. -/
def clampI (lo hi x : Int) : Int := if x < lo then lo else if hi < x then hi else x

/-- Saturate to a signed width (R3). -/
def satS (w : Nat) (x : Int) : Int := clampI (-((2 ^ (w - 1) : Nat) : Int)) (((2 ^ (w - 1) : Nat) : Int) - 1) x

/-- A saturating counter (R446): holds its largest value. -/
def satInc (max v : Nat) : Nat := if v < max then v + 1 else max

/-- Saturating addition of a count. -/
def satAdd (max v k : Nat) : Nat := min max (v + k)

/-- Exact quotient rounded to nearest, halves away from zero (rnd of R132). A zero divisor gives 0. -/
def rndDiv (n d : Int) : Int :=
  if d = 0 then 0
  else
    let q : Int := ((2 * n.natAbs + d.natAbs) / (2 * d.natAbs) : Nat)
    if (n < 0) = (d < 0) then q else -q

/-- rnd(x, k) of R132: x / 2^k to nearest, halves away from zero. -/
def rnd (x : Int) (k : Nat) : Int := rndDiv x ((2 ^ k : Nat) : Int)

/-- Quotient truncated towards zero. -/
def tdivI (n d : Int) : Int := if d = 0 then 0 else Int.tdiv n d

/-- Smallest integer not below n / d. -/
def ceilDiv (n d : Nat) : Nat := if d = 0 then 0 else (n + d - 1) / d

/-- Integer square root: the largest r with r·r ≤ n, found bit by bit. -/
def isqrtFrom (n : Nat) : Nat → Nat → Nat
  | 0, r => r
  | k + 1, r => isqrtFrom n k (if (r + 2 ^ k) * (r + 2 ^ k) ≤ n then r + 2 ^ k else r)

/-- The integer square root of a number below 2^256. -/
def isqrt (n : Nat) : Nat := isqrtFrom n 128 0

/-- `k` bytes of a number, least significant first (R4). -/
def leBytes : Nat → Nat → List Byte
  | 0, _ => []
  | k + 1, v => Byte.of (v % 256) :: leBytes k (v / 256)

/-- The number whose bytes, least significant first, are given (R4). -/
def leVal : List Byte → Nat
  | [] => 0
  | b :: bs => b.toNat + 256 * leVal bs

/-- `n` bytes from offset `o`; bytes past the end read 0. -/
def sliceB : List Byte → Nat → Nat → List Byte
  | bs, o, n => ((bs.drop o).take n) ++ List.replicate (n - ((bs.drop o).take n).length) 0

/-- The little-endian number of `n` bytes at offset `o`. -/
def fieldAt (bs : List Byte) (o n : Nat) : Nat := leVal (sliceB bs o n)

/-- Element i of a list, or d. -/
def nth {α : Type} (l : List α) (i : Nat) (d : α) : α := l.getD i d

/-- A list of `n` like things with element i replaced; a missing element before it is the default `d`. -/
def setNth {α : Type} (d : α) : Nat → List α → Nat → α → List α
  | 0, l, _, _ => l
  | _ + 1, [], 0, x => [x]
  | _ + 1, _ :: l, 0, x => x :: l
  | n + 1, [], i + 1, x => d :: setNth d n [] i x
  | n + 1, y :: l, i + 1, x => y :: setNth d n l i x

/-- The list with element i replaced. -/
def updAt {α : Type} : List α → Nat → α → List α
  | [], _, _ => []
  | _ :: l, 0, x => x :: l
  | y :: l, n + 1, x => y :: updAt l n x

/-- The list with element i changed by f. -/
def modAt {α : Type} : List α → Nat → (α → α) → List α
  | [], _, _ => []
  | y :: l, 0, f => f y :: l
  | y :: l, n + 1, f => y :: modAt l n f

/-- The numbers 0 to n − 1. -/
def upTo (n : Nat) : List Nat := List.range n

/-- Fold a list from the left into a state. -/
def each {α σ : Type} (l : List α) (s : σ) (f : σ → α → σ) : σ := l.foldl f s

/-- Bits of a number, lowest first, as a list of indices that are set, below `n`. -/
def setIdx (n v : Nat) : List Nat := (upTo n).filter (fun i => bit v i)

/-- Insert into a list sorted by `le`, after the elements it does not precede. -/
def insertBy {α : Type} (le : α → α → Bool) (x : α) : List α → List α
  | [] => [x]
  | y :: l => if le y x then y :: insertBy le x l else x :: y :: l

/-- The list sorted by `le`; equal elements keep their order. -/
def sortBy {α : Type} (le : α → α → Bool) (l : List α) : List α := l.foldl (fun a x => insertBy le x a) []

/-- A sparse map: keys rising, no entry equal to its default. `d k` is what an unlisted key reads as. -/
def smGet {β : Type} (d : Nat → β) : List (Nat × β) → Nat → β
  | [], k => d k
  | (k', v) :: l, k => if k' = k then v else smGet d l k

/-- The map without key k. -/
def smDel {β : Type} : List (Nat × β) → Nat → List (Nat × β)
  | [], _ => []
  | (k', v) :: l, k => if k' = k then smDel l k else (k', v) :: smDel l k

/-- Insert a pair into a list with rising keys (the key is not listed). -/
def smIns {β : Type} : List (Nat × β) → Nat → β → List (Nat × β)
  | [], k, x => [(k, x)]
  | (k', v) :: l, k, x => if k < k' then (k, x) :: (k', v) :: l else (k', v) :: smIns l k x

/-- Write a key: the canonical form is kept (writing the default removes the entry). -/
def smPut {β : Type} [DecidableEq β] (d : Nat → β) (l : List (Nat × β)) (k : Nat) (x : β) : List (Nat × β) :=
  if x = d k then smDel l k else smIns (smDel l k) k x

/-- The canonical form of a sparse map: keys strictly rising and no entry equal to its default. -/
def smWf {β : Type} [DecidableEq β] (d : Nat → β) : List (Nat × β) → Bool
  | [] => true
  | (k, v) :: l => (v != d k) && l.all (fun p => decide (k < p.1)) && smWf d l

end Sys2Proof.Machine
end

