-- ==== Sys2Proof/Machine/Crc.lean ====
section
/-! DEFINITION. The check values the spec names: CRC-32C over bytes (R18, R357, R419) and SHA-256 (FIPS 180-4,
R242, R394). -/

namespace Sys2Proof.Machine

open Sys2Proof

/-- One bit of the reflected CRC-32C (Castagnoli polynomial 0x1EDC6F41). -/
def crcBit (c : Nat) : Nat := (c / 2) ^^^ (c % 2 * 0x82F63B78)

/-- Eight bits of the CRC for one byte. -/
def crcByte (c : Nat) (b : Byte) : Nat :=
  crcBit (crcBit (crcBit (crcBit (crcBit (crcBit (crcBit (crcBit (c ^^^ b.toNat))))))))

/-- The CRC register after a byte sequence. It is taken apart at every byte so that evaluation goes byte by byte. -/
def crcFold : List Byte → Nat → Nat
  | [], c => c
  | b :: l, c =>
    match crcByte c b with
    | 0 => crcFold l 0
    | n + 1 => crcFold l (n + 1)

/-- CRC-32C of a byte sequence: initial value and final inversion all ones. -/
def crc32c (bs : List Byte) : Nat := (crcFold bs 0xFFFFFFFF ^^^ 0xFFFFFFFF) % 2 ^ 32

/-- The greatest `r` with `r ^ k ≤ n`, its bits below bit `b` found from the top down, on the bits already found. -/
def rootFrom (k n : Nat) : Nat → Nat → Nat
  | 0, r => r
  | b + 1, r => rootFrom k n b (if (r + 2 ^ b) ^ k ≤ n then r + 2 ^ b else r)

/-- The first 32 bits of the fractional part of the k-th root of p (FIPS 180-4, 4.2.2 and 5.3.3). -/
def rootWord (k p : Nat) : Nat := rootFrom k (p * 2 ^ (32 * k)) 36 0 % 2 ^ 32

/-- The first 64 primes: those below 312. -/
def primes64 : List Nat := (upTo 312).filter (fun n => decide (1 < n) && (upTo 18).all (fun d => d < 2 || n ≤ d || n % d != 0))

/-- The round constants of SHA-256: from the cube roots of the primes. -/
def shaK : List Nat := primes64.map (rootWord 3)

/-- The initial hash value of SHA-256: from the square roots of the first eight primes. -/
def shaH0 : List Word := (primes64.take 8).map (fun p => Word.of (rootWord 2 p))

/-- The big-endian word of four bytes. -/
def beWord (b : List Byte) : Word := Word.of (b.foldl (fun a x => a * 256 + x.toNat) 0)

/-- The bytes of a word, most significant first. -/
def beBytes (w : Word) : List Byte := (leBytes 4 w.toNat).reverse

/-- The message schedule, newest word first, extended by `n` words. -/
def shaSched : Nat → List Word → List Word
  | 0, l => l
  | n + 1, l =>
    let w2 := nth l 1 0
    let w15 := nth l 14 0
    let s0 := w15.rotateRight 7 ^^^ w15.rotateRight 18 ^^^ (w15 >>> 3)
    let s1 := w2.rotateRight 17 ^^^ w2.rotateRight 19 ^^^ (w2 >>> 10)
    shaSched n ((nth l 15 0 + s0 + nth l 6 0 + s1) :: l)

/-- One round on the eight working words. -/
def shaRound (s : List Word) (kw : Word × Nat) : List Word :=
  match s with
  | [a, b, c, d, e, f, g, h] =>
    let t1 := h + (e.rotateRight 6 ^^^ e.rotateRight 11 ^^^ e.rotateRight 25) + ((e &&& f) ^^^ ((~~~e) &&& g))
      + Word.of kw.2 + kw.1
    let t2 := (a.rotateRight 2 ^^^ a.rotateRight 13 ^^^ a.rotateRight 22) + ((a &&& b) ^^^ (a &&& c) ^^^ (b &&& c))
    [t1 + t2, a, b, c, d + t1, e, f, g]
  | s => s

/-- The 16 big-endian words of one 64-byte block. -/
def blockWords : Nat → List Byte → List Word
  | 0, _ => []
  | n + 1, b => beWord (b.take 4) :: blockWords n (b.drop 4)

/-- One block of the compression function. -/
def shaBlock (h : List Word) (block : List Byte) : List Word :=
  let ws := (shaSched 48 (blockWords 16 block).reverse).reverse
  List.zipWith (· + ·) h (List.foldl shaRound h (List.zip ws shaK))

/-- All blocks, `n` of them. -/
def shaBlocks : Nat → List Word → List Byte → List Word
  | 0, h, _ => h
  | n + 1, h, bs => shaBlocks n (shaBlock h (bs.take 64)) (bs.drop 64)

/-- SHA-256 of a byte sequence, 32 bytes. -/
def sha256 (bs : List Byte) : List Byte :=
  let n := bs.length
  let pad := (119 - n % 64) % 64
  let msg := bs ++ [0x80] ++ List.replicate pad 0 ++ (leBytes 8 (8 * n)).reverse
  (shaBlocks (msg.length / 64) shaH0 msg).flatMap beBytes

end Sys2Proof.Machine
end

