-- ==== Sys2Proof/Machine/RegTable.lean ====
section
/-! DEFINITION. The register tables of the spec's chapters 01 to 19, written out as data: every register of the
index map of R25 with its index, its instances and its fields (bits, access code of R5, reset value). A reset
value the spec takes from the Key, a flash, the log, the ledger, the journal or the unit stands here as 0
(assumption 1); start-up replaces it. -/

namespace Sys2Proof.Machine

/-- The access codes of R5. -/
inductive Acc where
  | RW | RO | W1C | WO | SC | RWS
deriving DecidableEq, Repr

/-- The registers of the index map (R25). An instance index is given beside the name. -/
inductive R where
  | DEV_ID
  | DEV_SERIAL_LO
  | DEV_SERIAL_HI
  | DEV_FW
  | DEV_ADDR
  | DEV_CTL
  | DEV_STATE
  | DEV_ENG_RUN
  | DEV_ENG_FAULT
  | DEV_OWN_VIOL
  | DEV_BAR_STAT
  | DEV_BAR_ERR
  | DEV_ROLE_STAT
  | DEV_SCRATCH
  | FRM_CTL
  | FRM_STAT
  | FRM_LEN
  | FRM_CNT_LO
  | FRM_CNT_HI
  | FRM_SUB
  | FRM_LOCK_OFS
  | FRM_LOCK_ERR
  | FRM_SYST_LO
  | FRM_SYST_HI
  | FRM_OVR_CFG
  | FRM_BUD
  | FRM_USE
  | FRM_PEAK
  | FRM_OVR
  | MEM_ARB_CFG
  | MEM_STAT
  | MEM_ECC_CFG
  | MEM_CLR
  | MEM_BANK_STAT
  | MEM_ERR_ADDR
  | MEM_SCRUB
  | MEM_ARB_PEAK
  | MEM_REV_CNT
  | MEM_BOUND
  | MEM_MPU_SEL
  | MEM_MPU_VIOL
  | MEM_MPU_VADDR
  | MEM_MPU_BASE
  | MEM_MPU_LIM
  | MEM_DMA_CTL
  | MEM_DMA_DESC
  | MEM_DMA_STAT
  | MEM_DMA_ERR
  | TRM_CTL
  | TRM_STAT
  | TRM_CHK_CFG
  | TRM_IN
  | TRM_RAW
  | TRM_OUT
  | TRM_DRV
  | TRM_FSUM
  | TRM_GRP_CFG
  | TRM_GRP_STAT
  | TRM_CFG
  | TRM_TSTAT
  | TRM_VOLT
  | ADC_CTL
  | ADC_STAT
  | ADC_REF_CFG
  | ADC_REF_STAT
  | ADC_ANNEAL_CFG
  | ADC_ANNEAL_STAT
  | ADC_ROLE_CFG
  | ADC_MASK_LO
  | ADC_MASK_HI
  | ADC_ROLE_TRG
  | ADC_ROLE_STAT
  | ADC_SLICE_STAT
  | ADC_CH_CFG
  | ADC_RES
  | ADC_TC_LIM
  | ADC_EP_CFG
  | ADC_EP_SSI
  | ADC_EP_POS
  | ADC_EP_IDX
  | ADC_EP_EDGE
  | ADC_EP_STAT
  | PWM_CTL
  | PWM_STAT
  | PWM_ANNEAL_CFG
  | PWM_ANNEAL_STAT
  | PWM_GRP_CFG
  | PWM_GRP_TIME
  | PWM_GRP_PHASE
  | PWM_GRP_TOP
  | PWM_GRP_CTL
  | PWM_GRP_STAT
  | PWM_GRP_ACT
  | PWM_GRP_CNT
  | PWM_CMP
  | PWM_CMP_ACT
  | PWM_DL_STAT
  | LP_CFG
  | LP_SRC0
  | LP_SRC1
  | LP_SRC2
  | LP_KR
  | LP_KX
  | LP_KF
  | LP_HI
  | LP_LO
  | LP_PAGE
  | LP_STATE
  | LP_VEC
  | LP_CTL
  | LP_STAT
  | LP_Y
  | LP_E
  | MG_CFG
  | MG_FB
  | MG_CTL
  | MG_STAT
  | MG_TGT_LO
  | MG_TGT_HI
  | MG_VMAX_LO
  | MG_VMAX_HI
  | MG_AMAX_LO
  | MG_AMAX_HI
  | MG_JMAX_LO
  | MG_JMAX_HI
  | MG_AQS_LO
  | MG_AQS_HI
  | MG_JQS_LO
  | MG_JQS_HI
  | MG_SMIN_LO
  | MG_SMIN_HI
  | MG_SMAX_LO
  | MG_SMAX_HI
  | MG_POS_LO
  | MG_POS_HI
  | MG_VEL_LO
  | MG_VEL_HI
  | MG_ACC_LO
  | MG_ACC_HI
  | MG_JRK_LO
  | MG_JRK_HI
  | MG_STOP_LO
  | MG_STOP_HI
  | MG_QPOS_LO
  | MG_QPOS_HI
  | MG_QRES
  | MG_FERRLIM
  | MG_FBPOS_LO
  | MG_FBPOS_HI
  | MG_REFPOS_LO
  | MG_REFPOS_HI
  | MG_CAPPOS_LO
  | MG_CAPPOS_HI
  | MG_FBK
  | MG_ILIM
  | MG_GOV
  | MG_MASS
  | MG_MPC
  | MG_GOVSTAT
  | MG_STEP_CFG
  | MG_STEP_CELL
  | MG_STEP_VDC
  | MG_STEP_KP
  | MG_STEP_KI
  | MG_STEP_RS
  | MG_STEP_LS
  | MG_STEP_KE
  | MG_STEP_I
  | MG_STEP_LD
  | MG_STALL
  | MG_REFCFG
  | MG_STEP_STAT
  | MG_STATE
  | SF_CTL
  | SF_STAT
  | SF_ASSAY
  | SF_CLK
  | SF_DEG_CFG
  | SF_TP_CFG
  | SF_SI_STATE
  | SF_SI_FAULT
  | SF_PERMIT
  | SF_DEGRADED
  | SF_FAILED
  | SF_SI_CFG
  | SF_SO_CFG
  | SF_SO_STAT
  | SF_MON_CFG
  | SF_MON_K
  | SF_MON_TOL
  | SF_MON_SPD
  | SF_MON_POS
  | SF_MON_DIFF
  | SF_MON_STAT
  | SF_FN_CFG
  | SF_TERM_A
  | SF_TERM_B
  | SF_FN_DEG
  | SF_FN_STAT
  | DX_CFG
  | DX_STAT
  | DX_SIDE
  | DX_SYNC
  | DX_TBWAIT
  | DX_LASTFO_LO
  | DX_LASTFO_HI
  | SPR_STAT
  | SPR_WEAR_CFG
  | SPR_FLASH_CFG
  | SPR_LOG
  | SPR_PART
  | PWR_CTL
  | PWR_STAT
  | PWR_CFG
  | PWR_LF
  | PWR_HOST
  | PWR_CAUSE
  | PWR_JFRAME_LO
  | PWR_JFRAME_HI
  | PWR_ERST
  | CB_CTL
  | CB_STAT
  | CB_ERR
  | CB_NBT
  | CB_DBT
  | CB_TT_CFG
  | CB_TT_STAT
  | CB_CNT
  | CB_MCNT
  | CB_WAKE_ID
  | CB_WAKE_IDM
  | CB_WAKE_DLC
  | CB_WAKE_D0
  | CB_WAKE_D1
  | CB_NEWDAT
  | CB_COL
  | CB_BUF_CFG
  | CB_BUF_ID
  | CB_BUF_STAT
  | CB_DATA
  | AQ_CTL
  | AQ_STAT
  | AQ_SEQ
  | AQ_QUEUE
  | AQ_WIN
  | AQ_STM_STAT
  | AQ_TRG_STAT
  | AQ_STM_CFG
  | AQ_SRC
  | AQ_SRCPH
  | AQ_TRG_CFG
  | AQ_TRG_LVL
  | AQ_TRG_HYS
  | AQ_TRG_TIM
  | EV_CFG
  | EV_STAT
  | EV_LOST
  | EV_LOSTP
  | EV_CURSOR
  | EV_WIN
  | LG_STAT
  | LG_CAL_LO
  | LG_CAL_HI
  | LG_INSP_LO
  | LG_INSP_HI
  | LG_CFG
  | LG_MIRROR
  | LG_WEAR
  | LG_CNT_LO
  | LG_CNT_HI
  | ZL_CFG
  | ZL_STAT
  | ZL_TIMING
  | ZL_CYCLE
  | ZL_SYST_LO
  | ZL_SYST_HI
  | ZL_DLY
  | ZL_PORT
  | ZL_DN
  | ZL_UP
  | ZL_CACHE
  | ZL_SESS
  | UPD_STAT
  | UPD_MANID
  | UPD_VER
  | UPD_FRAME_LO
  | UPD_FRAME_HI
  | UPD_REQ
  | UPD_READY
  | UPD_SHADOW
  | UPD_PROG
  | UPD_ERR
  | UPD_BOOT
  | UPD_LASTF_LO
  | UPD_LASTF_HI
  | PRM_CELL
deriving DecidableEq, Repr

/-- The index of instance 0 of a register (R25). -/
def R.base : R → Nat
  | .DEV_ID => 0x0000
  | .DEV_SERIAL_LO => 0x0001
  | .DEV_SERIAL_HI => 0x0002
  | .DEV_FW => 0x0003
  | .DEV_ADDR => 0x0004
  | .DEV_CTL => 0x0010
  | .DEV_STATE => 0x0011
  | .DEV_ENG_RUN => 0x0012
  | .DEV_ENG_FAULT => 0x0013
  | .DEV_OWN_VIOL => 0x0014
  | .DEV_BAR_STAT => 0x0020
  | .DEV_BAR_ERR => 0x0021
  | .DEV_ROLE_STAT => 0x0030
  | .DEV_SCRATCH => 0x00FF
  | .FRM_CTL => 0x0100
  | .FRM_STAT => 0x0101
  | .FRM_LEN => 0x0102
  | .FRM_CNT_LO => 0x0103
  | .FRM_CNT_HI => 0x0104
  | .FRM_SUB => 0x0105
  | .FRM_LOCK_OFS => 0x0106
  | .FRM_LOCK_ERR => 0x0107
  | .FRM_SYST_LO => 0x0108
  | .FRM_SYST_HI => 0x0109
  | .FRM_OVR_CFG => 0x010A
  | .FRM_BUD => 0x0110
  | .FRM_USE => 0x0130
  | .FRM_PEAK => 0x0150
  | .FRM_OVR => 0x0170
  | .MEM_ARB_CFG => 0x0200
  | .MEM_STAT => 0x0201
  | .MEM_ECC_CFG => 0x0202
  | .MEM_CLR => 0x0203
  | .MEM_BANK_STAT => 0x0204
  | .MEM_ERR_ADDR => 0x0208
  | .MEM_SCRUB => 0x020C
  | .MEM_ARB_PEAK => 0x0210
  | .MEM_REV_CNT => 0x0214
  | .MEM_BOUND => 0x0218
  | .MEM_MPU_SEL => 0x0220
  | .MEM_MPU_VIOL => 0x0221
  | .MEM_MPU_VADDR => 0x0222
  | .MEM_MPU_BASE => 0x0240
  | .MEM_MPU_LIM => 0x0241
  | .MEM_DMA_CTL => 0x0300
  | .MEM_DMA_DESC => 0x0301
  | .MEM_DMA_STAT => 0x0302
  | .MEM_DMA_ERR => 0x0303
  | .TRM_CTL => 0x0400
  | .TRM_STAT => 0x0401
  | .TRM_CHK_CFG => 0x0402
  | .TRM_IN => 0x0404
  | .TRM_RAW => 0x0408
  | .TRM_OUT => 0x040C
  | .TRM_DRV => 0x0410
  | .TRM_FSUM => 0x0414
  | .TRM_GRP_CFG => 0x0420
  | .TRM_GRP_STAT => 0x0428
  | .TRM_CFG => 0x0500
  | .TRM_TSTAT => 0x0580
  | .TRM_VOLT => 0x0600
  | .ADC_CTL => 0x0800
  | .ADC_STAT => 0x0801
  | .ADC_REF_CFG => 0x0802
  | .ADC_REF_STAT => 0x0803
  | .ADC_ANNEAL_CFG => 0x0804
  | .ADC_ANNEAL_STAT => 0x0805
  | .ADC_ROLE_CFG => 0x0810
  | .ADC_MASK_LO => 0x0820
  | .ADC_MASK_HI => 0x0821
  | .ADC_ROLE_TRG => 0x0840
  | .ADC_ROLE_STAT => 0x0850
  | .ADC_SLICE_STAT => 0x0860
  | .ADC_CH_CFG => 0x0880
  | .ADC_RES => 0x08C0
  | .ADC_TC_LIM => 0x0900
  | .ADC_EP_CFG => 0x0A00
  | .ADC_EP_SSI => 0x0A01
  | .ADC_EP_POS => 0x0A02
  | .ADC_EP_IDX => 0x0A03
  | .ADC_EP_EDGE => 0x0A04
  | .ADC_EP_STAT => 0x0A05
  | .PWM_CTL => 0x0C00
  | .PWM_STAT => 0x0C01
  | .PWM_ANNEAL_CFG => 0x0C02
  | .PWM_ANNEAL_STAT => 0x0C03
  | .PWM_GRP_CFG => 0x0C40
  | .PWM_GRP_TIME => 0x0C41
  | .PWM_GRP_PHASE => 0x0C42
  | .PWM_GRP_TOP => 0x0C43
  | .PWM_GRP_CTL => 0x0C44
  | .PWM_GRP_STAT => 0x0C45
  | .PWM_GRP_ACT => 0x0C46
  | .PWM_GRP_CNT => 0x0C47
  | .PWM_CMP => 0x0C48
  | .PWM_CMP_ACT => 0x0C4C
  | .PWM_DL_STAT => 0x0D00
  | .LP_CFG => 0x1000
  | .LP_SRC0 => 0x1001
  | .LP_SRC1 => 0x1002
  | .LP_SRC2 => 0x1003
  | .LP_KR => 0x1004
  | .LP_KX => 0x1005
  | .LP_KF => 0x1006
  | .LP_HI => 0x1007
  | .LP_LO => 0x1008
  | .LP_PAGE => 0x1009
  | .LP_STATE => 0x100A
  | .LP_VEC => 0x100B
  | .LP_CTL => 0x100C
  | .LP_STAT => 0x100D
  | .LP_Y => 0x100E
  | .LP_E => 0x100F
  | .MG_CFG => 0x2000
  | .MG_FB => 0x2001
  | .MG_CTL => 0x2002
  | .MG_STAT => 0x2003
  | .MG_TGT_LO => 0x2004
  | .MG_TGT_HI => 0x2005
  | .MG_VMAX_LO => 0x2006
  | .MG_VMAX_HI => 0x2007
  | .MG_AMAX_LO => 0x2008
  | .MG_AMAX_HI => 0x2009
  | .MG_JMAX_LO => 0x200A
  | .MG_JMAX_HI => 0x200B
  | .MG_AQS_LO => 0x200C
  | .MG_AQS_HI => 0x200D
  | .MG_JQS_LO => 0x200E
  | .MG_JQS_HI => 0x200F
  | .MG_SMIN_LO => 0x2010
  | .MG_SMIN_HI => 0x2011
  | .MG_SMAX_LO => 0x2012
  | .MG_SMAX_HI => 0x2013
  | .MG_POS_LO => 0x2014
  | .MG_POS_HI => 0x2015
  | .MG_VEL_LO => 0x2016
  | .MG_VEL_HI => 0x2017
  | .MG_ACC_LO => 0x2018
  | .MG_ACC_HI => 0x2019
  | .MG_JRK_LO => 0x201A
  | .MG_JRK_HI => 0x201B
  | .MG_STOP_LO => 0x201C
  | .MG_STOP_HI => 0x201D
  | .MG_QPOS_LO => 0x201E
  | .MG_QPOS_HI => 0x201F
  | .MG_QRES => 0x2020
  | .MG_FERRLIM => 0x2021
  | .MG_FBPOS_LO => 0x2022
  | .MG_FBPOS_HI => 0x2023
  | .MG_REFPOS_LO => 0x2024
  | .MG_REFPOS_HI => 0x2025
  | .MG_CAPPOS_LO => 0x2026
  | .MG_CAPPOS_HI => 0x2027
  | .MG_FBK => 0x2028
  | .MG_ILIM => 0x2029
  | .MG_GOV => 0x202A
  | .MG_MASS => 0x202B
  | .MG_MPC => 0x202C
  | .MG_GOVSTAT => 0x202D
  | .MG_STEP_CFG => 0x202E
  | .MG_STEP_CELL => 0x202F
  | .MG_STEP_VDC => 0x2030
  | .MG_STEP_KP => 0x2031
  | .MG_STEP_KI => 0x2032
  | .MG_STEP_RS => 0x2033
  | .MG_STEP_LS => 0x2034
  | .MG_STEP_KE => 0x2035
  | .MG_STEP_I => 0x2036
  | .MG_STEP_LD => 0x2037
  | .MG_STALL => 0x2038
  | .MG_REFCFG => 0x2039
  | .MG_STEP_STAT => 0x203A
  | .MG_STATE => 0x203B
  | .SF_CTL => 0x2800
  | .SF_STAT => 0x2801
  | .SF_ASSAY => 0x2802
  | .SF_CLK => 0x2803
  | .SF_DEG_CFG => 0x2804
  | .SF_TP_CFG => 0x2805
  | .SF_SI_STATE => 0x2806
  | .SF_SI_FAULT => 0x2807
  | .SF_PERMIT => 0x2808
  | .SF_DEGRADED => 0x2809
  | .SF_FAILED => 0x280A
  | .SF_SI_CFG => 0x2810
  | .SF_SO_CFG => 0x2820
  | .SF_SO_STAT => 0x2828
  | .SF_MON_CFG => 0x2830
  | .SF_MON_K => 0x2831
  | .SF_MON_TOL => 0x2832
  | .SF_MON_SPD => 0x2850
  | .SF_MON_POS => 0x2851
  | .SF_MON_DIFF => 0x2852
  | .SF_MON_STAT => 0x2853
  | .SF_FN_CFG => 0x2900
  | .SF_TERM_A => 0x2901
  | .SF_TERM_B => 0x2902
  | .SF_FN_DEG => 0x2909
  | .SF_FN_STAT => 0x290A
  | .DX_CFG => 0x2C00
  | .DX_STAT => 0x2C01
  | .DX_SIDE => 0x2C02
  | .DX_SYNC => 0x2C04
  | .DX_TBWAIT => 0x2C05
  | .DX_LASTFO_LO => 0x2C06
  | .DX_LASTFO_HI => 0x2C07
  | .SPR_STAT => 0x2E00
  | .SPR_WEAR_CFG => 0x2E01
  | .SPR_FLASH_CFG => 0x2E02
  | .SPR_LOG => 0x2E03
  | .SPR_PART => 0x2E40
  | .PWR_CTL => 0x2F00
  | .PWR_STAT => 0x2F01
  | .PWR_CFG => 0x2F02
  | .PWR_LF => 0x2F03
  | .PWR_HOST => 0x2F04
  | .PWR_CAUSE => 0x2F05
  | .PWR_JFRAME_LO => 0x2F06
  | .PWR_JFRAME_HI => 0x2F07
  | .PWR_ERST => 0x2F10
  | .CB_CTL => 0x3000
  | .CB_STAT => 0x3001
  | .CB_ERR => 0x3002
  | .CB_NBT => 0x3003
  | .CB_DBT => 0x3004
  | .CB_TT_CFG => 0x3005
  | .CB_TT_STAT => 0x3006
  | .CB_CNT => 0x3007
  | .CB_MCNT => 0x3008
  | .CB_WAKE_ID => 0x3009
  | .CB_WAKE_IDM => 0x300A
  | .CB_WAKE_DLC => 0x300B
  | .CB_WAKE_D0 => 0x300C
  | .CB_WAKE_D1 => 0x300D
  | .CB_NEWDAT => 0x3010
  | .CB_COL => 0x3040
  | .CB_BUF_CFG => 0x3080
  | .CB_BUF_ID => 0x3100
  | .CB_BUF_STAT => 0x3180
  | .CB_DATA => 0x3200
  | .AQ_CTL => 0x4000
  | .AQ_STAT => 0x4001
  | .AQ_SEQ => 0x4002
  | .AQ_QUEUE => 0x4003
  | .AQ_WIN => 0x4004
  | .AQ_STM_STAT => 0x4008
  | .AQ_TRG_STAT => 0x4010
  | .AQ_STM_CFG => 0x4020
  | .AQ_SRC => 0x4100
  | .AQ_SRCPH => 0x4101
  | .AQ_TRG_CFG => 0x4300
  | .AQ_TRG_LVL => 0x4301
  | .AQ_TRG_HYS => 0x4302
  | .AQ_TRG_TIM => 0x4303
  | .EV_CFG => 0x4400
  | .EV_STAT => 0x4401
  | .EV_LOST => 0x4402
  | .EV_LOSTP => 0x4403
  | .EV_CURSOR => 0x4404
  | .EV_WIN => 0x4480
  | .LG_STAT => 0x4500
  | .LG_CAL_LO => 0x4501
  | .LG_CAL_HI => 0x4502
  | .LG_INSP_LO => 0x4503
  | .LG_INSP_HI => 0x4504
  | .LG_CFG => 0x4505
  | .LG_MIRROR => 0x4506
  | .LG_WEAR => 0x4580
  | .LG_CNT_LO => 0x4600
  | .LG_CNT_HI => 0x4601
  | .ZL_CFG => 0x4800
  | .ZL_STAT => 0x4801
  | .ZL_TIMING => 0x4802
  | .ZL_CYCLE => 0x4803
  | .ZL_SYST_LO => 0x4804
  | .ZL_SYST_HI => 0x4805
  | .ZL_DLY => 0x4806
  | .ZL_PORT => 0x4807
  | .ZL_DN => 0x4809
  | .ZL_UP => 0x480A
  | .ZL_CACHE => 0x480B
  | .ZL_SESS => 0x4810
  | .UPD_STAT => 0x4A00
  | .UPD_MANID => 0x4A01
  | .UPD_VER => 0x4A02
  | .UPD_FRAME_LO => 0x4A03
  | .UPD_FRAME_HI => 0x4A04
  | .UPD_REQ => 0x4A05
  | .UPD_READY => 0x4A06
  | .UPD_SHADOW => 0x4A07
  | .UPD_PROG => 0x4A08
  | .UPD_ERR => 0x4A09
  | .UPD_BOOT => 0x4A0A
  | .UPD_LASTF_LO => 0x4A0B
  | .UPD_LASTF_HI => 0x4A0C
  | .PRM_CELL => 0x8000

/-- Instances and strides of a register: outer count, outer stride, inner count, inner stride. -/
def R.dims : R → Nat × Nat × Nat × Nat
  | .DEV_BAR_ERR => (5, 1, 1, 1)
  | .FRM_BUD => (19, 1, 1, 1)
  | .FRM_USE => (19, 1, 1, 1)
  | .FRM_PEAK => (19, 1, 1, 1)
  | .FRM_OVR => (19, 1, 1, 1)
  | .MEM_BANK_STAT => (4, 1, 1, 1)
  | .MEM_ERR_ADDR => (4, 1, 1, 1)
  | .MEM_SCRUB => (4, 1, 1, 1)
  | .MEM_ARB_PEAK => (4, 1, 1, 1)
  | .MEM_REV_CNT => (4, 1, 1, 1)
  | .MEM_BOUND => (4, 1, 1, 1)
  | .MEM_MPU_BASE => (16, 2, 1, 1)
  | .MEM_MPU_LIM => (16, 2, 1, 1)
  | .MEM_DMA_CTL => (32, 4, 1, 1)
  | .MEM_DMA_DESC => (32, 4, 1, 1)
  | .MEM_DMA_STAT => (32, 4, 1, 1)
  | .MEM_DMA_ERR => (32, 4, 1, 1)
  | .TRM_IN => (3, 1, 1, 1)
  | .TRM_RAW => (3, 1, 1, 1)
  | .TRM_OUT => (3, 1, 1, 1)
  | .TRM_DRV => (3, 1, 1, 1)
  | .TRM_FSUM => (3, 1, 1, 1)
  | .TRM_GRP_CFG => (6, 1, 1, 1)
  | .TRM_GRP_STAT => (6, 1, 1, 1)
  | .TRM_CFG => (96, 1, 1, 1)
  | .TRM_TSTAT => (96, 1, 1, 1)
  | .TRM_VOLT => (96, 1, 1, 1)
  | .ADC_ROLE_CFG => (16, 1, 1, 1)
  | .ADC_MASK_LO => (16, 2, 1, 1)
  | .ADC_MASK_HI => (16, 2, 1, 1)
  | .ADC_ROLE_TRG => (16, 1, 1, 1)
  | .ADC_ROLE_STAT => (16, 1, 1, 1)
  | .ADC_SLICE_STAT => (17, 1, 1, 1)
  | .ADC_CH_CFG => (56, 1, 1, 1)
  | .ADC_RES => (56, 1, 1, 1)
  | .ADC_TC_LIM => (8, 1, 1, 1)
  | .ADC_EP_CFG => (8, 16, 1, 1)
  | .ADC_EP_SSI => (8, 16, 1, 1)
  | .ADC_EP_POS => (8, 16, 1, 1)
  | .ADC_EP_IDX => (8, 16, 1, 1)
  | .ADC_EP_EDGE => (8, 16, 1, 1)
  | .ADC_EP_STAT => (8, 16, 1, 1)
  | .PWM_GRP_CFG => (12, 16, 1, 1)
  | .PWM_GRP_TIME => (12, 16, 1, 1)
  | .PWM_GRP_PHASE => (12, 16, 1, 1)
  | .PWM_GRP_TOP => (12, 16, 1, 1)
  | .PWM_GRP_CTL => (12, 16, 1, 1)
  | .PWM_GRP_STAT => (12, 16, 1, 1)
  | .PWM_GRP_ACT => (12, 16, 1, 1)
  | .PWM_GRP_CNT => (12, 16, 1, 1)
  | .PWM_CMP => (12, 16, 4, 1)
  | .PWM_CMP_ACT => (12, 16, 4, 1)
  | .PWM_DL_STAT => (12, 16, 9, 1)
  | .LP_CFG => (256, 16, 1, 1)
  | .LP_SRC0 => (256, 16, 1, 1)
  | .LP_SRC1 => (256, 16, 1, 1)
  | .LP_SRC2 => (256, 16, 1, 1)
  | .LP_KR => (256, 16, 1, 1)
  | .LP_KX => (256, 16, 1, 1)
  | .LP_KF => (256, 16, 1, 1)
  | .LP_HI => (256, 16, 1, 1)
  | .LP_LO => (256, 16, 1, 1)
  | .LP_PAGE => (256, 16, 1, 1)
  | .LP_STATE => (256, 16, 1, 1)
  | .LP_VEC => (256, 16, 1, 1)
  | .LP_CTL => (256, 16, 1, 1)
  | .LP_STAT => (256, 16, 1, 1)
  | .LP_Y => (256, 16, 1, 1)
  | .LP_E => (256, 16, 1, 1)
  | .MG_CFG => (32, 64, 1, 1)
  | .MG_FB => (32, 64, 1, 1)
  | .MG_CTL => (32, 64, 1, 1)
  | .MG_STAT => (32, 64, 1, 1)
  | .MG_TGT_LO => (32, 64, 1, 1)
  | .MG_TGT_HI => (32, 64, 1, 1)
  | .MG_VMAX_LO => (32, 64, 1, 1)
  | .MG_VMAX_HI => (32, 64, 1, 1)
  | .MG_AMAX_LO => (32, 64, 1, 1)
  | .MG_AMAX_HI => (32, 64, 1, 1)
  | .MG_JMAX_LO => (32, 64, 1, 1)
  | .MG_JMAX_HI => (32, 64, 1, 1)
  | .MG_AQS_LO => (32, 64, 1, 1)
  | .MG_AQS_HI => (32, 64, 1, 1)
  | .MG_JQS_LO => (32, 64, 1, 1)
  | .MG_JQS_HI => (32, 64, 1, 1)
  | .MG_SMIN_LO => (32, 64, 1, 1)
  | .MG_SMIN_HI => (32, 64, 1, 1)
  | .MG_SMAX_LO => (32, 64, 1, 1)
  | .MG_SMAX_HI => (32, 64, 1, 1)
  | .MG_POS_LO => (32, 64, 1, 1)
  | .MG_POS_HI => (32, 64, 1, 1)
  | .MG_VEL_LO => (32, 64, 1, 1)
  | .MG_VEL_HI => (32, 64, 1, 1)
  | .MG_ACC_LO => (32, 64, 1, 1)
  | .MG_ACC_HI => (32, 64, 1, 1)
  | .MG_JRK_LO => (32, 64, 1, 1)
  | .MG_JRK_HI => (32, 64, 1, 1)
  | .MG_STOP_LO => (32, 64, 1, 1)
  | .MG_STOP_HI => (32, 64, 1, 1)
  | .MG_QPOS_LO => (32, 64, 1, 1)
  | .MG_QPOS_HI => (32, 64, 1, 1)
  | .MG_QRES => (32, 64, 1, 1)
  | .MG_FERRLIM => (32, 64, 1, 1)
  | .MG_FBPOS_LO => (32, 64, 1, 1)
  | .MG_FBPOS_HI => (32, 64, 1, 1)
  | .MG_REFPOS_LO => (32, 64, 1, 1)
  | .MG_REFPOS_HI => (32, 64, 1, 1)
  | .MG_CAPPOS_LO => (32, 64, 1, 1)
  | .MG_CAPPOS_HI => (32, 64, 1, 1)
  | .MG_FBK => (32, 64, 1, 1)
  | .MG_ILIM => (32, 64, 1, 1)
  | .MG_GOV => (32, 64, 1, 1)
  | .MG_MASS => (32, 64, 1, 1)
  | .MG_MPC => (32, 64, 1, 1)
  | .MG_GOVSTAT => (32, 64, 1, 1)
  | .MG_STEP_CFG => (32, 64, 1, 1)
  | .MG_STEP_CELL => (32, 64, 1, 1)
  | .MG_STEP_VDC => (32, 64, 1, 1)
  | .MG_STEP_KP => (32, 64, 1, 1)
  | .MG_STEP_KI => (32, 64, 1, 1)
  | .MG_STEP_RS => (32, 64, 1, 1)
  | .MG_STEP_LS => (32, 64, 1, 1)
  | .MG_STEP_KE => (32, 64, 1, 1)
  | .MG_STEP_I => (32, 64, 1, 1)
  | .MG_STEP_LD => (32, 64, 1, 1)
  | .MG_STALL => (32, 64, 1, 1)
  | .MG_REFCFG => (32, 64, 1, 1)
  | .MG_STEP_STAT => (32, 64, 1, 1)
  | .MG_STATE => (32, 64, 1, 1)
  | .SF_SI_CFG => (16, 1, 1, 1)
  | .SF_SO_CFG => (8, 1, 1, 1)
  | .SF_SO_STAT => (8, 1, 1, 1)
  | .SF_MON_CFG => (8, 4, 1, 1)
  | .SF_MON_K => (8, 4, 1, 1)
  | .SF_MON_TOL => (8, 4, 1, 1)
  | .SF_MON_SPD => (8, 4, 1, 1)
  | .SF_MON_POS => (8, 4, 1, 1)
  | .SF_MON_DIFF => (8, 4, 1, 1)
  | .SF_MON_STAT => (8, 4, 1, 1)
  | .SF_FN_CFG => (32, 16, 1, 1)
  | .SF_TERM_A => (32, 16, 4, 2)
  | .SF_TERM_B => (32, 16, 4, 2)
  | .SF_FN_DEG => (32, 16, 1, 1)
  | .SF_FN_STAT => (32, 16, 1, 1)
  | .DX_SIDE => (2, 1, 1, 1)
  | .SPR_PART => (36, 1, 1, 1)
  | .PWR_ERST => (19, 1, 1, 1)
  | .CB_CTL => (4, 1024, 1, 1)
  | .CB_STAT => (4, 1024, 1, 1)
  | .CB_ERR => (4, 1024, 1, 1)
  | .CB_NBT => (4, 1024, 1, 1)
  | .CB_DBT => (4, 1024, 1, 1)
  | .CB_TT_CFG => (4, 1024, 1, 1)
  | .CB_TT_STAT => (4, 1024, 1, 1)
  | .CB_CNT => (4, 1024, 1, 1)
  | .CB_MCNT => (4, 1024, 1, 1)
  | .CB_WAKE_ID => (4, 1024, 1, 1)
  | .CB_WAKE_IDM => (4, 1024, 1, 1)
  | .CB_WAKE_DLC => (4, 1024, 1, 1)
  | .CB_WAKE_D0 => (4, 1024, 1, 1)
  | .CB_WAKE_D1 => (4, 1024, 1, 1)
  | .CB_NEWDAT => (4, 1024, 4, 1)
  | .CB_COL => (4, 1024, 4, 1)
  | .CB_BUF_CFG => (4, 1024, 128, 1)
  | .CB_BUF_ID => (4, 1024, 128, 1)
  | .CB_BUF_STAT => (4, 1024, 128, 1)
  | .CB_DATA => (4, 1024, 512, 1)
  | .AQ_STM_STAT => (4, 1, 1, 1)
  | .AQ_TRG_STAT => (8, 1, 1, 1)
  | .AQ_STM_CFG => (4, 1, 1, 1)
  | .AQ_SRC => (4, 128, 64, 2)
  | .AQ_SRCPH => (4, 128, 64, 2)
  | .AQ_TRG_CFG => (8, 4, 1, 1)
  | .AQ_TRG_LVL => (8, 4, 1, 1)
  | .AQ_TRG_HYS => (8, 4, 1, 1)
  | .AQ_TRG_TIM => (8, 4, 1, 1)
  | .EV_WIN => (16, 8, 8, 1)
  | .LG_WEAR => (36, 1, 1, 1)
  | .LG_CNT_LO => (256, 2, 1, 1)
  | .LG_CNT_HI => (256, 2, 1, 1)
  | .ZL_PORT => (2, 1, 1, 1)
  | .ZL_SESS => (32, 1, 1, 1)
  | .PRM_CELL => (32768, 1, 1, 1)
  | _ => (1, 1, 1, 1)

/-- The DEV registers, in index order. -/
def R.part0 : List R :=
  [.DEV_ID, .DEV_SERIAL_LO, .DEV_SERIAL_HI, .DEV_FW, .DEV_ADDR, .DEV_CTL, .DEV_STATE, .DEV_ENG_RUN, .DEV_ENG_FAULT, .DEV_OWN_VIOL, .DEV_BAR_STAT, .DEV_BAR_ERR, .DEV_ROLE_STAT, .DEV_SCRATCH]

/-- The FRM registers, in index order. -/
def R.part1 : List R :=
  [.FRM_CTL, .FRM_STAT, .FRM_LEN, .FRM_CNT_LO, .FRM_CNT_HI, .FRM_SUB, .FRM_LOCK_OFS, .FRM_LOCK_ERR, .FRM_SYST_LO, .FRM_SYST_HI, .FRM_OVR_CFG, .FRM_BUD, .FRM_USE, .FRM_PEAK, .FRM_OVR]

/-- The MEM registers, in index order. -/
def R.part2 : List R :=
  [.MEM_ARB_CFG, .MEM_STAT, .MEM_ECC_CFG, .MEM_CLR, .MEM_BANK_STAT, .MEM_ERR_ADDR, .MEM_SCRUB, .MEM_ARB_PEAK, .MEM_REV_CNT, .MEM_BOUND, .MEM_MPU_SEL, .MEM_MPU_VIOL, .MEM_MPU_VADDR, .MEM_MPU_BASE, .MEM_MPU_LIM, .MEM_DMA_CTL, .MEM_DMA_DESC, .MEM_DMA_STAT, .MEM_DMA_ERR]

/-- The TRM registers, in index order. -/
def R.part3 : List R :=
  [.TRM_CTL, .TRM_STAT, .TRM_CHK_CFG, .TRM_IN, .TRM_RAW, .TRM_OUT, .TRM_DRV, .TRM_FSUM, .TRM_GRP_CFG, .TRM_GRP_STAT, .TRM_CFG, .TRM_TSTAT, .TRM_VOLT]

/-- The ADC registers, in index order. -/
def R.part4 : List R :=
  [.ADC_CTL, .ADC_STAT, .ADC_REF_CFG, .ADC_REF_STAT, .ADC_ANNEAL_CFG, .ADC_ANNEAL_STAT, .ADC_ROLE_CFG, .ADC_MASK_LO, .ADC_MASK_HI, .ADC_ROLE_TRG, .ADC_ROLE_STAT, .ADC_SLICE_STAT, .ADC_CH_CFG, .ADC_RES, .ADC_TC_LIM, .ADC_EP_CFG, .ADC_EP_SSI, .ADC_EP_POS, .ADC_EP_IDX, .ADC_EP_EDGE, .ADC_EP_STAT]

/-- The PWM registers, in index order. -/
def R.part5 : List R :=
  [.PWM_CTL, .PWM_STAT, .PWM_ANNEAL_CFG, .PWM_ANNEAL_STAT, .PWM_GRP_CFG, .PWM_GRP_TIME, .PWM_GRP_PHASE, .PWM_GRP_TOP, .PWM_GRP_CTL, .PWM_GRP_STAT, .PWM_GRP_ACT, .PWM_GRP_CNT, .PWM_CMP, .PWM_CMP_ACT, .PWM_DL_STAT]

/-- The LP registers, in index order. -/
def R.part6 : List R :=
  [.LP_CFG, .LP_SRC0, .LP_SRC1, .LP_SRC2, .LP_KR, .LP_KX, .LP_KF, .LP_HI, .LP_LO, .LP_PAGE, .LP_STATE, .LP_VEC, .LP_CTL, .LP_STAT, .LP_Y, .LP_E]

/-- The MG registers, in index order. -/
def R.part7 : List R :=
  [.MG_CFG, .MG_FB, .MG_CTL, .MG_STAT, .MG_TGT_LO, .MG_TGT_HI, .MG_VMAX_LO, .MG_VMAX_HI, .MG_AMAX_LO, .MG_AMAX_HI, .MG_JMAX_LO, .MG_JMAX_HI, .MG_AQS_LO, .MG_AQS_HI, .MG_JQS_LO, .MG_JQS_HI, .MG_SMIN_LO, .MG_SMIN_HI, .MG_SMAX_LO, .MG_SMAX_HI, .MG_POS_LO, .MG_POS_HI, .MG_VEL_LO, .MG_VEL_HI, .MG_ACC_LO, .MG_ACC_HI, .MG_JRK_LO, .MG_JRK_HI, .MG_STOP_LO, .MG_STOP_HI, .MG_QPOS_LO, .MG_QPOS_HI, .MG_QRES, .MG_FERRLIM, .MG_FBPOS_LO, .MG_FBPOS_HI, .MG_REFPOS_LO, .MG_REFPOS_HI, .MG_CAPPOS_LO, .MG_CAPPOS_HI, .MG_FBK, .MG_ILIM, .MG_GOV, .MG_MASS, .MG_MPC, .MG_GOVSTAT, .MG_STEP_CFG, .MG_STEP_CELL, .MG_STEP_VDC, .MG_STEP_KP, .MG_STEP_KI, .MG_STEP_RS, .MG_STEP_LS, .MG_STEP_KE, .MG_STEP_I, .MG_STEP_LD, .MG_STALL, .MG_REFCFG, .MG_STEP_STAT, .MG_STATE]

/-- The SF registers, in index order. -/
def R.part8 : List R :=
  [.SF_CTL, .SF_STAT, .SF_ASSAY, .SF_CLK, .SF_DEG_CFG, .SF_TP_CFG, .SF_SI_STATE, .SF_SI_FAULT, .SF_PERMIT, .SF_DEGRADED, .SF_FAILED, .SF_SI_CFG, .SF_SO_CFG, .SF_SO_STAT, .SF_MON_CFG, .SF_MON_K, .SF_MON_TOL, .SF_MON_SPD, .SF_MON_POS, .SF_MON_DIFF, .SF_MON_STAT, .SF_FN_CFG, .SF_TERM_A, .SF_TERM_B, .SF_FN_DEG, .SF_FN_STAT]

/-- The DX and SPR registers, in index order. -/
def R.part9 : List R :=
  [.DX_CFG, .DX_STAT, .DX_SIDE, .DX_SYNC, .DX_TBWAIT, .DX_LASTFO_LO, .DX_LASTFO_HI, .SPR_STAT, .SPR_WEAR_CFG, .SPR_FLASH_CFG, .SPR_LOG, .SPR_PART, .PWR_CTL, .PWR_STAT, .PWR_CFG, .PWR_LF, .PWR_HOST, .PWR_CAUSE, .PWR_JFRAME_LO, .PWR_JFRAME_HI, .PWR_ERST]

/-- The CB registers, in index order. -/
def R.part10 : List R :=
  [.CB_CTL, .CB_STAT, .CB_ERR, .CB_NBT, .CB_DBT, .CB_TT_CFG, .CB_TT_STAT, .CB_CNT, .CB_MCNT, .CB_WAKE_ID, .CB_WAKE_IDM, .CB_WAKE_DLC, .CB_WAKE_D0, .CB_WAKE_D1, .CB_NEWDAT, .CB_COL, .CB_BUF_CFG, .CB_BUF_ID, .CB_BUF_STAT, .CB_DATA]

/-- The AQ registers, in index order. -/
def R.part11 : List R :=
  [.AQ_CTL, .AQ_STAT, .AQ_SEQ, .AQ_QUEUE, .AQ_WIN, .AQ_STM_STAT, .AQ_TRG_STAT, .AQ_STM_CFG, .AQ_SRC, .AQ_SRCPH, .AQ_TRG_CFG, .AQ_TRG_LVL, .AQ_TRG_HYS, .AQ_TRG_TIM]

/-- The host-domain and PRM registers, in index order. -/
def R.part12 : List R :=
  [.EV_CFG, .EV_STAT, .EV_LOST, .EV_LOSTP, .EV_CURSOR, .EV_WIN, .LG_STAT, .LG_CAL_LO, .LG_CAL_HI, .LG_INSP_LO, .LG_INSP_HI, .LG_CFG, .LG_MIRROR, .LG_WEAR, .LG_CNT_LO, .LG_CNT_HI, .ZL_CFG, .ZL_STAT, .ZL_TIMING, .ZL_CYCLE, .ZL_SYST_LO, .ZL_SYST_HI, .ZL_DLY, .ZL_PORT, .ZL_DN, .ZL_UP, .ZL_CACHE, .ZL_SESS, .UPD_STAT, .UPD_MANID, .UPD_VER, .UPD_FRAME_LO, .UPD_FRAME_HI, .UPD_REQ, .UPD_READY, .UPD_SHADOW, .UPD_PROG, .UPD_ERR, .UPD_BOOT, .UPD_LASTF_LO, .UPD_LASTF_HI, .PRM_CELL]

/-- Every register, in index order. -/
def R.all : List R :=
  R.part0.append (R.part1.append (R.part2.append (R.part3.append (R.part4.append (R.part5.append (R.part6.append (R.part7.append (R.part8.append (R.part9.append (R.part10.append (R.part11.append (R.part12))))))))))))

/-- The registers of the block that an index lies in (R25). -/
def R.partOf (idx : Nat) : List R :=
  if idx < 0x100 then R.part0
  else if idx < 0x200 then R.part1
  else if idx < 0x400 then R.part2
  else if idx < 0x800 then R.part3
  else if idx < 0xC00 then R.part4
  else if idx < 0x1000 then R.part5
  else if idx < 0x2000 then R.part6
  else if idx < 0x2800 then R.part7
  else if idx < 0x2C00 then R.part8
  else if idx < 0x3000 then R.part9
  else if idx < 0x4000 then R.part10
  else if idx < 0x4400 then R.part11
  else R.part12

/-- A field: its register, its bits, its access code and its reset value (R5, R6). -/
structure Fd where
  reg : R
  hi : Nat
  lo : Nat
  acc : Acc
  rst : Nat
deriving DecidableEq, Repr

namespace F

/-! Fields of spec/01_domains_and_engines.md. -/
def DEV_ID_PART : Fd := ⟨.DEV_ID, 31, 16, .RO, 0x64⟩
def DEV_ID_ISSUE : Fd := ⟨.DEV_ID, 15, 8, .RO, 3⟩
def DEV_ID_VARIANT : Fd := ⟨.DEV_ID, 7, 4, .RO, 0⟩
def DEV_SERIAL_LO : Fd := ⟨.DEV_SERIAL_LO, 31, 0, .RO, 0⟩
def DEV_SERIAL_HI : Fd := ⟨.DEV_SERIAL_HI, 31, 0, .RO, 0⟩
def DEV_FW_SLOT : Fd := ⟨.DEV_FW, 31, 31, .RO, 0⟩
def DEV_FW_MAJOR : Fd := ⟨.DEV_FW, 23, 16, .RO, 0⟩
def DEV_FW_MINOR : Fd := ⟨.DEV_FW, 15, 8, .RO, 0⟩
def DEV_FW_BUILD : Fd := ⟨.DEV_FW, 7, 0, .RO, 0⟩
def DEV_ADDR_RING : Fd := ⟨.DEV_ADDR, 9, 6, .RO, 0⟩
def DEV_ADDR_NODE : Fd := ⟨.DEV_ADDR, 5, 0, .RO, 0⟩
def DEV_CTL_KEY : Fd := ⟨.DEV_CTL, 31, 16, .WO, 0⟩
def DEV_CTL_MARK : Fd := ⟨.DEV_CTL, 1, 1, .SC, 0⟩
def DEV_CTL_HOST_RST : Fd := ⟨.DEV_CTL, 0, 0, .SC, 0⟩
def DEV_STATE_STANDBY_OK : Fd := ⟨.DEV_STATE, 10, 10, .RO, 0⟩
def DEV_STATE_HALLMARK_OK : Fd := ⟨.DEV_STATE, 9, 9, .RO, 0⟩
def DEV_STATE_KEY_OK : Fd := ⟨.DEV_STATE, 8, 8, .RO, 0⟩
def DEV_STATE_STATE : Fd := ⟨.DEV_STATE, 3, 0, .RO, 0⟩
def DEV_ENG_RUN_RUN : Fd := ⟨.DEV_ENG_RUN, 18, 0, .RO, 0⟩
def DEV_ENG_FAULT_FAULT : Fd := ⟨.DEV_ENG_FAULT, 18, 0, .W1C, 0⟩
def DEV_OWN_VIOL_VALID : Fd := ⟨.DEV_OWN_VIOL, 31, 31, .W1C, 0⟩
def DEV_OWN_VIOL_COUNT : Fd := ⟨.DEV_OWN_VIOL, 30, 28, .RO, 0⟩
def DEV_OWN_VIOL_KIND : Fd := ⟨.DEV_OWN_VIOL, 27, 26, .RO, 0⟩
def DEV_OWN_VIOL_ENGINE : Fd := ⟨.DEV_OWN_VIOL, 25, 21, .RO, 0⟩
def DEV_OWN_VIOL_INDEX : Fd := ⟨.DEV_OWN_VIOL, 15, 0, .RO, 0⟩
def DEV_BAR_STAT_SPARE_FOR : Fd := ⟨.DEV_BAR_STAT, 18, 16, .RO, 7⟩
def DEV_BAR_STAT_FAILED : Fd := ⟨.DEV_BAR_STAT, 12, 8, .W1C, 0⟩
def DEV_BAR_STAT_INSERV : Fd := ⟨.DEV_BAR_STAT, 4, 0, .RO, 0xF⟩
def DEV_BAR_ERR_RESENT : Fd := ⟨.DEV_BAR_ERR, 31, 16, .RO, 0⟩
def DEV_BAR_ERR_CRCERR : Fd := ⟨.DEV_BAR_ERR, 15, 0, .RO, 0⟩
def DEV_ROLE_STAT_FAILS : Fd := ⟨.DEV_ROLE_STAT, 31, 16, .RO, 0⟩
def DEV_ROLE_STAT_COM_SET : Fd := ⟨.DEV_ROLE_STAT, 2, 2, .RO, 0⟩
def DEV_ROLE_STAT_MNT_SET : Fd := ⟨.DEV_ROLE_STAT, 1, 1, .RO, 0⟩
def DEV_ROLE_STAT_OBS_SET : Fd := ⟨.DEV_ROLE_STAT, 0, 0, .RO, 0⟩
def DEV_SCRATCH : Fd := ⟨.DEV_SCRATCH, 31, 0, .RW, 0⟩

/-! Fields of spec/02_the_frame.md. -/
def FRM_CTL_LOCK : Fd := ⟨.FRM_CTL, 0, 0, .RW, 0⟩
def FRM_STAT_LOCK_REFUSED : Fd := ⟨.FRM_STAT, 5, 5, .W1C, 0⟩
def FRM_STAT_HOLDOVER : Fd := ⟨.FRM_STAT, 4, 4, .RO, 0⟩
def FRM_STAT_LOCKED : Fd := ⟨.FRM_STAT, 3, 3, .RO, 0⟩
def FRM_STAT_ACQUIRING : Fd := ⟨.FRM_STAT, 2, 2, .RO, 0⟩
def FRM_STAT_OVR_ANY : Fd := ⟨.FRM_STAT, 1, 1, .W1C, 0⟩
def FRM_STAT_RUN : Fd := ⟨.FRM_STAT, 0, 0, .RO, 0⟩
def FRM_LEN_PDIV : Fd := ⟨.FRM_LEN, 26, 24, .RO, 0⟩
def FRM_LEN_LEN : Fd := ⟨.FRM_LEN, 18, 0, .RWS, 0x2710⟩
def FRM_CNT_LO : Fd := ⟨.FRM_CNT_LO, 31, 0, .RO, 0⟩
def FRM_CNT_HI : Fd := ⟨.FRM_CNT_HI, 31, 0, .RO, 0⟩
def FRM_SUB_PDIV : Fd := ⟨.FRM_SUB, 18, 16, .RO, 0⟩
def FRM_SUB_SUB : Fd := ⟨.FRM_SUB, 13, 0, .RO, 0⟩
def FRM_LOCK_OFS_OFS : Fd := ⟨.FRM_LOCK_OFS, 18, 0, .RW, 0⟩
def FRM_LOCK_ERR : Fd := ⟨.FRM_LOCK_ERR, 31, 0, .RO, 0⟩
def FRM_SYST_LO : Fd := ⟨.FRM_SYST_LO, 31, 0, .RO, 0⟩
def FRM_SYST_HI : Fd := ⟨.FRM_SYST_HI, 31, 0, .RO, 0⟩
def FRM_OVR_CFG_WIN : Fd := ⟨.FRM_OVR_CFG, 15, 8, .RW, 0x10⟩
def FRM_OVR_CFG_CONSEC : Fd := ⟨.FRM_OVR_CFG, 3, 0, .RW, 3⟩
def FRM_BUD_VALID : Fd := ⟨.FRM_BUD, 31, 31, .RO, 0⟩
def FRM_BUD_BUDGET : Fd := ⟨.FRM_BUD, 18, 0, .RO, 0⟩
def FRM_USE_LAST : Fd := ⟨.FRM_USE, 18, 0, .RO, 0⟩
def FRM_PEAK_CLR : Fd := ⟨.FRM_PEAK, 31, 31, .WO, 0⟩
def FRM_PEAK_PEAK : Fd := ⟨.FRM_PEAK, 18, 0, .RO, 0⟩
def FRM_OVR_TOTAL : Fd := ⟨.FRM_OVR, 31, 16, .RO, 0⟩
def FRM_OVR_WINCNT : Fd := ⟨.FRM_OVR, 15, 8, .RO, 0⟩
def FRM_OVR_RUN : Fd := ⟨.FRM_OVR, 3, 0, .RO, 0⟩

/-! Fields of spec/03_frame_memory.md. -/
def MEM_ARB_CFG_TMO : Fd := ⟨.MEM_ARB_CFG, 31, 16, .RWS, 0x800⟩
def MEM_ARB_CFG_FAIR : Fd := ⟨.MEM_ARB_CFG, 4, 0, .RWS, 8⟩
def MEM_STAT_TMO_ANY : Fd := ⟨.MEM_STAT, 3, 3, .W1C, 0⟩
def MEM_STAT_MPU_ANY : Fd := ⟨.MEM_STAT, 2, 2, .W1C, 0⟩
def MEM_STAT_DED_ANY : Fd := ⟨.MEM_STAT, 1, 1, .W1C, 0⟩
def MEM_STAT_CE_ANY : Fd := ⟨.MEM_STAT, 0, 0, .W1C, 0⟩
def MEM_ECC_CFG_SCRUB : Fd := ⟨.MEM_ECC_CFG, 8, 8, .RWS, 1⟩
def MEM_ECC_CFG_CE_GRAFT : Fd := ⟨.MEM_ECC_CFG, 7, 0, .RWS, 3⟩
def MEM_CLR_PEAKS : Fd := ⟨.MEM_CLR, 0, 0, .WO, 0⟩
def MEM_BANK_STAT_CE : Fd := ⟨.MEM_BANK_STAT, 31, 16, .RO, 0⟩
def MEM_BANK_STAT_DED : Fd := ⟨.MEM_BANK_STAT, 15, 8, .RO, 0⟩
def MEM_BANK_STAT_SPARE_FREE : Fd := ⟨.MEM_BANK_STAT, 6, 0, .RO, 0x40⟩
def MEM_ERR_ADDR_VALID : Fd := ⟨.MEM_ERR_ADDR, 31, 31, .W1C, 0⟩
def MEM_ERR_ADDR_KIND : Fd := ⟨.MEM_ERR_ADDR, 30, 29, .RO, 0⟩
def MEM_ERR_ADDR_REQ : Fd := ⟨.MEM_ERR_ADDR, 28, 23, .RO, 0⟩
def MEM_ERR_ADDR_SPARE : Fd := ⟨.MEM_ERR_ADDR, 21, 21, .RO, 0⟩
def MEM_ERR_ADDR_ADDR : Fd := ⟨.MEM_ERR_ADDR, 20, 3, .RO, 0⟩
def MEM_SCRUB_LASTPASS : Fd := ⟨.MEM_SCRUB, 31, 16, .RO, 0⟩
def MEM_SCRUB_ROW : Fd := ⟨.MEM_SCRUB, 11, 0, .RO, 0⟩
def MEM_ARB_PEAK_PEAKL : Fd := ⟨.MEM_ARB_PEAK, 31, 16, .RO, 0⟩
def MEM_ARB_PEAK_PEAK0 : Fd := ⟨.MEM_ARB_PEAK, 15, 0, .RO, 0⟩
def MEM_REV_CNT : Fd := ⟨.MEM_REV_CNT, 31, 0, .RO, 0⟩
def MEM_BOUND_WL : Fd := ⟨.MEM_BOUND, 31, 16, .RO, 0⟩
def MEM_BOUND_W0 : Fd := ⟨.MEM_BOUND, 15, 0, .RO, 0⟩
def MEM_MPU_SEL_REQ : Fd := ⟨.MEM_MPU_SEL, 5, 0, .RW, 0⟩
def MEM_MPU_VIOL_VALID : Fd := ⟨.MEM_MPU_VIOL, 31, 31, .W1C, 0⟩
def MEM_MPU_VIOL_COUNT : Fd := ⟨.MEM_MPU_VIOL, 30, 28, .RO, 0⟩
def MEM_MPU_VIOL_WRITE : Fd := ⟨.MEM_MPU_VIOL, 27, 27, .RO, 0⟩
def MEM_MPU_VIOL_REQ : Fd := ⟨.MEM_MPU_VIOL, 25, 20, .RO, 0⟩
def MEM_MPU_VADDR : Fd := ⟨.MEM_MPU_VADDR, 31, 0, .RO, 0⟩
def MEM_MPU_BASE_BASE : Fd := ⟨.MEM_MPU_BASE, 31, 8, .RWS, 0⟩
def MEM_MPU_LIM_LIM : Fd := ⟨.MEM_MPU_LIM, 31, 8, .RWS, 0⟩
def MEM_MPU_LIM_W : Fd := ⟨.MEM_MPU_LIM, 2, 2, .RWS, 0⟩
def MEM_MPU_LIM_RD : Fd := ⟨.MEM_MPU_LIM, 1, 1, .RWS, 0⟩
def MEM_MPU_LIM_EN : Fd := ⟨.MEM_MPU_LIM, 0, 0, .RWS, 0⟩
def MEM_DMA_CTL_TRIG : Fd := ⟨.MEM_DMA_CTL, 5, 4, .RWS, 0⟩
def MEM_DMA_CTL_STOP : Fd := ⟨.MEM_DMA_CTL, 1, 1, .SC, 0⟩
def MEM_DMA_CTL_GO : Fd := ⟨.MEM_DMA_CTL, 0, 0, .SC, 0⟩
def MEM_DMA_DESC_DESC : Fd := ⟨.MEM_DMA_DESC, 31, 3, .RWS, 0⟩
def MEM_DMA_STAT_STATE : Fd := ⟨.MEM_DMA_STAT, 31, 28, .RO, 0⟩
def MEM_DMA_STAT_FAIRONLY : Fd := ⟨.MEM_DMA_STAT, 24, 24, .RO, 0⟩
def MEM_DMA_STAT_REV : Fd := ⟨.MEM_DMA_STAT, 23, 16, .RO, 0⟩
def MEM_DMA_STAT_POS : Fd := ⟨.MEM_DMA_STAT, 12, 0, .RO, 0⟩
def MEM_DMA_ERR : Fd := ⟨.MEM_DMA_ERR, 31, 0, .RO, 0⟩

/-! Fields of spec/04_terminals.md. -/
def TRM_CTL_CLRALL : Fd := ⟨.TRM_CTL, 0, 0, .WO, 0⟩
def TRM_STAT_OFFT_T : Fd := ⟨.TRM_STAT, 30, 24, .RO, 0x7F⟩
def TRM_STAT_VISIT : Fd := ⟨.TRM_STAT, 19, 16, .RO, 0⟩
def TRM_STAT_GFAULT : Fd := ⟨.TRM_STAT, 5, 0, .RO, 0⟩
def TRM_CHK_CFG_SETTLE : Fd := ⟨.TRM_CHK_CFG, 7, 0, .RWS, 4⟩
def TRM_IN : Fd := ⟨.TRM_IN, 31, 0, .RO, 0⟩
def TRM_RAW : Fd := ⟨.TRM_RAW, 31, 0, .RO, 0⟩
def TRM_OUT : Fd := ⟨.TRM_OUT, 31, 0, .RW, 0⟩
def TRM_DRV : Fd := ⟨.TRM_DRV, 31, 0, .RO, 0⟩
def TRM_FSUM : Fd := ⟨.TRM_FSUM, 31, 0, .RO, 0⟩
def TRM_GRP_CFG_WDOG : Fd := ⟨.TRM_GRP_CFG, 15, 0, .RWS, 0x190⟩
def TRM_GRP_STAT_OSV : Fd := ⟨.TRM_GRP_STAT, 31, 16, .RO, 0⟩
def TRM_GRP_STAT_WDEXP : Fd := ⟨.TRM_GRP_STAT, 11, 11, .RO, 0⟩
def TRM_GRP_STAT_WDEVT : Fd := ⟨.TRM_GRP_STAT, 10, 10, .W1C, 0⟩
def TRM_GRP_STAT_BAND : Fd := ⟨.TRM_GRP_STAT, 9, 8, .RO, 3⟩
def TRM_CFG_FILT : Fd := ⟨.TRM_CFG, 23, 16, .RWS, 0⟩
def TRM_CFG_SAFE : Fd := ⟨.TRM_CFG, 11, 10, .RWS, 0⟩
def TRM_CFG_OFFT : Fd := ⟨.TRM_CFG, 9, 9, .RWS, 0⟩
def TRM_CFG_CROSSCHK : Fd := ⟨.TRM_CFG, 8, 8, .RWS, 0⟩
def TRM_CFG_TYPE : Fd := ⟨.TRM_CFG, 4, 4, .RWS, 0⟩
def TRM_CFG_MODE : Fd := ⟨.TRM_CFG, 2, 0, .RWS, 0⟩
def TRM_TSTAT_PARTNER : Fd := ⟨.TRM_TSTAT, 22, 16, .RO, 0x7F⟩
def TRM_TSTAT_CROSS : Fd := ⟨.TRM_TSTAT, 8, 8, .W1C, 0⟩
def TRM_TSTAT_OPEN : Fd := ⟨.TRM_TSTAT, 7, 7, .W1C, 0⟩
def TRM_TSTAT_EXT_HIGH : Fd := ⟨.TRM_TSTAT, 6, 6, .W1C, 0⟩
def TRM_TSTAT_OFFT_FAIL : Fd := ⟨.TRM_TSTAT, 5, 5, .W1C, 0⟩
def TRM_TSTAT_RB_LOW : Fd := ⟨.TRM_TSTAT, 4, 4, .W1C, 0⟩
def TRM_TSTAT_THERMAL : Fd := ⟨.TRM_TSTAT, 3, 3, .W1C, 0⟩
def TRM_TSTAT_OVERLOAD : Fd := ⟨.TRM_TSTAT, 2, 2, .W1C, 0⟩
def TRM_TSTAT_SETTLED : Fd := ⟨.TRM_TSTAT, 1, 1, .RO, 0⟩
def TRM_TSTAT_DRV : Fd := ⟨.TRM_TSTAT, 0, 0, .RO, 0⟩
def TRM_VOLT_FRAME : Fd := ⟨.TRM_VOLT, 31, 16, .RO, 0⟩
def TRM_VOLT_MV : Fd := ⟨.TRM_VOLT, 15, 0, .RO, 0⟩

/-! Fields of spec/05_analogue.md. -/
def ADC_CTL_STEP : Fd := ⟨.ADC_CTL, 0, 0, .SC, 0⟩
def ADC_STAT_TCFAIL : Fd := ⟨.ADC_STAT, 23, 16, .W1C, 0⟩
def ADC_STAT_REFNS_ANY : Fd := ⟨.ADC_STAT, 5, 5, .W1C, 0⟩
def ADC_STAT_TRGMISS_ANY : Fd := ⟨.ADC_STAT, 4, 4, .W1C, 0⟩
def ADC_STAT_SUS_ANY : Fd := ⟨.ADC_STAT, 3, 3, .W1C, 0⟩
def ADC_STAT_OVR_ANY : Fd := ⟨.ADC_STAT, 2, 2, .W1C, 0⟩
def ADC_STAT_NOSPARE : Fd := ⟨.ADC_STAT, 1, 1, .RO, 0⟩
def ADC_STAT_RUN : Fd := ⟨.ADC_STAT, 0, 0, .RO, 0⟩
def ADC_REF_CFG_SETTLE : Fd := ⟨.ADC_REF_CFG, 15, 8, .RWS, 0x28⟩
def ADC_REF_CFG_AVS_EN : Fd := ⟨.ADC_REF_CFG, 1, 1, .RWS, 0⟩
def ADC_REF_CFG_EXT_EN : Fd := ⟨.ADC_REF_CFG, 0, 0, .RWS, 0⟩
def ADC_REF_STAT_AVS_ILIM : Fd := ⟨.ADC_REF_STAT, 4, 4, .W1C, 0⟩
def ADC_REF_STAT_AVS_OK : Fd := ⟨.ADC_REF_STAT, 2, 2, .RO, 0⟩
def ADC_REF_STAT_EXT_OK : Fd := ⟨.ADC_REF_STAT, 1, 1, .RO, 0⟩
def ADC_REF_STAT_INT_OK : Fd := ⟨.ADC_REF_STAT, 0, 0, .RO, 0⟩
def ADC_ANNEAL_CFG_DWELL : Fd := ⟨.ADC_ANNEAL_CFG, 31, 16, .RWS, 0x9C40⟩
def ADC_ANNEAL_CFG_TOL : Fd := ⟨.ADC_ANNEAL_CFG, 15, 8, .RWS, 8⟩
def ADC_ANNEAL_CFG_EN : Fd := ⟨.ADC_ANNEAL_CFG, 0, 0, .RWS, 1⟩
def ADC_ANNEAL_STAT_SPARE : Fd := ⟨.ADC_ANNEAL_STAT, 31, 27, .RO, 0⟩
def ADC_ANNEAL_STAT_NEXTROLE : Fd := ⟨.ADC_ANNEAL_STAT, 26, 23, .RO, 0⟩
def ADC_ANNEAL_STAT_RETRY : Fd := ⟨.ADC_ANNEAL_STAT, 18, 18, .RO, 0⟩
def ADC_ANNEAL_STAT_PHASE : Fd := ⟨.ADC_ANNEAL_STAT, 17, 16, .RO, 0⟩
def ADC_ANNEAL_STAT_COUNT : Fd := ⟨.ADC_ANNEAL_STAT, 15, 0, .RO, 0⟩
def ADC_ROLE_CFG_BURST : Fd := ⟨.ADC_ROLE_CFG, 15, 12, .RWS, 0⟩
def ADC_ROLE_CFG_EDGE : Fd := ⟨.ADC_ROLE_CFG, 9, 8, .RWS, 1⟩
def ADC_ROLE_CFG_GROUP : Fd := ⟨.ADC_ROLE_CFG, 7, 4, .RWS, 0⟩
def ADC_ROLE_CFG_PAIR : Fd := ⟨.ADC_ROLE_CFG, 3, 3, .RWS, 0⟩
def ADC_ROLE_CFG_TRIG : Fd := ⟨.ADC_ROLE_CFG, 1, 0, .RWS, 0⟩
def ADC_MASK_LO : Fd := ⟨.ADC_MASK_LO, 31, 0, .RWS, 0⟩
def ADC_MASK_HI_MASK : Fd := ⟨.ADC_MASK_HI, 23, 0, .RWS, 0⟩
def ADC_ROLE_TRG_PER : Fd := ⟨.ADC_ROLE_TRG, 31, 16, .RWS, 0⟩
def ADC_ROLE_TRG_OFS : Fd := ⟨.ADC_ROLE_TRG, 15, 0, .RWS, 0⟩
def ADC_ROLE_STAT_SLICE : Fd := ⟨.ADC_ROLE_STAT, 31, 27, .RO, 0⟩
def ADC_ROLE_STAT_BUSY : Fd := ⟨.ADC_ROLE_STAT, 16, 16, .RO, 0⟩
def ADC_ROLE_STAT_TRGMISS : Fd := ⟨.ADC_ROLE_STAT, 15, 0, .RO, 0⟩
def ADC_SLICE_STAT_STATE : Fd := ⟨.ADC_SLICE_STAT, 31, 29, .RO, 0⟩
def ADC_SLICE_STAT_ROLE : Fd := ⟨.ADC_SLICE_STAT, 27, 24, .RO, 0⟩
def ADC_SLICE_STAT_GAIN : Fd := ⟨.ADC_SLICE_STAT, 15, 8, .RO, 0⟩
def ADC_SLICE_STAT_OFS : Fd := ⟨.ADC_SLICE_STAT, 7, 0, .RO, 0⟩
def ADC_CH_CFG_REF : Fd := ⟨.ADC_CH_CFG, 5, 4, .RWS, 0⟩
def ADC_CH_CFG_RANGE : Fd := ⟨.ADC_CH_CFG, 1, 0, .RWS, 0⟩
def ADC_RES_OVR : Fd := ⟨.ADC_RES, 31, 31, .RO, 0⟩
def ADC_RES_SUS : Fd := ⟨.ADC_RES, 30, 30, .RO, 0⟩
def ADC_RES_REFNS : Fd := ⟨.ADC_RES, 29, 29, .RO, 0⟩
def ADC_RES_STALE : Fd := ⟨.ADC_RES, 28, 28, .RO, 1⟩
def ADC_RES_CNT : Fd := ⟨.ADC_RES, 27, 24, .RO, 0⟩
def ADC_RES_SLICE : Fd := ⟨.ADC_RES, 20, 16, .RO, 0⟩
def ADC_RES_CODE : Fd := ⟨.ADC_RES, 15, 0, .RO, 0⟩
def ADC_TC_LIM_HI : Fd := ⟨.ADC_TC_LIM, 31, 16, .RWS, 0⟩
def ADC_TC_LIM_LO : Fd := ⟨.ADC_TC_LIM, 15, 0, .RWS, 0⟩
def ADC_EP_CFG_FILT : Fd := ⟨.ADC_EP_CFG, 11, 8, .RWS, 4⟩
def ADC_EP_CFG_INV : Fd := ⟨.ADC_EP_CFG, 7, 7, .RWS, 0⟩
def ADC_EP_CFG_ZCAP : Fd := ⟨.ADC_EP_CFG, 3, 3, .RWS, 0⟩
def ADC_EP_CFG_MODE : Fd := ⟨.ADC_EP_CFG, 2, 0, .RWS, 0⟩
def ADC_EP_SSI_EVERY : Fd := ⟨.ADC_EP_SSI, 31, 28, .RWS, 1⟩
def ADC_EP_SSI_MONO : Fd := ⟨.ADC_EP_SSI, 27, 20, .RWS, 0x14⟩
def ADC_EP_SSI_CLKDIV : Fd := ⟨.ADC_EP_SSI, 19, 8, .RWS, 0x63⟩
def ADC_EP_SSI_ERRBIT : Fd := ⟨.ADC_EP_SSI, 7, 7, .RWS, 0⟩
def ADC_EP_SSI_GRAY : Fd := ⟨.ADC_EP_SSI, 6, 6, .RWS, 0⟩
def ADC_EP_SSI_BITS : Fd := ⟨.ADC_EP_SSI, 5, 0, .RWS, 0x19⟩
def ADC_EP_POS : Fd := ⟨.ADC_EP_POS, 31, 0, .RO, 0⟩
def ADC_EP_IDX : Fd := ⟨.ADC_EP_IDX, 31, 0, .RO, 0⟩
def ADC_EP_EDGE_NONE : Fd := ⟨.ADC_EP_EDGE, 31, 31, .RO, 1⟩
def ADC_EP_EDGE_PREV : Fd := ⟨.ADC_EP_EDGE, 30, 30, .RO, 0⟩
def ADC_EP_EDGE_SUB : Fd := ⟨.ADC_EP_EDGE, 13, 0, .RO, 0⟩
def ADC_EP_STAT_AMP : Fd := ⟨.ADC_EP_STAT, 31, 16, .RO, 0⟩
def ADC_EP_STAT_VALID : Fd := ⟨.ADC_EP_STAT, 7, 7, .RO, 0⟩
def ADC_EP_STAT_OLD : Fd := ⟨.ADC_EP_STAT, 6, 6, .RO, 0⟩
def ADC_EP_STAT_SSIERR : Fd := ⟨.ADC_EP_STAT, 5, 5, .W1C, 0⟩
def ADC_EP_STAT_AMPERR : Fd := ⟨.ADC_EP_STAT, 4, 4, .W1C, 0⟩
def ADC_EP_STAT_ILLEGAL : Fd := ⟨.ADC_EP_STAT, 3, 3, .W1C, 0⟩
def ADC_EP_STAT_LINE : Fd := ⟨.ADC_EP_STAT, 2, 2, .W1C, 0⟩
def ADC_EP_STAT_ZSEEN : Fd := ⟨.ADC_EP_STAT, 1, 1, .W1C, 0⟩

/-! Fields of spec/06_pwm.md. -/
def PWM_CTL_CLRCNT : Fd := ⟨.PWM_CTL, 0, 0, .WO, 0⟩
def PWM_STAT_GFAULT : Fd := ⟨.PWM_STAT, 27, 16, .RO, 0⟩
def PWM_STAT_NOSPARE : Fd := ⟨.PWM_STAT, 3, 3, .RO, 0⟩
def PWM_STAT_BADWR_ANY : Fd := ⟨.PWM_STAT, 2, 2, .W1C, 0⟩
def PWM_STAT_RESCALED_ANY : Fd := ⟨.PWM_STAT, 1, 1, .W1C, 0⟩
def PWM_STAT_RUN : Fd := ⟨.PWM_STAT, 0, 0, .RO, 0⟩
def PWM_ANNEAL_CFG_DWELL : Fd := ⟨.PWM_ANNEAL_CFG, 31, 16, .RWS, 0xFA0⟩
def PWM_ANNEAL_CFG_EN : Fd := ⟨.PWM_ANNEAL_CFG, 0, 0, .RWS, 1⟩
def PWM_ANNEAL_STAT_PHASE : Fd := ⟨.PWM_ANNEAL_STAT, 17, 16, .RO, 0⟩
def PWM_ANNEAL_STAT_COUNT : Fd := ⟨.PWM_ANNEAL_STAT, 15, 0, .RO, 0⟩
def PWM_GRP_CFG_GFFILT : Fd := ⟨.PWM_GRP_CFG, 31, 24, .RWS, 0x10⟩
def PWM_GRP_CFG_OWNER : Fd := ⟨.PWM_GRP_CFG, 17, 16, .RWS, 0⟩
def PWM_GRP_CFG_LOAD : Fd := ⟨.PWM_GRP_CFG, 9, 8, .RWS, 2⟩
def PWM_GRP_CFG_SAFE : Fd := ⟨.PWM_GRP_CFG, 5, 4, .RWS, 0⟩
def PWM_GRP_CFG_SYNC : Fd := ⟨.PWM_GRP_CFG, 1, 1, .RWS, 0⟩
def PWM_GRP_CFG_POL : Fd := ⟨.PWM_GRP_CFG, 0, 0, .RWS, 0⟩
def PWM_GRP_TIME_MINP : Fd := ⟨.PWM_GRP_TIME, 31, 16, .RWS, 0xC80⟩
def PWM_GRP_TIME_DT : Fd := ⟨.PWM_GRP_TIME, 15, 0, .RWS, 0x1900⟩
def PWM_GRP_PHASE_PHASE : Fd := ⟨.PWM_GRP_PHASE, 20, 0, .RWS, 0⟩
def PWM_GRP_TOP_TOP : Fd := ⟨.PWM_GRP_TOP, 19, 0, .RW, 0⟩
def PWM_GRP_CTL_EN : Fd := ⟨.PWM_GRP_CTL, 0, 0, .RW, 0⟩
def PWM_GRP_STAT_FAULT : Fd := ⟨.PWM_GRP_STAT, 31, 31, .W1C, 0⟩
def PWM_GRP_STAT_GFIN : Fd := ⟨.PWM_GRP_STAT, 30, 30, .RO, 0⟩
def PWM_GRP_STAT_ENOUT : Fd := ⟨.PWM_GRP_STAT, 29, 29, .RO, 0⟩
def PWM_GRP_STAT_STATE : Fd := ⟨.PWM_GRP_STAT, 28, 27, .RO, 0⟩
def PWM_GRP_STAT_RESCALED : Fd := ⟨.PWM_GRP_STAT, 26, 26, .W1C, 0⟩
def PWM_GRP_STAT_BADWR : Fd := ⟨.PWM_GRP_STAT, 25, 25, .W1C, 0⟩
def PWM_GRP_STAT_SYNCLAG : Fd := ⟨.PWM_GRP_STAT, 24, 24, .RO, 0⟩
def PWM_GRP_ACT_TOP : Fd := ⟨.PWM_GRP_ACT, 19, 0, .RO, 0⟩
def PWM_GRP_CNT_SUPP : Fd := ⟨.PWM_GRP_CNT, 31, 16, .RO, 0⟩
def PWM_GRP_CNT_SKIP : Fd := ⟨.PWM_GRP_CNT, 15, 0, .RO, 0⟩
def PWM_CMP : Fd := ⟨.PWM_CMP, 31, 0, .RW, 0⟩
def PWM_CMP_ACT : Fd := ⟨.PWM_CMP_ACT, 31, 0, .RO, 0⟩
def PWM_DL_STAT_STATE : Fd := ⟨.PWM_DL_STAT, 31, 29, .RO, 0⟩
def PWM_DL_STAT_OUT : Fd := ⟨.PWM_DL_STAT, 27, 24, .RO, 0⟩
def PWM_DL_STAT_ERR : Fd := ⟨.PWM_DL_STAT, 15, 8, .RO, 0⟩

/-! Fields of spec/07_loops.md. -/
def LP_CFG_PH : Fd := ⟨.LP_CFG, 30, 24, .RWS, 0⟩
def LP_CFG_DIV : Fd := ⟨.LP_CFG, 22, 20, .RWS, 0⟩
def LP_CFG_STOPY : Fd := ⟨.LP_CFG, 17, 16, .RWS, 0⟩
def LP_CFG_STALEACT : Fd := ⟨.LP_CFG, 12, 12, .RWS, 0⟩
def LP_CFG_SCHABS : Fd := ⟨.LP_CFG, 9, 9, .RWS, 0⟩
def LP_CFG_SCHMODE : Fd := ⟨.LP_CFG, 8, 8, .RWS, 0⟩
def LP_CFG_SET : Fd := ⟨.LP_CFG, 7, 6, .RWS, 0⟩
def LP_CFG_TABLE : Fd := ⟨.LP_CFG, 5, 5, .RWS, 0⟩
def LP_CFG_TYPE : Fd := ⟨.LP_CFG, 2, 0, .RWS, 0⟩
def LP_SRC0_FB : Fd := ⟨.LP_SRC0, 31, 16, .RWS, 0⟩
def LP_SRC0_REF : Fd := ⟨.LP_SRC0, 15, 0, .RWS, 0⟩
def LP_SRC1_SCHED : Fd := ⟨.LP_SRC1, 31, 16, .RWS, 0⟩
def LP_SRC1_FF : Fd := ⟨.LP_SRC1, 15, 0, .RWS, 0⟩
def LP_SRC2_STALEMAX : Fd := ⟨.LP_SRC2, 31, 24, .RWS, 8⟩
def LP_SRC2_LIM : Fd := ⟨.LP_SRC2, 15, 0, .RWS, 0⟩
def LP_KR : Fd := ⟨.LP_KR, 31, 0, .RW, 0⟩
def LP_KX : Fd := ⟨.LP_KX, 31, 0, .RW, 0⟩
def LP_KF : Fd := ⟨.LP_KF, 31, 0, .RW, 0⟩
def LP_HI : Fd := ⟨.LP_HI, 31, 0, .RW, 0⟩
def LP_LO : Fd := ⟨.LP_LO, 31, 0, .RW, 0⟩
def LP_PAGE_SEL : Fd := ⟨.LP_PAGE, 31, 31, .RW, 0⟩
def LP_PAGE_PAGE1 : Fd := ⟨.LP_PAGE, 27, 16, .RWS, 0⟩
def LP_PAGE_PAGE0 : Fd := ⟨.LP_PAGE, 11, 0, .RWS, 0⟩
def LP_STATE_COPYB : Fd := ⟨.LP_STATE, 30, 16, .RWS, 0⟩
def LP_STATE_COPYA : Fd := ⟨.LP_STATE, 14, 0, .RWS, 0⟩
def LP_VEC_GROUP : Fd := ⟨.LP_VEC, 31, 28, .RWS, 0⟩
def LP_VEC_PBK : Fd := ⟨.LP_VEC, 24, 20, .RWS, 0⟩
def LP_VEC_ADV : Fd := ⟨.LP_VEC, 17, 12, .RWS, 0⟩
def LP_VEC_PORT : Fd := ⟨.LP_VEC, 10, 8, .RWS, 0⟩
def LP_VEC_ANGSRC : Fd := ⟨.LP_VEC, 0, 0, .RWS, 0⟩
def LP_CTL_RESTART : Fd := ⟨.LP_CTL, 2, 2, .SC, 0⟩
def LP_CTL_HOLD : Fd := ⟨.LP_CTL, 1, 1, .RW, 0⟩
def LP_CTL_EN : Fd := ⟨.LP_CTL, 0, 0, .RW, 0⟩
def LP_STAT_FAULT : Fd := ⟨.LP_STAT, 31, 31, .RO, 0⟩
def LP_STAT_PAGEERR : Fd := ⟨.LP_STAT, 30, 30, .W1C, 0⟩
def LP_STAT_VDCLOW : Fd := ⟨.LP_STAT, 29, 29, .RO, 0⟩
def LP_STAT_VLIM : Fd := ⟨.LP_STAT, 28, 28, .RO, 0⟩
def LP_STAT_REGION : Fd := ⟨.LP_STAT, 27, 26, .RO, 0⟩
def LP_STAT_HELD : Fd := ⟨.LP_STAT, 25, 25, .RO, 0⟩
def LP_STAT_CLAMP : Fd := ⟨.LP_STAT, 24, 24, .RO, 0⟩
def LP_STAT_STALE : Fd := ⟨.LP_STAT, 23, 23, .RO, 0⟩
def LP_STAT_RUNNING : Fd := ⟨.LP_STAT, 22, 22, .RO, 0⟩
def LP_STAT_SELACT : Fd := ⟨.LP_STAT, 21, 21, .RO, 0⟩
def LP_STAT_HALF : Fd := ⟨.LP_STAT, 20, 20, .RO, 0⟩
def LP_STAT_REGCHG : Fd := ⟨.LP_STAT, 15, 8, .RO, 0⟩
def LP_STAT_STALERUN : Fd := ⟨.LP_STAT, 7, 0, .RO, 0⟩
def LP_Y : Fd := ⟨.LP_Y, 31, 0, .RO, 0⟩
def LP_E : Fd := ⟨.LP_E, 31, 0, .RO, 0⟩

/-! Fields of spec/08_motion.md. -/
def MG_CFG_REVDWELL : Fd := ⟨.MG_CFG, 31, 24, .RWS, 0⟩
def MG_CFG_AFRAC : Fd := ⟨.MG_CFG, 23, 16, .RWS, 0xC0⟩
def MG_CFG_GOVDIR : Fd := ⟨.MG_CFG, 9, 8, .RWS, 3⟩
def MG_CFG_GOV : Fd := ⟨.MG_CFG, 6, 6, .RWS, 0⟩
def MG_CFG_REVSTOP : Fd := ⟨.MG_CFG, 5, 5, .RWS, 1⟩
def MG_CFG_OVS : Fd := ⟨.MG_CFG, 4, 4, .RWS, 0⟩
def MG_CFG_TYPE : Fd := ⟨.MG_CFG, 2, 0, .RWS, 0⟩
def MG_FB_INIT : Fd := ⟨.MG_FB, 9, 9, .RWS, 1⟩
def MG_FB_FBEN : Fd := ⟨.MG_FB, 8, 8, .RWS, 0⟩
def MG_FB_PORT : Fd := ⟨.MG_FB, 2, 0, .RWS, 0⟩
def MG_CTL_REFMODE : Fd := ⟨.MG_CTL, 5, 5, .RW, 0⟩
def MG_CTL_REFDIR : Fd := ⟨.MG_CTL, 4, 4, .RW, 0⟩
def MG_CTL_REF : Fd := ⟨.MG_CTL, 3, 3, .SC, 0⟩
def MG_CTL_QSTOP : Fd := ⟨.MG_CTL, 2, 2, .SC, 0⟩
def MG_CTL_HOLD : Fd := ⟨.MG_CTL, 1, 1, .RW, 0⟩
def MG_CTL_EN : Fd := ⟨.MG_CTL, 0, 0, .RW, 0⟩
def MG_STAT_FAULT : Fd := ⟨.MG_STAT, 31, 31, .RO, 0⟩
def MG_STAT_RUNNING : Fd := ⟨.MG_STAT, 30, 30, .RO, 0⟩
def MG_STAT_INPOS : Fd := ⟨.MG_STAT, 29, 29, .RO, 0⟩
def MG_STAT_MOVING : Fd := ⟨.MG_STAT, 28, 28, .RO, 0⟩
def MG_STAT_REFD : Fd := ⟨.MG_STAT, 27, 27, .RO, 0⟩
def MG_STAT_REFBUSY : Fd := ⟨.MG_STAT, 26, 26, .RO, 0⟩
def MG_STAT_HOLDACT : Fd := ⟨.MG_STAT, 25, 25, .RO, 0⟩
def MG_STAT_QSTOPACT : Fd := ⟨.MG_STAT, 24, 24, .RO, 0⟩
def MG_STAT_GOVV : Fd := ⟨.MG_STAT, 23, 23, .RO, 0⟩
def MG_STAT_GOVA : Fd := ⟨.MG_STAT, 22, 22, .RO, 0⟩
def MG_STAT_LIMTRANS : Fd := ⟨.MG_STAT, 21, 21, .RO, 0⟩
def MG_STAT_FLAGS : Fd := ⟨.MG_STAT, 20, 20, .RO, 0⟩
def MG_STAT_VDCLOW : Fd := ⟨.MG_STAT, 16, 16, .RO, 0⟩
def MG_STAT_TGTREF : Fd := ⟨.MG_STAT, 15, 15, .W1C, 0⟩
def MG_STAT_TGTLIM : Fd := ⟨.MG_STAT, 14, 14, .W1C, 0⟩
def MG_STAT_MISS : Fd := ⟨.MG_STAT, 13, 13, .W1C, 0⟩
def MG_STAT_FERR : Fd := ⟨.MG_STAT, 12, 12, .W1C, 0⟩
def MG_STAT_FBLOST : Fd := ⟨.MG_STAT, 11, 11, .W1C, 0⟩
def MG_STAT_STALL : Fd := ⟨.MG_STAT, 10, 10, .W1C, 0⟩
def MG_STAT_SOFTLIM : Fd := ⟨.MG_STAT, 9, 9, .W1C, 0⟩
def MG_STAT_REFFAIL : Fd := ⟨.MG_STAT, 8, 8, .W1C, 0⟩
def MG_STAT_EOVER : Fd := ⟨.MG_STAT, 7, 7, .W1C, 0⟩
def MG_TGT_LO : Fd := ⟨.MG_TGT_LO, 31, 0, .RW, 0⟩
def MG_TGT_HI : Fd := ⟨.MG_TGT_HI, 31, 0, .RW, 0⟩
def MG_VMAX_LO : Fd := ⟨.MG_VMAX_LO, 31, 0, .RW, 0⟩
def MG_VMAX_HI : Fd := ⟨.MG_VMAX_HI, 31, 0, .RW, 0⟩
def MG_AMAX_LO : Fd := ⟨.MG_AMAX_LO, 31, 0, .RW, 0⟩
def MG_AMAX_HI : Fd := ⟨.MG_AMAX_HI, 31, 0, .RW, 0⟩
def MG_JMAX_LO : Fd := ⟨.MG_JMAX_LO, 31, 0, .RW, 0⟩
def MG_JMAX_HI : Fd := ⟨.MG_JMAX_HI, 31, 0, .RW, 0⟩
def MG_AQS_LO : Fd := ⟨.MG_AQS_LO, 31, 0, .RW, 0⟩
def MG_AQS_HI : Fd := ⟨.MG_AQS_HI, 31, 0, .RW, 0⟩
def MG_JQS_LO : Fd := ⟨.MG_JQS_LO, 31, 0, .RW, 0⟩
def MG_JQS_HI : Fd := ⟨.MG_JQS_HI, 31, 0, .RW, 0⟩
def MG_SMIN_LO : Fd := ⟨.MG_SMIN_LO, 31, 0, .RW, 0⟩
def MG_SMIN_HI : Fd := ⟨.MG_SMIN_HI, 31, 0, .RW, 0⟩
def MG_SMAX_LO : Fd := ⟨.MG_SMAX_LO, 31, 0, .RW, 0⟩
def MG_SMAX_HI : Fd := ⟨.MG_SMAX_HI, 31, 0, .RW, 0⟩
def MG_POS_LO : Fd := ⟨.MG_POS_LO, 31, 0, .RO, 0⟩
def MG_POS_HI : Fd := ⟨.MG_POS_HI, 31, 0, .RO, 0⟩
def MG_VEL_LO : Fd := ⟨.MG_VEL_LO, 31, 0, .RO, 0⟩
def MG_VEL_HI : Fd := ⟨.MG_VEL_HI, 31, 0, .RO, 0⟩
def MG_ACC_LO : Fd := ⟨.MG_ACC_LO, 31, 0, .RO, 0⟩
def MG_ACC_HI : Fd := ⟨.MG_ACC_HI, 31, 0, .RO, 0⟩
def MG_JRK_LO : Fd := ⟨.MG_JRK_LO, 31, 0, .RO, 0⟩
def MG_JRK_HI : Fd := ⟨.MG_JRK_HI, 31, 0, .RO, 0⟩
def MG_STOP_LO : Fd := ⟨.MG_STOP_LO, 31, 0, .RO, 0⟩
def MG_STOP_HI : Fd := ⟨.MG_STOP_HI, 31, 0, .RO, 0⟩
def MG_QPOS_LO : Fd := ⟨.MG_QPOS_LO, 31, 0, .RW, 0⟩
def MG_QPOS_HI : Fd := ⟨.MG_QPOS_HI, 31, 0, .RW, 0⟩
def MG_QRES_VALID : Fd := ⟨.MG_QRES, 31, 31, .RO, 0⟩
def MG_QRES_REACH : Fd := ⟨.MG_QRES, 30, 30, .RO, 0⟩
def MG_QRES_LIMIT : Fd := ⟨.MG_QRES, 29, 29, .RO, 0⟩
def MG_QRES_ETA : Fd := ⟨.MG_QRES, 23, 0, .RO, 0xFFFFFF⟩
def MG_FERRLIM : Fd := ⟨.MG_FERRLIM, 31, 0, .RW, 0⟩
def MG_FBPOS_LO : Fd := ⟨.MG_FBPOS_LO, 31, 0, .RO, 0⟩
def MG_FBPOS_HI : Fd := ⟨.MG_FBPOS_HI, 31, 0, .RO, 0⟩
def MG_REFPOS_LO : Fd := ⟨.MG_REFPOS_LO, 31, 0, .RW, 0⟩
def MG_REFPOS_HI : Fd := ⟨.MG_REFPOS_HI, 31, 0, .RW, 0⟩
def MG_CAPPOS_LO : Fd := ⟨.MG_CAPPOS_LO, 31, 0, .RO, 0⟩
def MG_CAPPOS_HI : Fd := ⟨.MG_CAPPOS_HI, 31, 0, .RO, 0⟩
def MG_FBK : Fd := ⟨.MG_FBK, 31, 0, .RWS, 0⟩
def MG_ILIM : Fd := ⟨.MG_ILIM, 31, 0, .RW, 0⟩
def MG_GOV_ECAP : Fd := ⟨.MG_GOV, 31, 16, .RW, 0x2710⟩
def MG_GOV_FCAP : Fd := ⟨.MG_GOV, 15, 0, .RW, 0x5DC⟩
def MG_MASS_MASS : Fd := ⟨.MG_MASS, 31, 16, .RWS, 0⟩
def MG_MASS_FUNIT : Fd := ⟨.MG_MASS, 15, 0, .RWS, 0⟩
def MG_MPC : Fd := ⟨.MG_MPC, 31, 0, .RWS, 0⟩
def MG_GOVSTAT_EPLAN : Fd := ⟨.MG_GOVSTAT, 31, 16, .RO, 0⟩
def MG_GOVSTAT_EMEAS : Fd := ⟨.MG_GOVSTAT, 15, 0, .RO, 0⟩
def MG_STEP_CFG_VK : Fd := ⟨.MG_STEP_CFG, 31, 16, .RWS, 0x10⟩
def MG_STEP_CFG_GROUP : Fd := ⟨.MG_STEP_CFG, 11, 8, .RWS, 0⟩
def MG_STEP_CFG_KMAX : Fd := ⟨.MG_STEP_CFG, 3, 0, .RWS, 8⟩
def MG_STEP_CELL_IB : Fd := ⟨.MG_STEP_CELL, 31, 16, .RWS, 0⟩
def MG_STEP_CELL_IA : Fd := ⟨.MG_STEP_CELL, 15, 0, .RWS, 0⟩
def MG_STEP_VDC_VDC : Fd := ⟨.MG_STEP_VDC, 15, 0, .RWS, 0⟩
def MG_STEP_KP : Fd := ⟨.MG_STEP_KP, 31, 0, .RW, 0⟩
def MG_STEP_KI : Fd := ⟨.MG_STEP_KI, 31, 0, .RW, 0⟩
def MG_STEP_RS : Fd := ⟨.MG_STEP_RS, 31, 0, .RWS, 0⟩
def MG_STEP_LS : Fd := ⟨.MG_STEP_LS, 31, 0, .RWS, 0⟩
def MG_STEP_KE : Fd := ⟨.MG_STEP_KE, 31, 0, .RWS, 0⟩
def MG_STEP_I_IMAX : Fd := ⟨.MG_STEP_I, 31, 24, .RW, 0⟩
def MG_STEP_I_IMIN : Fd := ⟨.MG_STEP_I, 23, 16, .RW, 0⟩
def MG_STEP_I_IHOLD : Fd := ⟨.MG_STEP_I, 15, 8, .RW, 0⟩
def MG_STEP_I_IREF : Fd := ⟨.MG_STEP_I, 7, 0, .RW, 0⟩
def MG_STEP_LD_LDHI : Fd := ⟨.MG_STEP_LD, 31, 24, .RW, 0xB0⟩
def MG_STEP_LD_LDLO : Fd := ⟨.MG_STEP_LD, 23, 16, .RW, 0x60⟩
def MG_STEP_LD_ISTEP : Fd := ⟨.MG_STEP_LD, 15, 8, .RW, 0x20⟩
def MG_STEP_LD_HOLDDLY : Fd := ⟨.MG_STEP_LD, 7, 0, .RW, 0x19⟩
def MG_STALL_RHO : Fd := ⟨.MG_STALL, 31, 24, .RW, 0x40⟩
def MG_STALL_STALLN : Fd := ⟨.MG_STALL, 23, 16, .RW, 8⟩
def MG_STALL_VMIN : Fd := ⟨.MG_STALL, 15, 0, .RW, 0x40⟩
def MG_REFCFG_VREF : Fd := ⟨.MG_REFCFG, 31, 16, .RW, 0x80⟩
def MG_REFCFG_REFMAX : Fd := ⟨.MG_REFCFG, 15, 0, .RW, 0⟩
def MG_STEP_STAT_LEVEL : Fd := ⟨.MG_STEP_STAT, 31, 28, .RO, 0⟩
def MG_STEP_STAT_LD : Fd := ⟨.MG_STEP_STAT, 27, 20, .RO, 0⟩
def MG_STEP_STAT_RHOV : Fd := ⟨.MG_STEP_STAT, 19, 12, .RO, 0⟩
def MG_STEP_STAT_ANGLE : Fd := ⟨.MG_STEP_STAT, 9, 0, .RO, 0⟩
def MG_STATE_HALF : Fd := ⟨.MG_STATE, 31, 31, .RO, 0⟩
def MG_STATE_COPYB : Fd := ⟨.MG_STATE, 29, 16, .RWS, 0⟩
def MG_STATE_COPYA : Fd := ⟨.MG_STATE, 13, 0, .RWS, 0⟩

/-! Fields of spec/10_safety.md. -/
def SF_CTL_KEY : Fd := ⟨.SF_CTL, 31, 16, .WO, 0⟩
def SF_CTL_REARM : Fd := ⟨.SF_CTL, 0, 0, .SC, 0⟩
def SF_STAT_RUN : Fd := ⟨.SF_STAT, 31, 31, .RO, 0⟩
def SF_STAT_FIRSTOK : Fd := ⟨.SF_STAT, 30, 30, .RO, 0⟩
def SF_STAT_SSWOPEN : Fd := ⟨.SF_STAT, 29, 29, .RO, 1⟩
def SF_STAT_SOSOK : Fd := ⟨.SF_STAT, 28, 28, .RO, 0⟩
def SF_STAT_CLKWARN : Fd := ⟨.SF_STAT, 27, 27, .RO, 0⟩
def SF_STAT_SPFAULT : Fd := ⟨.SF_STAT, 26, 26, .RO, 0⟩
def SF_STAT_DEGANY : Fd := ⟨.SF_STAT, 25, 25, .RO, 0⟩
def SF_STAT_FAILANY : Fd := ⟨.SF_STAT, 24, 24, .RO, 0⟩
def SF_STAT_SOSV : Fd := ⟨.SF_STAT, 15, 0, .RO, 0⟩
def SF_ASSAY_CYCLES : Fd := ⟨.SF_ASSAY, 31, 16, .RO, 0⟩
def SF_ASSAY_ABANDON : Fd := ⟨.SF_ASSAY, 15, 8, .RO, 0⟩
def SF_ASSAY_SLOT : Fd := ⟨.SF_ASSAY, 4, 0, .RO, 0⟩
def SF_CLK_DEV : Fd := ⟨.SF_CLK, 15, 0, .RO, 0⟩
def SF_DEG_CFG_TIME : Fd := ⟨.SF_DEG_CFG, 9, 0, .RWS, 0⟩
def SF_TP_CFG_TPN : Fd := ⟨.SF_TP_CFG, 31, 16, .RWS, 0⟩
def SF_TP_CFG_TPFAULT : Fd := ⟨.SF_TP_CFG, 7, 4, .RO, 0⟩
def SF_TP_CFG_TPW : Fd := ⟨.SF_TP_CFG, 3, 0, .RWS, 0⟩
def SF_SI_STATE_RAW : Fd := ⟨.SF_SI_STATE, 31, 16, .RO, 0⟩
def SF_SI_STATE_FILT : Fd := ⟨.SF_SI_STATE, 15, 0, .RO, 0⟩
def SF_SI_FAULT_FAULT : Fd := ⟨.SF_SI_FAULT, 15, 0, .RO, 0⟩
def SF_PERMIT : Fd := ⟨.SF_PERMIT, 31, 0, .RO, 0⟩
def SF_DEGRADED : Fd := ⟨.SF_DEGRADED, 31, 0, .RO, 0⟩
def SF_FAILED : Fd := ⟨.SF_FAILED, 31, 0, .RO, 0⟩
def SF_SI_CFG_EN : Fd := ⟨.SF_SI_CFG, 7, 7, .RWS, 0⟩
def SF_SI_CFG_TP : Fd := ⟨.SF_SI_CFG, 6, 4, .RWS, 0⟩
def SF_SI_CFG_FILT : Fd := ⟨.SF_SI_CFG, 0, 0, .RWS, 0⟩
def SF_SO_CFG_EN : Fd := ⟨.SF_SO_CFG, 31, 31, .RWS, 0⟩
def SF_SO_CFG_FN : Fd := ⟨.SF_SO_CFG, 28, 24, .RWS, 0⟩
def SF_SO_CFG_EDMEN : Fd := ⟨.SF_SO_CFG, 15, 15, .RWS, 0⟩
def SF_SO_CFG_EDMSI : Fd := ⟨.SF_SO_CFG, 11, 8, .RWS, 0⟩
def SF_SO_CFG_EDMT : Fd := ⟨.SF_SO_CFG, 7, 0, .RWS, 0⟩
def SF_SO_STAT_STATE : Fd := ⟨.SF_SO_STAT, 31, 30, .RO, 0⟩
def SF_SO_STAT_HSN : Fd := ⟨.SF_SO_STAT, 29, 29, .RO, 0⟩
def SF_SO_STAT_LSN : Fd := ⟨.SF_SO_STAT, 28, 28, .RO, 0⟩
def SF_SO_STAT_HSOPEN : Fd := ⟨.SF_SO_STAT, 27, 27, .RO, 0⟩
def SF_SO_STAT_LSOPEN : Fd := ⟨.SF_SO_STAT, 26, 26, .RO, 0⟩
def SF_SO_STAT_HSCLOSE : Fd := ⟨.SF_SO_STAT, 25, 25, .RO, 0⟩
def SF_SO_STAT_LSCLOSE : Fd := ⟨.SF_SO_STAT, 24, 24, .RO, 0⟩
def SF_SO_STAT_EDMF : Fd := ⟨.SF_SO_STAT, 23, 23, .RO, 0⟩
def SF_SO_STAT_OVL : Fd := ⟨.SF_SO_STAT, 22, 22, .RO, 0⟩
def SF_SO_STAT_MISS : Fd := ⟨.SF_SO_STAT, 21, 21, .RO, 0⟩
def SF_SO_STAT_OVLCNT : Fd := ⟨.SF_SO_STAT, 19, 16, .RO, 0⟩
def SF_MON_CFG_EN : Fd := ⟨.SF_MON_CFG, 31, 31, .RWS, 0⟩
def SF_MON_CFG_SPORT : Fd := ⟨.SF_MON_CFG, 26, 24, .RWS, 0⟩
def SF_MON_CFG_DCELL : Fd := ⟨.SF_MON_CFG, 23, 16, .RWS, 0⟩
def SF_MON_CFG_NAVG : Fd := ⟨.SF_MON_CFG, 15, 12, .RWS, 0⟩
def SF_MON_CFG_DIVT : Fd := ⟨.SF_MON_CFG, 11, 0, .RWS, 0⟩
def SF_MON_K : Fd := ⟨.SF_MON_K, 31, 0, .RWS, 0⟩
def SF_MON_TOL_VTOL : Fd := ⟨.SF_MON_TOL, 31, 16, .RWS, 0⟩
def SF_MON_TOL_PTOL : Fd := ⟨.SF_MON_TOL, 15, 0, .RWS, 0⟩
def SF_MON_SPD : Fd := ⟨.SF_MON_SPD, 31, 0, .RO, 0⟩
def SF_MON_POS : Fd := ⟨.SF_MON_POS, 31, 0, .RO, 0⟩
def SF_MON_DIFF_DV : Fd := ⟨.SF_MON_DIFF, 31, 16, .RO, 0⟩
def SF_MON_DIFF_DP : Fd := ⟨.SF_MON_DIFF, 15, 0, .RO, 0⟩
def SF_MON_STAT_DIVFAIL : Fd := ⟨.SF_MON_STAT, 31, 31, .RO, 0⟩
def SF_MON_STAT_DIVLOST : Fd := ⟨.SF_MON_STAT, 30, 30, .RO, 0⟩
def SF_MON_STAT_ENCERR : Fd := ⟨.SF_MON_STAT, 29, 29, .RO, 0⟩
def SF_MON_STAT_STILLF : Fd := ⟨.SF_MON_STAT, 28, 28, .RO, 0⟩
def SF_MON_STAT_AGREED : Fd := ⟨.SF_MON_STAT, 27, 27, .RO, 0⟩
def SF_MON_STAT_AGE : Fd := ⟨.SF_MON_STAT, 15, 0, .RO, 0xFFFF⟩
def SF_FN_CFG_EN : Fd := ⟨.SF_FN_CFG, 31, 31, .RWS, 0⟩
def SF_FN_CFG_MODE : Fd := ⟨.SF_FN_CFG, 30, 30, .RWS, 0⟩
def SF_FN_CFG_REQCELL : Fd := ⟨.SF_FN_CFG, 23, 16, .RWS, 0⟩
def SF_FN_CFG_REQEN : Fd := ⟨.SF_FN_CFG, 15, 15, .RWS, 0⟩
def SF_TERM_A_OPC : Fd := ⟨.SF_TERM_A, 31, 26, .RWS, 0⟩
def SF_TERM_A_B : Fd := ⟨.SF_TERM_A, 15, 8, .RWS, 0⟩
def SF_TERM_A_A : Fd := ⟨.SF_TERM_A, 7, 0, .RWS, 0⟩
def SF_TERM_B : Fd := ⟨.SF_TERM_B, 31, 0, .RWS, 0⟩
def SF_FN_DEG_DEGOK : Fd := ⟨.SF_FN_DEG, 31, 31, .RWS, 0⟩
def SF_FN_DEG_CAPCH : Fd := ⟨.SF_FN_DEG, 30, 28, .RWS, 0⟩
def SF_FN_DEG_VCAP : Fd := ⟨.SF_FN_DEG, 23, 0, .RWS, 0⟩
def SF_FN_STAT_PERMIT : Fd := ⟨.SF_FN_STAT, 31, 31, .RO, 0⟩
def SF_FN_STAT_DEG : Fd := ⟨.SF_FN_STAT, 30, 30, .RO, 0⟩
def SF_FN_STAT_FAILED : Fd := ⟨.SF_FN_STAT, 29, 29, .RO, 0⟩
def SF_FN_STAT_CAPACT : Fd := ⟨.SF_FN_STAT, 28, 28, .RO, 0⟩
def SF_FN_STAT_TERMS : Fd := ⟨.SF_FN_STAT, 27, 24, .RO, 0⟩
def SF_FN_STAT_CAUSE : Fd := ⟨.SF_FN_STAT, 23, 20, .RO, 0⟩
def SF_FN_STAT_DEGLEFT : Fd := ⟨.SF_FN_STAT, 9, 0, .RO, 0⟩

/-! Fields of spec/13_duplex_and_spares.md. -/
def DX_CFG_RSTMAX : Fd := ⟨.DX_CFG, 11, 8, .RWS, 8⟩
def DX_CFG_TBEN : Fd := ⟨.DX_CFG, 4, 4, .RWS, 1⟩
def DX_CFG_HOME : Fd := ⟨.DX_CFG, 0, 0, .RWS, 0⟩
def DX_STAT_ACTIVE : Fd := ⟨.DX_STAT, 31, 30, .RO, 3⟩
def DX_STAT_GAP : Fd := ⟨.DX_STAT, 29, 29, .RO, 0⟩
def DX_STAT_TBPEND : Fd := ⟨.DX_STAT, 28, 28, .RO, 0⟩
def DX_STAT_STATEB : Fd := ⟨.DX_STAT, 23, 20, .RO, 0⟩
def DX_STAT_STATEA : Fd := ⟨.DX_STAT, 19, 16, .RO, 0⟩
def DX_STAT_FOCNT : Fd := ⟨.DX_STAT, 15, 0, .RO, 0⟩
def DX_SIDE_CAUSE : Fd := ⟨.DX_SIDE, 31, 28, .RO, 0⟩
def DX_SIDE_TB24 : Fd := ⟨.DX_SIDE, 27, 24, .RO, 0⟩
def DX_SIDE_RST24 : Fd := ⟨.DX_SIDE, 23, 16, .RO, 0⟩
def DX_SIDE_GIVEUP : Fd := ⟨.DX_SIDE, 15, 0, .RO, 0⟩
def DX_SYNC_MISMATCH : Fd := ⟨.DX_SYNC, 31, 16, .RO, 0⟩
def DX_SYNC_SCAN : Fd := ⟨.DX_SYNC, 15, 0, .RO, 0⟩
def DX_TBWAIT_FRAMES : Fd := ⟨.DX_TBWAIT, 15, 0, .RO, 0⟩
def DX_LASTFO_LO : Fd := ⟨.DX_LASTFO_LO, 31, 0, .RO, 0⟩
def DX_LASTFO_HI : Fd := ⟨.DX_LASTFO_HI, 31, 0, .RO, 0⟩
def SPR_STAT_LE8ST : Fd := ⟨.SPR_STAT, 31, 28, .RO, 0⟩
def SPR_STAT_LE8FOR : Fd := ⟨.SPR_STAT, 27, 24, .RO, 0xF⟩
def SPR_STAT_MG4ST : Fd := ⟨.SPR_STAT, 23, 20, .RO, 0⟩
def SPR_STAT_MG4FOR : Fd := ⟨.SPR_STAT, 19, 16, .RO, 0xF⟩
def SPR_STAT_FLASHFREE : Fd := ⟨.SPR_STAT, 5, 0, .RO, 0x20⟩
def SPR_WEAR_CFG_GRAFT : Fd := ⟨.SPR_WEAR_CFG, 31, 16, .RWS, 0xF000⟩
def SPR_WEAR_CFG_WARN : Fd := ⟨.SPR_WEAR_CFG, 15, 0, .RWS, 0xC000⟩
def SPR_FLASH_CFG_ERASEMAX : Fd := ⟨.SPR_FLASH_CFG, 16, 0, .RWS, 0x13880⟩
def SPR_LOG_PART : Fd := ⟨.SPR_LOG, 31, 26, .RO, 0x3F⟩
def SPR_LOG_KIND : Fd := ⟨.SPR_LOG, 25, 24, .RO, 0⟩
def SPR_LOG_RELEASE : Fd := ⟨.SPR_LOG, 16, 16, .RO, 0⟩
def SPR_LOG_FRAME : Fd := ⟨.SPR_LOG, 15, 0, .RO, 0⟩
def SPR_PART_STATE : Fd := ⟨.SPR_PART, 31, 29, .RO, 0⟩
def SPR_PART_FOR : Fd := ⟨.SPR_PART, 28, 23, .RO, 0x3F⟩
def SPR_PART_WEAR : Fd := ⟨.SPR_PART, 15, 0, .RO, 0⟩

/-! Fields of spec/19_start_and_power.md. -/
def PWR_CTL_KEY : Fd := ⟨.PWR_CTL, 31, 16, .WO, 0⟩
def PWR_CTL_CLRMIN : Fd := ⟨.PWR_CTL, 1, 1, .WO, 0⟩
def PWR_CTL_SHUT : Fd := ⟨.PWR_CTL, 0, 0, .SC, 0⟩
def PWR_STAT_LFOK : Fd := ⟨.PWR_STAT, 31, 31, .RO, 0⟩
def PWR_STAT_HOLDUP : Fd := ⟨.PWR_STAT, 30, 30, .RO, 0⟩
def PWR_STAT_SHUTOK : Fd := ⟨.PWR_STAT, 29, 29, .RO, 0⟩
def PWR_STAT_HOSTUP : Fd := ⟨.PWR_STAT, 28, 28, .RO, 0⟩
def PWR_STAT_CORESUP : Fd := ⟨.PWR_STAT, 27, 27, .W1C, 0⟩
def PWR_STAT_IOSUP : Fd := ⟨.PWR_STAT, 26, 26, .W1C, 0⟩
def PWR_STAT_LFMEAS : Fd := ⟨.PWR_STAT, 25, 25, .W1C, 0⟩
def PWR_STAT_BARSUP : Fd := ⟨.PWR_STAT, 24, 24, .W1C, 0⟩
def PWR_STAT_HOT : Fd := ⟨.PWR_STAT, 23, 23, .RO, 0⟩
def PWR_STAT_TEMP : Fd := ⟨.PWR_STAT, 15, 8, .RO, 0⟩
def PWR_CFG_HELDT : Fd := ⟨.PWR_CFG, 31, 16, .RWS, 0x30D4⟩
def PWR_CFG_ERSTMAX : Fd := ⟨.PWR_CFG, 7, 4, .RWS, 4⟩
def PWR_LF_LFMIN : Fd := ⟨.PWR_LF, 31, 16, .RO, 0xFFFF⟩
def PWR_LF_LFV : Fd := ⟨.PWR_LF, 15, 0, .RO, 0⟩
def PWR_HOST_HVV : Fd := ⟨.PWR_HOST, 31, 16, .RO, 0⟩
def PWR_HOST_HSTATE : Fd := ⟨.PWR_HOST, 3, 0, .RO, 0⟩
def PWR_CAUSE_CAUSE : Fd := ⟨.PWR_CAUSE, 31, 28, .RO, 0⟩
def PWR_CAUSE_RUNMS : Fd := ⟨.PWR_CAUSE, 15, 0, .RO, 0⟩
def PWR_JFRAME_LO : Fd := ⟨.PWR_JFRAME_LO, 31, 0, .RO, 0⟩
def PWR_JFRAME_HI : Fd := ⟨.PWR_JFRAME_HI, 31, 0, .RO, 0⟩
def PWR_ERST_TOTAL : Fd := ⟨.PWR_ERST, 31, 16, .RO, 0⟩
def PWR_ERST_RST24 : Fd := ⟨.PWR_ERST, 7, 0, .RO, 0⟩

/-! Fields of spec/14_field_buses.md. -/
def CB_CTL_FDEN : Fd := ⟨.CB_CTL, 15, 15, .RWS, 0⟩
def CB_CTL_AUTOREC : Fd := ⟨.CB_CTL, 14, 14, .RWS, 0⟩
def CB_CTL_TERM : Fd := ⟨.CB_CTL, 13, 13, .RWS, 0⟩
def CB_CTL_WAKEMODE : Fd := ⟨.CB_CTL, 12, 12, .RWS, 0⟩
def CB_CTL_AUTOWAKE : Fd := ⟨.CB_CTL, 11, 11, .RWS, 0⟩
def CB_CTL_BOREC : Fd := ⟨.CB_CTL, 2, 2, .SC, 0⟩
def CB_CTL_MODE : Fd := ⟨.CB_CTL, 1, 0, .RW, 0⟩
def CB_STAT_MODE : Fd := ⟨.CB_STAT, 31, 30, .RO, 0⟩
def CB_STAT_INTEG : Fd := ⟨.CB_STAT, 29, 29, .RO, 0⟩
def CB_STAT_CFGERR : Fd := ⟨.CB_STAT, 28, 28, .W1C, 0⟩
def CB_STAT_REFUSED : Fd := ⟨.CB_STAT, 27, 27, .W1C, 0⟩
def CB_STAT_WAKE : Fd := ⟨.CB_STAT, 26, 26, .W1C, 0⟩
def CB_STAT_BOEVT : Fd := ⟨.CB_STAT, 25, 25, .W1C, 0⟩
def CB_STAT_EPEVT : Fd := ⟨.CB_STAT, 24, 24, .W1C, 0⟩
def CB_STAT_AUTOSUSP : Fd := ⟨.CB_STAT, 23, 23, .RO, 0⟩
def CB_STAT_ERRST : Fd := ⟨.CB_STAT, 21, 20, .RO, 0⟩
def CB_STAT_LEC : Fd := ⟨.CB_STAT, 18, 16, .RO, 0⟩
def CB_STAT_TDCV : Fd := ⟨.CB_STAT, 7, 0, .RO, 0⟩
def CB_ERR_BOCNT : Fd := ⟨.CB_ERR, 31, 16, .RO, 0⟩
def CB_ERR_REC : Fd := ⟨.CB_ERR, 15, 8, .RO, 0⟩
def CB_ERR_TEC : Fd := ⟨.CB_ERR, 7, 0, .RO, 0⟩
def CB_NBT_NSJW : Fd := ⟨.CB_NBT, 31, 25, .RWS, 0⟩
def CB_NBT_NTSEG1 : Fd := ⟨.CB_NBT, 24, 17, .RWS, 0⟩
def CB_NBT_NTSEG2 : Fd := ⟨.CB_NBT, 16, 10, .RWS, 0⟩
def CB_NBT_NBRP : Fd := ⟨.CB_NBT, 4, 0, .RWS, 0⟩
def CB_DBT_DSJW : Fd := ⟨.CB_DBT, 31, 28, .RWS, 0⟩
def CB_DBT_DTSEG1 : Fd := ⟨.CB_DBT, 27, 23, .RWS, 0⟩
def CB_DBT_DTSEG2 : Fd := ⟨.CB_DBT, 22, 19, .RWS, 0⟩
def CB_DBT_TDC : Fd := ⟨.CB_DBT, 16, 16, .RWS, 0⟩
def CB_DBT_TDCO : Fd := ⟨.CB_DBT, 15, 8, .RWS, 0⟩
def CB_DBT_DBRP : Fd := ⟨.CB_DBT, 4, 0, .RWS, 0⟩
def CB_TT_CFG_EN : Fd := ⟨.CB_TT_CFG, 7, 7, .RWS, 0⟩
def CB_TT_CFG_COLF : Fd := ⟨.CB_TT_CFG, 5, 0, .RWS, 0⟩
def CB_TT_STAT_COL : Fd := ⟨.CB_TT_STAT, 9, 4, .RO, 0⟩
def CB_TT_STAT_BC : Fd := ⟨.CB_TT_STAT, 3, 0, .RO, 0⟩
def CB_CNT_RXOK : Fd := ⟨.CB_CNT, 31, 16, .RO, 0⟩
def CB_CNT_DROP : Fd := ⟨.CB_CNT, 15, 0, .RO, 0⟩
def CB_MCNT_MISS : Fd := ⟨.CB_MCNT, 31, 16, .RO, 0⟩
def CB_MCNT_TXFAIL : Fd := ⟨.CB_MCNT, 15, 0, .RO, 0⟩
def CB_WAKE_ID_IDE : Fd := ⟨.CB_WAKE_ID, 31, 31, .RWS, 0⟩
def CB_WAKE_ID_ID : Fd := ⟨.CB_WAKE_ID, 28, 0, .RWS, 0⟩
def CB_WAKE_IDM_MASK : Fd := ⟨.CB_WAKE_IDM, 28, 0, .RWS, 0⟩
def CB_WAKE_DLC_DLCCHK : Fd := ⟨.CB_WAKE_DLC, 4, 4, .RWS, 0⟩
def CB_WAKE_DLC_DLC : Fd := ⟨.CB_WAKE_DLC, 3, 0, .RWS, 0⟩
def CB_WAKE_D0 : Fd := ⟨.CB_WAKE_D0, 31, 0, .RWS, 0⟩
def CB_WAKE_D1 : Fd := ⟨.CB_WAKE_D1, 31, 0, .RWS, 0⟩
def CB_NEWDAT : Fd := ⟨.CB_NEWDAT, 31, 0, .RO, 0⟩
def CB_COL_KIND15 : Fd := ⟨.CB_COL, 31, 30, .RWS, 0⟩
def CB_COL_KIND14 : Fd := ⟨.CB_COL, 29, 28, .RWS, 0⟩
def CB_COL_KIND13 : Fd := ⟨.CB_COL, 27, 26, .RWS, 0⟩
def CB_COL_KIND12 : Fd := ⟨.CB_COL, 25, 24, .RWS, 0⟩
def CB_COL_KIND11 : Fd := ⟨.CB_COL, 23, 22, .RWS, 0⟩
def CB_COL_KIND10 : Fd := ⟨.CB_COL, 21, 20, .RWS, 0⟩
def CB_COL_KIND9 : Fd := ⟨.CB_COL, 19, 18, .RWS, 0⟩
def CB_COL_KIND8 : Fd := ⟨.CB_COL, 17, 16, .RWS, 0⟩
def CB_COL_KIND7 : Fd := ⟨.CB_COL, 15, 14, .RWS, 0⟩
def CB_COL_KIND6 : Fd := ⟨.CB_COL, 13, 12, .RWS, 0⟩
def CB_COL_KIND5 : Fd := ⟨.CB_COL, 11, 10, .RWS, 0⟩
def CB_COL_KIND4 : Fd := ⟨.CB_COL, 9, 8, .RWS, 0⟩
def CB_COL_KIND3 : Fd := ⟨.CB_COL, 7, 6, .RWS, 0⟩
def CB_COL_KIND2 : Fd := ⟨.CB_COL, 5, 4, .RWS, 0⟩
def CB_COL_KIND1 : Fd := ⟨.CB_COL, 3, 2, .RWS, 0⟩
def CB_COL_KIND0 : Fd := ⟨.CB_COL, 1, 0, .RWS, 0⟩
def CB_BUF_CFG_TYPE : Fd := ⟨.CB_BUF_CFG, 31, 30, .RWS, 0⟩
def CB_BUF_CFG_SCHED : Fd := ⟨.CB_BUF_CFG, 29, 29, .RWS, 0⟩
def CB_BUF_CFG_REP : Fd := ⟨.CB_BUF_CFG, 28, 26, .RWS, 0⟩
def CB_BUF_CFG_OFS : Fd := ⟨.CB_BUF_CFG, 25, 22, .RWS, 0⟩
def CB_BUF_CFG_CSTEP : Fd := ⟨.CB_BUF_CFG, 21, 19, .RWS, 0⟩
def CB_BUF_CFG_COL : Fd := ⟨.CB_BUF_CFG, 18, 13, .RWS, 0⟩
def CB_BUF_CFG_DLC : Fd := ⟨.CB_BUF_CFG, 12, 9, .RWS, 0⟩
def CB_BUF_CFG_DOFS : Fd := ⟨.CB_BUF_CFG, 8, 0, .RWS, 0⟩
def CB_BUF_ID_IDE : Fd := ⟨.CB_BUF_ID, 31, 31, .RWS, 0⟩
def CB_BUF_ID_FDF : Fd := ⟨.CB_BUF_ID, 30, 30, .RWS, 0⟩
def CB_BUF_ID_BRS : Fd := ⟨.CB_BUF_ID, 29, 29, .RWS, 0⟩
def CB_BUF_ID_ID : Fd := ⟨.CB_BUF_ID, 28, 0, .RWS, 0⟩
def CB_BUF_STAT_FRAME : Fd := ⟨.CB_BUF_STAT, 31, 16, .RO, 0⟩
def CB_BUF_STAT_NEWDAT : Fd := ⟨.CB_BUF_STAT, 15, 15, .W1C, 0⟩
def CB_BUF_STAT_MSGLOST : Fd := ⟨.CB_BUF_STAT, 14, 14, .W1C, 0⟩
def CB_BUF_STAT_OVSZ : Fd := ⟨.CB_BUF_STAT, 13, 13, .W1C, 0⟩
def CB_BUF_STAT_STALE : Fd := ⟨.CB_BUF_STAT, 12, 12, .RO, 0⟩
def CB_BUF_STAT_MISS : Fd := ⟨.CB_BUF_STAT, 11, 11, .W1C, 0⟩
def CB_BUF_STAT_TXFAIL : Fd := ⟨.CB_BUF_STAT, 10, 10, .W1C, 0⟩
def CB_BUF_STAT_ARMED : Fd := ⟨.CB_BUF_STAT, 9, 9, .RO, 0⟩
def CB_BUF_STAT_TXRQ : Fd := ⟨.CB_BUF_STAT, 8, 8, .SC, 0⟩
def CB_BUF_STAT_RXDLC : Fd := ⟨.CB_BUF_STAT, 7, 4, .RO, 0⟩
def CB_BUF_STAT_ESI : Fd := ⟨.CB_BUF_STAT, 3, 3, .RO, 0⟩
def CB_BUF_STAT_RXFD : Fd := ⟨.CB_BUF_STAT, 2, 2, .RO, 0⟩
def CB_DATA : Fd := ⟨.CB_DATA, 31, 0, .RW, 0⟩

/-! Fields of spec/15_signal_streams.md. -/
def AQ_CTL_CLRCNT : Fd := ⟨.AQ_CTL, 0, 0, .WO, 0⟩
def AQ_STAT_CFGID : Fd := ⟨.AQ_STAT, 31, 16, .RO, 0⟩
def AQ_STAT_ACTIVE : Fd := ⟨.AQ_STAT, 11, 8, .RO, 0⟩
def AQ_STAT_PEND : Fd := ⟨.AQ_STAT, 7, 7, .RO, 0⟩
def AQ_STAT_QFULL : Fd := ⟨.AQ_STAT, 6, 6, .W1C, 0⟩
def AQ_STAT_GAPANY : Fd := ⟨.AQ_STAT, 5, 5, .W1C, 0⟩
def AQ_STAT_RUN : Fd := ⟨.AQ_STAT, 0, 0, .RO, 0⟩
def AQ_SEQ : Fd := ⟨.AQ_SEQ, 31, 0, .RO, 0⟩
def AQ_QUEUE_PEAK : Fd := ⟨.AQ_QUEUE, 31, 16, .RO, 0⟩
def AQ_QUEUE_DEPTH : Fd := ⟨.AQ_QUEUE, 15, 0, .RO, 0⟩
def AQ_WIN_SLOTS : Fd := ⟨.AQ_WIN, 31, 16, .RO, 0⟩
def AQ_WIN_INGOTS : Fd := ⟨.AQ_WIN, 15, 0, .RO, 0⟩
def AQ_STM_STAT_LOST : Fd := ⟨.AQ_STM_STAT, 31, 16, .RO, 0⟩
def AQ_STM_STAT_MDROP : Fd := ⟨.AQ_STM_STAT, 15, 8, .RO, 0⟩
def AQ_STM_STAT_MWAIT : Fd := ⟨.AQ_STM_STAT, 7, 0, .RO, 0⟩
def AQ_TRG_STAT_COUNT : Fd := ⟨.AQ_TRG_STAT, 31, 16, .RO, 0⟩
def AQ_TRG_STAT_ARMED : Fd := ⟨.AQ_TRG_STAT, 0, 0, .RO, 0⟩
def AQ_STM_CFG_AGE : Fd := ⟨.AQ_STM_CFG, 31, 16, .RO, 0⟩
def AQ_STM_CFG_TRGMASK : Fd := ⟨.AQ_STM_CFG, 15, 8, .RO, 0⟩
def AQ_STM_CFG_EN : Fd := ⟨.AQ_STM_CFG, 7, 7, .RO, 0⟩
def AQ_STM_CFG_NSRC : Fd := ⟨.AQ_STM_CFG, 6, 0, .RO, 0⟩
def AQ_SRC_ID : Fd := ⟨.AQ_SRC, 31, 16, .RO, 0⟩
def AQ_SRC_KIND : Fd := ⟨.AQ_SRC, 13, 12, .RO, 0⟩
def AQ_SRC_DLOG : Fd := ⟨.AQ_SRC, 11, 8, .RO, 0⟩
def AQ_SRC_SAMP : Fd := ⟨.AQ_SRC, 4, 0, .RO, 0⟩
def AQ_SRCPH_PH : Fd := ⟨.AQ_SRCPH, 9, 0, .RO, 0⟩
def AQ_TRG_CFG_CELL : Fd := ⟨.AQ_TRG_CFG, 31, 16, .RO, 0⟩
def AQ_TRG_CFG_AUTO : Fd := ⟨.AQ_TRG_CFG, 11, 11, .RO, 0⟩
def AQ_TRG_CFG_COND : Fd := ⟨.AQ_TRG_CFG, 10, 8, .RO, 0⟩
def AQ_TRG_LVL : Fd := ⟨.AQ_TRG_LVL, 31, 0, .RO, 0⟩
def AQ_TRG_HYS : Fd := ⟨.AQ_TRG_HYS, 31, 0, .RO, 0⟩
def AQ_TRG_TIM_TMO : Fd := ⟨.AQ_TRG_TIM, 31, 16, .RO, 0⟩
def AQ_TRG_TIM_HOLD : Fd := ⟨.AQ_TRG_TIM, 15, 0, .RO, 0⟩

/-! Fields of spec/16_event_log_and_ledger.md. -/
def EV_CFG_RATE : Fd := ⟨.EV_CFG, 7, 0, .RW, 0⟩
def EV_STAT_FULL : Fd := ⟨.EV_STAT, 31, 31, .RO, 0⟩
def EV_STAT_FULLP : Fd := ⟨.EV_STAT, 30, 30, .RO, 0⟩
def EV_STAT_COUNT : Fd := ⟨.EV_STAT, 14, 0, .RO, 0⟩
def EV_LOST : Fd := ⟨.EV_LOST, 31, 0, .RO, 0⟩
def EV_LOSTP : Fd := ⟨.EV_LOSTP, 31, 0, .RO, 0⟩
def EV_CURSOR_CURSOR : Fd := ⟨.EV_CURSOR, 14, 0, .RW, 0⟩
def EV_WIN : Fd := ⟨.EV_WIN, 31, 0, .RO, 0⟩
def LG_STAT_CALVALID : Fd := ⟨.LG_STAT, 31, 31, .RO, 0⟩
def LG_STAT_CELLLOW : Fd := ⟨.LG_STAT, 30, 30, .RO, 0⟩
def LG_STAT_DUE : Fd := ⟨.LG_STAT, 29, 29, .RO, 0⟩
def LG_STAT_OVERDUE : Fd := ⟨.LG_STAT, 28, 28, .RO, 0⟩
def LG_STAT_MIRRERR : Fd := ⟨.LG_STAT, 27, 27, .W1C, 0⟩
def LG_STAT_RESTORED : Fd := ⟨.LG_STAT, 26, 26, .RO, 0⟩
def LG_STAT_MIRRAGE : Fd := ⟨.LG_STAT, 15, 0, .RO, 0⟩
def LG_CAL_LO : Fd := ⟨.LG_CAL_LO, 31, 0, .RO, 0⟩
def LG_CAL_HI : Fd := ⟨.LG_CAL_HI, 31, 0, .RO, 0⟩
def LG_INSP_LO : Fd := ⟨.LG_INSP_LO, 31, 0, .RO, 0⟩
def LG_INSP_HI : Fd := ⟨.LG_INSP_HI, 31, 0, .RO, 0⟩
def LG_CFG_WARN : Fd := ⟨.LG_CFG, 15, 0, .RW, 0⟩
def LG_MIRROR : Fd := ⟨.LG_MIRROR, 31, 0, .RO, 0⟩
def LG_WEAR_WEAR : Fd := ⟨.LG_WEAR, 15, 0, .RO, 0⟩
def LG_CNT_LO : Fd := ⟨.LG_CNT_LO, 31, 0, .RO, 0⟩
def LG_CNT_HI : Fd := ⟨.LG_CNT_HI, 31, 0, .RO, 0⟩

/-! Fields of spec/17_zenxon_link.md. -/
def ZL_CFG_SESSTMO : Fd := ⟨.ZL_CFG, 15, 0, .RW, 0⟩
def ZL_STAT_JOINED : Fd := ⟨.ZL_STAT, 31, 31, .RO, 0⟩
def ZL_STAT_WRAP : Fd := ⟨.ZL_STAT, 30, 30, .RO, 0⟩
def ZL_STAT_WRAPDIR : Fd := ⟨.ZL_STAT, 29, 29, .RO, 0⟩
def ZL_STAT_DUP : Fd := ⟨.ZL_STAT, 28, 28, .RO, 0⟩
def ZL_STAT_TVALID : Fd := ⟨.ZL_STAT, 27, 27, .RO, 0⟩
def ZL_STAT_PORTA : Fd := ⟨.ZL_STAT, 26, 26, .RO, 0⟩
def ZL_STAT_PORTB : Fd := ⟨.ZL_STAT, 25, 25, .RO, 0⟩
def ZL_STAT_GROUP : Fd := ⟨.ZL_STAT, 24, 24, .RO, 0⟩
def ZL_STAT_NSESS : Fd := ⟨.ZL_STAT, 5, 0, .RO, 0⟩
def ZL_TIMING_HTMIN : Fd := ⟨.ZL_TIMING, 31, 16, .RO, 0⟩
def ZL_TIMING_SHARE : Fd := ⟨.ZL_TIMING, 15, 8, .RO, 0⟩
def ZL_TIMING_RDLY : Fd := ⟨.ZL_TIMING, 7, 0, .RO, 0⟩
def ZL_CYCLE : Fd := ⟨.ZL_CYCLE, 31, 0, .RO, 0⟩
def ZL_SYST_LO : Fd := ⟨.ZL_SYST_LO, 31, 0, .RO, 0⟩
def ZL_SYST_HI : Fd := ⟨.ZL_SYST_HI, 31, 0, .RO, 0⟩
def ZL_DLY_DB : Fd := ⟨.ZL_DLY, 31, 16, .RO, 0⟩
def ZL_DLY_DA : Fd := ⟨.ZL_DLY, 15, 0, .RO, 0⟩
def ZL_PORT_LOCK : Fd := ⟨.ZL_PORT, 31, 31, .RO, 0⟩
def ZL_PORT_BEACON : Fd := ⟨.ZL_PORT, 30, 30, .RO, 0⟩
def ZL_PORT_CRCERR : Fd := ⟨.ZL_PORT, 15, 0, .RO, 0⟩
def ZL_DN_DUPREQ : Fd := ⟨.ZL_DN, 31, 16, .RO, 0⟩
def ZL_DN_BADPKT : Fd := ⟨.ZL_DN, 15, 0, .RO, 0⟩
def ZL_UP_RESENT : Fd := ⟨.ZL_UP, 31, 16, .RO, 0⟩
def ZL_UP_ABANDON : Fd := ⟨.ZL_UP, 15, 0, .RO, 0⟩
def ZL_CACHE_HITS : Fd := ⟨.ZL_CACHE, 31, 16, .RO, 0⟩
def ZL_CACHE_ENTRIES : Fd := ⟨.ZL_CACHE, 8, 0, .RO, 0⟩
def ZL_SESS_VALID : Fd := ⟨.ZL_SESS, 31, 31, .RO, 0⟩
def ZL_SESS_ROLE : Fd := ⟨.ZL_SESS, 30, 29, .RO, 0⟩
def ZL_SESS_IDLE : Fd := ⟨.ZL_SESS, 28, 16, .RO, 0⟩
def ZL_SESS_SRC : Fd := ⟨.ZL_SESS, 15, 0, .RO, 0⟩

/-! Fields of spec/18_update.md. -/
def UPD_STAT_STATE : Fd := ⟨.UPD_STAT, 31, 28, .RO, 0⟩
def UPD_STAT_SAFETY : Fd := ⟨.UPD_STAT, 27, 27, .RO, 0⟩
def UPD_STAT_CFGONLY : Fd := ⟨.UPD_STAT, 26, 26, .RO, 0⟩
def UPD_STAT_ROLLBACK : Fd := ⟨.UPD_STAT, 25, 25, .RO, 0⟩
def UPD_STAT_INPLACE : Fd := ⟨.UPD_STAT, 24, 24, .RO, 0⟩
def UPD_STAT_ACTCNT : Fd := ⟨.UPD_STAT, 15, 0, .RO, 0⟩
def UPD_MANID : Fd := ⟨.UPD_MANID, 31, 0, .RO, 0⟩
def UPD_VER_FLAGS : Fd := ⟨.UPD_VER, 31, 24, .RO, 0⟩
def UPD_VER_MAJOR : Fd := ⟨.UPD_VER, 23, 16, .RO, 0⟩
def UPD_VER_MINOR : Fd := ⟨.UPD_VER, 15, 8, .RO, 0⟩
def UPD_VER_BUILD : Fd := ⟨.UPD_VER, 7, 0, .RO, 0⟩
def UPD_FRAME_LO : Fd := ⟨.UPD_FRAME_LO, 31, 0, .RO, 0⟩
def UPD_FRAME_HI : Fd := ⟨.UPD_FRAME_HI, 31, 0, .RO, 0⟩
def UPD_REQ_ENG : Fd := ⟨.UPD_REQ, 18, 0, .RO, 0⟩
def UPD_READY_ENG : Fd := ⟨.UPD_READY, 18, 0, .RO, 0⟩
def UPD_SHADOW_ENG : Fd := ⟨.UPD_SHADOW, 18, 0, .RO, 0⟩
def UPD_PROG : Fd := ⟨.UPD_PROG, 31, 0, .RO, 0⟩
def UPD_ERR_CODE : Fd := ⟨.UPD_ERR, 31, 24, .RO, 0⟩
def UPD_ERR_WHERE : Fd := ⟨.UPD_ERR, 23, 16, .RO, 0⟩
def UPD_BOOT_ASTATE : Fd := ⟨.UPD_BOOT, 31, 30, .RO, 1⟩
def UPD_BOOT_BSTATE : Fd := ⟨.UPD_BOOT, 29, 28, .RO, 0⟩
def UPD_BOOT_FELLBACK : Fd := ⟨.UPD_BOOT, 27, 27, .W1C, 0⟩
def UPD_LASTF_LO : Fd := ⟨.UPD_LASTF_LO, 31, 0, .RO, 0⟩
def UPD_LASTF_HI : Fd := ⟨.UPD_LASTF_HI, 31, 0, .RO, 0⟩

/-! Fields of spec/12_scan_programs.md. -/
def PRM_CELL : Fd := ⟨.PRM_CELL, 31, 0, .RW, 0⟩

end F

/-- The fields of a register that are not reserved (reserved bits read 0, R7). -/
def R.flds : R → List Fd
  | .DEV_ID => [F.DEV_ID_PART, F.DEV_ID_ISSUE, F.DEV_ID_VARIANT]
  | .DEV_SERIAL_LO => [F.DEV_SERIAL_LO]
  | .DEV_SERIAL_HI => [F.DEV_SERIAL_HI]
  | .DEV_FW => [F.DEV_FW_SLOT, F.DEV_FW_MAJOR, F.DEV_FW_MINOR, F.DEV_FW_BUILD]
  | .DEV_ADDR => [F.DEV_ADDR_RING, F.DEV_ADDR_NODE]
  | .DEV_CTL => [F.DEV_CTL_KEY, F.DEV_CTL_MARK, F.DEV_CTL_HOST_RST]
  | .DEV_STATE => [F.DEV_STATE_STANDBY_OK, F.DEV_STATE_HALLMARK_OK, F.DEV_STATE_KEY_OK, F.DEV_STATE_STATE]
  | .DEV_ENG_RUN => [F.DEV_ENG_RUN_RUN]
  | .DEV_ENG_FAULT => [F.DEV_ENG_FAULT_FAULT]
  | .DEV_OWN_VIOL => [F.DEV_OWN_VIOL_VALID, F.DEV_OWN_VIOL_COUNT, F.DEV_OWN_VIOL_KIND, F.DEV_OWN_VIOL_ENGINE, F.DEV_OWN_VIOL_INDEX]
  | .DEV_BAR_STAT => [F.DEV_BAR_STAT_SPARE_FOR, F.DEV_BAR_STAT_FAILED, F.DEV_BAR_STAT_INSERV]
  | .DEV_BAR_ERR => [F.DEV_BAR_ERR_RESENT, F.DEV_BAR_ERR_CRCERR]
  | .DEV_ROLE_STAT => [F.DEV_ROLE_STAT_FAILS, F.DEV_ROLE_STAT_COM_SET, F.DEV_ROLE_STAT_MNT_SET, F.DEV_ROLE_STAT_OBS_SET]
  | .DEV_SCRATCH => [F.DEV_SCRATCH]
  | .FRM_CTL => [F.FRM_CTL_LOCK]
  | .FRM_STAT => [F.FRM_STAT_LOCK_REFUSED, F.FRM_STAT_HOLDOVER, F.FRM_STAT_LOCKED, F.FRM_STAT_ACQUIRING, F.FRM_STAT_OVR_ANY, F.FRM_STAT_RUN]
  | .FRM_LEN => [F.FRM_LEN_PDIV, F.FRM_LEN_LEN]
  | .FRM_CNT_LO => [F.FRM_CNT_LO]
  | .FRM_CNT_HI => [F.FRM_CNT_HI]
  | .FRM_SUB => [F.FRM_SUB_PDIV, F.FRM_SUB_SUB]
  | .FRM_LOCK_OFS => [F.FRM_LOCK_OFS_OFS]
  | .FRM_LOCK_ERR => [F.FRM_LOCK_ERR]
  | .FRM_SYST_LO => [F.FRM_SYST_LO]
  | .FRM_SYST_HI => [F.FRM_SYST_HI]
  | .FRM_OVR_CFG => [F.FRM_OVR_CFG_WIN, F.FRM_OVR_CFG_CONSEC]
  | .FRM_BUD => [F.FRM_BUD_VALID, F.FRM_BUD_BUDGET]
  | .FRM_USE => [F.FRM_USE_LAST]
  | .FRM_PEAK => [F.FRM_PEAK_CLR, F.FRM_PEAK_PEAK]
  | .FRM_OVR => [F.FRM_OVR_TOTAL, F.FRM_OVR_WINCNT, F.FRM_OVR_RUN]
  | .MEM_ARB_CFG => [F.MEM_ARB_CFG_TMO, F.MEM_ARB_CFG_FAIR]
  | .MEM_STAT => [F.MEM_STAT_TMO_ANY, F.MEM_STAT_MPU_ANY, F.MEM_STAT_DED_ANY, F.MEM_STAT_CE_ANY]
  | .MEM_ECC_CFG => [F.MEM_ECC_CFG_SCRUB, F.MEM_ECC_CFG_CE_GRAFT]
  | .MEM_CLR => [F.MEM_CLR_PEAKS]
  | .MEM_BANK_STAT => [F.MEM_BANK_STAT_CE, F.MEM_BANK_STAT_DED, F.MEM_BANK_STAT_SPARE_FREE]
  | .MEM_ERR_ADDR => [F.MEM_ERR_ADDR_VALID, F.MEM_ERR_ADDR_KIND, F.MEM_ERR_ADDR_REQ, F.MEM_ERR_ADDR_SPARE, F.MEM_ERR_ADDR_ADDR]
  | .MEM_SCRUB => [F.MEM_SCRUB_LASTPASS, F.MEM_SCRUB_ROW]
  | .MEM_ARB_PEAK => [F.MEM_ARB_PEAK_PEAKL, F.MEM_ARB_PEAK_PEAK0]
  | .MEM_REV_CNT => [F.MEM_REV_CNT]
  | .MEM_BOUND => [F.MEM_BOUND_WL, F.MEM_BOUND_W0]
  | .MEM_MPU_SEL => [F.MEM_MPU_SEL_REQ]
  | .MEM_MPU_VIOL => [F.MEM_MPU_VIOL_VALID, F.MEM_MPU_VIOL_COUNT, F.MEM_MPU_VIOL_WRITE, F.MEM_MPU_VIOL_REQ]
  | .MEM_MPU_VADDR => [F.MEM_MPU_VADDR]
  | .MEM_MPU_BASE => [F.MEM_MPU_BASE_BASE]
  | .MEM_MPU_LIM => [F.MEM_MPU_LIM_LIM, F.MEM_MPU_LIM_W, F.MEM_MPU_LIM_RD, F.MEM_MPU_LIM_EN]
  | .MEM_DMA_CTL => [F.MEM_DMA_CTL_TRIG, F.MEM_DMA_CTL_STOP, F.MEM_DMA_CTL_GO]
  | .MEM_DMA_DESC => [F.MEM_DMA_DESC_DESC]
  | .MEM_DMA_STAT => [F.MEM_DMA_STAT_STATE, F.MEM_DMA_STAT_FAIRONLY, F.MEM_DMA_STAT_REV, F.MEM_DMA_STAT_POS]
  | .MEM_DMA_ERR => [F.MEM_DMA_ERR]
  | .TRM_CTL => [F.TRM_CTL_CLRALL]
  | .TRM_STAT => [F.TRM_STAT_OFFT_T, F.TRM_STAT_VISIT, F.TRM_STAT_GFAULT]
  | .TRM_CHK_CFG => [F.TRM_CHK_CFG_SETTLE]
  | .TRM_IN => [F.TRM_IN]
  | .TRM_RAW => [F.TRM_RAW]
  | .TRM_OUT => [F.TRM_OUT]
  | .TRM_DRV => [F.TRM_DRV]
  | .TRM_FSUM => [F.TRM_FSUM]
  | .TRM_GRP_CFG => [F.TRM_GRP_CFG_WDOG]
  | .TRM_GRP_STAT => [F.TRM_GRP_STAT_OSV, F.TRM_GRP_STAT_WDEXP, F.TRM_GRP_STAT_WDEVT, F.TRM_GRP_STAT_BAND]
  | .TRM_CFG => [F.TRM_CFG_FILT, F.TRM_CFG_SAFE, F.TRM_CFG_OFFT, F.TRM_CFG_CROSSCHK, F.TRM_CFG_TYPE, F.TRM_CFG_MODE]
  | .TRM_TSTAT => [F.TRM_TSTAT_PARTNER, F.TRM_TSTAT_CROSS, F.TRM_TSTAT_OPEN, F.TRM_TSTAT_EXT_HIGH, F.TRM_TSTAT_OFFT_FAIL, F.TRM_TSTAT_RB_LOW, F.TRM_TSTAT_THERMAL, F.TRM_TSTAT_OVERLOAD, F.TRM_TSTAT_SETTLED, F.TRM_TSTAT_DRV]
  | .TRM_VOLT => [F.TRM_VOLT_FRAME, F.TRM_VOLT_MV]
  | .ADC_CTL => [F.ADC_CTL_STEP]
  | .ADC_STAT => [F.ADC_STAT_TCFAIL, F.ADC_STAT_REFNS_ANY, F.ADC_STAT_TRGMISS_ANY, F.ADC_STAT_SUS_ANY, F.ADC_STAT_OVR_ANY, F.ADC_STAT_NOSPARE, F.ADC_STAT_RUN]
  | .ADC_REF_CFG => [F.ADC_REF_CFG_SETTLE, F.ADC_REF_CFG_AVS_EN, F.ADC_REF_CFG_EXT_EN]
  | .ADC_REF_STAT => [F.ADC_REF_STAT_AVS_ILIM, F.ADC_REF_STAT_AVS_OK, F.ADC_REF_STAT_EXT_OK, F.ADC_REF_STAT_INT_OK]
  | .ADC_ANNEAL_CFG => [F.ADC_ANNEAL_CFG_DWELL, F.ADC_ANNEAL_CFG_TOL, F.ADC_ANNEAL_CFG_EN]
  | .ADC_ANNEAL_STAT => [F.ADC_ANNEAL_STAT_SPARE, F.ADC_ANNEAL_STAT_NEXTROLE, F.ADC_ANNEAL_STAT_RETRY, F.ADC_ANNEAL_STAT_PHASE, F.ADC_ANNEAL_STAT_COUNT]
  | .ADC_ROLE_CFG => [F.ADC_ROLE_CFG_BURST, F.ADC_ROLE_CFG_EDGE, F.ADC_ROLE_CFG_GROUP, F.ADC_ROLE_CFG_PAIR, F.ADC_ROLE_CFG_TRIG]
  | .ADC_MASK_LO => [F.ADC_MASK_LO]
  | .ADC_MASK_HI => [F.ADC_MASK_HI_MASK]
  | .ADC_ROLE_TRG => [F.ADC_ROLE_TRG_PER, F.ADC_ROLE_TRG_OFS]
  | .ADC_ROLE_STAT => [F.ADC_ROLE_STAT_SLICE, F.ADC_ROLE_STAT_BUSY, F.ADC_ROLE_STAT_TRGMISS]
  | .ADC_SLICE_STAT => [F.ADC_SLICE_STAT_STATE, F.ADC_SLICE_STAT_ROLE, F.ADC_SLICE_STAT_GAIN, F.ADC_SLICE_STAT_OFS]
  | .ADC_CH_CFG => [F.ADC_CH_CFG_REF, F.ADC_CH_CFG_RANGE]
  | .ADC_RES => [F.ADC_RES_OVR, F.ADC_RES_SUS, F.ADC_RES_REFNS, F.ADC_RES_STALE, F.ADC_RES_CNT, F.ADC_RES_SLICE, F.ADC_RES_CODE]
  | .ADC_TC_LIM => [F.ADC_TC_LIM_HI, F.ADC_TC_LIM_LO]
  | .ADC_EP_CFG => [F.ADC_EP_CFG_FILT, F.ADC_EP_CFG_INV, F.ADC_EP_CFG_ZCAP, F.ADC_EP_CFG_MODE]
  | .ADC_EP_SSI => [F.ADC_EP_SSI_EVERY, F.ADC_EP_SSI_MONO, F.ADC_EP_SSI_CLKDIV, F.ADC_EP_SSI_ERRBIT, F.ADC_EP_SSI_GRAY, F.ADC_EP_SSI_BITS]
  | .ADC_EP_POS => [F.ADC_EP_POS]
  | .ADC_EP_IDX => [F.ADC_EP_IDX]
  | .ADC_EP_EDGE => [F.ADC_EP_EDGE_NONE, F.ADC_EP_EDGE_PREV, F.ADC_EP_EDGE_SUB]
  | .ADC_EP_STAT => [F.ADC_EP_STAT_AMP, F.ADC_EP_STAT_VALID, F.ADC_EP_STAT_OLD, F.ADC_EP_STAT_SSIERR, F.ADC_EP_STAT_AMPERR, F.ADC_EP_STAT_ILLEGAL, F.ADC_EP_STAT_LINE, F.ADC_EP_STAT_ZSEEN]
  | .PWM_CTL => [F.PWM_CTL_CLRCNT]
  | .PWM_STAT => [F.PWM_STAT_GFAULT, F.PWM_STAT_NOSPARE, F.PWM_STAT_BADWR_ANY, F.PWM_STAT_RESCALED_ANY, F.PWM_STAT_RUN]
  | .PWM_ANNEAL_CFG => [F.PWM_ANNEAL_CFG_DWELL, F.PWM_ANNEAL_CFG_EN]
  | .PWM_ANNEAL_STAT => [F.PWM_ANNEAL_STAT_PHASE, F.PWM_ANNEAL_STAT_COUNT]
  | .PWM_GRP_CFG => [F.PWM_GRP_CFG_GFFILT, F.PWM_GRP_CFG_OWNER, F.PWM_GRP_CFG_LOAD, F.PWM_GRP_CFG_SAFE, F.PWM_GRP_CFG_SYNC, F.PWM_GRP_CFG_POL]
  | .PWM_GRP_TIME => [F.PWM_GRP_TIME_MINP, F.PWM_GRP_TIME_DT]
  | .PWM_GRP_PHASE => [F.PWM_GRP_PHASE_PHASE]
  | .PWM_GRP_TOP => [F.PWM_GRP_TOP_TOP]
  | .PWM_GRP_CTL => [F.PWM_GRP_CTL_EN]
  | .PWM_GRP_STAT => [F.PWM_GRP_STAT_FAULT, F.PWM_GRP_STAT_GFIN, F.PWM_GRP_STAT_ENOUT, F.PWM_GRP_STAT_STATE, F.PWM_GRP_STAT_RESCALED, F.PWM_GRP_STAT_BADWR, F.PWM_GRP_STAT_SYNCLAG]
  | .PWM_GRP_ACT => [F.PWM_GRP_ACT_TOP]
  | .PWM_GRP_CNT => [F.PWM_GRP_CNT_SUPP, F.PWM_GRP_CNT_SKIP]
  | .PWM_CMP => [F.PWM_CMP]
  | .PWM_CMP_ACT => [F.PWM_CMP_ACT]
  | .PWM_DL_STAT => [F.PWM_DL_STAT_STATE, F.PWM_DL_STAT_OUT, F.PWM_DL_STAT_ERR]
  | .LP_CFG => [F.LP_CFG_PH, F.LP_CFG_DIV, F.LP_CFG_STOPY, F.LP_CFG_STALEACT, F.LP_CFG_SCHABS, F.LP_CFG_SCHMODE, F.LP_CFG_SET, F.LP_CFG_TABLE, F.LP_CFG_TYPE]
  | .LP_SRC0 => [F.LP_SRC0_FB, F.LP_SRC0_REF]
  | .LP_SRC1 => [F.LP_SRC1_SCHED, F.LP_SRC1_FF]
  | .LP_SRC2 => [F.LP_SRC2_STALEMAX, F.LP_SRC2_LIM]
  | .LP_KR => [F.LP_KR]
  | .LP_KX => [F.LP_KX]
  | .LP_KF => [F.LP_KF]
  | .LP_HI => [F.LP_HI]
  | .LP_LO => [F.LP_LO]
  | .LP_PAGE => [F.LP_PAGE_SEL, F.LP_PAGE_PAGE1, F.LP_PAGE_PAGE0]
  | .LP_STATE => [F.LP_STATE_COPYB, F.LP_STATE_COPYA]
  | .LP_VEC => [F.LP_VEC_GROUP, F.LP_VEC_PBK, F.LP_VEC_ADV, F.LP_VEC_PORT, F.LP_VEC_ANGSRC]
  | .LP_CTL => [F.LP_CTL_RESTART, F.LP_CTL_HOLD, F.LP_CTL_EN]
  | .LP_STAT => [F.LP_STAT_FAULT, F.LP_STAT_PAGEERR, F.LP_STAT_VDCLOW, F.LP_STAT_VLIM, F.LP_STAT_REGION, F.LP_STAT_HELD, F.LP_STAT_CLAMP, F.LP_STAT_STALE, F.LP_STAT_RUNNING, F.LP_STAT_SELACT, F.LP_STAT_HALF, F.LP_STAT_REGCHG, F.LP_STAT_STALERUN]
  | .LP_Y => [F.LP_Y]
  | .LP_E => [F.LP_E]
  | .MG_CFG => [F.MG_CFG_REVDWELL, F.MG_CFG_AFRAC, F.MG_CFG_GOVDIR, F.MG_CFG_GOV, F.MG_CFG_REVSTOP, F.MG_CFG_OVS, F.MG_CFG_TYPE]
  | .MG_FB => [F.MG_FB_INIT, F.MG_FB_FBEN, F.MG_FB_PORT]
  | .MG_CTL => [F.MG_CTL_REFMODE, F.MG_CTL_REFDIR, F.MG_CTL_REF, F.MG_CTL_QSTOP, F.MG_CTL_HOLD, F.MG_CTL_EN]
  | .MG_STAT => [F.MG_STAT_FAULT, F.MG_STAT_RUNNING, F.MG_STAT_INPOS, F.MG_STAT_MOVING, F.MG_STAT_REFD, F.MG_STAT_REFBUSY, F.MG_STAT_HOLDACT, F.MG_STAT_QSTOPACT, F.MG_STAT_GOVV, F.MG_STAT_GOVA, F.MG_STAT_LIMTRANS, F.MG_STAT_FLAGS, F.MG_STAT_VDCLOW, F.MG_STAT_TGTREF, F.MG_STAT_TGTLIM, F.MG_STAT_MISS, F.MG_STAT_FERR, F.MG_STAT_FBLOST, F.MG_STAT_STALL, F.MG_STAT_SOFTLIM, F.MG_STAT_REFFAIL, F.MG_STAT_EOVER]
  | .MG_TGT_LO => [F.MG_TGT_LO]
  | .MG_TGT_HI => [F.MG_TGT_HI]
  | .MG_VMAX_LO => [F.MG_VMAX_LO]
  | .MG_VMAX_HI => [F.MG_VMAX_HI]
  | .MG_AMAX_LO => [F.MG_AMAX_LO]
  | .MG_AMAX_HI => [F.MG_AMAX_HI]
  | .MG_JMAX_LO => [F.MG_JMAX_LO]
  | .MG_JMAX_HI => [F.MG_JMAX_HI]
  | .MG_AQS_LO => [F.MG_AQS_LO]
  | .MG_AQS_HI => [F.MG_AQS_HI]
  | .MG_JQS_LO => [F.MG_JQS_LO]
  | .MG_JQS_HI => [F.MG_JQS_HI]
  | .MG_SMIN_LO => [F.MG_SMIN_LO]
  | .MG_SMIN_HI => [F.MG_SMIN_HI]
  | .MG_SMAX_LO => [F.MG_SMAX_LO]
  | .MG_SMAX_HI => [F.MG_SMAX_HI]
  | .MG_POS_LO => [F.MG_POS_LO]
  | .MG_POS_HI => [F.MG_POS_HI]
  | .MG_VEL_LO => [F.MG_VEL_LO]
  | .MG_VEL_HI => [F.MG_VEL_HI]
  | .MG_ACC_LO => [F.MG_ACC_LO]
  | .MG_ACC_HI => [F.MG_ACC_HI]
  | .MG_JRK_LO => [F.MG_JRK_LO]
  | .MG_JRK_HI => [F.MG_JRK_HI]
  | .MG_STOP_LO => [F.MG_STOP_LO]
  | .MG_STOP_HI => [F.MG_STOP_HI]
  | .MG_QPOS_LO => [F.MG_QPOS_LO]
  | .MG_QPOS_HI => [F.MG_QPOS_HI]
  | .MG_QRES => [F.MG_QRES_VALID, F.MG_QRES_REACH, F.MG_QRES_LIMIT, F.MG_QRES_ETA]
  | .MG_FERRLIM => [F.MG_FERRLIM]
  | .MG_FBPOS_LO => [F.MG_FBPOS_LO]
  | .MG_FBPOS_HI => [F.MG_FBPOS_HI]
  | .MG_REFPOS_LO => [F.MG_REFPOS_LO]
  | .MG_REFPOS_HI => [F.MG_REFPOS_HI]
  | .MG_CAPPOS_LO => [F.MG_CAPPOS_LO]
  | .MG_CAPPOS_HI => [F.MG_CAPPOS_HI]
  | .MG_FBK => [F.MG_FBK]
  | .MG_ILIM => [F.MG_ILIM]
  | .MG_GOV => [F.MG_GOV_ECAP, F.MG_GOV_FCAP]
  | .MG_MASS => [F.MG_MASS_MASS, F.MG_MASS_FUNIT]
  | .MG_MPC => [F.MG_MPC]
  | .MG_GOVSTAT => [F.MG_GOVSTAT_EPLAN, F.MG_GOVSTAT_EMEAS]
  | .MG_STEP_CFG => [F.MG_STEP_CFG_VK, F.MG_STEP_CFG_GROUP, F.MG_STEP_CFG_KMAX]
  | .MG_STEP_CELL => [F.MG_STEP_CELL_IB, F.MG_STEP_CELL_IA]
  | .MG_STEP_VDC => [F.MG_STEP_VDC_VDC]
  | .MG_STEP_KP => [F.MG_STEP_KP]
  | .MG_STEP_KI => [F.MG_STEP_KI]
  | .MG_STEP_RS => [F.MG_STEP_RS]
  | .MG_STEP_LS => [F.MG_STEP_LS]
  | .MG_STEP_KE => [F.MG_STEP_KE]
  | .MG_STEP_I => [F.MG_STEP_I_IMAX, F.MG_STEP_I_IMIN, F.MG_STEP_I_IHOLD, F.MG_STEP_I_IREF]
  | .MG_STEP_LD => [F.MG_STEP_LD_LDHI, F.MG_STEP_LD_LDLO, F.MG_STEP_LD_ISTEP, F.MG_STEP_LD_HOLDDLY]
  | .MG_STALL => [F.MG_STALL_RHO, F.MG_STALL_STALLN, F.MG_STALL_VMIN]
  | .MG_REFCFG => [F.MG_REFCFG_VREF, F.MG_REFCFG_REFMAX]
  | .MG_STEP_STAT => [F.MG_STEP_STAT_LEVEL, F.MG_STEP_STAT_LD, F.MG_STEP_STAT_RHOV, F.MG_STEP_STAT_ANGLE]
  | .MG_STATE => [F.MG_STATE_HALF, F.MG_STATE_COPYB, F.MG_STATE_COPYA]
  | .SF_CTL => [F.SF_CTL_KEY, F.SF_CTL_REARM]
  | .SF_STAT => [F.SF_STAT_RUN, F.SF_STAT_FIRSTOK, F.SF_STAT_SSWOPEN, F.SF_STAT_SOSOK, F.SF_STAT_CLKWARN, F.SF_STAT_SPFAULT, F.SF_STAT_DEGANY, F.SF_STAT_FAILANY, F.SF_STAT_SOSV]
  | .SF_ASSAY => [F.SF_ASSAY_CYCLES, F.SF_ASSAY_ABANDON, F.SF_ASSAY_SLOT]
  | .SF_CLK => [F.SF_CLK_DEV]
  | .SF_DEG_CFG => [F.SF_DEG_CFG_TIME]
  | .SF_TP_CFG => [F.SF_TP_CFG_TPN, F.SF_TP_CFG_TPFAULT, F.SF_TP_CFG_TPW]
  | .SF_SI_STATE => [F.SF_SI_STATE_RAW, F.SF_SI_STATE_FILT]
  | .SF_SI_FAULT => [F.SF_SI_FAULT_FAULT]
  | .SF_PERMIT => [F.SF_PERMIT]
  | .SF_DEGRADED => [F.SF_DEGRADED]
  | .SF_FAILED => [F.SF_FAILED]
  | .SF_SI_CFG => [F.SF_SI_CFG_EN, F.SF_SI_CFG_TP, F.SF_SI_CFG_FILT]
  | .SF_SO_CFG => [F.SF_SO_CFG_EN, F.SF_SO_CFG_FN, F.SF_SO_CFG_EDMEN, F.SF_SO_CFG_EDMSI, F.SF_SO_CFG_EDMT]
  | .SF_SO_STAT => [F.SF_SO_STAT_STATE, F.SF_SO_STAT_HSN, F.SF_SO_STAT_LSN, F.SF_SO_STAT_HSOPEN, F.SF_SO_STAT_LSOPEN, F.SF_SO_STAT_HSCLOSE, F.SF_SO_STAT_LSCLOSE, F.SF_SO_STAT_EDMF, F.SF_SO_STAT_OVL, F.SF_SO_STAT_MISS, F.SF_SO_STAT_OVLCNT]
  | .SF_MON_CFG => [F.SF_MON_CFG_EN, F.SF_MON_CFG_SPORT, F.SF_MON_CFG_DCELL, F.SF_MON_CFG_NAVG, F.SF_MON_CFG_DIVT]
  | .SF_MON_K => [F.SF_MON_K]
  | .SF_MON_TOL => [F.SF_MON_TOL_VTOL, F.SF_MON_TOL_PTOL]
  | .SF_MON_SPD => [F.SF_MON_SPD]
  | .SF_MON_POS => [F.SF_MON_POS]
  | .SF_MON_DIFF => [F.SF_MON_DIFF_DV, F.SF_MON_DIFF_DP]
  | .SF_MON_STAT => [F.SF_MON_STAT_DIVFAIL, F.SF_MON_STAT_DIVLOST, F.SF_MON_STAT_ENCERR, F.SF_MON_STAT_STILLF, F.SF_MON_STAT_AGREED, F.SF_MON_STAT_AGE]
  | .SF_FN_CFG => [F.SF_FN_CFG_EN, F.SF_FN_CFG_MODE, F.SF_FN_CFG_REQCELL, F.SF_FN_CFG_REQEN]
  | .SF_TERM_A => [F.SF_TERM_A_OPC, F.SF_TERM_A_B, F.SF_TERM_A_A]
  | .SF_TERM_B => [F.SF_TERM_B]
  | .SF_FN_DEG => [F.SF_FN_DEG_DEGOK, F.SF_FN_DEG_CAPCH, F.SF_FN_DEG_VCAP]
  | .SF_FN_STAT => [F.SF_FN_STAT_PERMIT, F.SF_FN_STAT_DEG, F.SF_FN_STAT_FAILED, F.SF_FN_STAT_CAPACT, F.SF_FN_STAT_TERMS, F.SF_FN_STAT_CAUSE, F.SF_FN_STAT_DEGLEFT]
  | .DX_CFG => [F.DX_CFG_RSTMAX, F.DX_CFG_TBEN, F.DX_CFG_HOME]
  | .DX_STAT => [F.DX_STAT_ACTIVE, F.DX_STAT_GAP, F.DX_STAT_TBPEND, F.DX_STAT_STATEB, F.DX_STAT_STATEA, F.DX_STAT_FOCNT]
  | .DX_SIDE => [F.DX_SIDE_CAUSE, F.DX_SIDE_TB24, F.DX_SIDE_RST24, F.DX_SIDE_GIVEUP]
  | .DX_SYNC => [F.DX_SYNC_MISMATCH, F.DX_SYNC_SCAN]
  | .DX_TBWAIT => [F.DX_TBWAIT_FRAMES]
  | .DX_LASTFO_LO => [F.DX_LASTFO_LO]
  | .DX_LASTFO_HI => [F.DX_LASTFO_HI]
  | .SPR_STAT => [F.SPR_STAT_LE8ST, F.SPR_STAT_LE8FOR, F.SPR_STAT_MG4ST, F.SPR_STAT_MG4FOR, F.SPR_STAT_FLASHFREE]
  | .SPR_WEAR_CFG => [F.SPR_WEAR_CFG_GRAFT, F.SPR_WEAR_CFG_WARN]
  | .SPR_FLASH_CFG => [F.SPR_FLASH_CFG_ERASEMAX]
  | .SPR_LOG => [F.SPR_LOG_PART, F.SPR_LOG_KIND, F.SPR_LOG_RELEASE, F.SPR_LOG_FRAME]
  | .SPR_PART => [F.SPR_PART_STATE, F.SPR_PART_FOR, F.SPR_PART_WEAR]
  | .PWR_CTL => [F.PWR_CTL_KEY, F.PWR_CTL_CLRMIN, F.PWR_CTL_SHUT]
  | .PWR_STAT => [F.PWR_STAT_LFOK, F.PWR_STAT_HOLDUP, F.PWR_STAT_SHUTOK, F.PWR_STAT_HOSTUP, F.PWR_STAT_CORESUP, F.PWR_STAT_IOSUP, F.PWR_STAT_LFMEAS, F.PWR_STAT_BARSUP, F.PWR_STAT_HOT, F.PWR_STAT_TEMP]
  | .PWR_CFG => [F.PWR_CFG_HELDT, F.PWR_CFG_ERSTMAX]
  | .PWR_LF => [F.PWR_LF_LFMIN, F.PWR_LF_LFV]
  | .PWR_HOST => [F.PWR_HOST_HVV, F.PWR_HOST_HSTATE]
  | .PWR_CAUSE => [F.PWR_CAUSE_CAUSE, F.PWR_CAUSE_RUNMS]
  | .PWR_JFRAME_LO => [F.PWR_JFRAME_LO]
  | .PWR_JFRAME_HI => [F.PWR_JFRAME_HI]
  | .PWR_ERST => [F.PWR_ERST_TOTAL, F.PWR_ERST_RST24]
  | .CB_CTL => [F.CB_CTL_FDEN, F.CB_CTL_AUTOREC, F.CB_CTL_TERM, F.CB_CTL_WAKEMODE, F.CB_CTL_AUTOWAKE, F.CB_CTL_BOREC, F.CB_CTL_MODE]
  | .CB_STAT => [F.CB_STAT_MODE, F.CB_STAT_INTEG, F.CB_STAT_CFGERR, F.CB_STAT_REFUSED, F.CB_STAT_WAKE, F.CB_STAT_BOEVT, F.CB_STAT_EPEVT, F.CB_STAT_AUTOSUSP, F.CB_STAT_ERRST, F.CB_STAT_LEC, F.CB_STAT_TDCV]
  | .CB_ERR => [F.CB_ERR_BOCNT, F.CB_ERR_REC, F.CB_ERR_TEC]
  | .CB_NBT => [F.CB_NBT_NSJW, F.CB_NBT_NTSEG1, F.CB_NBT_NTSEG2, F.CB_NBT_NBRP]
  | .CB_DBT => [F.CB_DBT_DSJW, F.CB_DBT_DTSEG1, F.CB_DBT_DTSEG2, F.CB_DBT_TDC, F.CB_DBT_TDCO, F.CB_DBT_DBRP]
  | .CB_TT_CFG => [F.CB_TT_CFG_EN, F.CB_TT_CFG_COLF]
  | .CB_TT_STAT => [F.CB_TT_STAT_COL, F.CB_TT_STAT_BC]
  | .CB_CNT => [F.CB_CNT_RXOK, F.CB_CNT_DROP]
  | .CB_MCNT => [F.CB_MCNT_MISS, F.CB_MCNT_TXFAIL]
  | .CB_WAKE_ID => [F.CB_WAKE_ID_IDE, F.CB_WAKE_ID_ID]
  | .CB_WAKE_IDM => [F.CB_WAKE_IDM_MASK]
  | .CB_WAKE_DLC => [F.CB_WAKE_DLC_DLCCHK, F.CB_WAKE_DLC_DLC]
  | .CB_WAKE_D0 => [F.CB_WAKE_D0]
  | .CB_WAKE_D1 => [F.CB_WAKE_D1]
  | .CB_NEWDAT => [F.CB_NEWDAT]
  | .CB_COL => [F.CB_COL_KIND15, F.CB_COL_KIND14, F.CB_COL_KIND13, F.CB_COL_KIND12, F.CB_COL_KIND11, F.CB_COL_KIND10, F.CB_COL_KIND9, F.CB_COL_KIND8, F.CB_COL_KIND7, F.CB_COL_KIND6, F.CB_COL_KIND5, F.CB_COL_KIND4, F.CB_COL_KIND3, F.CB_COL_KIND2, F.CB_COL_KIND1, F.CB_COL_KIND0]
  | .CB_BUF_CFG => [F.CB_BUF_CFG_TYPE, F.CB_BUF_CFG_SCHED, F.CB_BUF_CFG_REP, F.CB_BUF_CFG_OFS, F.CB_BUF_CFG_CSTEP, F.CB_BUF_CFG_COL, F.CB_BUF_CFG_DLC, F.CB_BUF_CFG_DOFS]
  | .CB_BUF_ID => [F.CB_BUF_ID_IDE, F.CB_BUF_ID_FDF, F.CB_BUF_ID_BRS, F.CB_BUF_ID_ID]
  | .CB_BUF_STAT => [F.CB_BUF_STAT_FRAME, F.CB_BUF_STAT_NEWDAT, F.CB_BUF_STAT_MSGLOST, F.CB_BUF_STAT_OVSZ, F.CB_BUF_STAT_STALE, F.CB_BUF_STAT_MISS, F.CB_BUF_STAT_TXFAIL, F.CB_BUF_STAT_ARMED, F.CB_BUF_STAT_TXRQ, F.CB_BUF_STAT_RXDLC, F.CB_BUF_STAT_ESI, F.CB_BUF_STAT_RXFD]
  | .CB_DATA => [F.CB_DATA]
  | .AQ_CTL => [F.AQ_CTL_CLRCNT]
  | .AQ_STAT => [F.AQ_STAT_CFGID, F.AQ_STAT_ACTIVE, F.AQ_STAT_PEND, F.AQ_STAT_QFULL, F.AQ_STAT_GAPANY, F.AQ_STAT_RUN]
  | .AQ_SEQ => [F.AQ_SEQ]
  | .AQ_QUEUE => [F.AQ_QUEUE_PEAK, F.AQ_QUEUE_DEPTH]
  | .AQ_WIN => [F.AQ_WIN_SLOTS, F.AQ_WIN_INGOTS]
  | .AQ_STM_STAT => [F.AQ_STM_STAT_LOST, F.AQ_STM_STAT_MDROP, F.AQ_STM_STAT_MWAIT]
  | .AQ_TRG_STAT => [F.AQ_TRG_STAT_COUNT, F.AQ_TRG_STAT_ARMED]
  | .AQ_STM_CFG => [F.AQ_STM_CFG_AGE, F.AQ_STM_CFG_TRGMASK, F.AQ_STM_CFG_EN, F.AQ_STM_CFG_NSRC]
  | .AQ_SRC => [F.AQ_SRC_ID, F.AQ_SRC_KIND, F.AQ_SRC_DLOG, F.AQ_SRC_SAMP]
  | .AQ_SRCPH => [F.AQ_SRCPH_PH]
  | .AQ_TRG_CFG => [F.AQ_TRG_CFG_CELL, F.AQ_TRG_CFG_AUTO, F.AQ_TRG_CFG_COND]
  | .AQ_TRG_LVL => [F.AQ_TRG_LVL]
  | .AQ_TRG_HYS => [F.AQ_TRG_HYS]
  | .AQ_TRG_TIM => [F.AQ_TRG_TIM_TMO, F.AQ_TRG_TIM_HOLD]
  | .EV_CFG => [F.EV_CFG_RATE]
  | .EV_STAT => [F.EV_STAT_FULL, F.EV_STAT_FULLP, F.EV_STAT_COUNT]
  | .EV_LOST => [F.EV_LOST]
  | .EV_LOSTP => [F.EV_LOSTP]
  | .EV_CURSOR => [F.EV_CURSOR_CURSOR]
  | .EV_WIN => [F.EV_WIN]
  | .LG_STAT => [F.LG_STAT_CALVALID, F.LG_STAT_CELLLOW, F.LG_STAT_DUE, F.LG_STAT_OVERDUE, F.LG_STAT_MIRRERR, F.LG_STAT_RESTORED, F.LG_STAT_MIRRAGE]
  | .LG_CAL_LO => [F.LG_CAL_LO]
  | .LG_CAL_HI => [F.LG_CAL_HI]
  | .LG_INSP_LO => [F.LG_INSP_LO]
  | .LG_INSP_HI => [F.LG_INSP_HI]
  | .LG_CFG => [F.LG_CFG_WARN]
  | .LG_MIRROR => [F.LG_MIRROR]
  | .LG_WEAR => [F.LG_WEAR_WEAR]
  | .LG_CNT_LO => [F.LG_CNT_LO]
  | .LG_CNT_HI => [F.LG_CNT_HI]
  | .ZL_CFG => [F.ZL_CFG_SESSTMO]
  | .ZL_STAT => [F.ZL_STAT_JOINED, F.ZL_STAT_WRAP, F.ZL_STAT_WRAPDIR, F.ZL_STAT_DUP, F.ZL_STAT_TVALID, F.ZL_STAT_PORTA, F.ZL_STAT_PORTB, F.ZL_STAT_GROUP, F.ZL_STAT_NSESS]
  | .ZL_TIMING => [F.ZL_TIMING_HTMIN, F.ZL_TIMING_SHARE, F.ZL_TIMING_RDLY]
  | .ZL_CYCLE => [F.ZL_CYCLE]
  | .ZL_SYST_LO => [F.ZL_SYST_LO]
  | .ZL_SYST_HI => [F.ZL_SYST_HI]
  | .ZL_DLY => [F.ZL_DLY_DB, F.ZL_DLY_DA]
  | .ZL_PORT => [F.ZL_PORT_LOCK, F.ZL_PORT_BEACON, F.ZL_PORT_CRCERR]
  | .ZL_DN => [F.ZL_DN_DUPREQ, F.ZL_DN_BADPKT]
  | .ZL_UP => [F.ZL_UP_RESENT, F.ZL_UP_ABANDON]
  | .ZL_CACHE => [F.ZL_CACHE_HITS, F.ZL_CACHE_ENTRIES]
  | .ZL_SESS => [F.ZL_SESS_VALID, F.ZL_SESS_ROLE, F.ZL_SESS_IDLE, F.ZL_SESS_SRC]
  | .UPD_STAT => [F.UPD_STAT_STATE, F.UPD_STAT_SAFETY, F.UPD_STAT_CFGONLY, F.UPD_STAT_ROLLBACK, F.UPD_STAT_INPLACE, F.UPD_STAT_ACTCNT]
  | .UPD_MANID => [F.UPD_MANID]
  | .UPD_VER => [F.UPD_VER_FLAGS, F.UPD_VER_MAJOR, F.UPD_VER_MINOR, F.UPD_VER_BUILD]
  | .UPD_FRAME_LO => [F.UPD_FRAME_LO]
  | .UPD_FRAME_HI => [F.UPD_FRAME_HI]
  | .UPD_REQ => [F.UPD_REQ_ENG]
  | .UPD_READY => [F.UPD_READY_ENG]
  | .UPD_SHADOW => [F.UPD_SHADOW_ENG]
  | .UPD_PROG => [F.UPD_PROG]
  | .UPD_ERR => [F.UPD_ERR_CODE, F.UPD_ERR_WHERE]
  | .UPD_BOOT => [F.UPD_BOOT_ASTATE, F.UPD_BOOT_BSTATE, F.UPD_BOOT_FELLBACK]
  | .UPD_LASTF_LO => [F.UPD_LASTF_LO]
  | .UPD_LASTF_HI => [F.UPD_LASTF_HI]
  | .PRM_CELL => [F.PRM_CELL]

end Sys2Proof.Machine
end

