-- ==== Sys2Proof/Machine/State.lean ====
section
/-! DEFINITION. The state of the PQ64 as plain data: the register file, the memories, and for every unit what its
chapter makes it remember beside its registers. Each field's docstring names the rule that gives it. The reset
value of a field is its default here: the value the spec gives, or the neutral value of assumption 1. -/

namespace Sys2Proof.Machine

open Sys2Proof

/-- Who stops a step with a fault. No rule of the spec stops the block: it answers every command with a next
state, so this type has no constructor that a meaning raises. -/
inductive Fault where
  /-- Raised by no meaning (kept so that the type is inhabited). Safe: nothing claims a fault. -/
  | none
deriving DecidableEq, Repr

/-- Why a command has no meaning. -/
inductive Refusal where
  /-- Raised by an arm of `exec` whose command has no meaning yet. Safe: no claim about a next state follows. -/
  | notModelled (mnemonic : String)
deriving DecidableEq, Repr

/-- The three phases of a frame (R35), and the state before the first tick. -/
inductive Phase where
  | stopped | latch | window | staging
deriving DecidableEq, Repr

/-- An event raised and not yet written (R347): code, SOURCE, arguments, frame and the second word of the R44
timestamp. -/
structure Ev where
  code : Nat := 0
  src : Nat := 0
  arg0 : Nat := 0
  arg1 : Nat := 0
  frame : Nat := 0
  sub : Nat := 0
deriving DecidableEq, Repr

/-- One record of the event log (R347). -/
structure Rec where
  code : Nat := 0
  src : Nat := 0
  flags : Nat := 0
  arg0 : Nat := 0
  arg1 : Nat := 0
  cal : Nat := 0
  frame : Nat := 0
  sub : Nat := 0
  rep : Nat := 0
deriving DecidableEq, Repr

/-- A command packet under way or executing (R379): source address, SEQ, opcode, role granted, payload. -/
structure Pkt where
  src : Nat := 0
  seq : Nat := 0
  op : Nat := 0
  role : Nat := 0
  payload : List Byte := []
deriving DecidableEq, Repr

/-- A reply (R381): source answered, SEQ, opcode, status, data. -/
structure Reply where
  src : Nat := 0
  seq : Nat := 0
  op : Nat := 0
  status : Nat := 0
  data : List Byte := []
deriving DecidableEq, Repr

/-- What a barrier message carries (R19). -/
inductive Body where
  | cmd (p : Pkt)
  | rpl (r : Reply)
  | stm (ingot : List Byte)
  | evt (evs : List Ev) (incs : List (Nat × Nat))
  | upd (tag : Nat)
deriving DecidableEq, Repr

/-- A message under way across the barrier (R18 to R23): direction (false: field to host), type code, message
number, its cells, those not yet handed to a lane, those sent and not yet arrived, and what it carries. -/
structure BarMsg where
  toField : Bool := false
  typ : Nat := 0
  num : Nat := 0
  cells : Nat := 1
  unsent : Nat := 0
  flying : Nat := 0
  whole : Bool := false
  body : Body := .upd 0
deriving DecidableEq, Repr

/-- A cell allotted in the present barrier cycle (R18, R20, R21): direction, lane, position, type, message number, which fragment of the
message it is and whether it is the last, how often it has been resent, and whether it took the reserved place of STM. -/
structure CellSlot where
  toField : Bool := false
  lane : Nat := 0
  pos : Nat := 0
  typ : Nat := 0
  num : Nat := 0
  frag : Nat := 0
  last : Bool := true
  resend : Nat := 0
  reserved : Bool := false
deriving DecidableEq, Repr

/-- The barrier (R18 to R24, R476): cycles begun, symbol-lock failures in a row and CRC errors of each lane, lanes that work, a lane
that waits for its graft, messages under way, cells of the present cycle and cells to send again, the next message numbers (by type; 0: TIM
to the field), what the TIM cells of this cycle carry (frame and sub-frame count; HV in mV, and the beacon's system time and arrival in
ns), the last TIM that HX and that the field received, CMDs that have arrived (number, first frame), the mirror, increments and events that
wait. -/
structure Barrier where
  cycle : Nat := 0
  running : Bool := false
  symRun : List Nat := [0, 0, 0, 0, 0]
  errAt : List (Nat × Nat) := []
  healthy : List Bool := [true, true, true, true, true]
  graftPend : Option (Nat × Nat) := none
  msgs : List BarMsg := []
  slots : List CellSlot := []
  resend : List CellSlot := []
  nextNum : List Nat := [0, 0, 0, 0, 0, 0, 0]
  tim : Option (Nat × Nat) := none
  hv : Option Nat := none
  bcn : Option (Nat × Nat) := none
  hostTim : Option (Nat × Nat) := none
  fieldTim : Option (Nat × Nat) := none
  cmds : List (Nat × Nat) := []
  mirror : List (Nat × Word) := []
  incs : List (Nat × Nat) := []
  evq : List Ev := []
deriving DecidableEq, Repr

/-- Frame lock (R45 to R47): cycles still to correct, the last correction rate, the run of beacons within
±500 ns, cycles counted in holdover, and the system time of the last tick in half nanoseconds. -/
structure Lock where
  remain : Int := 0
  rate : Int := 0
  run : Nat := 0
  acc : Nat := 0
  sys : Nat := 0
deriving DecidableEq, Repr

/-- One bank's arbiter (R55 to R57): the owner with whom the grant is parked (52: nobody yet), the last requester served in each
round-robin order, consecutive rank-0 grants while a lower rank waits, frames without service of the scrubber, and the FCLK
time from which the bank is free. -/
structure Arb where
  owner : Nat := 52
  rr0 : Nat := 52
  rr1 : Nat := 52
  rr2 : Nat := 52
  rrFair : Nat := 52
  run0 : Nat := 0
  starved : Nat := 0
  freeAt : Nat := 0
deriving DecidableEq, Repr

/-- One MPU region (R65). -/
structure Region where
  base : Nat := 0
  lim : Nat := 0
  w : Bool := false
  rd : Bool := false
  en : Bool := false
deriving DecidableEq, Repr

/-- A DMA channel beside its registers (R60 to R64): the descriptor in work and its progress, the channel buffer, how much of it is
written, revocations of the descriptor, and whether each end of latch starts the list again. -/
structure Dma where
  cur : Nat := 0
  src : Nat := 0
  dst : Nat := 0
  len : Nat := 0
  ctl : Nat := 0
  next : Nat := 0
  pos : Nat := 0
  buf : List Byte := []
  out : Nat := 0
  tries : Nat := 0
  armed : Bool := false
deriving DecidableEq, Repr

/-- Frame memory and what serves it (R49 to R68). Cells are keyed by byte: offsets below 0x20_0000 are the
addressed rows, offsets from there the spare rows. -/
structure Mem where
  cells : List Host.Cell := []
  marks : List (Nat × Nat) := []
  ce : List (Nat × Nat) := []
  remap : List (Nat × Nat) := []
  dead : List Nat := []
  copies : List (Nat × Nat × Nat) := []
  scrubPos : List Nat := [0, 0, 0, 0]
  passStart : List Nat := [0, 0, 0, 0]
  passLate : List Bool := [false, false, false, false]
  arb : List Arb := [{}, {}, {}, {}]
  mpu : List (Nat × Region) := []
  dma : List Dma := List.replicate 32 {}
  rdata : List Byte := []
  stateFail : List Nat := []
  forceOvr : List Nat := []
  apFault : List Nat := []
  aqFault : Nat := 0
  portFault : Bool := false
  violAt : Nat := 0
deriving DecidableEq, Repr

/-- One terminal beside its registers (R75 to R82): filter, readback, frames since its drive state changed, the
runs of the checks, its candidate partner (127: none) and its raw samples of the last two frames. -/
structure Term where
  filt : Bool := false
  run : Nat := 0
  last : Bool := false
  raw1 : Bool := false
  raw2 : Bool := false
  readback : Bool := false
  since : Nat := 65535
  rb0 : Nat := 0
  rb1 : Nat := 0
  openRun : Nat := 0
  cand : Nat := 127
deriving DecidableEq, Repr

/-- The terminal unit (R70 to R89): what the latch phase sampled and the end of latch publishes, the image's
state, the group watchdogs, the runs of the supply bands, switches opened in hardware since the last tick, and the
terminals off-tested in this and in the last frame (127: none). -/
structure Trm where
  t : List Term := List.replicate 96 {}
  raw : Nat := 0
  osv : List (Option Nat) := []
  volt : List (Option Nat) := []
  imageTaken : Bool := false
  wdOn : Bool := false
  wdCount : List Nat := [0, 0, 0, 0, 0, 0]
  bandRun : List Nat := [0, 0, 0, 0, 0, 0]
  cmpLost : List Bool := [false, false, false, false, false, false]
  opened : Nat := 0
  tested : Nat := 127
  lastTested : Nat := 127
deriving DecidableEq, Repr

/-- One ADC slice beside its registers (R100, R105): its next conversion is suspect, it has failed, its run of TC0 and
TC1 conversions outside limits. -/
structure Slice where
  susNext : Bool := false
  failed : Bool := false
  tcRun : Nat := 0
deriving DecidableEq, Repr

/-- A channel's conversions since the last harvest (R97). -/
structure ChAcc where
  code : Int := 0
  ovr : Bool := false
  sus : Bool := false
  refns : Bool := false
  slice : Nat := 0
  cnt : Nat := 0
deriving DecidableEq, Repr

/-- One scan or burst of a role (R93, R94): its trigger, its channels, the slices that make it (two for a pair), the number of a
pair's conversions (0: a scan), and its end. -/
structure AdcScan where
  start : Nat := 0
  chs : List Nat := []
  x : Nat := 31
  y : Nat := 31
  n : Nat := 0
  till : Nat := 0
deriving DecidableEq, Repr

/-- The analogue unit (R90 to R106): slices, the channels' marks of R100 rule 2, results waiting for the harvest and
for the end of latch, busy times, reference runs, the last touchstone temperatures, the anneal step, and slices to be retired
out of turn (slice and KIND, R299); the last two scans of each role, and the former holder of a role that still finishes a scan
(R103). -/
structure Adc where
  slices : List Slice := List.replicate 17 {}
  chSus : List Bool := List.replicate 56 false
  acc : List ChAcc := List.replicate 56 {}
  stage : List ChAcc := List.replicate 56 {}
  busy : List Nat := List.replicate 16 0
  refRun : List Nat := [0, 0, 0]
  prevRef : Nat := 0
  tc6 : Nat × Int := (0, 0)
  tc7 : Nat × Int := (0, 0)
  tcSeen : Nat := 0
  stepStart : Nat := 0
  stepReq : Bool := false
  diff : List (Nat × Int × Nat) := []
  worn : List (Nat × Nat) := []
  scans : List (List AdcScan) := List.replicate 16 []
  leave : Option Nat := none
deriving DecidableEq, Repr

/-- One encoder port beside its registers (R107 to R109, R127): the running count, the capture waiting for the end of
latch, the last counted edge, present fault conditions, the previous capture, the last 64 captures with an edge
(capture number, position, edge time), and the SSI reading waiting. -/
structure Ep where
  cnt : Nat := 0
  cap : Nat := 0
  edge : Option Nat := none
  capEdge : Option (Nat × Bool) := none
  cond : Nat := 0
  hit : Nat := 0
  prev : Option Nat := none
  hist : List (Nat × Nat × Nat) := []
  ssi : Option Nat := none
  capOld : Bool := false
  newPos : Option Nat := none
  spCap : Nat := 0
  spd : Int := 0
  dpos : Int := 0
deriving DecidableEq, Repr

/-- A PWM group's set (R117). -/
structure PSet where
  top : Nat := 0
  en : Bool := false
  cmp : List Nat := [0, 0, 0, 0]
deriving DecidableEq, Repr

/-- The outputs of one PWM pair (R114, R115): what the law requests since when (0 none, 1 A, 2 B), when A and B last turned off, and
the edge of the request that is due in the half-period in progress. Times are in fine ticks. -/
structure PairOut where
  req : Nat := 0
  at_ : Nat := 0
  offA : Option Nat := none
  offB : Option Nat := none
  next : Option (Nat × Nat) := none
deriving DecidableEq, Repr

/-- One PWM group beside its registers (R112 to R123): carrier (time and kind of the next reload point, time and direction of the last
one), the set of the last commit point, armed and active sets, TOP before a write of this frame, what was written in this frame,
suppressed pulses and outputs of its pairs, owner failed, the rule of R120 that holds its outputs (2 safe state, 3 fault), waiting
to restart, GFg asserted for GFFILT cycles, its delay-line anneal and the tap tables of its lines in ps. -/
structure Pwm where
  used : Bool := false
  nextAt : Nat := 0
  nextTop : Bool := false
  armed : Option PSet := none
  active : PSet := {}
  unapplied : Bool := false
  since : Nat := 0
  up : Bool := true
  com : Option PSet := none
  topWas : Option Nat := none
  written : Nat := 0
  suppA : Nat := 0
  suppB : Nat := 0
  ownerFail : Bool := false
  restart : Bool := false
  hold : Nat := 0
  gf : Bool := false
  pairs : List PairOut := [{}, {}, {}, {}]
  dlPhase : Nat := 0
  dlCount : Nat := 0
  dlOut : Nat := 0
  dlSwapped : Bool := false
  dlEnd : Bool := false
  taps : List (List Nat) := []
deriving DecidableEq, Repr


/-- A loop slot beside its registers and its state record (R131, R139, R145, R146): it has completed a running frame
since it last began to run; its next running frame is a first running frame; it ran in this frame; frames since the page check in progress began. -/
structure Slot where
  once : Bool := false
  first : Bool := false
  ran : Bool := false
  chk : Option Nat := none
deriving DecidableEq, Repr

/-- An axis beside its registers and its state record (R153, R158 to R165, R168 to R173, R178): it ran in the last
frame; it has run since power-up; its feedback position was taken at power-up; a second REF; HOLD was in effect; quick stop in progress; target and query waiting for their frame; the port's last
valid count; frames of an invalid port, of a following error, of a measured energy over the cap; a reversal's stop
under way; effective limits of the last frame; frames at rest; start of the reference run; position at a stall's
onset; its group was in a safe state; applied angle and |v| of the last running frame; it ran in this frame. -/
structure Axis where
  run : Bool := false
  up : Bool := false
  fbUp : Bool := false
  refAgain : Bool := false
  held : Bool := false
  qs : Bool := false
  tgt : Option Int := none
  query : Bool := false
  last : Option Nat := none
  inval : Nat := 0
  ferr : Nat := 0
  eov : Nat := 0
  rev : Bool := false
  lim : Option (Int × Int × Int) := none
  rest : Nat := 0
  refRun : Option Int := none
  onset : Int := 0
  safe : Bool := false
  phi : Nat := 0
  vdcLow : Bool := false
  ran : Bool := false
deriving DecidableEq, Repr

/-- What the frame-bound engines' overruns put back (R40): the registers their frame work changed (index, value before, bits
changed), and cells, slots, compare writes of the PWM groups, axes and events as they stood before it. -/
structure Snap where
  reg : List (Nat × Word × Word) := []
  fresh : List (Nat × Word × Bool) := []
  slots : List (Nat × Slot) := []
  written : List Nat := []
  axes : List (Nat × Axis) := []
  evs : List Ev := []
deriving DecidableEq, Repr

/-- One block instance of a scan image: TYPE and operand words (R265, R266). -/
structure Blk where
  typ : Nat := 0
  ops : List Nat := []
deriving DecidableEq, Repr

/-- A parameter declaration (R265). -/
structure PDecl where
  cell : Nat := 0
  typ : Nat := 0
  lo : Int := 0
  hi : Int := 0
  init : Int := 0
deriving DecidableEq, Repr

/-- A station table entry (R280). -/
structure StnCfg where
  cb : Nat := 0
  rx : Nat := 0
  tx : Nat := 0
  nin : Nat := 1
  nout : Nat := 0
  hold : Bool := false
  en : Bool := false
  absF : Nat := 1
deriving DecidableEq, Repr

/-- A scan image in force (R264, R265), with its bytes. -/
structure Image where
  imgid : Nat := 0
  scanMax : Nat := 2
  syncT : Nat := 1
  nvar : Nat := 0
  consts : List Nat := []
  params : List PDecl := []
  cells : List Nat := []
  blks : List Blk := []
  stns : List StnCfg := []
  raw : List Byte := []
deriving DecidableEq, Repr

/-- An entry of the machine table (R184). -/
structure Machn where
  typ : Nat := 0
  pos : Nat := 0
  group : Nat := 0
  carAx : Nat := 0
  doorF : Nat := 255
  doorR : Nat := 255
  motPort : Nat := 255
  shSrc : Nat := 255
  shBuf : Nat := 0
  dslotF : Nat := 255
  dslotR : Nat := 255
  shk : Int := 0
  pwm : Nat := 0
  trm : Nat := 0
  ai : Nat := 0
  sfChain : Nat := 0
  sfZone : Nat := 0
  sfRun : Nat := 0
  sfBrk : Nat := 0
  runReq : Nat := 0
  brkReq : Nat := 0
  landTab : Nat := 0
  dtrav : List Int := [0, 0]
deriving DecidableEq, Repr

/-- The state of one block instance (R261, R270, R271): it has been evaluated, the scan frame of its last evaluation,
its output bit, its previous edge inputs, its number (ET, CV, Y, elapsed), and the division-by-zero mark (R267). -/
structure BSt where
  seen : Bool := false
  fprev : Nat := 0
  q : Bool := false
  p1 : Bool := false
  p2 : Bool := false
  n : Int := 0
  dz : Bool := false
deriving DecidableEq, Repr

/-- A station's input side as the input image holds it (R258, R282): words and status word. -/
structure StnIn where
  words : List Nat := []
  status : Nat := 0
deriving DecidableEq, Repr

/-- The input image published at an end of latch (R258): frame, registers, signal cells, stations, the SP's inspection
word, and the shaft source of each machine: raw count and frame of its capture or snapshot. -/
structure InImg where
  f : Nat := 0
  reg : List (Nat × Word) := []
  cells : List (Nat × Word × Bool) := []
  stn : List StnIn := []
  insp : Nat := 0
  shaft : List (Option (Int × Nat)) := []
deriving DecidableEq, Repr

/-- A scan that has run (R257, R259): number, frame, its output image (terminal bits, AP cells, station words), write list, start
and end in FCLK cycles, and the engine side that ran it. -/
structure ScanOut where
  num : Nat := 0
  f : Nat := 0
  term : Nat := 0
  ap : List (Nat × Int) := []
  stn : List (Nat × Int) := []
  wl : List (Nat × Word) := []
  t0 : Nat := 0
  t1 : Nat := 0
  seq : List Nat := []
deriving DecidableEq, Repr

/-- A station at run time (R281 to R283): mode, absent, consecutive synchronous exchanges, frames since the last valid
input frame, words, STATUS byte, inputs substituted until an ECHO of a scan started after this number, end frame of
TEST, the newest ECHO, duration of a TEST that waits for the next scan boundary. -/
structure Stn where
  mode : Nat := 0
  absent : Bool := false
  exch : Nat := 0
  since : Nat := 0
  words : List Nat := []
  status : Nat := 0
  subst : Option Nat := none
  until_ : Option Nat := none
  echo : Option Nat := none
  testReq : Option Nat := none
deriving DecidableEq, Repr

/-- A pending parameter batch (R276): ticket, frame of acceptance, entries. -/
structure Batch where
  ticket : Nat := 0
  frame : Nat := 0
  entries : List (Nat × Int) := []
deriving DecidableEq, Repr

/-- A write of a lift block that waits to be judged: the scan that placed it and the frame in which its image was taken
(R154, R159, R163). -/
structure Await where
  num : Nat := 0
  taken : Option Nat := none
deriving DecidableEq, Repr

/-- A machine as LIFT_CAR, LIFT_STOPS, ESC_RUN and LIFT_INSP hold it (R191 to R197, R205, R207, R274): in service, the
last SVC or RUN input, an out-of-service that waits for a new SVC, a loss of SFCHAIN or SFRUN not yet made good; what
runs (0 run, 1 re-level, 2 inspection, 3 escalator), its step (0: none; 1 MAINFB, 2 TTORQ, 3 BRKFB, 4 target judged,
5 moving, 6 THOLD, 7 brake drop, 8 TDROP, 9 contactor drop) and elapsed frames; target, a run waiting for its doors,
writes waiting, slots still to switch, the `MG_VMAX` to restore, frames of the last re-levels, the level error's last
usable source, frames without a usable shaft source; landings, direction and calls; the query and its landing, the target before the last one; last permits
and brake feedback; the inspection direction; a declined hall call (landing, direction, TDMA cycle) and further ones; the
divergence of this movement acted on; a reference made since the loss. -/
structure Car where
  inSvc : Bool := false
  svcPrev : Bool := false
  fault : Bool := false
  lost : Bool := false
  kind : Nat := 0
  step : Nat := 0
  et : Nat := 0
  stopping : Bool := false
  tgt : Int := 0
  want : Option Int := none
  judge : Option Await := none
  ref : Option Await := none
  slots : List Nat := []
  vsave : Option Int := none
  relevs : List Nat := []
  levAt : Option Nat := none
  unus : Nat := 0
  pl : Nat := 0
  atL : Option Nat := none
  dir : Nat := 0
  calls : Nat := 0
  up : Nat := 0
  dn : Nat := 0
  ns : Nat := 63
  query : Option (Nat × Await) := none
  prev : Option (Int × Nat) := none
  chain : Bool := false
  run : Bool := false
  brk : Bool := false
  inspDir : Nat := 0
  vset : Option Int := none
  decl : Option (Nat × Nat × Nat) := none
  declq : List (Nat × Nat) := []
  div : Bool := false
  refMade : Bool := false
deriving DecidableEq, Repr

/-- A door as LIFT_DOOR holds it (R198 to R203): state code, elapsed frames, a request to open, reversals at this landing,
lock attempts, waiting for the lock, the force timer, values to restore, the learn step, whether it is a full learn,
the closing reference made, the last LEARN input, the target that waits to be judged, and FAULT due once OPEN. -/
structure Door where
  st : Nat := 0
  et : Nat := 0
  openReq : Bool := false
  revs : Nat := 0
  attempts : Nat := 0
  lockWait : Bool := false
  force : Option Nat := none
  ecap : Option Nat := none
  vsave : Option Int := none
  fsave : Option Nat := none
  learn : Nat := 0
  full : Bool := false
  refDone : Bool := false
  learnPrev : Bool := false
  judge : Option Await := none
  toFault : Bool := false
deriving DecidableEq, Repr

/-- A member of the group table (R209). -/
structure Member where
  addr : Nat := 0
  mach : Nat := 0
  serves : Nat := 0
deriving DecidableEq, Repr

/-- The group table (R209) and the dispatcher's memory (R210, R211): hall calls registered, member records received
with the TDMA cycle in which they came, the module's own record and the last TDMA cycle. -/
structure Group where
  group : Nat := 0
  kt : Nat := 0
  ks : Nat := 0
  full : Nat := 100
  absentC : Nat := 0
  declT : Nat := 0
  crc : Nat := 0
  members : List Member := []
  hup : Nat := 0
  hdn : Nat := 0
  recs : List (Nat × Nat × List Byte) := []
  own : List Byte := []
  cycle : Nat := 0
deriving DecidableEq, Repr

/-- The scan engine (R257 to R284): the image, its variables, AP cells and terminal bits as the scans build them,
block states, the input image, buffers whose read is torn in this scan (R315), scans running and done, pending batches, stations, machines, cars, doors, the group, and the last capture each SF_DIVERSE instance used (frame and channel counts). -/
structure Scan where
  img : Option Image := none
  vars : List (Nat × Int) := []
  ap : List (Nat × Int) := []
  term : Nat := 0
  stnOut : List (Nat × Int) := []
  bst : List (Nat × BSt) := []
  inp : Option InImg := none
  wl : List (Nat × Word) := []
  placed : Nat := 0
  torn : List (Nat × Nat) := []
  num : Nat := 0
  lastF : Option Nat := none
  period : Nat := 0
  longest : Nat := 0
  cur : Option ScanOut := none
  done : List ScanOut := []
  completed : Nat := 0
  taken : Nat := 0
  applied : Nat × Nat := (0, 0)
  shown : Option ScanOut := none
  batches : List Batch := []
  ticket : Nat := 0
  lastTicket : Nat := 0
  lastApp : Nat := 0
  stns : List Stn := []
  machs : List Machn := []
  cars : List (Nat × Car) := []
  doors : List (Nat × Door) := []
  groups : Group := {}
  divs : List (Nat × Nat × Int) := []
  staged : List Host.Cell := []
deriving DecidableEq, Repr

/-- A transmission under way (R318): buffer, started in an EXCL cell, identifier word and bytes sent. -/
structure Fly where
  buf : Nat := 0
  excl : Bool := false
  id : Word := 0
  data : List Byte := []
deriving DecidableEq, Repr

/-- A CAN controller beside its registers (R311 to R325): transmit copies, pending event requests, transmission under
way and the last one that ended well, EXCL buffer of the present cell not yet started, SLEEP request waiting for its
moment, a mode written and not yet in effect, schedule running, tick of the present column (frame and FCLK cycle), RX buffers whose monitored cell is
satisfied, frame of each buffer's last reception or transmission, frames of the last bus-offs, recovery running. -/
structure Bus where
  copy : List (Nat × List Byte) := []
  rq : List Nat := []
  fly : Option Fly := none
  sent : Option Fly := none
  due : Option Nat := none
  sleepReq : Bool := false
  modeReq : Bool := false
  sched : Bool := false
  colFrame : Nat := 0
  colAt : Nat := 0
  sat : List Nat := []
  stamp : List (Nat × Nat) := []
  bo : List Nat := []
  recov : Bool := false
deriving DecidableEq, Repr

/-- The duplex pair beside its registers (R285 to R298): faults found and not yet acted on (side and cause), a commanded
switch-over waiting, the change of side due at the next tick (new side; 0 fail-over, 1 take-back, 2 switch-over), HELD due at
the next tick (side), the frame of the fail-over whose gap runs, take-backs and restarts of the last 86,400 s (side and FCLK
time), the number of the last scan that the standby completed synchronised, the standby's transfer in progress, retired sides. -/
structure Dx where
  faults : List (Nat × Nat) := []
  switch : Bool := false
  change : Option (Nat × Nat) := none
  held : Option Nat := none
  gapFrame : Option Nat := none
  takeBacks : List (Nat × Nat) := []
  restarts : List (Nat × Nat) := []
  synced : Nat := 0
  transfer : Bool := false
  retired : List Nat := []
deriving DecidableEq, Repr

/-- A planned graft or release (R301): the engine, the frame G, the KIND of its log entry, and whether it is a release. -/
structure Plan where
  e : Nat := 0
  g : Nat := 0
  kind : Nat := 0
  release : Bool := false
deriving DecidableEq, Repr

/-- Spares beside their registers (R299 to R304): plans waiting for their frame, fractions of WEAR in units of 2^-64, parts
grafted for wear, the WEAR at which the event of R303 is next raised again, the flash blocks remapped and the erase counts. -/
structure Spare where
  plans : List Plan := []
  frac : List (Nat × Nat) := []
  worn : List Nat := []
  again : List (Nat × Nat) := []
  blocks : List (Nat × Nat) := []
  erase : List (Nat × Nat) := []
deriving DecidableEq, Repr

/-- Power and the host domain beside their registers (R416 to R434): the host domain's state (`PWR_HOST.HSTATE`), the identity copy,
boot slot and configuration values it keeps, whether the field has passed them in this power period, the journal copies that were
applied, the CAUSE of the POWER_FAIL under way and whether its frame has ended, the entry of a last journal (DEV_STATE, LF), the
frame and deadline of an orderly shutdown, restarts of the last 86,400 s (engine and FCLK time), engines restarting, engines retired, the frame of
entry into HELD, AP cells released, ms before the first tick, RUNNING event of 30 s raised, the ledger restore of R359 waiting,
the calendar lost. -/
structure Pow where
  hst : Nat := 0
  hostId : List Byte := []
  hostSlot : Nat := 0
  hostRegs : List (Nat × Word) := []
  passed : Bool := false
  used : List Nat := []
  cause : Nat := 0
  entry : Nat × Nat := (0, 0)
  shut : Option (Nat × Nat) := none
  restarts : List (Nat × Nat) := []
  restarting : List Nat := []
  retired : List Nat := []
  heldAt : Option Nat := none
  released : Bool := false
  startMs : Nat := 0
  late : Bool := false
  ledDue : Bool := false
  calLost : Bool := false
deriving DecidableEq, Repr

/-- A mark of a stream (R331, R334): frame, sub-frame count, KIND, ARG. -/
structure SMark where
  frame : Nat := 0
  sub : Nat := 0
  kind : Nat := 0
  arg : Nat := 0
deriving DecidableEq, Repr

/-- An ingot as AQ builds it (R331). -/
structure Ingot where
  stream : Nat := 0
  seq : Nat := 0
  f0 : Nat := 0
  nf : Nat := 0
  cfgid : Nat := 0
  lost : Nat := 0
  gap : Bool := false
  last : Bool := false
  defer : Bool := false
  marks : List SMark := []
  data : List Byte := []
deriving DecidableEq, Repr

/-- A stream (R332, R335, R342): active, its last ingot already closed, its open ingot, marks that wait for a table, a GAP and frames
lost before the next ingot. -/
structure Stream where
  act : Bool := false
  ended : Bool := false
  cur : Option Ingot := none
  wait : List SMark := []
  gap : Bool := false
  lost : Nat := 0
deriving DecidableEq, Repr

/-- A trigger (R333, R334): armed for a rise (or for stale) and for a fall, frame of its last firing, frame of its last mark or of
the start of the configuration, and whether it has seen its first value. -/
structure Trigger where
  low : Bool := false
  high : Bool := false
  last : Option Nat := none
  since : Nat := 0
  seen : Bool := false
deriving DecidableEq, Repr

/-- AQ and the stream path beside their registers (R328 to R345): streams, triggers, frames of operator marks that wait for AQ's frame,
the next SEQ, ingots closed in this frame, the field queue; the image in force, the image and frame of a pending activation; in the host domain the live queue, the history, SEQ of the last
ingot sent, ingots displaced, messages abandoned, fill ingots sent, subscribers (source, mask). -/
structure Aq where
  s : List Stream := [{}, {}, {}, {}]
  t : List Trigger := List.replicate 8 {}
  ops : List Nat := []
  seq : Nat := 0
  closed : List Ingot := []
  queue : List (List Byte) := []
  cfg : List Byte := []
  pend : Option (List Byte × Nat) := none
  live : List (List Byte) := []
  hist : List (List Byte) := []
  sent : Nat := 0
  displaced : Nat := 0
  abandoned : Nat := 0
  fills : Nat := 0
  subs : List (Nat × Nat) := []
deriving DecidableEq, Repr

/-- A firmware slot as field code flash records it (R6, R410): MANID, version and signature of its bundle, the state record formats its parts write and those they
read (types 1 to 6), and whether its block CRCs and signature hold. -/
structure SlotInfo where
  manid : Nat := 0
  ver : Nat := 0
  sig : List Byte := []
  fmts : List Nat := [0, 0, 0, 0, 0, 0]
  reads : List (Nat × Nat) := [(0, 0), (0, 0), (0, 0), (0, 0), (0, 0), (0, 0)]
  good : Bool := false
deriving DecidableEq, Repr

/-- Firmware update beside its registers (R393 to R412): bytes staged and blocks written, TOTAL, the slots, the slot named by the
boot record, a verification under way, the spare engines that stand in for engines loaded in place (engine, spare), activation
judged GO, HX waiting to change its bank, the image data of a part FROMIMG as verified, the frame of a rollback that is loading,
a change of program due at the next scan with its image, machine table, group table and state map, and the FCLK time from which
a trial counts. -/
structure Upd where
  flash : List Host.Cell := []
  blocks : List Nat := []
  total : Nat := 0
  slots : List SlotInfo := [{ good := true }, {}]
  named : Nat := 0
  verify : Bool := false
  inplace : List (Nat × Nat) := []
  go : Bool := false
  hx : Bool := false
  imgData : List Byte := []
  want : Nat := 0
  newScan : Bool := false
  img : Option Image := none
  machs : List Machn := []
  grp : Group := {}
  map : List Byte := []
  since : Nat := 0
deriving DecidableEq, Repr

/-- A request accepted under R380 whose reply has not left: its packet, the reply once ready, whether it is a cached
reply sent again, and whether it will be cached (R374, R382). -/
structure Waiting where
  pkt : Pkt := {}
  reply : Option Reply := none
  cached : Bool := false
  keep : Bool := true
deriving DecidableEq, Repr

/-- A cached reply and the second in which it was sent (R382). -/
structure CacheE where
  reply : Reply := {}
  at_ : Nat := 0
deriving DecidableEq, Repr

/-- The fragment in the module's node slot: bytes, RESYNC, how often it was sent, packets with bytes in it (R374, R376). -/
structure Frag where
  bytes : List Byte := []
  resync : Bool := false
  sends : Nat := 0
  packets : Nat := 0
deriving DecidableEq, Repr

/-- The Link beside its registers (R366 to R391): requests accepted and not yet answered, unsolicited packets waiting and
their number, cached replies, the rest of the packet being sent, the fragment that waits for its ACK, FSEQ of the last
acknowledged fragment, RESYNC due, DACK bits of the present cycle, ports that have gone down, WRAP of the last beacon, its system time and arrival; for each input port the runs of matching
beacons, of cycles without and with a valid beacon; the last delays, whether its slot of this cycle was fixed, and the ingot being sent. -/
structure Link where
  accepted : List Waiting := []
  unsol : List (List Byte) := []
  unsolSeq : Nat := 0
  cache : List CacheE := []
  cur : List Byte := []
  frag : Option Frag := none
  fseq : Bool := true
  resync : Bool := false
  dack : Nat := 0
  down : List Bool := [false, false]
  ringWrap : Bool := false
  bcn : Option (Nat × Nat) := none
  match_ : List Nat := [0, 0]
  missed : List Nat := [0, 0]
  good : List Nat := [0, 0]
  delays : List (Nat × Int) := []
  slot : List Byte := []
deriving DecidableEq, Repr

/-- A monitor channel beside its registers (R230, R231): position in Q47.16 counts, speed in Q47.16 counts/s and in
Q47.16 counts per frame, the last frames (frame, position, speed per frame, STILLF), the last capture, OFS, the last stamp and when it came, disagreements
in a row, captures with a fault condition in a row, its positions over the last 100 ms (time and value at each change, newest first), what this assay cycle has
seen, and whether a complete one was clean. -/
structure Mon where
  p : Int := 0
  v : Int := 0
  hist : List (Nat × Int × Int × Bool) := []
  cap : Option Nat := none
  ofs : Int := 0
  stamp : Option Nat := some 0
  newAt : Nat := 0
  bad : Nat := 0
  encRun : Nat := 0
  past : List (Nat × Int) := []
  seenBad : Bool := false
  seenAgree : Bool := false
  seenEnc : Bool := false
  cleanDiv : Bool := false
  cleanEnc : Bool := false
deriving DecidableEq, Repr

/-- A term's memory (R233): a discrepancy latched, since when it lasts, p0 and the latched false of STILL, when the input of
RESET was pressed, RESET true. -/
structure TermS where
  bad : Bool := false
  since : Option Nat := none
  p0 : Option Int := none
  press : Option Nat := none
  on : Bool := false
deriving DecidableEq, Repr

/-- A safety function beside its registers (R233, R236, R237): its terms, since when it permits, degraded time in µs, when it left
degraded mode, and the degraded cause behind a cause 12 or 13. -/
structure FnS where
  terms : List TermS := [{}, {}, {}, {}]
  perm : Option Nat := none
  acc : Nat := 0
  outAt : Nat := 0
  behind : Nat := 0
deriving DecidableEq, Repr

/-- A safety output pair beside its registers (R224 to R227): commanded closed, SP time of the last change, a feedback check under
way since, runs of node deviations (HS low, LS high while ON; both high, energised while open), times of overload trips, switches whose test was
completed in this and the last assay cycle, the close findings of the last tests, and a change whose time is taken at the next end of latch. -/
structure PairS where
  cmd : Bool := false
  changed : Nat := 0
  edm : Option Nat := none
  dev : List Nat := [0, 0, 0, 0]
  ovl : List Nat := []
  done : Nat := 0
  doneLast : Nat := 3
  found : Nat := 0
  fresh : Bool := false
deriving DecidableEq, Repr

/-- Inspection mode while it is on (R253 to R256): record, owner, when it began and was last kept, tests that pairs enabled only
by PAIRS still need, positions of the port, captures with a fault condition in a row, over-speed latched, and the hold-to-run term. -/
structure Insp where
  pairs : Nat := 0
  port : Nat := 0
  vins : Nat := 0
  tmax : Nat := 0
  edmt : Nat := 0
  edm : List Nat := []
  src : Nat := 0
  start : Nat := 0
  keep : Nat := 0
  need : Nat := 0
  pos : List Int := []
  cap : Option Nat := none
  encRun : Nat := 0
  past : Bool := false
  hold : TermS := {}
  permit : Bool := false
deriving DecidableEq, Repr

/-- The safety processor beside its registers (R214 to R256): its time in µs, the last two samples, dip latches, the pulse under way (source and sample
before it), failed and passed checks in a row per input, sources that have shut off, missing alive tokens in a row, internal
fault, supply switch opened for good, the units, the assay slot, whether this assay cycle is incomplete or has seen SOSOK 0, the test under way (pair,
switch, pair ON), degraded causes in force (channels, sources, pairs, clock) with what this cycle has seen, the set in use (its
state and its 2,048 bytes), the edit session (source, last command), a Key write under way, inspection mode, Key comparisons, whether the SP's frame work
counted in the last frame. -/
structure Sp where
  t : Nat := 0
  raw : Nat := 0
  prev : Nat := 0
  hs : Nat := 0
  ls : Nat := 0
  dips : Nat := 0
  pulse : Option (Nat × Nat) := none
  tpFail : List Nat := List.replicate 16 0
  tpPass : List Nat := List.replicate 16 0
  tpOff : Nat := 0
  miss : Nat := 0
  fault : Bool := false
  tripped : Bool := false
  mons : List Mon := List.replicate 8 {}
  fns : List FnS := List.replicate 32 {}
  pairs : List PairS := List.replicate 8 {}
  slot : Option Nat := none
  incomplete : Bool := false
  sosLow : Bool := false
  test : Option (Nat × Nat × Bool) := none
  c2 : Nat := 0
  c3 : Nat := 0
  c4 : Bool := false
  c5 : Nat := 0
  seen3 : Nat := 0
  seen4 : Bool := false
  seen5 : Nat := 0
  quiet5 : Nat := 255
  setState : Nat := 0
  image : List Byte := []
  edit : Option (Nat × Nat) := none
  keyWrite : Option (List (Nat × List Byte)) := none
  insp : Option Insp := none
  keyRun : Nat := 0
  keyNow : Bool := false
  keyDiff : Bool := false
  ok : Bool := true
  cmds : List Bool := List.replicate 8 false
deriving DecidableEq, Repr
/-- The event log and its clocks (R347 to R354). -/
structure Log where
  recs : List Rec := []
  privLast : List (Nat × Nat) := []
  privSup : List (Nat × Nat) := []
  lossRec : Bool := false
  sec : Nat := 0
deriving DecidableEq, Repr

/-- The ledger domain (R355 to R362): counters and wear, calendar, cell below 2.6 V, next-inspection date; and HX's mirror
writes: seconds since the last good one, one passed and not confirmed, seconds since the last 600 s moment, one due. -/
structure Ledger where
  cnt : List (Nat × Nat) := []
  wear : List (Nat × Nat) := []
  cal : Nat := 0
  calValid : Bool := false
  cellLow : Bool := false
  insp : Nat := 0
  mirrSince : Nat := 0
  mirrBusy : Bool := false
  mirrT : Nat := 0
  due : Bool := false
deriving DecidableEq, Repr

/-- A W1C bit that a condition set in this frame (R88, R108, R438): register index and bit, the cycle, whether the bit stood
before, and its event (code 0: none). -/
structure SetNow where
  idx : Nat := 0
  k : Nat := 0
  cyc : Nat := 0
  was : Bool := false
  code : Nat := 0
  src : Nat := 0
  arg0 : Nat := 0
  arg1 : Nat := 0
deriving DecidableEq, Repr

/-- The state of the block without its queue of waiting commands. -/
structure Mach where
  /-- Every register of the register tables that differs from its reset value (R5, R25). -/
  reg : List (Nat × Word) := []
  /-- The model's own counter of free values drawn (assumption 2). -/
  free : Nat := 0
  /-- FCLK cycle within the frame at which the last command acted (R35). -/
  cyc : Nat := 0
  /-- The phase of the frame (R35). -/
  phase : Phase := .stopped
  /-- FCLK cycles from the field domain's power-up to the last tick (R10, R43). -/
  fclk : Nat := 0
  /-- Frame lock: the correction still to make and the runs of beacons (R45 to R47). -/
  lock : Lock := {}
  /-- Frames in which each engine overran, of the last 1,024 (R41). -/
  ovrAt : List (Nat × Nat) := []
  /-- Engines that have failed and whose failure action is due (R41). -/
  failing : List Nat := []
  /-- R8 latches: requester, index of the low word, high word. -/
  latches : List (Nat × Nat × Word) := []
  /-- R8 held words: requester, index of the low word, low word. -/
  held : List (Nat × Nat × Word) := []
  /-- Ownership violations of the present frame: frame, FCLK cycle, KIND, engine, index (R29). -/
  viols : List (Nat × Nat × Nat × Nat × Nat) := []
  /-- FCLK cycle of the violation that `DEV_OWN_VIOL` describes (R445). -/
  violAt : Nat := 0
  /-- W1C bits whose conditions held in the present frame (R88, R108, R438). -/
  sets : List SetNow := []
  /-- Refused role-key presentations: source and second (R31). -/
  roleFails : List (Nat × Nat) := []
  /-- Sources locked out and the second at which the lockout began (R31). -/
  lockouts : List (Nat × Nat) := []
  /-- The barrier between the domains (R18 to R24, R476). -/
  bar : Barrier := {}
  /-- Frame memory with its arbiters, MPU regions and DMA channels (R49 to R68). -/
  mem : Mem := {}
  /-- The terminals and their groups (R70 to R88). -/
  trm : Trm := {}
  /-- The event log (R347 to R352). -/
  log : Log := {}
  /-- The ledger domain (R353 to R363). -/
  led : Ledger := {}
  /-- The slices, roles and references (R90 to R106). -/
  adc : Adc := {}
  /-- The eight encoder ports (R107 to R109). -/
  ep : List Ep := List.replicate 8 {}
  /-- The twelve carrier groups with their delay lines (R111 to R123). -/
  pwm : List Pwm := List.replicate 12 {}
  /-- Signal cells as published at the last end of latch: value and V (R125, R126). -/
  cells : List (Nat × Word × Bool) := []
  /-- Signal cells written in this frame, published at the next end of latch (R36). -/
  fresh : List (Nat × Word × Bool) := []
  /-- The loop slots that differ from a fresh one (R129, R131). -/
  slots : List (Nat × Slot) := []
  /-- The axes that differ from a fresh one (R153 to R178). -/
  axes : List (Nat × Axis) := []
  /-- Read-only registers that engines computed in this frame, published at the next end of latch (R154). -/
  stage : List (Nat × Word) := []
  /-- The engines' state before this frame's work, for R40. -/
  snap : Snap := {}
  /-- The scan programs of the active side (R257 to R284). -/
  scan : Scan := {}
  /-- The four CAN controllers beside their registers (R308 to R327). -/
  bus : List Bus := List.replicate 4 {}
  /-- The Key: its bytes that are not 0x00 (R418). -/
  key : List Host.Cell := []
  /-- The generation area in force (R419, R421). -/
  gen : Option Nat := none
  /-- The duplex pair beside its registers (R285 to R298). -/
  dx : Dx := {}
  /-- The Link beside its registers (R366 to R391). -/
  link : Link := {}
  /-- The safety processor beside its registers (R214 to R256). -/
  sp : Sp := {}
  /-- The safety processor as it stood before this frame's work, for R40. -/
  spSnap : Sp := {}
  /-- The safety processor right after this frame's work, for R40. -/
  spAfter : Sp := {}
  /-- Spares beside their registers (R299 to R304). -/
  spr : Spare := {}
  /-- Power and the host domain beside their registers (R416 to R434). -/
  pow : Pow := {}
  /-- Firmware update beside its registers (R393 to R412). -/
  upd : Upd := {}
  /-- AQ and the stream path beside their registers (R328 to R345). -/
  aq : Aq := {}
  /-- AQ as it stood before this frame's work, for R40. -/
  aqSnap : Aq := {}
deriving DecidableEq, Repr

/-- The state: the block and the commands that wait, first in, first out. -/
structure State where
  m : Mach := {}
  pending : List Instr := []
deriving DecidableEq, Repr

/-- The block right after reset: field domain in RESET, host domain off, nothing waiting (R6, R417). -/
def State.reset : State := {}

end Sys2Proof.Machine
end

