-- ==== Sys2Proof/Machine/Ops.lean ====
section
/-! DEFINITION. The named operations of the block: reading and writing registers and their fields, the frame's time,
events (R347 to R352), ledger increments (R355, R356), free values, bytes of the Key and of frame memory. -/

namespace Sys2Proof.Machine

open Sys2Proof

/-! ### Registers (R5, R6, R25) -/

/-- The index of an instance of a register (R25). -/
def R.idx (r : R) (i j : Nat) : Nat := r.base + i * r.dims.2.1 + j * r.dims.2.2.2

/-- The reset word of a register: its fields' reset values, reserved bits 0 (R6, R7). -/
def R.rst (r : R) : Word := Word.of (r.flds.foldl (fun a f => a + f.rst * 2 ^ f.lo) 0)

/-- The instance of a register that an index names, if any. -/
def R.find (r : R) (idx : Nat) : Option (Nat × Nat) :=
  if idx < r.base then none
  else
    let k := idx - r.base
    let (n1, s1, n2, s2) := r.dims
    let i := if n1 = 1 then 0 else k / s1
    let rem := k - i * s1
    let j := if n2 = 1 then 0 else rem / s2
    if i < n1 ∧ j < n2 ∧ i * s1 + j * s2 = k then some (i, j) else none

/-- The register and instance at an index; none where no chapter defines one (R7, R26). -/
def regAt (idx : Nat) : Option (R × Nat × Nat) :=
  if 0x8000 ≤ idx then (if idx ≤ 0xFFFF then some (.PRM_CELL, idx - 0x8000, 0) else none)
  else (R.partOf idx).findSome? (fun r => (r.find idx).map (fun p => (r, p)))

/-- Reset words that differ between the instances of one register: the touchstone limits of R101, and the parts
that are spare in a module as delivered (R6, R307: LE8, MG4, slice S16, lane 4). -/
def instanceReset : List (Nat × Nat) :=
  [(0x0900, 0x337532F1), (0x0901, 0x19BB1979), (0x0902, 0x0D200BE0), (0x0903, 0x2B502730), (0x0904, 0x17700F00),
   (0x0905, 0x41A03B60), (0x0906, 0x15E00140), (0x0907, 0x15E00140), (0x2E48, 0x3F800000), (0x2E4D, 0x3F800000),
   (0x2E5E, 0x3F800000), (0x2E63, 0x3F800000)]

/-- What a register that nothing has written reads as: its reset word. -/
def resetAt (idx : Nat) : Word :=
  match instanceReset.find? (fun p => p.1 == idx) with
  | some p => Word.of p.2
  | none =>
    match regAt idx with
    | some (r, _) => r.rst
    | none => 0

/-- The stored word at an index. -/
def Mach.word (m : Mach) (idx : Nat) : Word := smGet resetAt m.reg idx

/-- Store a word at an index. -/
def Mach.setWord (m : Mach) (idx : Nat) (v : Word) : Mach := { m with reg := smPut resetAt m.reg idx v }

/-- The stored word of a register. -/
def Mach.w (m : Mach) (r : R) (i : Nat := 0) (j : Nat := 0) : Word := m.word (r.idx i j)

/-- Store the word of a register. -/
def Mach.sw (m : Mach) (r : R) (v : Word) (i : Nat := 0) (j : Nat := 0) : Mach := m.setWord (r.idx i j) v

/-- A field of a register, as a number. -/
def Mach.g (m : Mach) (f : Fd) (i : Nat := 0) (j : Nat := 0) : Nat := getBits (m.w f.reg i j) f.hi f.lo

/-- A one-bit field of a register. -/
def Mach.b (m : Mach) (f : Fd) (i : Nat := 0) (j : Nat := 0) : Bool := m.g f i j != 0

/-- A field of a register as a signed number (R3). -/
def Mach.gi (m : Mach) (f : Fd) (i : Nat := 0) (j : Nat := 0) : Int := sgn (f.hi + 1 - f.lo) (m.g f i j)

/-- Store a field of a register. -/
def Mach.s (m : Mach) (f : Fd) (v : Nat) (i : Nat := 0) (j : Nat := 0) : Mach :=
  m.sw f.reg (setBits (m.w f.reg i j) f.hi f.lo v) i j

/-- Store a one-bit field. -/
def Mach.sb (m : Mach) (f : Fd) (v : Bool) (i : Nat := 0) (j : Nat := 0) : Mach := m.s f (b2n v) i j

/-- Store a signed number in a field, two's complement (R3). -/
def Mach.si (m : Mach) (f : Fd) (v : Int) (i : Nat := 0) (j : Nat := 0) : Mach :=
  m.s f (wrap (f.hi + 1 - f.lo) v) i j

/-- A read-only register that an engine computes in this frame: it is published at the next end of latch (R154). -/
def Mach.staged (m : Mach) (idx v : Nat) : Mach := { m with stage := (smDel m.stage idx) ++ [(idx, Word.of v)] }

/-- A staged 64-bit quantity. -/
def Mach.stagedQ (m : Mach) (idx : Nat) (v : Int) : Mach :=
  (m.staged idx (wrap 64 v)).staged (idx + 1) (wrap 64 v / 2 ^ 32)

/-- Publish the registers staged in the last frame (R154). -/
def Mach.publishStage (m : Mach) : Mach :=
  { each m.stage m (fun m p =>
      if p.1 < 0x10000 then m.setWord p.1 p.2
      else m.setWord (p.1 - 0x10000) (setBits (m.word (p.1 - 0x10000)) 31 16 (p.2.toNat / 2 ^ 16))) with stage := [] }

/-- Stage bits [31:16] of a register whose low half is not read-only: the key is the index with bit 16 set. -/
def Mach.stagedHi (m : Mach) (idx v : Nat) : Mach := m.staged (0x10000 + idx) v

/-- Increment a field that saturates at `max` (R446). -/
def Mach.inc (m : Mach) (f : Fd) (max : Nat) (i : Nat := 0) (j : Nat := 0) : Mach := m.s f (satInc max (m.g f i j)) i j

/-- Set bit k of a field. -/
def Mach.setb (m : Mach) (f : Fd) (k : Nat) (v : Bool) (i : Nat := 0) (j : Nat := 0) : Mach :=
  m.s f (setBit (m.g f i j) k v) i j

/-- Bit k of a field. -/
def Mach.gb (m : Mach) (f : Fd) (k : Nat) (i : Nat := 0) (j : Nat := 0) : Bool := bit (m.g f i j) k

/-- A 64-bit quantity by its low register (R8). -/
def Mach.q (m : Mach) (lo : R) (i : Nat := 0) : Nat :=
  (m.word (lo.idx i 0)).toNat + 2 ^ 32 * (m.word (lo.idx i 0 + 1)).toNat

/-- A signed 64-bit quantity (Q47.16 of R3). -/
def Mach.qi (m : Mach) (lo : R) (i : Nat := 0) : Int := sgn 64 (m.q lo i)

/-- Store a 64-bit quantity by its low register. -/
def Mach.sq (m : Mach) (lo : R) (v : Nat) (i : Nat := 0) : Mach :=
  (m.setWord (lo.idx i 0) (Word.of v)).setWord (lo.idx i 0 + 1) (Word.of (v / 2 ^ 32))

/-- Store a signed 64-bit quantity. -/
def Mach.sqi (m : Mach) (lo : R) (v : Int) (i : Nat := 0) : Mach := m.sq lo (wrap 64 v) i

/-- Registers held in the host domain (R25): EV, LG, ZL and UPD. -/
def isHostIdx (idx : Nat) : Bool := decide (0x4400 ≤ idx) && decide (idx < 0x4C00)

/-- Drop every stored register a predicate names: those registers read their reset values (R6). -/
def Mach.resetRegs (m : Mach) (p : Nat → Bool) : Mach := { m with reg := m.reg.filter (fun e => !p e.1) }

/-! ### Free values (assumption 2) -/

/-- Draw the next free value. -/
def Mach.draw (m : Mach) : Nat × Mach := (Config.freeValue m.free, { m with free := m.free + 1 })

/-! ### Time (R35, R42 to R44) -/

/-- The frame length L (R33). -/
def Mach.L (m : Mach) : Nat := m.g F.FRM_LEN_LEN

/-- The compute window W = L − 1,600 (R34). -/
def Mach.W (m : Mach) : Nat := m.L - 1600

/-- The frame counter (R42). -/
def Mach.frame (m : Mach) : Nat := m.q .FRM_CNT_LO

/-- PDIV of a frame length: the smallest value from 0 to 5 with L ≤ 16,384 · 2^PDIV (R43). -/
def pdivOf (len : Nat) : Nat :=
  if len ≤ 16384 then 0 else if len ≤ 32768 then 1 else if len ≤ 65536 then 2
  else if len ≤ 131072 then 3 else if len ≤ 262144 then 4 else 5

/-- The sub-frame count at cycle c (R43). -/
def subAt (len c : Nat) : Nat := c / 2 ^ pdivOf len

/-- The second word of the R44 timestamp at cycle c. -/
def stampWord (len c : Nat) : Nat := subAt len c % 2 ^ 14 + pdivOf len * 2 ^ 16

/-- The command acts at cycle c of the present frame. -/
def Mach.at (m : Mach) (c : Nat) : Mach := { m with cyc := c }

/-- FCLK cycles since the field domain's power-up, now. -/
def Mach.now (m : Mach) : Nat := m.fclk + m.cyc

/-! ### Counts within a day (R10, R297, R425) -/

/-- 86,400 s of FCLK time (R10). -/
def dayCycles : Nat := 86400 * 400000000

/-- Times of the last 86,400 s (R297). -/
def recent (now : Nat) (l : List (Nat × Nat)) : List (Nat × Nat) := l.filter (fun p => decide (now < p.2 + dayCycles))

/-- Entries of a side or engine. -/
def countOf (l : List (Nat × Nat)) (k : Nat) : Nat := (l.filter (fun p => p.1 == k)).length

/-! ### Field-domain state (R27, R417) -/

/-- The states of `DEV_STATE.STATE`. -/
def stRESET : Nat := 0
def stKEY_READ : Nat := 1
def stBOOT : Nat := 2
def stFIELD_START : Nat := 3
def stRUNNING : Nat := 4
def stHELD : Nat := 5
def stPOWER_FAIL : Nat := 6

/-- The field domain's state. -/
def Mach.st (m : Mach) : Nat := m.g F.DEV_STATE_STATE

/-- Frames tick: the field domain is in FIELD_START after its first tick, in RUNNING or in HELD. -/
def Mach.ticking (m : Mach) : Bool := m.b F.FRM_STAT_RUN && m.st != stPOWER_FAIL

/-- The host domain runs (`PWR_HOST.HSTATE`, R424). -/
def Mach.hostUp (m : Mach) : Bool := m.pow.hst == 2

/-- The active AP side as an engine number: 0 or 1; none while no side is active (R285). -/
def Mach.activeAp (m : Mach) : Option Nat :=
  if m.g F.DX_STAT_ACTIVE = 0 then some 0 else if m.g F.DX_STAT_ACTIVE = 1 then some 1 else none

/-- The active AP's engine number for SOURCE of R474 (0 while no side is active). -/
def Mach.apSrc (m : Mach) : Nat := m.activeAp.getD 0

/-- The module's system address: ring and node (R375). -/
def Mach.addr (m : Mach) : Nat := getBits (m.w .DEV_ADDR) 9 0

/-- The address under which HX joins: that of the identity copy it keeps, 0x3FF without one (R370, R424). -/
def Mach.hxAddr (m : Mach) : Nat := if m.pow.hostId.isEmpty then 0x3FF else fieldAt m.pow.hostId 6 2 % 1024

/-- Engine e runs firmware in service (`DEV_ENG_RUN`). -/
def Mach.engRuns (m : Mach) (e : Nat) : Bool := m.gb F.DEV_ENG_RUN_RUN e

/-! ### The event log (R347 to R352) -/

/-- Privileged codes: groups 0x0A and 0x0B, and code 0x0004 (R348). -/
def privileged (code : Nat) : Bool := code / 256 == 0x0A || code / 256 == 0x0B || code == 0x0004

/-- The 32 bytes of a record (R347), COMMIT written. -/
def Rec.bytes (r : Rec) : List Byte :=
  leBytes 2 r.code ++ leBytes 1 r.src ++ leBytes 1 r.flags ++ leBytes 4 r.arg0 ++ leBytes 4 r.arg1 ++
  leBytes 4 r.cal ++ leBytes 8 r.frame ++ leBytes 4 r.sub ++ leBytes 2 r.rep ++ leBytes 2 0xA55A

/-- The record that 32 bytes hold (R347). -/
def Rec.ofBytes (b : List Byte) : Rec :=
  { code := fieldAt b 0 2, src := fieldAt b 2 1, flags := fieldAt b 3 1, arg0 := fieldAt b 4 4,
    arg1 := fieldAt b 8 4, cal := fieldAt b 12 4, frame := fieldAt b 16 8, sub := fieldAt b 24 4,
    rep := fieldAt b 28 2 }

/-- Append a record. -/
def Log.push (l : Log) (r : Rec) : Log := { l with recs := l.recs ++ [r] }

/-- The value listed for a key, or 0. -/
def lookN (l : List (Nat × Nat)) (k : Nat) : Nat := smGet (fun _ => 0) l k

/-- List a value for a key. -/
def putN (l : List (Nat × Nat)) (k v : Nat) : List (Nat × Nat) := smPut (fun _ => 0) l k v

/-- Replace the newest record's REPEAT (R350). -/
def bumpLast : List Rec → List Rec
  | [] => []
  | [r] => [{ r with rep := satInc 0xFFFF r.rep }]
  | r :: rs => r :: bumpLast rs

/-- A new event equals the last record written (R350). -/
def Rec.same (a : Rec) (r : Rec) : Bool := a.code == r.code && a.src == r.src && a.arg0 == r.arg0 && a.arg1 == r.arg1

/-- An event's argument that R348 leaves open (assumption 9). -/
def openArg (code k : Nat) : Nat := Config.eventArg code k % 2 ^ 32

/-- The event code of an operator mark (assumption 9). -/
def markCode : Nat := Config.operatorMarkCode % 2 ^ 16

/-- The record HX writes for an event: calendar, privileged and calendar flags (R347). -/
def Mach.recOf (m : Mach) (e : Ev) (extra : Nat) : Rec :=
  { code := e.code, src := e.src, arg0 := e.arg0 % 2 ^ 32, arg1 := e.arg1 % 2 ^ 32, cal := m.led.cal % 2 ^ 32,
    flags := b2n (privileged e.code) + 2 * b2n (!m.led.calValid) + extra, frame := e.frame, sub := e.sub }

/-- The record of a host event: it carries the time of the last TIM cell, or all ones before the first (R349). -/
def Mach.hostRec (m : Mach) (code src arg0 arg1 : Nat) : Rec :=
  match m.bar.hostTim with
  | some (f, sub) => m.recOf { code := code, src := src, arg0 := arg0, arg1 := arg1, frame := f, sub := sub } 4
  | none => m.recOf { code := code, src := src, arg0 := arg0, arg1 := arg1, frame := 2 ^ 64 - 1, sub := 2 ^ 32 - 1 } 4

/-- The record of code 0x0002, written once at the first loss after each clear (R352). -/
def Mach.lossRecord (m : Mach) : Mach :=
  if m.log.lossRec || decide (24576 ≤ m.log.recs.length) then m
  else { m with log := { (m.log.push (m.hostRec 0x0002 0x30 (openArg 2 0) (openArg 2 1))) with lossRec := true } }

/-- Write an event to the log: repeats (R350), the rate of privileged codes (R351) and the capacity (R352). -/
def Mach.logRec (m : Mach) (r : Rec) : Mach :=
  if privileged r.code then
    let last := lookN m.log.privLast r.code
    if last ≠ 0 ∧ m.log.sec + 1 - last < max 1 (m.g F.EV_CFG_RATE) then
      { m with log := { m.log with privSup := putN m.log.privSup r.code (satInc 0xFFFF (lookN m.log.privSup r.code)) } }
    else if m.log.recs.length ≥ 24576 then
      ((m.inc F.EV_LOSTP 0xFFFFFFFF).sb F.EV_STAT_FULLP true).lossRecord
    else
      { m with log := { (m.log.push { r with rep := lookN m.log.privSup r.code }) with
                          privLast := putN m.log.privLast r.code (m.log.sec + 1),
                          privSup := putN m.log.privSup r.code 0 } }
  else if (m.log.recs.getLast?.map (fun l => l.same r)).getD false then
    { m with log := { m.log with recs := bumpLast m.log.recs } }
  else if m.log.recs.length ≥ 24064 then
    ((m.inc F.EV_LOST 0xFFFFFFFF).sb F.EV_STAT_FULL true).lossRecord
  else { m with log := m.log.push r }

/-- Raise an event in the field domain: stamped now, it waits for an EVT message (R24, R349). -/
def Mach.raise (m : Mach) (code src arg0 arg1 : Nat) : Mach :=
  { m with bar := { m.bar with evq := m.bar.evq ++
      [{ code := code, src := src, arg0 := arg0 % 2 ^ 32, arg1 := arg1 % 2 ^ 32, frame := m.frame,
         sub := stampWord m.L m.cyc }] } }

/-- Raise an event in the host domain: it is written at once with the frame of the last TIM cell (R349). -/
def Mach.hraise (m : Mach) (code src arg0 arg1 : Nat) : Mach :=
  if !m.hostUp then m else m.logRec (m.hostRec code src arg0 arg1)

/-- A graft or release takes effect: `SPR_LOG` and its event (R299 to R301, R307), at frame
`f`; `src` is its SOURCE under R474. -/
def Mach.sprLog (m : Mach) (part kind src f : Nat) (release : Bool) : Mach :=
  (m.sw .SPR_LOG (Word.of (part * 2 ^ 26 + kind % 4 * 2 ^ 24 + b2n release * 2 ^ 16 + f % 2 ^ 16))).raise
    (if release then 0x0D21 else 0x0D20) src part kind

/-! ### Ledger increments (R355, R356) -/

/-- A field unit adds to a life counter: the increment waits for an EVT message. -/
def Mach.count (m : Mach) (i k : Nat) : Mach :=
  { m with bar := { m.bar with incs := putN m.bar.incs i (lookN m.bar.incs i + k) } }

/-- Life counter i. -/
def Ledger.counter (l : Ledger) (i : Nat) : Nat := if 224 ≤ i then 0 else lookN l.cnt i

/-- Add to life counter i: it never decreases and saturates at 2^64 − 1 (R355). -/
def Ledger.add (l : Ledger) (i k : Nat) : Ledger :=
  if 224 ≤ i then l else { l with cnt := putN l.cnt i (satAdd (2 ^ 64 - 1) (lookN l.cnt i) k) }

/-! ### Field masks -/

/-- The stored word without the bits of a mask. -/
def maskOff (w mask : Nat) : Nat := w - (w &&& mask)

/-- Registers whose W1C bits a clear in the same frame leaves set (R88, R108); elsewhere it is the same cycle (R438). -/
def R.frameClear (r : R) : Bool := r == .TRM_TSTAT || r == .ADC_EP_STAT || r == .MG_STAT

/-- The condition of bit k of a W1C field holds now; `ev` is the event of the bit's setting. -/
def Mach.noteSet (m : Mach) (f : Fd) (k i j : Nat) (ev : Nat × Nat × Nat × Nat) : Mach :=
  if !m.ticking then m
  else
    let idx := f.reg.idx i j
    let mine (e : SetNow) : Bool := e.idx == idx && e.k == f.lo + k
    let old := m.sets.find? (fun e => mine e && (f.reg.frameClear || e.cyc == m.cyc))
    let was := match old with
      | some e => e.was
      | none => m.gb f k i j
    { m with sets := m.sets.filter (fun e => !mine e) ++ [{ idx := idx, k := f.lo + k, cyc := m.cyc, was := was, code := ev.1, src := ev.2.1, arg0 := ev.2.2.1, arg1 := ev.2.2.2 }] }

/-- Set bit k of a W1C field whose setting raises no event of its own. -/
def Mach.setBitW (m : Mach) (f : Fd) (k : Nat := 0) (i : Nat := 0) (j : Nat := 0) : Mach :=
  (m.noteSet f k i j (0, 0, 0, 0)).setb f k true i j

/-- A change of a bit from 0 to 1 raises its event; a bit already set stays set. -/
def Mach.setRaise (m : Mach) (f : Fd) (i j code src arg0 arg1 : Nat) : Mach :=
  let n := m.noteSet f 0 i j (code, src, arg0, arg1)
  if m.b f i j then n else (n.sb f true i j).raise code src arg0 arg1

/-- Whether a clear now leaves the bit of a noted setting set. -/
def Mach.standing (m : Mach) (r : R) (idx mask : Nat) (e : SetNow) : Bool :=
  e.idx == idx && bit mask e.k && (r.frameClear || e.cyc == m.cyc)

/-- The bits of a clear that a condition of the same frame or cycle sets again. -/
def Mach.standMask (m : Mach) (r : R) (i j mask : Nat) : Nat :=
  (m.sets.filter (m.standing r (r.idx i j) mask)).foldl (fun a e => a ||| 2 ^ e.k) 0

/-- The events of bits that stood before, were cleared and are set again. -/
def Mach.setAgain (m : Mach) (r : R) (i j mask : Nat) : Mach :=
  let hit := m.standing r (r.idx i j) mask
  let es := m.sets.filter hit
  if es.isEmpty then m
  else
    let m' := { m with sets := m.sets.map (fun e => if hit e then { e with was := false } else e) }
    each es m' (fun m e => if e.was ∧ e.code ≠ 0 then m.raise e.code e.src e.arg0 e.arg1 else m)

/-- Clear W1C bits of a register: the clear takes effect first (R88, R438). -/
def Mach.clearBits (m : Mach) (r : R) (mask i j : Nat) : Mach :=
  let w := (m.w r i j).toNat
  let c := w &&& maskOff mask (m.standMask r i j mask)
  (if c = 0 then m else m.sw r (Word.of (w - c)) i j).setAgain r i j mask

/-! ### Budgets (R38) -/

/-- `FRM_BUD[e]` of an engine with tables loaded, or of one without. -/
def Mach.putBudget (m : Mach) (e : Nat) (loaded : Bool) (v : Nat) : Mach :=
  m.sw .FRM_BUD (if loaded then Word.of (2 ^ 31 + v % 2 ^ 19) else 0) e

/-- The fixed cost of an AP and `extra` cycles fit a window. -/
def apFits (w extra : Nat) : Bool := decide (3400 + extra ≤ w) || decide (Config.apCost + extra ≤ w)

/-! ### Barrier messages (R18, R19) -/

/-- TYPE codes (R19). -/
def tCMD : Nat := 1
def tRPL : Nat := 2
def tSTM : Nat := 3
def tEVT : Nat := 4
def tUPD : Nat := 5
def tTIM : Nat := 6

/-- The next message number of a kind, which is taken: numbers count modulo 65,536 per type and direction (R18). -/
def Mach.takeNum (m : Mach) (kind : Nat) : Mach × Nat :=
  let n := nth m.bar.nextNum kind 0
  ({ m with bar := { m.bar with nextNum := setNth 0 7 m.bar.nextNum kind ((n + 1) % 65536) } }, n)

/-- A message is handed to the barrier: it takes the next number of its type. -/
def Mach.newMsg (m : Mach) (toField : Bool) (typ cells : Nat) (body : Body) : Mach :=
  let p := m.takeNum typ
  { p.1 with bar := { p.1.bar with
      msgs := p.1.bar.msgs ++ [({ toField := toField, typ := typ, num := p.2, cells := max 1 cells, unsent := max 1 cells, body := body } : BarMsg)] } }

end Sys2Proof.Machine
end

