-- ==== Sys2Proof/Machine/Operands.lean ====
section
/-! DEFINITION. The operand forms: signal cells as every table selects them (R125, R126). -/

namespace Sys2Proof.Machine

open Sys2Proof

/-- What a cell that nothing has written reads as. -/
def cellDefault (_ : Nat) : Word × Bool := (0, false)

/-- The signal cell of a number with its V: ZERO, ONE, or the value published at the last end of latch (R125). -/
def Mach.cell (m : Mach) (n : Nat) : Word × Bool :=
  if n = 0 then (0, true) else if n = 1 then (0x00010000, true) else smGet cellDefault m.cells n

/-- The cell as a Q15.16 number. -/
def Mach.cellI (m : Mach) (n : Nat) : Int := (m.cell n).1.toInt

/-- The value of a cell that this frame's work has computed, else the published one. -/
def Mach.cellNow (m : Mach) (n : Nat) : Word × Bool :=
  if n ≤ 1 then m.cell n
  else match m.fresh.find? (fun p => p.1 == n) with
    | some p => p.2
    | none => m.cell n

/-- Write a cell in this frame: other engines read it from the next end of latch (R36). -/
def Mach.putFresh (m : Mach) (n : Nat) (v : Int) (valid : Bool) : Mach :=
  { m with fresh := smIns (smDel m.fresh n) n (Word.of (wrap 32 v), valid) }

/-- Publish a cell now. -/
def Mach.putCell (m : Mach) (n : Nat) (v : Int) (valid : Bool) : Mach :=
  { m with cells := smPut cellDefault m.cells n (Word.of (wrap 32 v), valid) }

/-- Set only the V of a published cell: its value stays (R126). -/
def Mach.cellValid (m : Mach) (n : Nat) (valid : Bool) : Mach := m.putCell n (m.cellI n) valid

/-- Publish every cell written in the last frame (R36, R126). -/
def Mach.publishFresh (m : Mach) : Mach :=
  { m with cells := m.fresh.foldl (fun l p => smPut cellDefault l p.1 p.2) m.cells, fresh := [] }

/-- Saturate to Q15.16. -/
def satQ (x : Int) : Int := satS 32 x

end Sys2Proof.Machine
end

