-- ==== Sys2Proof/Machine/Analogue.lean ====
section
/-! DEFINITION. Analogue acquisition (spec/05_analogue.md, R90 to R106): scans and triggers, conversions with their
marks, touchstone checks, the harvest, references, slice failures and the anneal. -/

namespace Sys2Proof.Machine

open Sys2Proof

/-- The slice that holds role k; 0x1F: none (R90). -/
def Mach.roleSlice (m : Mach) (k : Nat) : Nat := m.g F.ADC_ROLE_STAT_SLICE k

/-- The spare slice; 0x1F: none. -/
def Mach.spareSlice (m : Mach) : Nat := m.g F.ADC_ANNEAL_STAT_SPARE

/-- A slice's memory beside its registers. -/
def Mach.slice (m : Mach) (x : Nat) : Slice := nth m.adc.slices x {}

/-- Replace it. -/
def Mach.setSlice (m : Mach) (x : Nat) (v : Slice) : Mach := { m with adc := { m.adc with slices := setNth {} 17 m.adc.slices x v } }

/-- `ADC_ANNEAL_STAT.PHASE`. -/
def Mach.annealPhase (m : Mach) : Nat := m.g F.ADC_ANNEAL_STAT_PHASE

/-- The channels of a role's mask, ascending (R93). -/
def Mach.roleMask (m : Mach) (k : Nat) : List Nat :=
  setIdx 56 (m.g F.ADC_MASK_LO k + 2 ^ 32 * m.g F.ADC_MASK_HI_MASK k)

/-- Role k is a paired even role (R94). -/
def Mach.rolePair (m : Mach) (k : Nat) : Bool := k % 2 == 0 && m.b F.ADC_ROLE_CFG_PAIR k

/-- The length D of a role's scan or burst in cycles (R93, R94). -/
def Mach.scanLen (m : Mach) (k : Nat) : Nat :=
  if m.rolePair k then 80 * (m.g F.ADC_ROLE_CFG_BURST k + 1) + 40 else 80 * (m.roleMask k).length

/-- A frame-offset trigger of role k falls at cycle c (R93). -/
def Mach.offsetTrigger (m : Mach) (k c : Nat) : Bool :=
  let o := 8 * m.g F.ADC_ROLE_TRG_OFS k
  let p := 8 * m.g F.ADC_ROLE_TRG_PER k
  decide (c < m.L) && decide (o ≤ c) && (if p = 0 then c == o else (c - o) % p == 0)

/-- A trigger of role k at cycle c from its frame offsets (TRIG 1); a paired odd role has none (R93, R94). Triggers of TRIG 2 come
with their reload points. -/
def Mach.triggers (m : Mach) (k c : Nat) : Bool :=
  decide (k < 16) && !(k % 2 == 1 && m.rolePair (k - 1)) && m.g F.ADC_ROLE_CFG_TRIG k == 1 && m.offsetTrigger k c

/-- Role k takes a trigger at the reload points of group g of this kind: EDGE 1 bottoms, 2 tops, 3 both (R93). -/
def Mach.reloadTriggers (m : Mach) (g : Nat) (top : Bool) (k : Nat) : Bool :=
  !(k % 2 == 1 && m.rolePair (k - 1)) && m.g F.ADC_ROLE_CFG_TRIG k == 2 && m.g F.ADC_ROLE_CFG_GROUP k == g &&
    bit (m.g F.ADC_ROLE_CFG_EDGE k) (if top then 1 else 0)

/-- A trigger of role k at the present cycle: it starts the scan, or is counted as missed while the role is busy
(R95; a trigger at t + D is taken, R436). -/
def Mach.scanTrigger (m : Mach) (k : Nat) : Mach :=
  if nth m.adc.busy k 0 > m.now then
    let m := (m.inc F.ADC_ROLE_STAT_TRGMISS 0xFFFF k).setBitW F.ADC_STAT_TRGMISS_ANY
    m.raise 0x0500 0x20 k (openArg 0x0500 1)
  else
    let till := m.now + m.scanLen k
    let b := setNth 0 16 m.adc.busy k till
    let pair := m.rolePair k
    let run : AdcScan := { start := m.now, chs := m.roleMask k, x := m.roleSlice k, y := m.roleSlice (if pair then k + 1 else k), n := if pair then 2 * (m.g F.ADC_ROLE_CFG_BURST k + 1) else 0, till := till }
    let old := (nth m.adc.scans k []).take 1
    { m with adc := { m.adc with busy := if pair then setNth 0 16 b (k + 1) till else b, scans := setNth [] 16 m.adc.scans k (run :: old) } }

/-- The scan triggers of a reload point of group g (R93). -/
def Mach.reloadScans (m : Mach) (g : Nat) (top : Bool) : Mach :=
  each ((upTo 16).filter (m.reloadTriggers g top)) m Mach.scanTrigger

/-- `ADC_ROLE_STAT[k].BUSY` at the present cycle (R95). -/
def Mach.roleBusy (m : Mach) (k : Nat) : Bool := decide (m.now < nth m.adc.busy k 0)

/-- A slice fails (R105): its bit, its event at the replacement; from now on its conversions carry SUS. -/
def Mach.sliceFails (m : Mach) (x : Nat) : Mach := m.setSlice x { m.slice x with failed := true }

/-- The die temperature in °C of a code, rounded down (R101). -/
def dieTemp (code : Int) : Int := (code - 1600) / 32

/-- `PWR_STAT.TEMP` and `HOT` after a conversion of TC6 or TC7 (R431, `PWR_STAT`). -/
def Mach.dieHeat (m : Mach) (t : Nat) : Mach :=
  let a := dieTemp m.adc.tc6.2
  let b := dieTemp m.adc.tc7.2
  let d := if m.adc.tcSeen = 3 then max a b else if m.adc.tcSeen = 1 then a else b
  let hot := decide (110 ≤ d)
  let rises := hot && !m.b F.PWR_STAT_HOT
  let m := (m.si F.PWR_STAT_TEMP (satS 8 d)).sb F.PWR_STAT_HOT hot
  if rises then m.raise 0x120C 0x20 (wrap 32 d) (48 + t) else m

/-- A supply conversion outside its limits (R431): TC2 core, TC3 I/O, TC4 LF, TC5 barrier. -/
def Mach.supplyOut (m : Mach) (t : Nat) (code : Int) : Mach :=
  let f := if t = 2 then F.PWR_STAT_CORESUP else if t = 3 then F.PWR_STAT_IOSUP else if t = 4 then F.PWR_STAT_LFMEAS
    else F.PWR_STAT_BARSUP
  (m.setBitW f).raise 0x120B 0x20 (48 + t) (wrap 16 code)

/-- A touchstone code lies outside its limits (R101). -/
def Mach.tcOut (m : Mach) (t : Nat) (code : Int) : Bool :=
  decide (code < m.gi F.ADC_TC_LIM_LO t) || decide (m.gi F.ADC_TC_LIM_HI t < code)

/-- A touchstone conversion is checked (R101, R105, R431). -/
def Mach.touchstone (m : Mach) (x t : Nat) (code : Int) : Mach :=
  let bad := m.tcOut t code
  let m := if bad then (m.setBitW F.ADC_STAT_TCFAIL t).raise (0x0508 + t) 0x20 x (wrap 16 code) else m
  let m :=
    if t ≤ 1 then
      let s := m.slice x
      let s := { s with tcRun := if bad then s.tcRun + 1 else 0 }
      let m := m.setSlice x s
      if 2 ≤ s.tcRun then m.sliceFails x else m
    else if bad ∧ t ≤ 5 then m.supplyOut t code
    else m
  if t = 6 ∨ t = 7 then
    let adc : Adc := if t = 6 then { m.adc with tc6 := (m.frame, code), tcSeen := setBit m.adc.tcSeen 0 true }
               else { m.adc with tc7 := (m.frame, code), tcSeen := setBit m.adc.tcSeen 1 true }
    let m := { m with adc := adc }.dieHeat t
    if adc.tcSeen = 3 ∧ adc.tc6.1 = adc.tc7.1 ∧ 320 < (adc.tc6.2 - adc.tc7.2).natAbs then
      m.raise 0x0510 0x20 x (wrap 16 code)
    else m
  else m

/-- The reference of a channel: touchstones use the internal one (R99). -/
def Mach.chRef (m : Mach) (ch : Nat) : Nat := if ch < 48 then m.g F.ADC_CH_CFG_REF ch else 0

/-- The reference flag of a channel when a slot started: the flags of the last tick, or of the tick before for a slot that began in
the last frame (R99, R91). -/
def Mach.refOk (m : Mach) (ch start : Nat) : Bool :=
  if start < m.fclk then bit m.adc.prevRef (m.chRef ch) else bit (getBits (m.w .ADC_REF_STAT) 2 0) (m.chRef ch)

/-- The LSB of a channel's range in nV, or in pA for range 2 (R92); touchstones use range 0 (R99). -/
def Mach.chLsb (m : Mach) (ch : Nat) : Nat :=
  let r := if ch < 48 then m.g F.ADC_CH_CFG_RANGE ch else 0
  if r = 0 then 312500 else if r = 1 then 78125 else 781250

/-- The uncorrected code of a sample, to the nearest: full scale goes with Vref / 4.096 V (R92, R99). -/
def codeOf (v : Sample) (lsb : Nat) : Int := rndDiv (v.level * 4096000) (lsb * v.vref : Nat)

/-- A code with the corrections of slice x, before clipping (R102). -/
def Mach.sliceCode (m : Mach) (x : Nat) (u : Int) : Int :=
  let g := m.gi F.ADC_SLICE_STAT_GAIN x
  let o := m.gi F.ADC_SLICE_STAT_OFS x
  if g = 0 then u + o else u + o + u * g / 10000 + clampI (-1) 2 (Config.correctionRound g o u)

/-- By this conversion of TC0 or TC1 the slice fails: the one before was outside its limits too (R105). -/
def Mach.tcFails (m : Mach) (x ch : Nat) (raw : Int) : Bool :=
  (ch == 48 || ch == 49) && decide (1 ≤ (m.slice x).tcRun) && m.tcOut (ch - 48) (satS 16 raw)

/-- One conversion (R91, R94, R100): the slice's code after clipping, and its marks. -/
structure Taken where
  code : Int := 0
  ovr : Bool := false
  sus : Bool := false
  refns : Bool := false
deriving DecidableEq, Repr

/-- A conversion with a mark is not compared (R104). -/
def Taken.marked (t : Taken) : Bool := t.ovr || t.sus || t.refns

/-- One conversion by slice x of a corrected code (R100, R105): clipped at full scale, marked overrange and suspect. `chSus` is the
channel's mark of rule 2, `fails` that the slice fails by this conversion. -/
def Mach.convert (m : Mach) (x : Nat) (chSus fails refns : Bool) (raw : Int) : Mach × Taken :=
  let code := satS 16 raw
  let ovr := code != raw
  let s := m.slice x
  (m.setSlice x { s with susNext := ovr },
   { code := code, ovr := ovr, sus := s.susNext || s.failed || fails || (chSus && !ovr), refns := refns })

/-- The bits of `ADC_STAT` that the conversions of a channel set (R99, R100). -/
def Mach.markAny (m : Mach) (ts : List Taken) : Mach :=
  let m := if ts.any (fun t => t.ovr) then m.setBitW F.ADC_STAT_OVR_ANY else m
  let m := if ts.any (fun t => t.sus) then m.setBitW F.ADC_STAT_SUS_ANY else m
  if ts.any (fun t => t.refns) then m.setBitW F.ADC_STAT_REFNS_ANY else m

/-- The conversions of one channel in one slot or burst, in time order: slice, start of the slot, sample (R94). -/
def convertAll (m : Mach) (ch : Nat) (chSus : Bool) : List (Nat × Nat × Sample) → List Taken → Mach × List Taken
  | [], acc => (m, acc)
  | (x, start, v) :: rest, acc =>
    let raw := m.sliceCode x (codeOf v (m.chLsb ch))
    let (m1, t) := m.convert x chSus (m.tcFails x ch raw) (!m.refOk ch start) raw
    convertAll m1 ch t.ovr rest (acc ++ [t])

/-- The mean of a burst's codes, rounded toward zero (R94). -/
def meanCode (cs : List Int) : Int := tdivI (cs.foldl (· + ·) 0) cs.length

/-- Add a compared pair of codes to the anneal's sums (R104). Key 56 is the terminal path. -/
def Mach.addDiff (m : Mach) (key : Nat) (d : Int) : Mach :=
  let (s, n) := ((m.adc.diff.find? (fun p => p.1 == key)).map (·.2)).getD (0, 0)
  { m with adc := { m.adc with diff := (m.adc.diff.filter (fun p => p.1 != key)) ++ [(key, s + d, n + 1)] } }

/-- The spare overlaps role r (R103). -/
def Mach.overlaps (m : Mach) (r : Nat) : Bool :=
  m.annealPhase == 2 && m.g F.ADC_ANNEAL_STAT_NEXTROLE == r && decide (m.spareSlice < 17)

/-- The overlapping spare converts in the holder's slots; each pair is compared unless either code is marked, and the spare's results
serve for nothing else (R103, R104). -/
def overlapAll (key lsb : Nat) : Mach → List (Taken × Sample) → Mach
  | m, [] => m
  | m, (t, v) :: rest =>
    let (m1, o) := m.convert m.spareSlice false false false (m.sliceCode m.spareSlice (codeOf v lsb))
    overlapAll key lsb (if t.marked || o.marked then m1 else m1.addDiff key (o.code - t.code)) rest

/-- Store a finished conversion of a channel with the others since the last harvest: one that completes in the
latch phase at or before cycle 1,160 belongs to this frame's harvest (R97). -/
def Mach.storeConv (m : Mach) (ch : Nat) (v : ChAcc) : Mach :=
  let put (l : List ChAcc) := setNth {} 56 l ch { v with cnt := satInc 15 (nth l ch {}).cnt }
  if m.phase = .latch ∧ m.cyc ≤ 1160 then { m with adc := { m.adc with stage := put m.adc.stage } }
  else { m with adc := { m.adc with acc := put m.adc.acc } }

/-- The conversion of a channel in this scan completes at cycle `now` (R91, R93, R94). -/
def AdcScan.ends (r : AdcScan) (ch now : Nat) : Bool :=
  if r.n = 0 then r.chs.zipIdx.any (fun p => p.1 == ch && r.start + 80 * (p.2 + 1) == now)
  else r.chs == [ch] && r.till == now

/-- The slices and slot starts of the conversions of a channel that completes now (R93, R94). -/
def AdcScan.slots (r : AdcScan) (now : Nat) : List (Nat × Nat) :=
  if r.n = 0 then [(r.x, now - 80)] else (upTo r.n).map (fun i => (if i % 2 = 0 then r.x else r.y, r.start + 40 * i))

/-- The conversions of a list that one slice of a pair made: the first slice's, then the second's (R94). -/
def halfOf (i : Nat) (ts : List Taken) : List Taken := (ts.zipIdx.filter (fun p => p.2 % 2 == i)).map (fun p => p.1)

/-- Slice x is in a scan that has not ended (R103). -/
def Mach.scanning (m : Mach) (x : Nat) : Bool :=
  m.adc.scans.any (fun l => l.any (fun r => decide (m.now < r.till) && (r.x == x || r.y == x)))

/-- The conversion of channel ch in scan r of role k completes: `inp` are its samples, one or those of a pair's burst alternating
between the two slices; `alt` the overlapping spare's (R91, R94, R100, R104). -/
def Mach.scanConversion (m : Mach) (k ch : Nat) (r : AdcScan) (inp alt : List Sample) : Mach :=
  let (m, ts) := convertAll m ch (nth m.adc.chSus ch false) (((r.slots m.now).zip inp).map (fun p => (p.1.1, p.1.2, p.2))) []
  let m := { m with adc := { m.adc with chSus := setNth false 56 m.adc.chSus ch (ts.getLastD {}).ovr } }
  let m := m.markAny ts
  let pair := r.n != 0
  let mine := if m.overlaps k then (if pair then halfOf 0 ts else ts) else if pair && m.overlaps (k + 1) then halfOf 1 ts else []
  let m := overlapAll ch (m.chLsb ch) m (mine.zip alt)
  let code := if pair then meanCode (ts.map (fun t => t.code)) else (ts.headD {}).code
  let m := m.storeConv ch { code := code, ovr := ts.any (fun t => t.ovr), sus := ts.any (fun t => t.sus), refns := ts.any (fun t => t.refns), slice := r.y }
  if 48 ≤ ch then m.touchstone r.x (ch - 48) code else m

/-- The scan of role k whose conversion of channel ch completes now, of the last two (R93). -/
def Mach.scanOf (m : Mach) (k ch : Nat) : Option AdcScan := (nth m.adc.scans k []).find? (fun r => r.ends ch m.now)

/-- A conversion of the terminal path by the slice of role 15 (R73, R99, R100, R478): none while no slice holds it. `v` is the pin
voltage in µV and `vref` the internal reference's; one code is 1.25 mV. -/
def Mach.termConv (m : Mach) (vref : Nat) (v : Int) (alt : Option Int) : Mach × Conv :=
  let x := m.roleSlice 15
  if 17 ≤ x then (m, { code := 0, sus := true })
  else
    let (m, t) := m.convert x false false (!m.refOk 48 m.fclk) (m.sliceCode x (codeOf { level := v, vref := vref } 1250))
    let m := m.markAny [t]
    let m := if m.overlaps 15 then
        (match alt with | some a => overlapAll 56 1250 m [(t, { level := a, vref := vref })] | none => m) else m
    (m, { code := t.code, ovr := t.ovr, sus := t.sus })

/-- The conversions of the terminal path in order (R73). -/
def Mach.termConvs (m : Mach) (vref : Nat) : List Int → List Int → List Conv → Mach × List Conv
  | [], _, acc => (m, acc)
  | c :: cs, alts, acc =>
    let (m1, v) := m.termConv vref c alts.head?
    Mach.termConvs m1 vref cs alts.tail (acc ++ [v])

/-- The harvest of cycle 1,160: conversions since the last harvest are set apart for publication (R97). -/
def adcHarvest (m : Mach) : Mach :=
  { m with adc := { m.adc with stage := m.adc.acc, acc := List.replicate 56 {} } }

/-- Publish one channel's result word and its signal cell (R97, R98). -/
def publishCh (m : Mach) (ch : Nat) : Mach :=
  let v := nth m.adc.stage ch {}
  let n := 0x0600 + ch
  if v.cnt = 0 then ((m.sb F.ADC_RES_STALE true ch).s F.ADC_RES_CNT 0 ch).cellValid n false
  else
    let m := m.sw .ADC_RES (Word.of (b2n v.ovr * 2 ^ 31 + b2n v.sus * 2 ^ 30 + b2n v.refns * 2 ^ 29 + v.cnt * 2 ^ 24 +
      v.slice % 32 * 2 ^ 16 + wrap 16 v.code)) ch
    if v.sus || v.refns then m.cellValid n false else m.putCell n (2 * v.code) true

/-- The analogue results are published at the end of latch (R97, R98). -/
def adcPublish (m : Mach) : Mach :=
  let m := each (upTo 56) m publishCh
  { m with adc := { m.adc with stage := List.replicate 56 {} } }

/-- A reference is enabled (R99). -/
def Mach.refEnabled (m : Mach) (i : Nat) : Bool :=
  if i = 0 then true else if i = 1 then m.b F.ADC_REF_CFG_EXT_EN else m.b F.ADC_REF_CFG_AVS_EN

/-- The window comparator of reference i at a tick (R99). -/
def refStep (inside : List Bool) (lim : Bool) (m : Mach) (i : Nat) : Mach :=
  let ok := m.refEnabled i && nth inside i true && !(i == 2 && lim)
  let run := if ok then satInc 255 (nth m.adc.refRun i 0) else 0
  let m := { m with adc := { m.adc with refRun := setNth 0 3 m.adc.refRun i run } }
  let f := if i = 0 then F.ADC_REF_STAT_INT_OK else if i = 1 then F.ADC_REF_STAT_EXT_OK else F.ADC_REF_STAT_AVS_OK
  m.sb f (ok && (m.b f || decide (m.g F.ADC_REF_CFG_SETTLE ≤ run)))

/-- The references at a tick (R99). -/
def refTick (m : Mach) (inside : List Bool) (lim : Bool) : Mach :=
  let m := { m with adc := { m.adc with prevRef := getBits (m.w .ADC_REF_STAT) 2 0 } }
  let m := each (upTo 3) m (refStep inside lim)
  if lim && m.refEnabled 2 then m.setBitW F.ADC_REF_STAT_AVS_ILIM else m

/-! ### The anneal (R102 to R106) -/

/-- The anneal stops: no spare, or EN 0; a spare that overlapped is the spare again, and a STEP that waited is dropped (R106). -/
def Mach.annealStop (m : Mach) : Mach :=
  let m := ((m.s F.ADC_ANNEAL_STAT_PHASE 3).s F.ADC_ANNEAL_STAT_COUNT 0).s F.ADC_ANNEAL_STAT_RETRY 0
  let m := if m.spareSlice < 17 then m.s F.ADC_SLICE_STAT_STATE 1 m.spareSlice else m
  { (m.sb F.ADC_CTL_STEP false) with adc := { m.adc with stepReq := false } }

/-- A slice is retired; the record holds across power-up (R102, R106). -/
def Mach.retireSlice (m : Mach) (x : Nat) : Mach :=
  let m := (m.s F.ADC_SLICE_STAT_STATE 3 x).s F.SPR_PART_STATE 4 (14 + x)
  m.raise 0x0522 0x20 x (openArg 0x0522 1)

/-- No spare slice remains (R106). -/
def Mach.noSpare (m : Mach) : Mach := ((m.s F.ADC_ANNEAL_STAT_SPARE 0x1F).sb F.ADC_STAT_NOSPARE true).annealStop

/-- A step begins with CAL for role k (R103). -/
def Mach.annealBegin (m : Mach) (k : Nat) : Mach :=
  let m := ((m.s F.ADC_ANNEAL_STAT_PHASE 0).s F.ADC_ANNEAL_STAT_COUNT 0).s F.ADC_ANNEAL_STAT_RETRY 0
  let m := m.s F.ADC_ANNEAL_STAT_NEXTROLE k
  { m with adc := { m.adc with stepStart := m.frame, stepReq := false, diff := [] } }

/-- A slice takes role k (R90). -/
def Mach.holdRole (m : Mach) (x k : Nat) : Mach :=
  ((m.s F.ADC_ROLE_STAT_SLICE x k).s F.ADC_SLICE_STAT_STATE 0 x).s F.ADC_SLICE_STAT_ROLE k x

/-- A slice becomes the spare. -/
def Mach.becomeSpare (m : Mach) (x : Nat) : Mach :=
  ((m.s F.ADC_ANNEAL_STAT_SPARE x).s F.ADC_SLICE_STAT_STATE 1 x).s F.SPR_PART_STATE 1 (14 + x)

/-- The spare enters OVERLAP with the holder of the step's role (R103). -/
def Mach.enterOverlap (m : Mach) : Mach :=
  let k := m.g F.ADC_ANNEAL_STAT_NEXTROLE
  let m := (m.s F.ADC_ANNEAL_STAT_PHASE 2).s F.ADC_ANNEAL_STAT_COUNT 0
  let m := (m.s F.ADC_SLICE_STAT_STATE 2 m.spareSlice).s F.ADC_SLICE_STAT_ROLE k m.spareSlice
  { (m.sb F.ADC_CTL_STEP false) with adc := { m.adc with stepReq := false, diff := [] } }

/-- The calibration's corrections of the spare arrive (R102, R103): outside ±64 LSB or ±0.50 % the slice fails and is
retired; a second attempt goes on with OVERLAP (R104). -/
def Mach.calEnd (m : Mach) (ofs gain : Int) : Mach :=
  if m.annealPhase = 0 ∧ m.spareSlice < 17 ∧ 2048 ≤ m.g F.ADC_ANNEAL_STAT_COUNT then
    let x := m.spareSlice
    if ofs < -64 ∨ 64 < ofs ∨ gain < -50 ∨ 50 < gain then (m.retireSlice x).noSpare
    else
      let m := (m.si F.ADC_SLICE_STAT_OFS ofs x).si F.ADC_SLICE_STAT_GAIN gain x
      if m.b F.ADC_ANNEAL_STAT_RETRY then m.enterOverlap
      else (m.s F.ADC_ANNEAL_STAT_PHASE 1).s F.ADC_ANNEAL_STAT_COUNT 0
  else m

/-- WAIT ends when DWELL frames have passed since the step began, or by STEP at the next tick (R103). -/
def Mach.waitEnd (m : Mach) (byStep : Bool) : Mach :=
  if m.annealPhase = 1 ∧ ((byStep ∧ m.adc.stepReq) ∨ m.g F.ADC_ANNEAL_CFG_DWELL ≤ m.frame - m.adc.stepStart) then m.enterOverlap
  else m

/-- A mean difference exceeds TOL in magnitude (R104). -/
def Mach.diffBad (m : Mach) : Bool :=
  m.adc.diff.any (fun p => decide (m.g F.ADC_ANNEAL_CFG_TOL * p.2.2 < p.2.1.natAbs))

/-- The KIND for which a slice is taken out of turn, to be retired at its switch (R299). -/
def Mach.wornSlice (m : Mach) (x : Nat) : Option Nat := (m.adc.worn.find? (fun p => p.1 == x)).map (fun p => p.2)

/-- The role of the next step: that of a slice taken out of turn (R299), else the next role. -/
def Mach.nextRole (m : Mach) (k : Nat) : Nat :=
  match m.adc.worn with
  | p :: _ => m.g F.ADC_SLICE_STAT_ROLE p.1
  | [] => (k + 1) % 16

/-- The former holder of a role has finished its scan (R103): it becomes the spare and the next step begins, or it is retired where it
was taken out of turn (R299). -/
def Mach.leaveEnd (m : Mach) : Mach :=
  match m.adc.leave with
  | none => m
  | some old =>
    if m.scanning old then m
    else
      let m : Mach := { m with adc := { m.adc with leave := none } }
      match m.wornSlice old with
      | some kind =>
        let x := m.roleSlice (m.g F.ADC_SLICE_STAT_ROLE old)
        let m : Mach := { m with adc := { m.adc with worn := m.adc.worn.filter (fun p => p.1 != old) } }
        ((m.retireSlice old).noSpare).sprLog (14 + x) kind 0x20 m.frame false
      | none =>
        let m := m.becomeSpare old
        if m.b F.ADC_ANNEAL_CFG_EN then m.annealBegin (m.nextRole (m.g F.ADC_ANNEAL_STAT_NEXTROLE)) else m

/-- The tick that ends OVERLAP (R103, R104): the switch, a second attempt, or the spare's retirement. -/
def Mach.annealSwitch (m : Mach) : Mach :=
  if m.annealPhase = 2 ∧ m.spareSlice < 17 ∧ 16 ≤ m.g F.ADC_ANNEAL_STAT_COUNT then
    let k := m.g F.ADC_ANNEAL_STAT_NEXTROLE
    let x := m.spareSlice
    if m.diffBad then
      if m.b F.ADC_ANNEAL_STAT_RETRY then ((m.raise 0x0521 0x20 k x).retireSlice x).noSpare
      else
        let m := (m.s F.ADC_SLICE_STAT_STATE 1 x).raise 0x0521 0x20 k x
        let m := m.annealBegin k
        m.sb F.ADC_ANNEAL_STAT_RETRY true
    else
      let old := m.roleSlice k
      let m := (m.holdRole x k).s F.SPR_PART_STATE 0 (14 + x)
      let m := m.raise 0x0520 0x20 k x
      if 17 ≤ old then m.noSpare
      else ({ (m.s F.ADC_ANNEAL_STAT_SPARE 0x1F) with adc := { m.adc with leave := some old } } : Mach).leaveEnd
  else m

/-- A failed working slice is replaced at the tick by the spare, without CAL or OVERLAP, and retired (R105). -/
def Mach.replaceSlice (m : Mach) (x : Nat) : Mach :=
  if (m.slice x).failed ∧ m.g F.ADC_SLICE_STAT_STATE x = 0 ∧ m.spareSlice < 17 ∧ x < 17 then
    let k := m.g F.ADC_SLICE_STAT_ROLE x
    let y := m.spareSlice
    let m := (m.holdRole y k).s F.SPR_PART_STATE 0 (14 + y)
    let m := m.raise 0x0520 0x20 k y
    ((m.retireSlice x).noSpare).sprLog (14 + y) 0 0x20 m.frame false
  else m

/-- The anneal at a tick (R103 to R106). -/
def adcTick (m : Mach) (first : Bool) : Mach :=
  let m := each (upTo 17) (m.sb F.ADC_STAT_RUN true).leaveEnd Mach.replaceSlice
  if !m.b F.ADC_ANNEAL_CFG_EN then (if m.annealPhase = 3 then m else m.annealStop)
  else if m.annealPhase = 3 then (if m.spareSlice < 17 then m.annealBegin (m.g F.ADC_ANNEAL_STAT_NEXTROLE) else m)
  else if first then { m with adc := { m.adc with stepStart := m.frame } }
  else
    let m := m.s F.ADC_ANNEAL_STAT_COUNT (satInc 0xFFFF (m.g F.ADC_ANNEAL_STAT_COUNT))
    (m.waitEnd true).annealSwitch

/-- `ADC_CTL.STEP` ends WAIT at the next tick; no effect in other phases (R103). -/
def Mach.annealStepReq (m : Mach) : Mach :=
  if m.annealPhase = 1 then { (m.sb F.ADC_CTL_STEP true) with adc := { m.adc with stepReq := true } } else m

/-- ADC_SCAN_TRIGGER (R93, R95): a trigger of role k at cycle c. A role with TRIG 2 takes its triggers with the reload point. -/
def execAdcScanTrigger (k c : Nat) (s : State) : Host.Outcome State Fault Refusal :=
  .next { s with m := if s.m.triggers k c then (s.m.at c).scanTrigger k else s.m }

/-- CONVERSION_COMPLETE (R91): role k's conversion of channel ch completes at cycle c, in its slot of a scan in progress. -/
def execConversionComplete (k ch c : Nat) (inp alt : List Sample) (s : State) : Host.Outcome State Fault Refusal :=
  .next { s with m :=
    match (s.m.at c).scanOf k ch with
    | some r =>
      if r.x < 17 ∧ r.y < 17 ∧ inp.length = max 1 r.n then ((s.m.at c).scanConversion k ch r inp alt).leaveEnd else s.m
    | none => s.m }

/-- SLICE_FAILURE (R105): two consecutive TC0 or TC1 conversions of slice x were outside their limits. -/
def execSliceFailure (x c : Nat) (s : State) : Host.Outcome State Fault Refusal :=
  .next { s with m := if x < 17 ∧ 2 ≤ (s.m.slice x).tcRun then (s.m.at c).sliceFails x else s.m }

/-- SLICE_REPLACED (R105): at the tick, every failed slice whose role the spare can take is replaced. -/
def execSliceReplaced (s : State) : Host.Outcome State Fault Refusal :=
  .next { s with m := each (upTo 17) s.m Mach.replaceSlice }

/-- ANNEAL_CAL_END (R103): the corrections measured. -/
def execAnnealCalEnd (ofs gain : Int) (s : State) : Host.Outcome State Fault Refusal :=
  .next { s with m := s.m.calEnd ofs gain }

/-- ANNEAL_WAIT_END (R103). -/
def execAnnealWaitEnd (s : State) : Host.Outcome State Fault Refusal := .next { s with m := s.m.waitEnd false }

/-- ANNEAL_SWITCH (R104). -/
def execAnnealSwitch (s : State) : Host.Outcome State Fault Refusal := .next { s with m := s.m.annealSwitch }

end Sys2Proof.Machine
end

