-- ==== Sys2Proof/Machine/Frame.lean ====
section
/-! DEFINITION. The frame (spec/02_the_frame.md): on-time engines and overruns (R39 to R41), the frame counter
(R42), and frame lock (R45 to R47) with its commands. -/

namespace Sys2Proof.Machine

open Sys2Proof

/-- Engines that are frame-bound and work in this frame: they run, are not HX, and the spares only while grafted
(R38, R48). -/
def Mach.frameBound (m : Mach) (e : Nat) : Bool :=
  m.engRuns e && e != 18 && !(e == 11 && m.g F.SPR_STAT_LE8ST != 2) && !(e == 16 && m.g F.SPR_STAT_MG4ST != 2)

/-- `FRM_OVR[e]` as a number, the argument of its events (R348). -/
def Mach.ovrArg (m : Mach) (e : Nat) : Nat := (m.w .FRM_OVR e).toNat

/-- The argument `FRM_LOCK_ERR` of the events of group 0x02. -/
def Mach.lockArg (m : Mach) : Nat := (m.w .FRM_LOCK_ERR).toNat

/-- Engine e is on time with `c` cycles from end of latch to done (R39). -/
def Mach.onTime (m : Mach) (e c : Nat) : Mach :=
  let m := m.s F.FRM_USE_LAST c e
  let m := if m.g F.FRM_PEAK_PEAK e < c then m.s F.FRM_PEAK_PEAK c e else m
  m.s F.FRM_OVR_RUN 0 e

/-- Overruns of engine e within the last 1,024 frames. -/
def Mach.winCount (m : Mach) (e : Nat) : Nat := (m.ovrAt.filter (fun p => p.1 == e)).length

/-- The consecutive limit: CONSEC, and 2 for the SP (R41). -/
def Mach.consecLimit (m : Mach) (e : Nat) : Nat := if e = 2 then 2 else m.g F.FRM_OVR_CFG_CONSEC

/-- Engine e fails: its bit in `DEV_ENG_FAULT` is set and its failure action is due (R41). -/
def Mach.engineFails (m : Mach) (e : Nat) : Mach :=
  let m := m.setBitW F.DEV_ENG_FAULT_FAULT e
  if m.failing.contains e then m else { m with failing := m.failing ++ [e] }

/-- Failure by overrun: a count reaches its limit (R41). -/
def Mach.failCheck (m : Mach) (e : Nat) : Mach :=
  if m.consecLimit e ≤ m.g F.FRM_OVR_RUN e ∨ m.g F.FRM_OVR_CFG_WIN ≤ m.winCount e then
    (m.engineFails e).raise (0x0220 + e) e (m.ovrArg e) m.lockArg
  else m

/-- Engine e has overrun this frame: step 4 of R40, its counters, its event, and failure by overrun (R41). -/
def Mach.overrun (m : Mach) (e : Nat) : Mach :=
  let m := m.s F.FRM_USE_LAST 0x7FFFF e
  let m := { m with ovrAt := m.ovrAt ++ [(e, m.frame)] }
  let m := (m.inc F.FRM_OVR_TOTAL 0xFFFF e).count (198 + e) 1
  let m := m.s F.FRM_OVR_RUN (min 15 (m.g F.FRM_OVR_RUN e + 1)) e
  let m := m.s F.FRM_OVR_WINCNT (min 255 (m.winCount e)) e
  let m := (m.setBitW F.FRM_STAT_OVR_ANY).raise (0x0200 + e) e (m.ovrArg e) m.lockArg
  m.failCheck e

/-- The overruns that have left the window of 1,024 frames drop out of WINCNT. -/
def Mach.slideWindow (m : Mach) : Mach :=
  let keep := m.ovrAt.filter (fun p => decide (m.frame < p.2 + 1024))
  if keep.length = m.ovrAt.length then m
  else each (upTo 18) { m with ovrAt := keep } (fun m e => m.s F.FRM_OVR_WINCNT (min 255 (m.winCount e)) e)

/-! ### Frame lock -/

/-- L suits frame lock: 100,000 is a multiple of L, or L of 100,000 (R45). -/
def lockable (len : Nat) : Bool := decide (0 < len) && (100000 % len == 0 || len % 100000 == 0)

/-- LOCKED changes: its event (R47, codes 0x0240 and 0x0241). -/
def Mach.setLocked (m : Mach) (v : Bool) : Mach :=
  if m.b F.FRM_STAT_LOCKED = v then m
  else (m.sb F.FRM_STAT_LOCKED v).raise (if v then 0x0240 else 0x0241) 0x20 (openArg (if v then 0x0240 else 0x0241) 0) m.lockArg

/-- A write of LOCK (R45, R47): starts lock, is refused, or stops it. -/
def Mach.writeLock (m : Mach) (v : Bool) : Mach :=
  if v then
    (if lockable m.L then
      (if m.b F.FRM_CTL_LOCK then m
       else { ((m.sb F.FRM_CTL_LOCK true).sb F.FRM_STAT_ACQUIRING true) with lock := { m.lock with run := 0 } })
     else (m.sb F.FRM_CTL_LOCK false).setBitW F.FRM_STAT_LOCK_REFUSED)
  else
    let m := ((m.sb F.FRM_CTL_LOCK false).sb F.FRM_STAT_ACQUIRING false).sb F.FRM_STAT_HOLDOVER false
    let m := m.setLocked false
    { (m.s F.FRM_LOCK_ERR 0) with lock := { m.lock with remain := 0, rate := 0, run := 0, acc := 0 } }

/-- The phase error in ns of a tick at system time `t2` half-nanoseconds, to the resolution of 10 ns (R46, R47). -/
def phaseError (len ofs t2 : Nat) : Int :=
  let p : Int := 5 * len
  let d := ((t2 : Int) - 5 * ofs) % p
  let e := if p < 2 * d then d - p else d
  10 * rndDiv e 20

/-- A beacon: the error of the last tick is measured, corrections are set and the state bits change (R47). -/
def Mach.lockBeacon (m : Mach) (tickNs : Nat) : Mach :=
  if !m.b F.FRM_CTL_LOCK then m
  else
    let err := phaseError m.L (m.g F.FRM_LOCK_OFS_OFS) (2 * tickNs)
    let m := m.si F.FRM_LOCK_ERR err
    let inside := decide (-500 ≤ err) && decide (err ≤ 500)
    let m := if m.b F.FRM_STAT_HOLDOVER then
        { ((m.sb F.FRM_STAT_HOLDOVER false).sb F.FRM_STAT_ACQUIRING true) with lock := { m.lock with run := 0 } } else m
    let run := if inside then m.lock.run + 1 else 0
    let cyc := tdivI (err * 2) 5
    let m := { m with lock := { m.lock with remain := cyc, rate := cyc, run := run, acc := 0, sys := 2 * tickNs } }
    if m.b F.FRM_STAT_LOCKED then
      (if inside then m else (m.setLocked false).sb F.FRM_STAT_ACQUIRING true)
    else if 4 ≤ run then (m.sb F.FRM_STAT_ACQUIRING false).setLocked true
    else m

/-- 40 TDMA cycles without a beacon: holdover, keeping the last rate correction (R47). -/
def Mach.holdover (m : Mach) : Mach :=
  if m.b F.FRM_CTL_LOCK ∧ !m.b F.FRM_STAT_HOLDOVER then
    let m := (m.setLocked false).sb F.FRM_STAT_ACQUIRING false
    { (m.sb F.FRM_STAT_HOLDOVER true) with lock := { m.lock with remain := 0, run := 0, acc := 0 } }
  else m

/-- The correction of this frame in cycles, at most 8 either way, up to the remaining error (R47). -/
def Mach.correction (m : Mach) : Int := if m.b F.FRM_CTL_LOCK then clampI (-8) 8 m.lock.remain else 0

/-- The length of this frame: a late tick shortens it. It is final at the end of commit staging (R47). -/
def Mach.curLen (m : Mach) : Nat := ((m.L : Int) - m.correction).toNat

/-- System time, the error that remains and holdover at a tick after a frame of `len` cycles (R47). The last rate correction that holdover
keeps is the last beacon's whole error in cycles, made once in 100,000 cycles (assumption 39). -/
def Mach.lockTick (m : Mach) (len : Nat) : Mach :=
  let k := m.lock
  let k := { k with sys := k.sys + 5 * len, remain := k.remain - m.correction }
  let k := if m.b F.FRM_STAT_HOLDOVER then
      (if 100000 ≤ k.acc + len then { k with acc := k.acc + len - 100000, remain := k.remain + k.rate }
       else { k with acc := k.acc + len }) else k
  { m with lock := k }

/-- The tick of the next frame: the counter increments, the sub-frame count restarts (R35, R42, R43). `first` is
the first tick after power-up, whose frame is 0. -/
def Mach.tickTime (m : Mach) (first : Bool) : Mach :=
  let len := m.curLen
  let m := if first then m else m.lockTick len
  let m := if first then m.sq .FRM_CNT_LO 0 else m.sq .FRM_CNT_LO ((m.frame + 1) % 2 ^ 64)
  let m := { m with cyc := 0, phase := .latch, sets := [], fclk := if first then m.fclk else m.fclk + len }
  let m := (m.s F.FRM_LEN_PDIV (pdivOf m.L)).s F.FRM_SUB_PDIV (pdivOf m.L)
  ((m.s F.FRM_SUB_SUB 0).sb F.FRM_STAT_RUN true).slideWindow

/-- FRAME_LOCK_BEACON (R47): the system time of the last tick in ns, as the beacon gives it. -/
def execFrameLockBeacon (tickNs : Nat) (s : State) : Host.Outcome State Fault Refusal :=
  .next { s with m := s.m.lockBeacon tickNs }

/-- LOCK_HOLDOVER (R47). -/
def execLockHoldover (s : State) : Host.Outcome State Fault Refusal :=
  .next { s with m := s.m.holdover }

end Sys2Proof.Machine
end

