-- ==== Sys2Proof/Machine/Key.lean ====
section
/-! DEFINITION. The Key (spec/19_start_and_power.md, R418, R419, R277, R357): its bytes, the identity record, the
configuration generation's sections, and the parameter table. -/

namespace Sys2Proof.Machine

open Sys2Proof

/-- `n` bytes of a sparse memory whose unlisted bytes read 0, from an address upward. -/
def cellsSlice : Nat → Nat → List Host.Cell → List Byte
  | 0, _, _ => []
  | n + 1, a, l =>
    match l.dropWhile (fun p => decide (p.1 < a)) with
    | [] => List.replicate (n + 1) 0
    | (k, v) :: t => if k = a then v :: cellsSlice n (a + 1) t else 0 :: cellsSlice n (a + 1) ((k, v) :: t)

/-- The pairs of bytes stored at an address upward that differ from 0. -/
def cellsOf : Nat → List Byte → List Host.Cell
  | _, [] => []
  | a, b :: l => if b = 0 then cellsOf (a + 1) l else (a, b) :: cellsOf (a + 1) l

/-- Store bytes in a sparse memory whose unlisted bytes read 0. -/
def cellsStore (l : List Host.Cell) (a : Nat) (bs : List Byte) : List Host.Cell :=
  l.takeWhile (fun p => decide (p.1 < a)) ++ cellsOf a bs ++ l.dropWhile (fun p => decide (p.1 < a + bs.length))

/-- Bytes of the Key. -/
def Mach.keyBytes (m : Mach) (o n : Nat) : List Byte := cellsSlice n o m.key

/-- Write bytes of the Key. -/
def Mach.keyStore (m : Mach) (o : Nat) (bs : List Byte) : Mach := { m with key := cellsStore m.key o bs }

/-! ### Identity (R418) -/

/-- A copy of the identity record is valid. -/
def idValid (b : List Byte) : Bool :=
  fieldAt b 0 4 == 0x544E4449 && fieldAt b 4 2 == 1 && fieldAt b 8 8 != 0 && fieldAt b 60 4 == crc32c (b.take 60)

/-- The identity record of the first valid copy; if the other copy differs it is rewritten. -/
def Mach.readIdentity (m : Mach) : Mach × Option (List Byte) :=
  let a := m.keyBytes 0 64
  let b := m.keyBytes 0x100 64
  if idValid a then ((if a == b then m else m.keyStore 0x100 a), some a)
  else if idValid b then (m.keyStore 0 b, some b)
  else (m, none)

/-! ### Generations (R419, R421) -/

/-- The base of a generation area. -/
def genBase (area : Nat) : Nat := if area = 0 then 0x1000 else 0x29000

/-- The bytes of a generation area. -/
def Mach.genArea (m : Mach) (area : Nat) : List Byte := m.keyBytes (genBase area) 163840

/-- A section of a generation: type, offset, length, CRC. -/
structure Sect where
  typ : Nat := 0
  off : Nat := 0
  len : Nat := 0
  crc : Nat := 0
deriving DecidableEq, Repr

/-- The section table. -/
def genSects (b : List Byte) : List Sect :=
  (upTo (fieldAt b 6 2)).map (fun j =>
    { typ := fieldAt b (32 + 16 * j) 2, off := fieldAt b (36 + 16 * j) 4, len := fieldAt b (40 + 16 * j) 4,
      crc := fieldAt b (44 + 16 * j) 4 })

/-- The content of the first section of a type. -/
def genSect (b : List Byte) (typ : Nat) : Option (List Byte) :=
  ((genSects b).find? (fun s => s.typ == typ)).map (fun s => sliceB b s.off s.len)

/-- Length of the header and section table, before its CRC. -/
def genHead (n : Nat) : Nat := 32 + 16 * n

/-- A generation built from its header fields and sections, with both kinds of CRC. -/
def genBuild (seq manid fwman : Nat) (secs : List (Nat × List Byte)) : List Byte :=
  let n := secs.length
  let start := genHead n + 4
  let (rows, data) := secs.foldl (fun (acc : List Byte × List Byte) (s : Nat × List Byte) =>
    let pad := List.replicate ((4 - s.2.length % 4) % 4) (0 : Byte)
    (acc.1 ++ leBytes 2 s.1 ++ leBytes 2 0 ++ leBytes 4 (start + acc.2.length) ++ leBytes 4 s.2.length ++
      leBytes 4 (crc32c s.2), acc.2 ++ s.2 ++ pad)) ([], [])
  let head := leBytes 4 0x4E474643 ++ leBytes 2 1 ++ leBytes 2 n ++ leBytes 4 seq ++ leBytes 4 manid ++ leBytes 4 fwman ++
    leBytes 4 (start + data.length) ++ leBytes 8 0 ++ rows
  head ++ leBytes 4 (crc32c head) ++ data

/-- The header and section layout of a generation hold (R421), its FWMANID apart. -/
def genOk (b : List Byte) : Bool :=
  let n := fieldAt b 6 2
  let len := fieldAt b 20 4
  let ss := genSects b
  let count (t : Nat) : Nat := (ss.filter (fun s => s.typ == t)).length
  fieldAt b 0 4 == 0x4E474643 && fieldAt b 4 2 == 1 && decide (1 ≤ n) && decide (n ≤ 16) && decide (len ≤ 163840) &&
  fieldAt b 24 8 == 0 && fieldAt b (genHead n) 4 == crc32c (b.take (genHead n)) &&
  ss.all (fun s => decide (1 ≤ s.typ) && decide (s.typ ≤ 8) && decide (genHead n + 4 ≤ s.off) && decide (s.off + s.len ≤ len) &&
    crc32c (sliceB b s.off s.len) == s.crc) &&
  (upTo n).all (fun j => fieldAt b (34 + 16 * j) 2 == 0) &&
  (upTo n).all (fun i => (upTo i).all (fun j =>
    let x := nth ss i {}
    let y := nth ss j {}
    decide (x.off + x.len ≤ y.off) || decide (y.off + y.len ≤ x.off))) &&
  count 1 == 1 && count 2 == 1 && decide (count 4 ≤ 1) && decide (count 5 ≤ 1) && count 6 == 1 && count 7 == 1 &&
  (let qs := (ss.filter (fun s => s.typ == 8)).map (fun s => fieldAt b s.off 1)
   (upTo qs.length).all (fun i => (upTo i).all (fun j => nth qs i 0 != nth qs j 0)))

/-- A module change to a section of the generation in force rewrites the section and both of its CRCs (R419). -/
def Mach.genRewrite (m : Mach) (typ : Nat) (data : List Byte) : Mach :=
  match m.gen with
  | none => m
  | some a =>
    let b := m.genArea a
    let secs := (genSects b).map (fun s => (s.typ, sliceB b s.off s.len))
    let secs := if secs.any (fun s => s.1 == typ) then secs.map (fun s => if s.1 == typ then (typ, data) else s)
      else secs ++ [(typ, data)]
    let g := genBuild (fieldAt b 8 4) (fieldAt b 12 4) (fieldAt b 16 4) secs
    if 163840 < g.length then m else m.keyStore (genBase a) (g ++ List.replicate (163840 - g.length) (0 : Byte))

/-- The content of a section of the generation in force. -/
def Mach.genInForce (m : Mach) (typ : Nat) : Option (List Byte) :=
  match m.gen with
  | none => none
  | some a => genSect (m.genArea a) typ

/-! ### The parameter table (R277, R419) -/

/-- The base of a copy. -/
def parBase (i : Nat) : Nat := if i = 0 then 0x51000 else 0x60000

/-- A copy of the parameter table that passes its CRC: SEQ, IMGID, values. -/
def Mach.parCopy (m : Mach) (i : Nat) : Option (Nat × Nat × List Int) :=
  let h := m.keyBytes (parBase i) 28
  let n := fieldAt h 16 2
  if fieldAt h 0 4 ≠ 0x544D5250 ∨ fieldAt h 4 2 ≠ 1 ∨ 15352 < n then none
  else
    let b := m.keyBytes (parBase i) (28 + 4 * n + 4)
    if fieldAt b (28 + 4 * n) 4 ≠ crc32c (b.take (28 + 4 * n)) then none
    else some (fieldAt b 8 4, fieldAt b 12 4, (upTo n).map (fun j => sgn 32 (fieldAt b (28 + 4 * j) 4)))

/-- A copy belongs to an image: IMGID, NPAR and every value inside MIN to MAX (R277). -/
def parBelongs (imgid : Nat) (decls : List PDecl) (c : Nat × Nat × List Int) : Bool :=
  c.2.1 == imgid && c.2.2.length == decls.length &&
  (upTo decls.length).all (fun j =>
    let d := nth decls j {}
    decide (d.lo ≤ nth c.2.2 j 0) && decide (nth c.2.2 j 0 ≤ d.hi))

/-- The values the cells of an image take at FIELD_START, and the IMGIDs of copies not used (R277). -/
def Mach.parRead (m : Mach) (imgid : Nat) (decls : List PDecl) : List Int × List Nat :=
  let cs := [m.parCopy 0, m.parCopy 1].filterMap id
  match cs.filter (parBelongs imgid decls) with
  | [] => (decls.map (fun d => d.init), cs.map (fun c => c.2.1))
  | [c] => (c.2.2, [])
  | c :: d :: _ => (if c.1 < d.1 then d.2.2 else c.2.2, [])

/-- Write the table: to the copy with the lower SEQ, or to one that fails its CRC (R277, R419). -/
def Mach.parWrite (m : Mach) (imgid : Nat) (vals : List Int) : Mach :=
  let a := m.parCopy 0
  let b := m.parCopy 1
  let sq (c : Option (Nat × Nat × List Int)) : Nat := match c with
    | some x => x.1
    | none => 0
  let t := if a.isNone then 0 else if b.isNone then 1 else if sq a ≤ sq b then 0 else 1
  let d := leBytes 4 0x544D5250 ++ leBytes 2 1 ++ leBytes 2 0 ++ leBytes 4 (max (sq a) (sq b) + 1) ++ leBytes 4 imgid ++
    leBytes 2 vals.length ++ leBytes 10 0 ++ (vals.map (fun v => leBytes 4 (wrap 32 v))).flatten
  m.keyStore (parBase t) (d ++ leBytes 4 (crc32c d))

end Sys2Proof.Machine
end

