-- ==== Sys2Proof/Machine/Can.lean ====
section
/-! DEFINITION. Field buses (spec/14_field_buses.md, R308 to R327): configuration checks, the schedule matrix, reception,
transmission, modes, errors, sleep and wake, and the commands of this chapter that come from the bus. -/

namespace Sys2Proof.Machine

open Sys2Proof

/-- The controller's memory beside its registers. -/
def Mach.can (m : Mach) (k : Nat) : Bus := nth m.bus k {}

/-- Replace it. -/
def Mach.setCan (m : Mach) (k : Nat) (x : Bus) : Mach := { m with bus := setNth {} 4 m.bus k x }

/-- Bytes of a length code (R313). -/
def dlcBytes (d : Nat) : Nat := if d ≤ 8 then d else nth [12, 16, 20, 24, 32, 48, 64] (d - 9) 64

/-! ### Configuration (R309, R319, R321) -/

/-- ⌈1.2·x⌉. -/
def ceil12 (x : Nat) : Nat := (6 * x + 4) / 5

/-- The nominal bit time in units of 12.5 ns (R309). -/
def Mach.nomBit (m : Mach) (k : Nat) : Nat :=
  (m.g F.CB_NBT_NBRP k + 1) * (1 + (m.g F.CB_NBT_NTSEG1 k + 1) + (m.g F.CB_NBT_NTSEG2 k + 1))

/-- The data bit time in units of 12.5 ns. -/
def Mach.dataBit (m : Mach) (k : Nat) : Nat :=
  (m.g F.CB_DBT_DBRP k + 1) * (1 + (m.g F.CB_DBT_DTSEG1 k + 1) + (m.g F.CB_DBT_DTSEG2 k + 1))

/-- A word of `CB_NBT` lies outside R309. -/
def nbtBad (w : Word) : Bool :=
  let brp := getBits w 4 0 + 1
  let t1 := getBits w 24 17 + 1
  let t2 := getBits w 16 10 + 1
  let q := 1 + t1 + t2
  !(decide (2 ≤ t1) && decide (t1 ≤ 256) && decide (8 ≤ q) && decide (q ≤ 385) && decide (80 ≤ q * brp) &&
    decide (q * brp ≤ 8000))

/-- The data phase lies outside R309. -/
def Mach.dbtBad (m : Mach) (k : Nat) : Bool :=
  let q := 1 + (m.g F.CB_DBT_DTSEG1 k + 1) + (m.g F.CB_DBT_DTSEG2 k + 1)
  !(decide (5 ≤ q) && decide (q ≤ 49) && decide (16 ≤ m.dataBit k) && decide (m.dataBit k ≤ m.nomBit k))

/-- Bit timing fails (R321). -/
def Mach.timingBad (m : Mach) (k : Nat) : Bool :=
  nbtBad (m.w .CB_NBT k) ||
  decide (min (m.g F.CB_NBT_NTSEG1 k) (m.g F.CB_NBT_NTSEG2 k) < m.g F.CB_NBT_NSJW k) ||
  (m.b F.CB_CTL_FDEN k &&
    (m.dbtBad k || decide (min (m.g F.CB_DBT_DTSEG1 k) (m.g F.CB_DBT_DTSEG2 k) < m.g F.CB_DBT_DSJW k) ||
     (!m.b F.CB_DBT_TDC k && decide (m.dataBit k < 80)) ||
     (m.b F.CB_DBT_TDC k && decide (1 < m.g F.CB_DBT_DBRP k))))

/-- Tmax of a buffer's frame in units of 12.5 ns (R319). -/
def Mach.tmax (m : Mach) (k b : Nat) : Nat :=
  let n := dlcBytes (m.g F.CB_BUF_CFG_DLC k b)
  let ide := m.g F.CB_BUF_ID_IDE k b
  let tn := m.nomBit k
  if m.b F.CB_BUF_ID_FDF k b then
    let td := if m.b F.CB_BUF_ID_BRS k b then m.dataBit k else tn
    (ceil12 (30 + 20 * ide) + 13) * tn + (ceil12 (8 * n + 10) + (if n ≤ 16 then 28 else 33)) * td
  else (ceil12 (39 + 20 * ide + 8 * n) + 13) * tn

/-- Tmax fits a column: Tmax ≤ COLF·L·2.5 ns − 2 µs (R319). -/
def Mach.fitsColumn (m : Mach) (k b : Nat) : Bool :=
  decide (5 * m.tmax k b + 800 ≤ m.g F.CB_TT_CFG_COLF k * m.L)

/-- TYPE of a buffer (R313). -/
def Mach.bufType (m : Mach) (k b : Nat) : Nat := m.g F.CB_BUF_CFG_TYPE k b

/-- The buffer is scheduled. -/
def Mach.bufSched (m : Mach) (k b : Nat) : Bool := m.b F.CB_BUF_CFG_SCHED k b

/-- Buffers of a controller that are not off. -/
def Mach.usedBufs (m : Mach) (k : Nat) : List Nat := (upTo 128).filter (fun b => m.bufType k b != 0)

/-- Kind of a column (R318). -/
def Mach.colKind (m : Mach) (k col : Nat) : Nat :=
  let lo := 2 * (col % 16)
  getBits (m.w .CB_COL k (col / 16)) (lo + 1) lo

/-- The buffer occupies a cell: column and basic cycle (R317). -/
def Mach.occupies (m : Mach) (k b col bc : Nat) : Bool :=
  m.bufSched k b && col % 2 ^ m.g F.CB_BUF_CFG_CSTEP k b == m.g F.CB_BUF_CFG_COL k b &&
  bc % 2 ^ m.g F.CB_BUF_CFG_REP k b == m.g F.CB_BUF_CFG_OFS k b

/-- The interval of a scheduled buffer in frames (R317). -/
def Mach.bufInterval (m : Mach) (k b : Nat) : Nat :=
  m.g F.CB_TT_CFG_COLF k * (64 * (2 ^ m.g F.CB_BUF_CFG_REP k b - 1) + 2 ^ m.g F.CB_BUF_CFG_CSTEP k b)

/-- Two scheduled buffers share a cell. -/
def Mach.shareCell (m : Mach) (k a b : Nat) : Bool :=
  let cs := 2 ^ min (m.g F.CB_BUF_CFG_CSTEP k a) (m.g F.CB_BUF_CFG_CSTEP k b)
  let rs := 2 ^ min (m.g F.CB_BUF_CFG_REP k a) (m.g F.CB_BUF_CFG_REP k b)
  m.g F.CB_BUF_CFG_COL k a % cs == m.g F.CB_BUF_CFG_COL k b % cs &&
  m.g F.CB_BUF_CFG_OFS k a % rs == m.g F.CB_BUF_CFG_OFS k b % rs

/-- TX and REF buffers. -/
def Mach.sends (m : Mach) (k b : Nat) : Bool := m.bufType k b == 2 || m.bufType k b == 3

/-- ID and IDE of a buffer. -/
def Mach.bufId (m : Mach) (k b : Nat) : Nat × Nat := (m.g F.CB_BUF_ID_IDE k b, m.g F.CB_BUF_ID_ID k b)

/-- Data words of a buffer. -/
def Mach.bufWords (m : Mach) (k b : Nat) : Nat := (dlcBytes (m.g F.CB_BUF_CFG_DLC k b) + 3) / 4

/-- One buffer by itself fails R321. -/
def Mach.bufBad (m : Mach) (k b : Nat) : Bool :=
  let fdf := m.b F.CB_BUF_ID_FDF k b
  let en := m.b F.CB_TT_CFG_EN k
  let cs := m.g F.CB_BUF_CFG_CSTEP k b
  let rep := m.g F.CB_BUF_CFG_REP k b
  (!m.b F.CB_CTL_FDEN k && (fdf || decide (8 < m.g F.CB_BUF_CFG_DLC k b))) ||
  (m.b F.CB_BUF_ID_BRS k b && !fdf) ||
  decide (512 < m.g F.CB_BUF_CFG_DOFS k b + m.bufWords k b) ||
  (m.bufSched k b &&
    (!en || decide (6 < cs) || decide (2 ^ cs ≤ m.g F.CB_BUF_CFG_COL k b) || decide (4 < rep) ||
     decide (2 ^ rep ≤ m.g F.CB_BUF_CFG_OFS k b) || !(m.fitsColumn k b))) ||
  (m.bufType k b == 3 &&
    !(decide (4 ≤ dlcBytes (m.g F.CB_BUF_CFG_DLC k b)) && m.bufSched k b && m.g F.CB_BUF_CFG_COL k b == 0 &&
      cs == 6 && rep == 0)) ||
  (m.sends k b && m.bufSched k b &&
    (upTo 64).any (fun c => c % 2 ^ cs == m.g F.CB_BUF_CFG_COL k b && m.colKind k c != 1)) ||
  (m.bufType k b == 2 && !m.bufSched k b && en &&
    !((upTo 64).any (fun c => m.colKind k c == 2) && m.fitsColumn k b))

/-- Two buffers together fail R321. -/
def Mach.pairBad (m : Mach) (k a b : Nat) : Bool :=
  let oa := m.g F.CB_BUF_CFG_DOFS k a
  let ob := m.g F.CB_BUF_CFG_DOFS k b
  (decide (0 < m.bufWords k a) && decide (0 < m.bufWords k b) && decide (oa < ob + m.bufWords k b) &&
    decide (ob < oa + m.bufWords k a)) ||
  (m.bufId k a == m.bufId k b && (m.sends k a == m.sends k b)) ||
  (m.bufType k a == 3 && m.bufType k b == 3) ||
  (m.sends k a && m.sends k b && m.bufSched k a && m.bufSched k b && m.shareCell k a b)

/-- Some pair of a list fails. -/
def anyPair (f : Nat → Nat → Bool) : List Nat → Bool
  | [] => false
  | a :: l => l.any (f a) || anyPair f l

/-- The controller's configuration fails its check (R321). -/
def Mach.busBad (m : Mach) (k : Nat) : Bool :=
  let us := m.usedBufs k
  m.timingBad k || us.any (m.bufBad k) || anyPair (m.pairBad k) us

/-! ### Status -/

/-- Raise an event of group 0x0E (R348, R474). -/
def Mach.canEvent (m : Mach) (low k b : Nat) : Mach := m.raise (0x0E00 + low) 0x20 k b

/-- Set a W1C status bit that raises its event (R348: low byte is the bit number). -/
def Mach.canBit (m : Mach) (f : Fd) (k : Nat) : Mach := (m.setBitW f 0 k).canEvent f.lo k (openArg (0x0E00 + f.lo) 1)

/-- NEWDAT of a buffer, in its status and in `CB_NEWDAT` (R314). -/
def Mach.setNewdat (m : Mach) (k b : Nat) (v : Bool) : Mach :=
  ((if v then m.noteSet F.CB_BUF_STAT_NEWDAT 0 k b (0, 0, 0, 0) else m).sb F.CB_BUF_STAT_NEWDAT v k b).setb F.CB_NEWDAT (b % 32) v k (b / 32)

/-- FRAME of a buffer is written with the present frame (R314). -/
def Mach.stampBuf (m : Mach) (k b : Nat) : Mach :=
  let m := m.s F.CB_BUF_STAT_FRAME m.frame k b
  m.setCan k { m.can k with stamp := putN (m.can k).stamp b (m.frame + 1) }

/-- Frames since FRAME of a buffer was written; none before its first write. -/
def Mach.bufAge (m : Mach) (k b : Nat) : Option Nat :=
  let v := lookN (m.can k).stamp b
  if v = 0 then none else some (m.frame + 1 - v)

/-- STALE (R314). -/
def Mach.bufStale (m : Mach) (k b : Nat) : Bool :=
  match m.bufAge k b with
  | some a => decide (32768 ≤ a)
  | none => false

/-- The buffer whose data area holds a word (R316). -/
def Mach.wordOwner (m : Mach) (k i : Nat) : Option Nat :=
  (m.usedBufs k).find? (fun b => decide (m.g F.CB_BUF_CFG_DOFS k b ≤ i) && decide (i < m.g F.CB_BUF_CFG_DOFS k b + m.bufWords k b))

/-- The first n bytes of a buffer's data area. -/
def Mach.bufBytes (m : Mach) (k b n : Nat) : List Byte :=
  let o := m.g F.CB_BUF_CFG_DOFS k b
  (((upTo ((n + 3) / 4)).map (fun i => leBytes 4 (m.w .CB_DATA k (o + i)).toNat)).flatten).take n

/-- Store bytes in a buffer's data area: whole words (the bytes are padded with 0). -/
def Mach.putBuf (m : Mach) (k b : Nat) (bs : List Byte) : Mach :=
  let o := m.g F.CB_BUF_CFG_DOFS k b
  each (upTo ((bs.length + 3) / 4)) m (fun m i => m.sw .CB_DATA (Word.of (fieldAt bs (4 * i) 4)) k (o + i))

/-! ### Time of the schedule (R317) -/

/-- Column and basic cycle of frame n. -/
def Mach.colOf (m : Mach) (k n : Nat) : Nat := n / m.g F.CB_TT_CFG_COLF k % 64

/-- Basic cycle of frame n. -/
def Mach.bcOf (m : Mach) (k n : Nat) : Nat := n / (64 * m.g F.CB_TT_CFG_COLF k) % 16

/-- The controller takes part on the bus: NORMAL or LISTEN in force, not integrating, not bus-off. -/
def Mach.onBus (m : Mach) (k : Nat) : Bool :=
  (m.g F.CB_STAT_MODE k == 1 || m.g F.CB_STAT_MODE k == 2) && !m.b F.CB_STAT_INTEG k && m.g F.CB_STAT_ERRST k != 2

/-- An EXCL transmission was not completed (R318). -/
def Mach.txFail (m : Mach) (k b : Nat) : Mach :=
  (m.setBitW F.CB_BUF_STAT_TXFAIL 0 k b).inc F.CB_MCNT_TXFAIL 0xFFFF k

/-- The present cell's EXCL buffer that has not started fails (R318). -/
def Mach.dropDue (m : Mach) (k : Nat) : Mach :=
  match (m.can k).due with
  | some b => (m.txFail k b).setCan k { m.can k with due := none }
  | none => m

/-- A monitored cell was not satisfied (R320). -/
def Mach.cellMissed (m : Mach) (k b : Nat) : Mach :=
  let was := m.b F.CB_BUF_STAT_MISS k b
  let m := (m.setBitW F.CB_BUF_STAT_MISS 0 k b).inc F.CB_MCNT_MISS 0xFFFF k
  if was then m else m.canEvent 0x40 k b

/-- The monitored cells of the column that ends are judged (R320). -/
def Mach.judgeCells (m : Mach) (k : Nat) : Mach :=
  let x := m.can k
  if x.sched ∧ m.onBus k then
    each ((m.usedBufs k).filter (fun b => m.bufType k b == 1 &&
        m.occupies k b (m.colOf k x.colFrame) (m.bcOf k x.colFrame) && !(x.sat.contains b))) m
      (fun m b => m.cellMissed k b)
  else m

/-- A transmission under way ends without success: an EXCL cell's counts as TXFAIL (R318, R324). -/
def Mach.abortFly (m : Mach) (k : Nat) : Mach :=
  match (m.can k).fly with
  | some f =>
    let m := m.setCan k { m.can k with fly := none }
    if f.excl then m.txFail k f.buf else m
  | none => m

/-! ### Modes (R311, R322, R325) -/

/-- A controller that the image in force names: it carries a station, a shaft source, or a buffer of CB_RX or CB_TX
(R311, R322). -/
def Mach.busNamed (m : Mach) (k : Nat) : Bool :=
  (match m.scan.img with
   | some i => i.stns.any (fun s => s.en && s.cb == k) ||
       i.blks.any (fun b => (b.typ == 0x35 && nth i.consts (nth b.ops 0 0 % 2 ^ 16) 0 == k) ||
         (b.typ == 0x36 && nth i.consts (nth b.ops 1 0 % 2 ^ 16) 0 == k))
   | none => false) ||
  m.scan.machs.any (fun x => x.typ != 0 && x.shSrc == 0x10 + k)

/-- The controller leaves the bus. -/
def Mach.busLeave (m : Mach) (k mode : Nat) : Mach :=
  let m := m.abortFly k
  let m := m.dropDue k
  let m := (m.s F.CB_STAT_MODE mode k).sb F.CB_STAT_INTEG false k
  m.setCan k { m.can k with sched := false, sleepReq := false }

/-- The controller begins to integrate in a mode (R311). -/
def Mach.busJoin (m : Mach) (k mode : Nat) : Mach :=
  let m := m.abortFly k
  let m := m.dropDue k
  let m := (m.s F.CB_STAT_MODE mode k).sb F.CB_STAT_INTEG true k
  m.setCan k { m.can k with sched := false, sleepReq := false }

/-- A SLEEP request takes effect at once where no schedule runs and nothing is being sent (R325). -/
def Mach.sleepNow (m : Mach) (k : Nat) : Mach :=
  if (m.can k).sleepReq ∧ !m.b F.CB_TT_CFG_EN k ∧ (m.can k).fly.isNone then m.busLeave k 3 else m

/-- The requested mode takes effect (R311, R321, R325); in bus-off it waits for the end of the recovery (R326). -/
def Mach.busApply (m : Mach) (k : Nat) : Mach :=
  let want := m.g F.CB_CTL_MODE k
  let cur := m.g F.CB_STAT_MODE k
  if m.g F.CB_STAT_ERRST k = 2 then m
  else
  let m := m.setCan k { m.can k with modeReq := false }
  if want = 0 then (if cur = 0 then m else m.busLeave k 0)
  else if cur = 0 ∧ m.busBad k then m.canBit F.CB_STAT_CFGERR k
  else if want = 3 then
    (if cur = 3 then m else (m.setCan k { m.can k with sleepReq := true }).sleepNow k)
  else
    let m := m.setCan k { m.can k with sleepReq := false }
    if cur = want then m else m.busJoin k want

/-- A write of `CB_CTL.MODE` (R322, R311): refused, or stored; it takes effect at the next tick, so that a bus-off in the same
frame is handled first (R326; DEDUCED, assumption 46). -/
def Mach.busMode (m : Mach) (k v : Nat) : Mach :=
  if (v = 0 ∨ v = 3) ∧ m.busNamed k then m.setBitW F.CB_STAT_REFUSED 0 k
  else
    let m := m.s F.CB_CTL_MODE v k
    m.setCan k { m.can k with modeReq := true }

/-! ### The tick (R317, R320, R325) -/

/-- A basic cycle begins: SLEEP takes effect, and the schedule of an integrated controller starts (R311, R325). -/
def Mach.basicCycle (m : Mach) (k : Nat) : Mach :=
  if (m.can k).sleepReq then m.busLeave k 3
  else if m.onBus k then m.setCan k { m.can k with sched := true } else m

/-- A column begins (R317, R318). -/
def Mach.columnBegin (m : Mach) (k : Nat) : Mach :=
  let n := m.frame
  let m := (m.judgeCells k).dropDue k
  let m := m.setCan k { m.can k with sat := [], colFrame := n, colAt := m.fclk }
  let m := if n % (64 * m.g F.CB_TT_CFG_COLF k) = 0 then m.basicCycle k else m
  if (m.can k).sched ∧ m.g F.CB_STAT_MODE k = 1 ∧ m.colKind k (m.colOf k n) = 1 then
    m.setCan k { m.can k with due := (m.usedBufs k).find? (fun b => m.sends k b && m.b F.CB_BUF_STAT_ARMED k b &&
      m.occupies k b (m.colOf k n) (m.bcOf k n)) }
  else m

/-- One controller's tick; at the first tick it follows its requested mode (R312), later a mode requested in the frame before
takes effect. -/
def busTick1 (first : Bool) (m : Mach) (k : Nat) : Mach :=
  let m := if first || (m.can k).modeReq then m.busApply k else m
  if m.b F.CB_TT_CFG_EN k then
    let m := (m.s F.CB_TT_STAT_COL (m.colOf k m.frame) k).s F.CB_TT_STAT_BC (m.bcOf k m.frame) k
    if m.frame % m.g F.CB_TT_CFG_COLF k = 0 then m.columnBegin k else m
  else m

/-- The field buses' tick. -/
def busTick (m : Mach) (first : Bool) : Mach := each (upTo 4) m (busTick1 first)

/-- POWER_FAIL: every controller stops at once and leaves the bus recessive (R312). -/
def busHalt (m : Mach) : Mach := each (upTo 4) m (fun m k => m.busLeave k 0)

/-! ### Transmission (R316, R318) -/

/-- A write of TXRQ = 1 (R316). -/
def Mach.txRequest (m : Mach) (k b : Nat) : Mach :=
  if !m.sends k b then m
  else
    let data := m.bufBytes k b (dlcBytes (m.g F.CB_BUF_CFG_DLC k b))
    let x := m.can k
    let m := m.setCan k { x with copy := smPut (fun _ => ([] : List Byte)) x.copy b data }
    if m.bufSched k b || m.bufType k b == 3 then m.sb F.CB_BUF_STAT_ARMED true k b
    else
      let m := m.sb F.CB_BUF_STAT_TXRQ true k b
      let x := m.can k
      if x.rq.contains b then m else m.setCan k { x with rq := x.rq ++ [b] }

/-- A write of a data word (R316): stored only in the staging copy of a TX or REF buffer. -/
def Mach.writeData (m : Mach) (k i : Nat) (v : Word) : Mach :=
  match m.wordOwner k i with
  | some b => if m.sends k b then m.sw .CB_DATA v k i else m
  | none => m

/-- What a buffer sends: the REF frame begins with the basic cycle and the column's first frame (R318). -/
def Mach.txBytes (m : Mach) (k b : Nat) : List Byte :=
  let n := dlcBytes (m.g F.CB_BUF_CFG_DLC k b)
  let d := sliceB (smGet (fun _ => ([] : List Byte)) (m.can k).copy b) 0 n
  if m.bufType k b = 3 then
    [Byte.of (m.bcOf k (m.can k).colFrame)] ++ leBytes 3 ((m.can k).colFrame % 2 ^ 24) ++ d.drop 4
  else d

/-- A transmission starts. -/
def Mach.txStart (m : Mach) (k b : Nat) (excl : Bool) : Mach :=
  m.setCan k { m.can k with fly := some { buf := b, excl := excl, id := m.w .CB_BUF_ID k b, data := m.txBytes k b } }

/-- Tmax of a buffer fits what is left of the column. -/
def Mach.fitsRest (m : Mach) (k b : Nat) : Bool :=
  let used := m.now - (m.can k).colAt
  decide (5 * m.tmax k b + used ≤ m.g F.CB_TT_CFG_COLF k * m.L)

/-- The pending event buffers in the order of R318: ascending ID, then ascending buffer. -/
def Mach.eventOrder (m : Mach) (k : Nat) : List Nat :=
  sortBy (fun a b =>
    let ia := m.g F.CB_BUF_ID_ID k a
    let ib := m.g F.CB_BUF_ID_ID k b
    if ia = ib then decide (a ≤ b) else decide (ia < ib)) (m.can k).rq

/-- The bus is idle: the EXCL cell's buffer or a pending event buffer starts (R318). -/
def Mach.busIdle (m : Mach) (k : Nat) : Mach :=
  if m.g F.CB_STAT_MODE k = 1 ∧ m.onBus k ∧ (m.can k).fly.isNone then
    if m.b F.CB_TT_CFG_EN k then
      if !(m.can k).sched then m
      else
        match (m.can k).due with
        | some b =>
          if m.fitsRest k b then (m.setCan k { m.can k with due := none }).txStart k b true else m.dropDue k
        | none =>
          if m.colKind k (m.colOf k m.frame) = 2 then
            (match (m.eventOrder k).find? (m.fitsRest k) with
             | some b => m.txStart k b false
             | none => m)
          else m
    else
      match (m.eventOrder k).head? with
      | some b => m.txStart k b false
      | none => m
  else m

/-! ### Errors (R324) -/

/-- Entry into bus-off. -/
def Mach.busOff (m : Mach) (k : Nat) : Mach :=
  if m.g F.CB_STAT_ERRST k = 2 then m
  else
    let m := (m.abortFly k).dropDue k
    let m := ((m.s F.CB_STAT_ERRST 2 k).s F.CB_ERR_TEC 0xFF k).inc F.CB_ERR_BOCNT 0xFFFF k
    let m := m.canBit F.CB_STAT_BOEVT k
    let bo := ((m.can k).bo.filter (fun f => decide (m.frame < f + 2400000))) ++ [m.frame]
    let m := if 3 ≤ bo.length then m.sb F.CB_STAT_AUTOSUSP true k else m
    m.setCan k { m.can k with bo := bo, sched := false, recov := m.b F.CB_CTL_AUTOREC k && !m.b F.CB_STAT_AUTOSUSP k }

/-- The error counters decide between error-active and error-passive (ISO 11898-1). -/
def Mach.errState (m : Mach) (k : Nat) : Mach :=
  if m.g F.CB_STAT_ERRST k = 2 then m
  else if 127 < m.g F.CB_ERR_TEC k ∨ 127 < m.g F.CB_ERR_REC k then
    (if m.g F.CB_STAT_ERRST k = 1 then m else (m.s F.CB_STAT_ERRST 1 k).canBit F.CB_STAT_EPEVT k)
  else m.s F.CB_STAT_ERRST 0 k

/-- The transmit error counter rises by 8; above 255 the controller is bus-off. -/
def Mach.txError (m : Mach) (k : Nat) : Mach :=
  let t := m.g F.CB_ERR_TEC k + 8
  if 255 < t then m.busOff k else (m.s F.CB_ERR_TEC t k).errState k

/-- `BOREC` (R324): recovery starts and the bit reads 1 until it ends (R5); no effect while the controller is not in bus-off. -/
def Mach.borec (m : Mach) (k : Nat) : Mach :=
  if m.g F.CB_STAT_ERRST k = 2 then
    ((m.sb F.CB_STAT_AUTOSUSP false k).sb F.CB_CTL_BOREC true k).setCan k { m.can k with recov := true }
  else m

/-- Recovery ends: the counters return to 0 and the controller integrates; a mode requested since takes effect (R324, R326). -/
def Mach.recovered (m : Mach) (k : Nat) : Mach :=
  if m.g F.CB_STAT_ERRST k = 2 ∧ (m.can k).recov then
    let m := (m.sb F.CB_CTL_BOREC false k).setCan k { m.can k with recov := false }
    let m := ((m.s F.CB_STAT_ERRST 0 k).s F.CB_ERR_TEC 0 k).s F.CB_ERR_REC 0 k
    let w := m.g F.CB_CTL_MODE k
    if (m.can k).modeReq ∧ (w = 1 ∨ w = 2) then (m.busJoin k w).busApply k
    else
      let m := m.busJoin k (m.g F.CB_STAT_MODE k)
      if (m.can k).modeReq then m.busApply k else m
  else m

/-- `CB_STAT.TDCV` after a frame with a data phase was sent with TDC 1: the loop delay measured, a free value (R310). -/
def Mach.loopDelay (m : Mach) (k b : Nat) : Mach :=
  if m.b F.CB_DBT_TDC k && m.b F.CB_BUF_ID_BRS k b then m.draw.2.s F.CB_STAT_TDCV (m.draw.1 % 256) k else m

/-- A transmission ends: 0 succeeds, 1 loses arbitration, 2 ends in an error of code `lec` (R318, R324). -/
def Mach.txEnd (m : Mach) (k res lec : Nat) : Mach :=
  match (m.can k).fly with
  | none => m
  | some f =>
    let m := m.setCan k { m.can k with fly := none }
    let m :=
      if res = 0 then
        let m := (m.stampBuf k f.buf).s F.CB_STAT_LEC 0 k
        let m := (m.s F.CB_ERR_TEC (m.g F.CB_ERR_TEC k - 1) k).errState k
        let m := m.setCan k { m.can k with sent := some f }
        let m := m.loopDelay k f.buf
        if f.excl then m
        else (m.sb F.CB_BUF_STAT_TXRQ false k f.buf).setCan k { m.can k with rq := (m.can k).rq.filter (fun x => x != f.buf) }
      else
        let m := if f.excl then m.txFail k f.buf else m
        if res = 1 then m else (m.s F.CB_STAT_LEC lec k).txError k
    m.sleepNow k

/-! ### Reception (R314) -/

/-- A data frame is stored in its RX buffer. `dur` is the length of its reception in FCLK cycles. -/
def Mach.rxStore (m : Mach) (k dur b : Nat) (f : CanFrame) : Mach :=
  let n := dlcBytes (m.g F.CB_BUF_CFG_DLC k b)
  let m := m.putBuf k b (sliceB (f.data.take n) 0 n)
  let m := if n < f.data.length then m.setBitW F.CB_BUF_STAT_OVSZ 0 k b else m
  let m := ((m.s F.CB_BUF_STAT_RXDLC f.dlc k b).sb F.CB_BUF_STAT_RXFD f.fdf k b).sb F.CB_BUF_STAT_ESI f.esi k b
  let m := m.stampBuf k b
  let m := if m.b F.CB_BUF_STAT_NEWDAT k b then m.setBitW F.CB_BUF_STAT_MSGLOST 0 k b else m
  let m := (m.setNewdat k b true).inc F.CB_CNT_RXOK 0xFFFF k
  let x := m.can k
  if m.bufSched k b ∧ x.sched ∧ x.colAt + dur ≤ m.now ∧ m.occupies k b (m.colOf k x.colFrame) (m.bcOf k x.colFrame) then
    m.setCan k { x with sat := x.sat ++ [b] }
  else m

/-- A frame arrives without error (R308, R314); one that ends after cycle 960 of the latch phase is seen at that end of latch
(DESIGN CHOICE, assumption 47: the spec allows the next). -/
def Mach.rxFrame (m : Mach) (k dur : Nat) (f : CanFrame) : Mach :=
  if !m.onBus k then m
  else
    let rec_ := m.g F.CB_ERR_REC k
    let (v, m) := m.draw
    let m := m.s F.CB_ERR_REC (if 127 < rec_ then 119 + v % 9 else rec_ - 1) k
    let m := (m.s F.CB_STAT_LEC 0 k).errState k
    let hit := (m.usedBufs k).find? (fun b => m.bufType k b == 1 && m.bufId k b == (b2n f.ide, f.id))
    match f.remote, hit with
    | false, some b => m.rxStore k dur b f
    | _, _ => m.inc F.CB_CNT_DROP 0xFFFF k

/-! ### Wake (R325) -/

/-- What arrives wakes the transceiver as WAKEMODE selects. -/
def Mach.wakes (m : Mach) (k : Nat) (dominant errors : Bool) (f : CanFrame) : Bool :=
  if m.b F.CB_CTL_WAKEMODE k then
    let mask := m.g F.CB_WAKE_IDM_MASK k
    errors ||
    (!f.fdf && !f.remote && !dominant && f.ide == m.b F.CB_WAKE_ID_IDE k &&
     ((f.id &&& mask) == (m.g F.CB_WAKE_ID_ID k &&& mask)) &&
     (!m.b F.CB_WAKE_DLC_DLCCHK k || f.dlc == m.g F.CB_WAKE_DLC_DLC k) &&
     ((fieldAt f.data 0 4 &&& (m.w .CB_WAKE_D0 k).toNat) != 0 || (fieldAt f.data 4 4 &&& (m.w .CB_WAKE_D1 k).toNat) != 0))
  else dominant

/-- A wake is judged (R325). -/
def Mach.wake (m : Mach) (k : Nat) (dominant errors : Bool) (f : CanFrame) : Mach :=
  let asleep := m.g F.CB_STAT_MODE k == 3
  let waiting := (m.can k).sleepReq || ((m.can k).modeReq && m.g F.CB_CTL_MODE k == 3)
  if (asleep || waiting) && m.wakes k dominant errors f then
    let m := m.canBit F.CB_STAT_WAKE k
    if asleep then (if m.b F.CB_CTL_AUTOWAKE k then m.busJoin k 1 else m)
    else m.setCan k { m.can k with sleepReq := false, modeReq := (m.can k).modeReq && m.g F.CB_CTL_MODE k != 3 }
  else m

/-! ### The read protocol (R315) -/

/-- A coherent read of an RX buffer: status before the clear and bytes; none where there is no new data. `torn` says
that receptions went on in all four attempts. -/
def Mach.readNew (m : Mach) (k b n : Nat) (torn : Bool) : Mach × Option (List Byte) :=
  if !m.b F.CB_BUF_STAT_NEWDAT k b then (m, none)
  else if torn then (m.canEvent 0x41 k b, none)
  else (m.setNewdat k b false, some (m.bufBytes k b n))

/-! ### Commands -/

/-- CAN_FRAME_RECEIVED (R314): at cycle c a frame whose reception took `dur` cycles ends on controller k. -/
def execCanFrameReceived (k c dur : Nat) (f : CanFrame) (s : State) : Host.Outcome State Fault Refusal :=
  .next { s with m := (s.m.at c).rxFrame k dur f }

/-- CAN_COLUMN_START (R318): the bus of controller k is idle at cycle c. -/
def execCanColumnStart (k c : Nat) (s : State) : Host.Outcome State Fault Refusal :=
  .next { s with m := (s.m.at c).busIdle k }

/-- CAN_TRANSMIT_END (R318). -/
def execCanTransmitEnd (k c res lec : Nat) (s : State) : Host.Outcome State Fault Refusal :=
  .next { s with m := (s.m.at c).txEnd k res lec }

/-- CELL_MISS (R320): the cell of buffer b that ends with the present column is not satisfied. The buffer is then
judged, so that the column's end does not judge it again. -/
def execCellMiss (k b : Nat) (s : State) : Host.Outcome State Fault Refusal :=
  let m := s.m
  let x := m.can k
  if x.sched ∧ m.onBus k ∧ m.bufType k b = 1 ∧ m.occupies k b (m.colOf k x.colFrame) (m.bcOf k x.colFrame) ∧
      !(x.sat.contains b) then
    let m := m.cellMissed k b
    .next { s with m := m.setCan k { m.can k with sat := (m.can k).sat ++ [b] } }
  else .next s

/-- INTEGRATION_COMPLETE (R311). -/
def execIntegrationComplete (k : Nat) (s : State) : Host.Outcome State Fault Refusal :=
  .next { s with m := s.m.sb F.CB_STAT_INTEG false k }

/-- BUS_OFF (R324): the transmit error counter of a controller in NORMAL passes 255. -/
def execBusOff (k c : Nat) (s : State) : Host.Outcome State Fault Refusal :=
  .next { s with m := if s.m.g F.CB_STAT_MODE k = 1 then (s.m.at c).busOff k else s.m }

/-- ERROR_PASSIVE (R324): the controller's error counters reach `tec` and `rec`. -/
def execErrorPassive (k c tec rec : Nat) (s : State) : Host.Outcome State Fault Refusal :=
  .next { s with m := (((s.m.at c).s F.CB_ERR_TEC (min tec 255) k).s F.CB_ERR_REC (min rec 255) k).errState k }

/-- BUS_OFF_RECOVERY_END (R324). -/
def execBusOffRecoveryEnd (k : Nat) (s : State) : Host.Outcome State Fault Refusal :=
  .next { s with m := s.m.recovered k }

/-- CAN_WAKE (R325): a dominant phase of at least 1 µs, more than 31 frame errors, or a frame on a sleeping bus. -/
def execCanWake (k c : Nat) (dominant errors : Bool) (f : CanFrame) (s : State) : Host.Outcome State Fault Refusal :=
  .next { s with m := (s.m.at c).wake k dominant errors f }

end Sys2Proof.Machine
end

