-- ==== Sys2Proof/Machine/Fixed.lean ====
section
/-! DEFINITION. The fixed-point operations of R132 and the irrational constants and functions of the vector slots
and coil regulators (R141 to R143, R170): products, square roots and sines. -/

namespace Sys2Proof.Machine

open Sys2Proof

/-- sat32 of R132. -/
def sat32 (z : Int) : Int := satS 32 z

/-- sat64 of R132. -/
def sat64 (z : Int) : Int := satS 64 z

/-- mulc of R132: Q3.28 times Q15.16, the result Q15.16. -/
def mulc (k v : Int) : Int := sat32 (rnd (k * v) 28)

/-- The magnitude of a 32-bit number, that of 0x8000_0000 taken as 0x7FFF_FFFF (R133, R135, R137). -/
def mag32 (v : Int) : Int := if v = -(2 ^ 31 : Int) then 2 ^ 31 - 1 else (v.natAbs : Int)

/-- The sign of a number. -/
def sign (v : Int) : Int := if v < 0 then -1 else if v = 0 then 0 else 1

/-- The nearest integer to √(n/d). -/
def rootNear (n d : Nat) : Nat := (isqrt (4 * n / d) + 1) / 2

/-- x / √3 rounded to nearest (R141, R142). -/
def divRoot3 (x : Int) : Int := sign x * (rootNear (x.natAbs * x.natAbs) 3 : Int)

/-- x · √3/2 rounded to nearest (R143). -/
def halfRoot3 (x : Int) : Int := sign x * (rootNear (3 * x.natAbs * x.natAbs) 4 : Int)

/-- √x rounded to nearest. -/
def rootOf (x : Int) : Int := if x < 0 then 0 else (rootNear x.toNat 1 : Int)

/-- π/2 in units of 2^-60. -/
def halfPi60 : Nat := 1811004864519280711

/-- Terms of the sine's series from the odd power n on, in units of 2^-60: `t` is the present term. -/
def sineTerms : Nat → Nat → Int → Int → Int
  | 0, _, _, _ => 0
  | k + 1, n, x2, t => t + sineTerms k (n + 2) x2 (-(t * x2 / 2 ^ 60) / (((n + 1) * (n + 2) : Nat) : Int))

/-- The sine of the first quadrant: r in units of 2^-32 turn, 0 to 2^30; the result in units of 2^-28. -/
def sineQuarter (r : Nat) : Int :=
  let x : Int := (r * halfPi60 / 2 ^ 30 : Nat)
  rnd (sineTerms 14 1 (x * x / 2 ^ 60) x) 32

/-- The exact sine of an angle in units of 2^-32 turn, rounded to 2^-28. -/
def sineExact (a : Nat) : Int :=
  let k := a % 2 ^ 32
  let q := k / 2 ^ 30
  let r := k % 2 ^ 30
  if q = 0 then sineQuarter r else if q = 1 then sineQuarter (2 ^ 30 - r)
  else if q = 2 then -sineQuarter r else -sineQuarter (2 ^ 30 - r)

/-- The module's sine, accurate to 2^-17, which is 2,048 units (R141): the exact one, rounded to the unit, and an open deviation that
keeps within that bound (assumption 4). -/
def sineOf (a : Nat) : Int :=
  clampI (-(2 ^ 28 : Int)) (2 ^ 28) (sineExact a + clampI (-2047) 2047 (Config.sineDeviation (a % 2 ^ 32)))

/-- The module's cosine (R141). -/
def cosOf (a : Nat) : Int := sineOf (a + 2 ^ 30)

end Sys2Proof.Machine
end

