-- ==== Sys2Proof/Machine/Memory.lean ====
section
/-! DEFINITION. Frame memory (spec/03_frame_memory.md, R49 to R53, R58, R65 to R68): bytes, ECC words and their
errors, spare rows, the scrubber, the MPU, the outcome of a fault per requester, and DMA descriptors (R60, R61). -/

namespace Sys2Proof.Machine

open Sys2Proof

/-- What a byte of frame memory that nothing has written reads as: R50 writes every word with 0. -/
def memDefault (_ : Nat) : Byte := 0

/-- Offset of a byte address in frame memory, if it lies there (R49). -/
def memOff (addr : Nat) : Option Nat :=
  if 0x20000000 ≤ addr ∧ addr < 0x20200000 then some (addr - 0x20000000) else none

/-- The bank of an address: bits [20:19] (R49). -/
def bankOf (addr : Nat) : Nat := (addr >>> 19) % 4

/-- Where the byte at an offset is stored: its own row, or the spare row its row is grafted onto (R52). Spare row s
of bank b has number 64·b + s and lies at 0x20_0000 + 256·(64·b + s). -/
def Mem.phys (k : Mem) (off : Nat) : Nat :=
  match (k.remap.find? (fun p => p.1 == off / 256)).map (·.2) with
  | some sp => 0x200000 + sp * 256 + off % 256
  | none => off

/-- A stored byte. -/
def Mem.byte (k : Mem) (off : Nat) : Byte := smGet memDefault k.cells (k.phys off)

/-- Store a byte. -/
def Mem.setByte (k : Mem) (off : Nat) (b : Byte) : Mem := { k with cells := smPut memDefault k.cells (k.phys off) b }

/-- The bytes are listed in canonical form: addresses strictly rising, none equal to what an unlisted address reads as. -/
def Mem.wf (k : Mem) : Bool := smWf memDefault k.cells

/-- `n` bytes from an offset. -/
def Mem.bytes (k : Mem) (off n : Nat) : List Byte := (upTo n).map (fun i => k.byte (off + i))

/-- Store bytes from an offset on. -/
def Mem.store (k : Mem) (off : Nat) : List Byte → Mem
  | [] => k
  | b :: bs => (k.setByte off b).store (off + 1) bs

/-- The error of a stored ECC word: 0 none, 1 single-bit, 2 double-bit (R51). -/
def Mem.mark (k : Mem) (pw : Nat) : Nat := lookN k.marks pw

/-- Set the error of a stored word. -/
def Mem.setMark (k : Mem) (pw v : Nat) : Mem := { k with marks := putN k.marks pw v }

/-- An upset changes the error of a stored word: a second single-bit error makes it a double-bit error (R49). -/
def Mem.upset (k : Mem) (u : Nat × Nat) : Mem :=
  k.setMark u.1 (if u.2 = 0 then k.mark u.1 else min 2 (k.mark u.1 + u.2))

/-! ### Requesters (R54, R55) -/

/-- Rank of a requester (R54). -/
def rankOf (req : Nat) : Nat := if req ≤ 1 then 1 else if req ≤ 16 then 0 else if req ≤ 18 then 1 else if req = 19 then 3 else 2

/-- Longest burst of a requester in beats (R54). -/
def longestOf (req : Nat) : Nat := if req = 2 then 4 else if req ≤ 16 then 8 else if req ≤ 18 then 16 else if req = 19 then 8 else 16

/-- Bytes that one burst of a requester from an address may move: its longest burst, not beyond the 128-byte boundary (R54, R55). -/
def burstRoom (req addr : Nat) : Nat := min (128 - addr % 128) (8 * longestOf req - addr % 8)

/-- A burst as R54 and R55 let a requester make it. -/
def burstLegal (r : BurstReq) : Bool := decide (0 < r.len) && decide (r.len ≤ burstRoom r.req r.addr)

/-- Bank b's arbiter. -/
def Mach.arb (m : Mach) (b : Nat) : Arb := nth m.mem.arb b {}

/-- Replace it. -/
def Mach.setArb (m : Mach) (b : Nat) (k : Arb) : Mach := { m with mem := { m.mem with arb := setNth {} 4 m.mem.arb b k } }

/-- Bank b serves a requester whom no other request meets: the grant stays parked on it, and no lower-rank request waits (R55, R56). -/
def Mach.park (m : Mach) (b req : Nat) : Mach :=
  let k := m.arb b
  m.setArb b (if rankOf req = 0 then { k with owner := req, rr0 := req, run0 := 0 }
    else if rankOf req = 1 then { k with owner := req, rr1 := req, run0 := 0 } else { k with owner := req, rr2 := req, run0 := 0 })

/-! ### Errors found (R51, R52, R68) -/

/-- SOURCE of a frame-memory event (R474). -/
def memSrc (req : Nat) : Nat := if req ≤ 17 then req else 0x20

/-- Record in `MEM_ERR_ADDR[b]` (R68, R445): the first record stays, but a double-bit or timeout record replaces a
corrected one. `low` holds bits [20:3] of the word, in place. -/
def Mach.errAddr (m : Mach) (b kind req low : Nat) (spare : Bool) : Mach :=
  let m' := m.noteSet F.MEM_ERR_ADDR_VALID 0 b 0 (0, 0, 0, 0)
  if m.b F.MEM_ERR_ADDR_VALID b ∧ ¬(m.g F.MEM_ERR_ADDR_KIND b = 0 ∧ kind ≠ 0) then m'
  else
    m'.sw .MEM_ERR_ADDR (Word.of (2 ^ 31 + kind * 2 ^ 29 + req % 64 * 2 ^ 23 + b2n spare * 2 ^ 21 +
      (low / 8 % 2 ^ 18) * 8)) b

/-- Row r (of all banks, 2,048·bank + row) has a copy in progress or a spare (R52). -/
def Mem.copying (k : Mem) (row : Nat) : Bool := k.copies.any (fun c => c.1 == row)

/-- The lowest free spare row of a bank, as its number over all banks (R52). -/
def Mem.freeSpare (k : Mem) (b : Nat) : Option Nat :=
  ((upTo 64).map (fun s => 64 * b + s)).find? (fun s =>
    !(k.remap.any (fun p => p.2 == s)) && !(k.copies.any (fun c => c.2.1 == s)) && !(k.dead.contains s))

/-- The spare rows of a bank that flash records as free: neither in use nor dead; a copy in progress is not recorded (R52). -/
def Mem.spareRows (k : Mem) (b : Nat) : Nat :=
  ((upTo 64).filter (fun s => !(k.remap.any (fun p => p.2 == 64 * b + s)) && !(k.dead.contains (64 * b + s)))).length

/-- A row is grafted: its copy onto a free spare row starts (R52), or, with `SPARE_FREE` 0, the event of a bank without one. A
row that is grafted already is grafted again, onto another spare row (assumption 31). -/
def Mach.rowGraft (m : Mach) (row : Nat) : Mach :=
  let b := row / 2048
  if m.mem.copying row then m
  else if m.g F.MEM_BANK_STAT_SPARE_FREE b = 0 then m.raise 0x0311 0x20 b (0x20000000 + 256 * row)
  else match m.mem.freeSpare b with
    | none => m.raise 0x0311 0x20 b (0x20000000 + 256 * row)
    | some sp =>
      { m with mem := { m.mem with copies := m.mem.copies ++ [(row, sp, 4)] } }.s F.MEM_BANK_STAT_SPARE_FREE
        (m.g F.MEM_BANK_STAT_SPARE_FREE b - 1) b

/-- The errors of one row's 32 words, at a storage offset. -/
def Mem.rowMarks (k : Mem) (pbase : Nat) : List (Nat × Nat) :=
  (upTo 32).map (fun i => (i, k.mark (pbase / 8 + i)))

/-- A corrected single-bit error of the word at an offset (R51, R52, R68). -/
def Mach.corrected (m : Mach) (req off : Nat) : Mach :=
  let b := bankOf off
  let row := off / 256
  let m := { m with mem := m.mem.setMark (m.mem.phys off / 8) 0 }
  let m := (m.inc F.MEM_BANK_STAT_CE 0xFFFF b).setBitW F.MEM_STAT_CE_ANY
  let m := (m.errAddr b 0 req (off / 8 * 8) false).raise 0x0300 (memSrc req) req (0x20000000 + off / 8 * 8)
  let n := lookN m.mem.ce row + 1
  let m := { m with mem := { m.mem with ce := putN m.mem.ce row n } }
  if n = m.g F.MEM_ECC_CFG_CE_GRAFT then m.rowGraft row else m

/-- The copying reads of a row find and correct its single-bit errors (R51, R52). -/
def Mach.rowMended (m : Mach) (row : Nat) : Mach :=
  each (upTo 32) m (fun m i => if m.mem.mark (m.mem.phys (256 * row + 8 * i) / 8) = 1 then m.corrected 19 (256 * row + 8 * i) else m)

/-- The copy of a row is complete: content and double-bit errors lie in the spare row and the row is remapped; its reads found and
corrected single-bit errors as any read does (R51, R52). The spare row it had, if any, is never used again, and its count of
corrected errors starts again (assumption 31). -/
def Mach.rowCopied (m : Mach) (row : Nat) : Mach :=
  match m.mem.copies.find? (fun c => c.1 == row) with
  | none => m
  | some (_, sp, _) =>
    let m := m.rowMended row
    let k := m.mem
    let data := k.bytes (256 * row) 256
    let errs := k.rowMarks (k.phys (256 * row))
    let k := { k with copies := k.copies.filter (fun c => c.1 != row),
                      dead := k.dead ++ (k.remap.filter (fun (p : Nat × Nat) => p.1 == row)).map (fun (p : Nat × Nat) => p.2),
                      remap := (k.remap.filter (fun (p : Nat × Nat) => p.1 != row)) ++ [(row, sp)],
                      ce := putN k.ce row 0 }
    let k := k.store (256 * row) data
    let k := errs.foldl (fun (k : Mem) (e : Nat × Nat) => k.setMark (0x200000 / 8 + sp * 32 + e.1) e.2) k
    { m with mem := k }.raise 0x0310 0x20 (row / 2048) (0x20000000 + 256 * row)

/-- A double-bit error found in the word at an offset: counted, recorded, its event, and the row's graft (R51,
R52, R66). -/
def Mach.doubled (m : Mach) (req off : Nat) : Mach :=
  let b := bankOf off
  let m := (m.inc F.MEM_BANK_STAT_DED 0xFF b).setBitW F.MEM_STAT_DED_ANY
  let m := (m.errAddr b 1 req (off / 8 * 8) false).raise 0x0301 (memSrc req) req (0x20000000 + off / 8 * 8)
  m.rowGraft (off / 256)

/-- Read the word at an offset (R51): true if its data is delivered. -/
def Mach.readWord (m : Mach) (req off : Nat) : Mach × Bool :=
  let e := m.mem.mark (m.mem.phys off / 8)
  if e = 0 then (m, true) else if e = 1 then (m.corrected req off, true) else (m.doubled req off, false)

/-- Write bytes into one word at an offset (R51): a full word clears any error; a part is read, merged and written,
and is not performed over a double-bit error. -/
def Mach.writeWord (m : Mach) (req off : Nat) (bs : List Byte) : Mach × Bool :=
  if off % 8 = 0 ∧ bs.length = 8 then
    ({ m with mem := (m.mem.store off bs).setMark (m.mem.phys off / 8) 0 }, true)
  else
    let (m, ok) := m.readWord req off
    if ok then ({ m with mem := m.mem.store off bs }, true) else (m, false)

/-- The pieces of a burst, one per beat: offset and length within one 8-byte word each (R54). -/
def beatsOf : Nat → Nat → Nat → List (Nat × Nat)
  | 0, _, _ => []
  | fuel + 1, off, len =>
    if len = 0 then []
    else
      let n := min len (8 - off % 8)
      (off, n) :: beatsOf fuel (off + n) (len - n)

/-- The beats of a burst. -/
def burstBeats (r : BurstReq) : List (Nat × Nat) := beatsOf 32 (r.addr - 0x20000000) r.len

/-- Perform beats in order until one fails: the state, the bytes delivered, and the offset that failed. -/
def performBeats (m : Mach) (r : BurstReq) : List (Nat × Nat) → List Byte → Mach × List Byte × Option Nat
  | [], acc => (m, acc, none)
  | (off, n) :: rest, acc =>
    let (m1, ok) :=
      if r.write then m.writeWord r.req off (sliceB r.data (off - (r.addr - 0x20000000)) n) else m.readWord r.req off
    if ok then performBeats m1 r rest (if r.write then acc else acc ++ m1.mem.bytes off n)
    else (m1, acc, some off)

/-! ### The MPU (R65) -/

/-- The requester whose regions apply: a grafted spare has taken over those of the engine it stands in for, which has none then
(R16). -/
def Mach.regionOwner (m : Mach) (req : Nat) : Option Nat :=
  if m.g F.SPR_STAT_LE8ST = 2 ∧ req = 11 then some (3 + m.g F.SPR_STAT_LE8FOR)
  else if m.g F.SPR_STAT_LE8ST = 2 ∧ req = 3 + m.g F.SPR_STAT_LE8FOR then none
  else if m.g F.SPR_STAT_MG4ST = 2 ∧ req = 16 then some (12 + m.g F.SPR_STAT_MG4FOR)
  else if m.g F.SPR_STAT_MG4ST = 2 ∧ req = 12 + m.g F.SPR_STAT_MG4FOR then none
  else some req

/-- Region k of a requester. -/
def Mem.region (k : Mem) (req i : Nat) : Region := smGet (fun _ => ({} : Region)) k.mpu (16 * req + i)

/-- The regions that apply to a requester. -/
def Mach.regions (m : Mach) (req : Nat) : List Region :=
  match m.regionOwner req with
  | some q => (upTo 16).map (m.mem.region q)
  | none => []

/-- A region permits an access to bytes [addr, addr + len): both block bounds are inclusive (R65). -/
def Region.permits (g : Region) (addr len : Nat) (write : Bool) : Bool :=
  g.en && (if write then g.w else g.rd) && decide (g.base * 256 ≤ addr) && decide (addr + len ≤ g.lim * 256 + 256)

/-- A burst is permitted: every byte lies within one enabled region that permits the access (R65). The scrubber has
no regions. -/
def Mach.mpuOk (m : Mach) (req addr len : Nat) (write : Bool) : Bool :=
  req == 19 ||
  ((memOff addr).isSome && (m.regions req).any (fun g => g.permits addr len write))

/-- `MEM_MPU_VIOL` of a violation: `n` have been counted. -/
def mpuViolWord (n req : Nat) (write : Bool) : Word := Word.of (2 ^ 31 + n * 2 ^ 28 + b2n write * 2 ^ 27 + req % 64 * 2 ^ 20)

/-- `MEM_MPU_VIOL` and `MEM_MPU_VADDR` describe a violation, the one that counts as number `n`. -/
def Mach.mpuRecord (m : Mach) (n req addr : Nat) (write : Bool) : Mach :=
  let m : Mach := { m with mem := { m.mem with violAt := m.now } }
  (m.sw .MEM_MPU_VIOL (mpuViolWord n req write)).s F.MEM_MPU_VADDR addr

/-- Record an MPU violation (R65, R445): the first stays, but of two in one cycle the lower requester's; every one counts and raises its
event. -/
def Mach.mpuViol (m : Mach) (req addr : Nat) (write : Bool) : Mach :=
  let m := (m.setBitW F.MEM_STAT_MPU_ANY).noteSet F.MEM_MPU_VIOL_VALID 0 0 0 (0, 0, 0, 0)
  let m :=
    if !m.b F.MEM_MPU_VIOL_VALID then m.mpuRecord 1 req addr write
    else
      let m := m.inc F.MEM_MPU_VIOL_COUNT 7
      if m.mem.violAt = m.now ∧ req % 64 < m.g F.MEM_MPU_VIOL_REQ then m.mpuRecord (m.g F.MEM_MPU_VIOL_COUNT) req addr write else m
  m.raise 0x0308 (memSrc req) req addr

/-! ### Outcomes of a fault per requester (R66, R67) -/

/-- A DMA channel stops in a state, holding the byte address of the access that stopped it. -/
def Mach.dmaStop (m : Mach) (ch st addr : Nat) : Mach :=
  ((m.s F.MEM_DMA_STAT_STATE st ch).s F.MEM_DMA_STAT_FAIRONLY 0 ch).s F.MEM_DMA_ERR addr ch

/-- An engine fails by what its access to frame memory met (R66, R67). -/
def Mach.stateFails (m : Mach) (e : Nat) : Mach := { m with mem := { m.mem with stateFail := m.mem.stateFail ++ [e] } }

/-- Rewrite the first copy in full words from the second, read in the same access (R67): bursts like any other, which the MPU
judges (R65); the engine fails if the second copy fails too. -/
def Mach.secondCopy (m : Mach) (r : BurstReq) : Mach :=
  let r2 := { r with addr := r.alt, write := false }
  if !m.mpuOk r.req r.alt r.len false then (m.mpuViol r.req r.alt false).stateFails r.req
  else
    let (m, data, bad) := performBeats m r2 (burstBeats r2) []
    match bad with
    | some _ => m.stateFails r.req
    | none =>
      let w := { r with addr := r.addr / 8 * 8, len := data.length, write := true, data := data }
      if !m.mpuOk r.req w.addr w.len true then (m.mpuViol r.req w.addr true).stateFails r.req
      else
        { (performBeats m w (burstBeats w) []).1 with
            mem := { (performBeats m w (burstBeats w) []).1.mem with rdata := data } }

/-- The outcome of a double-bit error, a beat timeout or a grant timeout (R66). `dmaState` is the state a DMA
channel stops in. -/
def Mach.memFault (m : Mach) (r : BurstReq) (dmaState addr : Nat) : Mach :=
  if r.req ≤ 1 then { m with mem := { m.mem with apFault := m.mem.apFault ++ [r.req] } }
  else if r.req ≤ 16 then
    (if r.state then
      (if r.alt ≠ 0 ∧ !r.write then m.secondCopy r else m)
     else { m with mem := { m.mem with forceOvr := m.mem.forceOvr ++ [r.req] } })
  else if r.req = 17 then { m with mem := { m.mem with aqFault := max 1 m.mem.aqFault } }
  else if r.req = 18 then { m with mem := { m.mem with portFault := true } }
  else if r.req = 19 then m
  else m.dmaStop (r.req - 20) dmaState addr

/-- The outcome of an MPU violation (R66). -/
def Mach.mpuFault (m : Mach) (r : BurstReq) : Mach :=
  if r.req ≤ 1 then { m with mem := { m.mem with apFault := m.mem.apFault ++ [r.req] } }
  else if r.req ≤ 16 then m.stateFails r.req
  else if r.req = 17 then { m with mem := { m.mem with aqFault := 2 } }
  else if r.req = 18 then { m with mem := { m.mem with portFault := true } }
  else if r.req = 19 then m
  else m.dmaStop (r.req - 20) 4 r.addr

/-- Run a granted burst's first `k` beats: data delivered is kept, a failing beat has its outcome (R66). -/
def Mach.runBurst (m : Mach) (r : BurstReq) (k : Nat) : Mach × Bool :=
  let (m, data, bad) := performBeats m r ((burstBeats r).take k) []
  let m := if r.write then m else { m with mem := { m.mem with rdata := data } }
  match bad with
  | none => (m, true)
  | some off => (m.memFault r 3 (0x20000000 + off), false)

/-- Beat k of a burst is not completed within 16 cycles (R66): a burst that the MPU refuses performs no beat (R65); beats before it
are performed, and a double-bit error in one of them ends the burst there; else it is recorded as KIND 2. A row that the scrubber
cannot read is grafted. -/
def Mach.beatTimeout (m : Mach) (r : BurstReq) (k : Nat) : Mach :=
  if (burstBeats r).length ≤ k then m
  else if !m.mpuOk r.req r.addr r.len r.write then (m.mpuViol r.req r.addr r.write).mpuFault r
  else
    let p := m.runBurst r k
    let off := (nth (burstBeats r) k (r.addr - 0x20000000, 0)).1
    let n := (p.1.errAddr (bankOf r.addr) 2 r.req (off / 8 * 8) false).setBitW F.MEM_STAT_TMO_ANY
    let n := n.raise 0x0302 (memSrc r.req) r.req (0x20000000 + off / 8 * 8)
    if !p.2 then p.1 else if r.req = 19 then n.rowGraft (off / 256) else n.memFault r 5 (0x20000000 + off)

/-- A request not granted within TMO cycles (R66): no beat is performed, it is recorded as KIND 3. -/
def Mach.grantTimeout (m : Mach) (r : BurstReq) : Mach :=
  let m := (m.errAddr (bankOf r.addr) 3 r.req ((r.addr - 0x20000000) / 8 * 8) false).setBitW F.MEM_STAT_TMO_ANY
  (m.raise 0x0303 (memSrc r.req) r.req r.addr).memFault r 5 r.addr

/-! ### Frame-memory accesses of an engine -/

/-- One burst of an engine's frame work on its bank: the bytes read, none where it does not deliver them. It takes the grant, which
stays parked on the engine (R55); the cycles of its waiting lie within the budget of R59 (assumption 32). -/
def Mach.engBurst (m : Mach) (r : BurstReq) : Mach × Option (List Byte) :=
  if !m.mpuOk r.req r.addr r.len r.write then ((m.mpuViol r.req r.addr r.write).mpuFault r, none)
  else
    let (m, ok) := (m.park (bankOf r.addr) r.req).runBurst r 32
    if ok then (m, some m.mem.rdata)
    else if r.state && !(m.mem.stateFail.contains r.req) then (m, some m.mem.rdata)
    else (m, none)

/-- An engine's accesses of `len` bytes from an address, each at most its longest burst and within 128 bytes (R54, R55). -/
def engBursts : Nat → Mach → BurstReq → List Byte → Mach × Option (List Byte)
  | 0, m, _, acc => (m, some acc)
  | fuel + 1, m, r, acc =>
    if r.len = 0 then (m, some acc)
    else
      let n := min r.len (burstRoom r.req r.addr)
      match m.engBurst { r with len := n, data := r.data.take n } with
      | (m, none) => (m, none)
      | (m, some bs) => engBursts fuel m { r with addr := r.addr + n, alt := r.alt + n, len := r.len - n, data := r.data.drop n } (acc ++ bs)

/-- An engine reads bytes: none where a burst does not deliver them. A state record names its second copy (R67). -/
def Mach.engRead (m : Mach) (e addr len : Nat) (state : Bool) (alt : Nat) : Mach × Option (List Byte) :=
  engBursts 16 m { req := e, addr := addr, len := len, state := state, alt := alt } []

/-- An engine writes bytes of a state record. -/
def Mach.engWrite (m : Mach) (e addr : Nat) (data : List Byte) : Mach :=
  (engBursts 16 m { req := e, addr := addr, len := data.length, write := true, data := data, state := true } []).1

/-- The regions of the SP that may hold its record: enabled, for reading and writing, as their number and base (R218). -/
def Mach.spRegions (m : Mach) : List Nat :=
  (m.regions 2).filterMap (fun g => if g.en && g.rd && g.w && decide (g.base ≤ g.lim) then some (256 * g.base) else none)

/-- The byte addresses of copies A and B of the SP's record: the lowest-numbered such region, and the next in another bank (R218). -/
def Mach.spCopies (m : Mach) : Option (Nat × Nat) :=
  match m.spRegions with
  | [] => none
  | a :: rest => (rest.find? (fun b => bankOf b != bankOf a)).map (fun b => (a, b))

/-- The SP reads copy A of its record in 4 accesses, each with its second copy (R67, R218). -/
def Mach.spRead (m : Mach) (a b : Nat) : Mach := each (upTo 4) m (fun m k => (m.engRead 2 (a + 32 * k) 32 true (b + 32 * k)).1)

/-- The SP writes each copy of its record in 4 accesses. The layout of the 128 bytes is not given: they are free (R218). -/
def Mach.spWrite (m : Mach) (a b : Nat) : Mach :=
  let (v, m) := m.draw
  let part (k : Nat) : List Byte := leBytes 32 (v / 2 ^ (256 * k))
  each (upTo 4) m (fun m k => (m.engWrite 2 (a + 32 * k) (part k)).engWrite 2 (b + 32 * k) (part k))

/-! ### The scrubber (R53) -/

/-- Read one word in an ungrafted spare row. -/
def scrubSpareWord (b s : Nat) (m : Mach) (i : Nat) : Mach :=
  let sp := 64 * b + s
  let pw := 0x200000 / 8 + sp * 32 + i
  let low := b * 2 ^ 19 + s * 256 + i * 8
  let e := m.mem.mark pw
  if e = 0 then m
  else if e = 1 then
    let m := { m with mem := m.mem.setMark pw 0 }
    (((m.inc F.MEM_BANK_STAT_CE 0xFFFF b).setBitW F.MEM_STAT_CE_ANY).errAddr b 0 19 low true).raise 0x0300 0x20 19
      (0x20000000 + low)
  else
    let m := ((m.inc F.MEM_BANK_STAT_DED 0xFF b).setBitW F.MEM_STAT_DED_ANY).errAddr b 1 19 low true
    let m := m.raise 0x0301 0x20 19 (0x20000000 + low)
    if m.mem.dead.contains sp then m
    else { m with mem := { m.mem with dead := m.mem.dead ++ [sp] } }.s F.MEM_BANK_STAT_SPARE_FREE
        (m.g F.MEM_BANK_STAT_SPARE_FREE b - 1) b

/-- Read the 32 words of an addressed row; a double-bit error grafts the row (R66). -/
def scrubRow (m : Mach) (b row : Nat) : Mach :=
  each (upTo 32) m (fun m i => (m.readWord 19 (b * 2 ^ 19 + row * 256 + i * 8)).1)

/-- The event of a pass that takes more than 8,448 frames, once a pass (R53). -/
def Mach.scrubLate (m : Mach) (b : Nat) : Mach :=
  if m.b F.MEM_ECC_CFG_SCRUB ∧ 8448 < m.frame - nth m.mem.passStart b 0 + 1 ∧ !(nth m.mem.passLate b false) then
    { m with mem := { m.mem with passLate := setNth false 4 m.mem.passLate b true } }.raise 0x0312 0x20 b (openArg 0x0312 1)
  else m

/-- The scrubber's step of bank b in this frame, if the bank served it (R53). -/
def scrubStep (served : List Bool) (m : Mach) (b : Nat) : Mach :=
  if !m.b F.MEM_ECC_CFG_SCRUB then m
  else if !(nth served b true) then (m.setArb b { m.arb b with starved := (m.arb b).starved + 1 }).scrubLate b
  else
    let m := m.setArb b { m.arb b with starved := 0 }
    let p := nth m.mem.scrubPos b 0
    let m := if p = 0 then { m with mem := { m.mem with passStart := setNth 0 4 m.mem.passStart b m.frame,
                                                        passLate := setNth false 4 m.mem.passLate b false } } else m
    let m := m.s F.MEM_SCRUB_ROW p b
    let m :=
      if p < 2048 then scrubRow m b p
      else
        let sp := 64 * b + (p - 2048)
        match m.mem.remap.find? (fun q => q.2 == sp) with
        | some (row, _) => scrubRow m b (row % 2048)
        | none => each (upTo 32) m (scrubSpareWord b (p - 2048))
    let last := p == 2111
    let m := if last then m.s F.MEM_SCRUB_LASTPASS (min 0xFFFF (m.frame - nth m.mem.passStart b 0 + 1)) b else m
    let m := m.scrubLate b
    { m with mem := { m.mem with scrubPos := setNth 0 4 m.mem.scrubPos b (if last then 0 else p + 1) } }

/-- Row copies go on in scrubber slots and complete within 4 frames (R52). -/
def copyStep (m : Mach) : Mach :=
  let m := { m with mem := { m.mem with copies := m.mem.copies.map (fun c => (c.1, c.2.1, c.2.2 - 1)) } }
  each (m.mem.copies.filter (fun c => c.2.2 == 0)) m (fun m c => m.rowCopied c.1)

/-- Frame memory at the tick: upsets found, the scrubber, row copies. -/
def memTick (m : Mach) (upsets : List (Nat × Nat)) (served : List Bool) : Mach :=
  let m := { m with mem := upsets.foldl Mem.upset m.mem }
  let m := copyStep m
  each (upTo 4) m (scrubStep served)

/-! ### Bounds (R58) -/

/-- A rank-0 requester is in service: once frames tick its engine runs, before them it is not retired; an ungrafted LE8 or MG4 is
idle (R58). -/
def Mach.memServes (m : Mach) (e : Nat) : Bool :=
  if (e = 11 ∧ m.g F.SPR_STAT_LE8ST ≠ 2) ∨ (e = 16 ∧ m.g F.SPR_STAT_MG4ST ≠ 2) then false
  else if m.b F.FRM_STAT_RUN then m.engRuns e else !m.pow.retired.contains e

/-- A requester has an enabled MPU region in bank b; of rank 0 those in service count, the scrubber counts while SCRUB is 1 (R58). -/
def Mach.inBank (m : Mach) (b req : Nat) : Bool :=
  if req = 19 then m.b F.MEM_ECC_CFG_SCRUB
  else if rankOf req = 0 ∧ !m.memServes req then false
  else (m.regions req).any (fun g =>
    g.en && decide (g.base ≤ g.lim) && decide (g.base * 256 < 0x20000000 + (b + 1) * 2 ^ 19) &&
      decide (0x20000000 + b * 2 ^ 19 < g.lim * 256 + 256))

/-- W0 and WL of bank b (R58). -/
def Mach.bounds (m : Mach) (b : Nat) : Nat × Nat :=
  let rs := (upTo 52).filter (m.inBank b)
  let r0 := rs.filter (fun r => rankOf r == 0)
  let rl := rs.filter (fun r => rankOf r != 0)
  let n0 := r0.length
  let b0 := r0.foldl (fun a r => max a (longestOf r)) 0
  let bl := rl.foldl (fun a r => max a (longestOf r)) 0
  let f := m.g F.MEM_ARB_CFG_FAIR
  ((n0 - 1) * (b0 + 2) + ceilDiv n0 f * (bl + 2), rl.length * (f * (b0 + 2) + bl + 2))

/-! ### DMA descriptors (R60, R61) -/

/-- A DMA channel's memory beside its registers. -/
def Mach.dma (m : Mach) (ch : Nat) : Dma := nth m.mem.dma ch {}

/-- Replace it. -/
def Mach.setDma (m : Mach) (ch : Nat) (d : Dma) : Mach := { m with mem := { m.mem with dma := setNth {} 32 m.mem.dma ch d } }

/-- `MEM_DMA_STAT[ch].STATE` is BUSY. -/
def Mach.dmaBusy (m : Mach) (ch : Nat) : Bool := m.g F.MEM_DMA_STAT_STATE ch == 1

/-- An address in the register window (R25). -/
def inWindow (a : Nat) : Bool := decide (0x40000000 ≤ a) && decide (a < 0x40040000)

/-- A descriptor is refused (R61): LEN above 4,096, a set reserved CTL bit, an unaligned register-window address or
an unaligned NEXT with CHAIN set. -/
def Dma.refused (d : Dma) : Bool :=
  decide (4096 < d.len) || decide (32 ≤ d.ctl) || (inWindow d.src && d.src % 4 != 0) ||
  (inWindow d.dst && d.dst % 4 != 0) || (bit d.ctl 4 && d.next % 8 != 0)

/-! ### A channel's next access (R60, R62) -/

/-- The address a channel works on at a progress of `pos` bytes. -/
def dmaAddr (base pos : Nat) (step : Bool) : Nat := if step then base + pos else base

/-- Bytes to the next 128-byte boundary, which a burst does not cross (R55); the register window has no such boundary. -/
def toEdge (a : Nat) : Nat := if inWindow a then 128 else 128 - a % 128

/-- The source address at a progress of `pos` bytes, and the destination address. -/
def Dma.srcAt (d : Dma) (pos : Nat) : Nat := dmaAddr d.src pos (bit d.ctl 1)
def Dma.dstAt (d : Dma) (pos : Nat) : Nat := dmaAddr d.dst pos (bit d.ctl 2)

/-- The bytes that the channel buffer takes next and gives back: one read burst and the matching write burst. With a side in the
register window they are whole words while a whole word is left (R62; assumption 33). -/
def Dma.chunk (d : Dma) : Nat :=
  let left := d.len - d.pos
  let room := min left (min (toEdge (d.srcAt d.pos)) (toEdge (d.dstAt d.pos)))
  if inWindow d.src || inWindow d.dst then (if left ≤ 4 then left else max 4 (room / 4 * 4)) else room

/-- The buffer is filled and is being written. -/
def Dma.writing (d : Dma) : Bool := !d.buf.isEmpty && decide (d.chunk ≤ d.buf.length)

/-- A channel's next access: the read of its next bytes, or the write of the bytes in its buffer. A word of the window that a 128-byte
boundary of frame memory divides takes two bursts there. At a fixed address in frame memory each burst starts from that address
(assumption 33). -/
def Dma.burst (d : Dma) (ch c : Nat) : BurstReq :=
  if d.writing then
    let a := d.dstAt (d.pos + d.out)
    let bs := (d.buf.drop d.out).take (toEdge a)
    { req := 20 + ch, addr := a, len := bs.length, write := true, data := bs, at_ := c }
  else
    let a := d.srcAt (d.pos + d.buf.length)
    { req := 20 + ch, addr := a, len := min (d.chunk - d.buf.length) (toEdge a), at_ := c }

/-- The channel after an access of `n` bytes: the buffer takes the bytes read, or gives bytes to the destination; when all of it is
written POS advances. -/
def Dma.did (d : Dma) (n : Nat) (write : Bool) (data : List Byte) : Dma :=
  if !write then { d with buf := d.buf ++ data }
  else if d.out + n < d.buf.length then { d with out := d.out + n }
  else { d with pos := d.pos + d.buf.length, buf := [], out := 0 }

/-- A channel's descriptor fetch takes the bank once it is free: the hand-over from another owner, then two beats (R55, R60;
assumption 32). -/
def Mach.fetchSlot (m : Mach) (b req : Nat) : Mach :=
  let k := m.arb b
  let start := max m.now k.freeAt + (if k.owner = req then 0 else 2)
  let m := m.park b req
  m.setArb b { m.arb b with freeAt := start + 2 }

/-- Fetch and check the descriptor at an address (R60, R61). -/
def Mach.dmaLoad (m : Mach) (ch addr : Nat) : Mach :=
  if !(m.mpuOk (20 + ch) addr 16 false) then (m.mpuViol (20 + ch) addr false).dmaStop ch 4 addr
  else
    let r : BurstReq := { req := 20 + ch, addr := addr, len := 16 }
    let (m, data, bad) := performBeats (m.fetchSlot (bankOf addr) (20 + ch)) r (burstBeats r) []
    match bad with
    | some off => m.dmaStop ch 3 (0x20000000 + off)
    | none =>
      let d : Dma := { cur := addr, src := fieldAt data 0 4, dst := fieldAt data 4 4, len := fieldAt data 8 2,
                       ctl := fieldAt data 10 2, next := fieldAt data 12 4, armed := (m.dma ch).armed }
      let m := (m.setDma ch d).s F.MEM_DMA_STAT_POS 0 ch
      if d.refused then (m.s F.MEM_DMA_STAT_STATE 6 ch).s F.MEM_DMA_STAT_FAIRONLY 0 ch
      else m.sb F.MEM_DMA_STAT_FAIRONLY (!bit d.ctl 0) ch

/-- Start a channel at its first descriptor; no effect while BUSY (R60, R61). -/
def Mach.dmaGo (m : Mach) (ch : Nat) : Mach :=
  if 32 ≤ ch ∨ m.dmaBusy ch then m
  else
    let m := (m.s F.MEM_DMA_STAT_STATE 1 ch).s F.MEM_DMA_STAT_REV 0 ch
    (m.setDma ch { m.dma ch with armed := m.g F.MEM_DMA_CTL_TRIG ch == 1 }).dmaLoad ch (m.g F.MEM_DMA_DESC_DESC ch * 8)

/-- STOP acts at a burst boundary: a channel that is BUSY, or that each end of latch would start again, stops in state STOPPED (R60). -/
def Mach.dmaHalt (m : Mach) (ch : Nat) : Mach :=
  if ch < 32 ∧ (m.dmaBusy ch ∨ (m.dma ch).armed) then
    ((m.s F.MEM_DMA_STAT_STATE 7 ch).s F.MEM_DMA_STAT_FAIRONLY 0 ch).setDma ch { m.dma ch with armed := false }
  else m

/-- A descriptor is done (R60): its event, then the next descriptor or the end of the chain. -/
def Mach.descDone (m : Mach) (ch : Nat) : Mach :=
  let d := m.dma ch
  if ch < 32 ∧ m.dmaBusy ch ∧ d.len ≤ d.pos then
    let m := if bit d.ctl 3 then m.raise (0x0320 + ch) 0x20 (20 + ch) d.cur else m
    if bit d.ctl 4 then m.dmaLoad ch d.next
    else (m.s F.MEM_DMA_STAT_STATE 2 ch).s F.MEM_DMA_STAT_FAIRONLY 0 ch
  else m

/-- A channel whose TRIG is not 1 waits for a new GO before an end of latch starts it (R60). -/
def Mach.dmaDisarm (m : Mach) (ch : Nat) : Mach :=
  if m.g F.MEM_DMA_CTL_TRIG ch = 1 then m else m.setDma ch { m.dma ch with armed := false }

/-- A channel with TRIG 1 that GO has started runs its list again at each end of latch (R60, `MEM_DMA_CTL`). -/
def dmaFrame (m : Mach) (ch : Nat) : Mach :=
  if m.g F.MEM_DMA_CTL_TRIG ch = 1 ∧ (m.dma ch).armed ∧ m.g F.MEM_DMA_STAT_STATE ch = 2 then
    ((m.s F.MEM_DMA_STAT_STATE 1 ch)).dmaLoad ch (m.g F.MEM_DMA_DESC_DESC ch * 8)
  else m

/-- `MEM_CLR.PEAKS`: every `MEM_ARB_PEAK[b]` becomes 0 (R69). -/
def Mach.clearPeaks (m : Mach) : Mach := each (upTo 4) m (fun m b => m.sw .MEM_ARB_PEAK 0 b)

/-! ### Commands -/

/-- BEAT_TIMEOUT (R66): beat k of a burst is not completed within 16 cycles. A burst that R54 or R55 does not let the requester make
is none. -/
def execBeatTimeout (r : BurstReq) (k : Nat) (s : State) : Host.Outcome State Fault Refusal :=
  .next { s with m := if burstLegal r then (s.m.at r.at_).beatTimeout r k else s.m }

/-- GRANT_TIMEOUT (R66): a request is not granted within TMO cycles. -/
def execGrantTimeout (r : BurstReq) (s : State) : Host.Outcome State Fault Refusal :=
  .next { s with m := (s.m.at r.at_).grantTimeout r }

/-- ROW_GRAFT (R52): a row that has reached CE_GRAFT corrected errors or shows a double-bit error. -/
def rowGraftDue (m : Mach) (row : Nat) : Bool :=
  decide (row < 8192) &&
  (decide (m.g F.MEM_ECC_CFG_CE_GRAFT ≤ lookN m.mem.ce row) ||
   (m.mem.rowMarks (m.mem.phys (256 * row))).any (fun e => e.2 == 2))

/-- ROW_GRAFT. -/
def execRowGraft (row : Nat) (s : State) : Host.Outcome State Fault Refusal :=
  .next { s with m := if rowGraftDue s.m row then s.m.rowGraft row else s.m }

/-- ROW_COPY_COMPLETE (R52): the copy of a row onto its spare row is complete. -/
def execRowCopyComplete (row : Nat) (s : State) : Host.Outcome State Fault Refusal :=
  .next { s with m := s.m.rowCopied row }

/-- SCRUB_PASS_LATE (R53). -/
def execScrubPassLate (bank : Nat) (s : State) : Host.Outcome State Fault Refusal :=
  .next { s with m := if bank < 4 then s.m.scrubLate bank else s.m }

/-- DESCRIPTOR_DONE (R60). -/
def execDescriptorDone (ch c : Nat) (s : State) : Host.Outcome State Fault Refusal :=
  .next { s with m := (s.m.at c).descDone ch }

end Sys2Proof.Machine
end

