-- ==== Sys2Proof/Machine/Pwm.lean ====
section
/-! DEFINITION. Pulse-width modulation (spec/06_pwm.md, R111 to R124): sets and their stages, carriers and reload
points, suppression, rescaling, faults, and the delay lines' anneal. -/

namespace Sys2Proof.Machine

open Sys2Proof

/-- Group g's memory beside its registers. -/
def Mach.grp (m : Mach) (g : Nat) : Pwm := nth m.pwm g {}

/-- Replace it. -/
def Mach.setGrp (m : Mach) (g : Nat) (x : Pwm) : Mach := { m with pwm := setNth {} 12 m.pwm g x }

/-- The shadow set of group g (R117). -/
def Mach.shadow (m : Mach) (g : Nat) : PSet :=
  { top := m.g F.PWM_GRP_TOP_TOP g, en := m.b F.PWM_GRP_CTL_EN g, cmp := (upTo 4).map (fun j => m.g F.PWM_CMP g j) }

/-- An A pulse is judged suppressed: its width 2·CMP − DT is below MINP (R115); exact 0 % and 100 % have no pulse
to judge (R114). -/
def suppressA (top cmp dt minp : Nat) : Bool :=
  decide (0 < cmp) && decide (cmp < 32 * top) && decide (2 * cmp < dt + minp)

/-- A B pulse is judged suppressed: its width 2·(32·TOP − CMP) − DT is below MINP (R115). -/
def suppressB (top cmp dt minp : Nat) : Bool :=
  decide (0 < cmp) && decide (cmp < 32 * top) && decide (2 * (32 * top - cmp) < dt + minp)

/-- The rescaled compare when TOP changes from t to t' (R118). -/
def rescaleCmp (cmp t t' : Nat) : Nat :=
  if cmp = 0 then 0
  else if 32 * t ≤ cmp then 0xFFFFFFFF
  else
    let c := (cmp * t' + t / 2) / t
    if 32 * t' ≤ c then 0xFFFFFFFF else c

/-- The SYNC relation of R116 between L and a carrier period. -/
def syncFits (len top : Nat) : Bool := len % (2 * top) == 0 || 2 * top % len == 0

/-- A TOP write is discarded (R119). -/
def Mach.topBad (m : Mach) (g t : Nat) : Bool :=
  decide (t < 200) || decide (1000000 < t) ||
  decide (32 * t < 2 * (m.g F.PWM_GRP_TIME_DT g + m.g F.PWM_GRP_TIME_MINP g)) ||
  (m.b F.PWM_GRP_CFG_SYNC g && !syncFits m.L t)

/-- A discarded TOP write sets BADWR (R119). -/
def Mach.badWrite (m : Mach) (g : Nat) : Mach := (m.setBitW F.PWM_GRP_STAT_BADWR 0 g).setBitW F.PWM_STAT_BADWR_ANY

/-- The owner of a group writes TOP (R119): discarded, or the shadow TOP from now on; the compares are rescaled at the commit point
(R118). -/
def Mach.writeTop (m : Mach) (g t : Nat) : Mach :=
  let x := m.grp g
  if !x.used ∨ m.topBad g t then m.badWrite g
  else (m.s F.PWM_GRP_TOP_TOP t g).setGrp g { x with topWas := some (x.topWas.getD (m.g F.PWM_GRP_TOP_TOP g)) }

/-- The owner writes the enable of a group. -/
def Mach.writeEn (m : Mach) (g : Nat) (en : Bool) : Mach :=
  if !(m.grp g).used then m.badWrite g else m.sb F.PWM_GRP_CTL_EN en g

/-- The owner writes compare j of a group: it counts as written in this frame (R118). -/
def Mach.writeCmp (m : Mach) (g j v : Nat) : Mach :=
  if !(m.grp g).used then m.badWrite g
  else (m.s F.PWM_CMP v g j).setGrp g { m.grp g with written := setBit (m.grp g).written j true }

/-- Rescale compare j unless it was written in this frame (R118). -/
def rescaleOne (g t t' written : Nat) (m : Mach) (j : Nat) : Mach :=
  if bit written j then m else m.s F.PWM_CMP (rescaleCmp (m.g F.PWM_CMP g j) t t') g j

/-- The compares that were not written keep their duty where this frame has changed TOP (R118). -/
def pwmRescale (m : Mach) (g : Nat) : Mach :=
  let x := m.grp g
  let t' := m.g F.PWM_GRP_TOP_TOP g
  match x.topWas with
  | none => m
  | some t =>
    if t' = t then m
    else
      let m := each (upTo 4) m (rescaleOne g t t' x.written)
      if x.written % 16 = 15 then m
      else ((m.setBitW F.PWM_GRP_STAT_RESCALED 0 g).setBitW F.PWM_STAT_RESCALED_ANY).raise 0x0601 0x20 g t'

/-- Group g at the commit point: its shadow set, after R118, is the one that the tick arms (R117). -/
def pwmCommit1 (m : Mach) (g : Nat) : Mach :=
  let m := pwmRescale m g
  m.setGrp g { m.grp g with topWas := none, written := 0, com := some (m.shadow g) }

/-- All groups at the commit point. -/
def pwmCommit (m : Mach) : Mach := each (upTo 12) m pwmCommit1

/-! ### Outputs (R114, R115, R120) -/

/-- Output A is on at fine time t: it is requested, and DT has passed since B turned off (R115). -/
def PairOut.onA (p : PairOut) (dt t : Nat) : Bool :=
  p.req == 1 && (match p.offB with | some u => decide (u + dt ≤ t) | none => true)

/-- Output B is on at fine time t. -/
def PairOut.onB (p : PairOut) (dt t : Nat) : Bool :=
  p.req == 2 && (match p.offA with | some u => decide (u + dt ≤ t) | none => true)

/-- The request becomes r at fine time t: what was on turns off without delay (R115). -/
def PairOut.turn (p : PairOut) (dt r t : Nat) : PairOut :=
  if r = p.req then p
  else { p with req := r, at_ := t, offA := if p.onA dt t then some t else p.offA, offB := if p.onB dt t then some t else p.offB }

/-- A pair at fine time t: its due edge of the request has come, or not yet. -/
def PairOut.upto (p : PairOut) (dt t : Nat) : PairOut :=
  match p.next with
  | some (tn, r) => if tn ≤ t then { p.turn dt r tn with next := none } else p
  | none => p

/-- What the active set requests of pair j at fine time t, and the next edge of that request in this half-period (R114, R115): a
suppressed pulse leaves its partner on whatever set is active, then exact 0 % and 100 %, then the compare. -/
def Pwm.law (k : Pwm) (j t : Nat) : Nat × Option (Nat × Nat) :=
  let c := nth k.active.cmp j 0
  let n := 32 * k.active.top
  if bit k.suppA j then (2, none)
  else if bit k.suppB j then (1, none)
  else if c = 0 then (2, none)
  else if n ≤ c then (1, none)
  else if k.up then (if t < k.since + c then (1, some (k.since + c, 2)) else (2, none))
  else if t < k.since + (n - c) then (2, some (k.since + (n - c), 1))
  else (1, none)

/-- The outputs of group g follow its rule of R120 from now on: off, all B in the safe state LOWSIDE, or the active set. -/
def Mach.drive (m : Mach) (g : Nat) : Mach :=
  let k := m.grp g
  let dt := m.g F.PWM_GRP_TIME_DT g
  let st := m.g F.PWM_GRP_STAT_STATE g
  let t := 32 * m.now
  let go (j : Nat) : PairOut :=
    let w : Nat × Option (Nat × Nat) :=
      if st = 1 ∧ !k.restart then k.law j t
      else if st = 2 ∧ m.b F.PWM_GRP_STAT_ENOUT g then (2, none) else (0, none)
    { (((nth k.pairs j {}).upto dt t).turn dt w.1 t) with next := w.2 }
  m.setGrp g { k with pairs := (upTo 4).map go }

/-- Outputs A and B of pair j of group g are on at fine time t of the half-period in progress. -/
def Mach.pairOut (m : Mach) (g j t : Nat) : Bool × Bool :=
  let dt := m.g F.PWM_GRP_TIME_DT g
  let p := (nth (m.grp g).pairs j {}).upto dt t
  (p.onA dt t, p.onB dt t)

/-- The level of an output that is on or off: POL 1 makes it active low (R120). -/
def Mach.pwmLevel (m : Mach) (g : Nat) (on : Bool) : Bool := on ^^ m.b F.PWM_GRP_CFG_POL g

/-- The levels of outputs P4gA and P4gB of pair j at fine time t (R114, R120). -/
def Mach.pwmPins (m : Mach) (g j t : Nat) : Bool × Bool :=
  (m.pwmLevel g (m.pairOut g j t).1, m.pwmLevel g (m.pairOut g j t).2)

/-- STATE and ENOUT of group g: the first rule of R120 that applies, rules 2 and 3 as `hold` has them. ENg rises with the armed set's
EN, the outputs start at the next selected reload point. -/
def Mach.showState (m : Mach) (g : Nat) : Mach :=
  let x := m.grp g
  let (st, en) :=
    if !x.used then (0, false)
    else if m.st = stPOWER_FAIL then (2, false)
    else if x.hold = 3 then (3, false)
    else if x.hold = 2 then (2, decide (m.g F.PWM_GRP_CFG_SAFE g = 1))
    else if x.armed.isNone ∨ !x.active.en then (0, ((x.armed.map (fun s => s.en)).getD false))
    else (1, true)
  (m.s F.PWM_GRP_STAT_STATE st g).sb F.PWM_GRP_STAT_ENOUT en g

/-- The state of group g, with its outputs (R120). -/
def Mach.showGrp (m : Mach) (g : Nat) : Mach := (m.showState g).drive g

/-- The committed set of group g is armed, a set replaced unapplied is counted, EN 0 acts at once (R117). -/
def Mach.armSet (m : Mach) (g : Nat) : Mach :=
  let x := m.grp g
  match x.com with
  | none => m
  | some s =>
    let differs := (x.armed.map (fun a => a != s)).getD true
    let skip := x.unapplied && differs && (x.armed.map (fun a => a != x.active)).getD false
    let m := if skip then m.inc F.PWM_GRP_CNT_SKIP 0xFFFF g else m
    let act := if s.en then x.active else { x.active with en := false }
    m.setGrp g { x with com := none, armed := some s, active := act, unapplied := if differs then true else x.unapplied }

/-- Group g at the tick (R117, R120): the committed set is armed, rules 2 and 3 take effect or end, and a group that they leave waits
for a selected reload point. -/
def pwmTick1 (m : Mach) (g : Nat) : Mach :=
  if !(m.grp g).used then m.showGrp g
  else
    let m := m.armSet g
    let x := m.grp g
    let h := if m.b F.PWM_GRP_STAT_FAULT g then 3 else if x.ownerFail then 2 else 0
    (m.setGrp g { x with hold := h, restart := decide (h = 0) && (x.restart || decide (x.hold ≠ 0)) }).showGrp g

/-- Show the active set (`PWM_GRP_ACT`, `PWM_CMP_ACT`). -/
def Mach.showActive (m : Mach) (g : Nat) (s : PSet) : Mach :=
  each (upTo 4) (m.s F.PWM_GRP_ACT_TOP s.top g) (fun m j => m.s F.PWM_CMP_ACT (nth s.cmp j 0) g j)

/-- Judge the pulses that begin a period at a reload point (R115): A pulses at a top, B pulses at a bottom. -/
def Mach.judge (m : Mach) (g : Nat) (top : Bool) : Mach :=
  let x := m.grp g
  let s := x.active
  let dt := m.g F.PWM_GRP_TIME_DT g
  let mp := m.g F.PWM_GRP_TIME_MINP g
  let running := m.g F.PWM_GRP_STAT_STATE g == 1 && !x.restart
  let bad (j : Nat) : Bool := if top then suppressA s.top (nth s.cmp j 0) dt mp else suppressB s.top (nth s.cmp j 0) dt mp
  let mask := (upTo 4).foldl (fun a j => if running && bad j then a + 2 ^ j else a) 0
  let n := (setIdx 4 mask).length
  let m := m.setGrp g (if top then { x with suppA := mask } else { x with suppB := mask })
  m.s F.PWM_GRP_CNT_SUPP (satAdd 0xFFFF (m.g F.PWM_GRP_CNT_SUPP g) n) g

/-- The phase error of a bottom at cycle c of its frame (R113). -/
def syncError (len top phase c : Nat) : Int :=
  let q : Int := min len (2 * top)
  let e := ((c : Int) - phase) % q
  if q ≤ 2 * e then e - q else e

/-- LOAD selects this kind of reload point (R117): 1 bottom, 2 top, 3 both. -/
def loadSelects (load : Nat) (top : Bool) : Bool := bit load (if top then 1 else 0)

/-- A reload point of group g (R112, R113, R115, R117): the armed set becomes active where LOAD selects it, the counter
goes on with its TOP, SYNC corrects the next up-count, pulses are judged. -/
def Mach.reload (m : Mach) (g : Nat) (top : Bool) : Mach :=
  let x := m.grp g
  let sel := loadSelects (m.g F.PWM_GRP_CFG_LOAD g) top
  let m := if sel then
      match x.armed with
      | some s => (m.setGrp g { x with active := s, unapplied := false, restart := false }).showActive g s
      | none => m
    else m
  let m := m.showState g
  let t := m.g F.PWM_GRP_ACT_TOP g
  let e := if m.b F.PWM_GRP_CFG_SYNC g ∧ !top then syncError m.L t (m.g F.PWM_GRP_PHASE_PHASE g) m.cyc else 0
  let m := if m.b F.PWM_GRP_CFG_SYNC g ∧ !top then m.sb F.PWM_GRP_STAT_SYNCLAG (decide (8 < e.natAbs)) g else m
  let half := ((t : Int) - clampI (-8) 8 e).toNat
  let m := m.setGrp g { m.grp g with nextAt := m.now + half, nextTop := !top, since := 32 * m.now, up := !top }
  (m.judge g top).drive g

/-- A reload point of this kind is due at the present cycle (R112). -/
def Mach.reloadDue (m : Mach) (g : Nat) (top : Bool) : Bool :=
  decide (g < 12) && (m.grp g).used && m.b F.PWM_STAT_RUN && (m.grp g).nextTop == top && (m.grp g).nextAt == m.now

/-- The carriers of groups in use start at the first tick (R112). -/
def carrierStart (m : Mach) (g : Nat) : Mach :=
  let t := m.g F.PWM_GRP_ACT_TOP g
  let ph := m.g F.PWM_GRP_PHASE_PHASE g
  let x := m.grp g
  if !x.used then m
  else if t ≤ ph then m.setGrp g { x with nextAt := m.now + (ph - t), nextTop := true }
  else m.setGrp g { x with nextAt := m.now + ph, nextTop := false }

/-- The spare delay line of a group: the line in state 1 or 2; 9: none (R122). -/
def Mach.spareLine (m : Mach) (g : Nat) : Nat :=
  ((upTo 9).find? (fun i => m.g F.PWM_DL_STAT_STATE g i == 1 || m.g F.PWM_DL_STAT_STATE g i == 2)).getD 9

/-- The delay-line anneal of group g at the tick (R123). -/
def dlTick1 (first : Bool) (m : Mach) (g : Nat) : Mach :=
  let x := m.grp g
  let i := m.spareLine g
  if !m.b F.PWM_ANNEAL_CFG_EN then
    (if i < 9 then m.s F.PWM_DL_STAT_STATE 1 g i else m).setGrp g { x with dlPhase := 3, dlSwapped := false, dlEnd := false }
  else if x.dlPhase = 3 then
    (if i < 9 then (m.s F.PWM_DL_STAT_STATE 2 g i).setGrp g { x with dlPhase := 0, dlCount := 0 } else m)
  else if first then m
  else if x.dlEnd then
    (if m.spareLine g < 9 then m.s F.PWM_DL_STAT_STATE 2 g (m.spareLine g) else m).setGrp g { x with dlPhase := 0, dlCount := 0, dlOut := (x.dlOut + 1) % 8, dlSwapped := false, dlEnd := false }
  else
    let n := satInc 0xFFFF x.dlCount
    m.setGrp g { x with dlCount := n,
                        dlPhase := if x.dlPhase = 1 ∧ m.g F.PWM_ANNEAL_CFG_DWELL ≤ n then 2 else x.dlPhase }

/-- PHASE and COUNT show group 0 (`PWM_ANNEAL_STAT`). -/
def Mach.showDl (m : Mach) : Mach :=
  (m.s F.PWM_ANNEAL_STAT_PHASE (m.grp 0).dlPhase).s F.PWM_ANNEAL_STAT_COUNT (m.grp 0).dlCount

/-- All groups at the tick. -/
def pwmTick (m : Mach) (first : Bool) : Mach :=
  let m := m.sb F.PWM_STAT_RUN true
  let m := if first then each (upTo 12) m carrierStart else m
  let m := each (upTo 12) m pwmTick1
  (each (upTo 12) m (dlTick1 first)).showDl

/-- The end of latch after a swap ends the step (R123). -/
def pwmLatch (m : Mach) : Mach :=
  each (upTo 12) m (fun m g =>
    if (m.grp g).dlPhase = 2 ∧ (m.grp g).dlSwapped then m.setGrp g { m.grp g with dlEnd := true } else m)

/-- A delay line is retired; the group's anneal stops (R122, R123). -/
def Mach.retireLine (m : Mach) (g i : Nat) : Mach :=
  let m := (m.s F.PWM_DL_STAT_STATE 3 g i).raise 0x0602 0x20 g i
  let m := (m.sb F.PWM_STAT_NOSPARE true).raise 0x0603 0x20 g i
  (m.setGrp g { m.grp g with dlPhase := 3 }).showDl

/-- Every tap step of a table of 32 tap delays lies within 40 to 120 ps (R122). -/
def tapsOk (taps : List Nat) : Bool :=
  taps.length == 32 && (taps.zip (taps.drop 1)).all (fun p => decide (p.1 + 40 ≤ p.2) && decide (p.2 ≤ p.1 + 120))

/-- The tap table of line i of group g, with its largest deviation (R122, `PWM_DL_STAT.ERR`). -/
def Mach.tapTable (m : Mach) (g i : Nat) (err : Int) (taps : List Nat) : Mach :=
  (m.si F.PWM_DL_STAT_ERR (satS 8 err) g i).setGrp g { m.grp g with taps := setNth [] 9 (m.grp g).taps i taps }

/-- CAL of group g ends after 256 frames (R122, R123). -/
def Mach.dlCalEnd (m : Mach) (g : Nat) (err : Int) (taps : List Nat) : Mach :=
  let x := m.grp g
  if g < 12 ∧ x.dlPhase = 0 ∧ 256 ≤ x.dlCount ∧ m.spareLine g < 9 then
    let i := m.spareLine g
    let m := m.tapTable g i err taps
    if tapsOk taps then ((m.s F.PWM_DL_STAT_STATE 1 g i).setGrp g { m.grp g with dlPhase := 1 }).showDl
    else m.retireLine g i
  else m

/-- WAIT of group g ends when DWELL frames have passed since the step began (R123). -/
def Mach.dlWaitEnd (m : Mach) (g : Nat) : Mach :=
  let x := m.grp g
  if g < 12 ∧ x.dlPhase = 1 ∧ m.g F.PWM_ANNEAL_CFG_DWELL ≤ x.dlCount then (m.setGrp g { x with dlPhase := 2 }).showDl else m

/-- The line that serves output o of group g; 9: none. -/
def Mach.lineOf (m : Mach) (g o : Nat) : Nat :=
  ((upTo 9).find? (fun i => m.g F.PWM_DL_STAT_STATE g i == 0 && m.g F.PWM_DL_STAT_OUT g i == o)).getD 9

/-- The edges of output o of group g that are known at present, in fine ticks (R114, R115): its last turn-off, its turn-on, those of
the due edge of the request, those of the next half-period, and its beginning where a new set may become active. -/
def Mach.edgesOf (m : Mach) (g o : Nat) : List Nat :=
  let k := m.grp g
  let dt := m.g F.PWM_GRP_TIME_DT g
  let p := nth k.pairs (o / 2) {}
  let mine := o % 2 + 1
  let off := (if mine = 1 then p.offA else p.offB).toList
  let rise := if p.req = mine then [((if mine = 1 then p.offB else p.offA).map (fun u => max p.at_ (u + dt))).getD p.at_] else []
  let due (e : Option (Nat × Nat)) : List Nat := match e with
    | some (t, r) => [if r = mine then t + dt else t]
    | none => []
  let t1 := 32 * k.nextAt
  let later := if m.g F.PWM_GRP_STAT_STATE g = 1 then due (({ k with since := t1, up := !k.up } : Pwm).law (o / 2) t1).2 else []
  let fresh := if loadSelects (m.g F.PWM_GRP_CFG_LOAD g) k.nextTop ∧ k.armed ≠ some k.active then [t1] else []
  off ++ rise ++ due p.next ++ later ++ fresh

/-- Output o of group g has an edge within 8 cycles of the present one (R123). -/
def Mach.edgeNear (m : Mach) (g o : Nat) : Bool :=
  let t := 32 * m.now
  (m.edgesOf g o).any (fun e => decide (e ≤ t + 256) && decide (t ≤ e + 256))

/-- SWAP (R123): the spare takes the step's output, the released line becomes the spare. -/
def Mach.dlSwap (m : Mach) (g : Nat) : Mach :=
  let x := m.grp g
  if g < 12 ∧ x.dlPhase = 2 ∧ !x.dlSwapped ∧ m.spareLine g < 9 ∧ !m.edgeNear g x.dlOut then
    let i := m.spareLine g
    let old := m.lineOf g x.dlOut
    let m := (m.s F.PWM_DL_STAT_STATE 0 g i).s F.PWM_DL_STAT_OUT x.dlOut g i
    let m := if old < 9 then (m.s F.PWM_DL_STAT_STATE 1 g old).s F.PWM_DL_STAT_OUT 15 g old else m
    m.setGrp g { x with dlSwapped := true }
  else m

/-- FAULT of group g is set, and its outputs go off at once (R120, R121). -/
def Mach.gateTrip (m : Mach) (g : Nat) : Mach :=
  let m := m.setRaise F.PWM_GRP_STAT_FAULT g 0 0x0600 0x20 g (m.g F.PWM_GRP_TOP_TOP g)
  (m.setGrp g { m.grp g with hold := 3 }).showGrp g

/-- GFg is released, or has been asserted for w cycles (R121): an assertion of GFFILT cycles sets FAULT. -/
def Mach.gateFault (m : Mach) (g w : Nat) (on : Bool) : Mach :=
  if 12 ≤ g then m
  else if !on then (m.sb F.PWM_GRP_STAT_GFIN false g).setGrp g { m.grp g with gf := false }
  else
    let m := m.sb F.PWM_GRP_STAT_GFIN true g
    if w < m.g F.PWM_GRP_CFG_GFFILT g then m else (m.setGrp g { m.grp g with gf := true }).gateTrip g

/-- A write has cleared FAULT of group g (R120, R121): it is set again while GFg stays asserted, else the group returns to rules 4 and 5
at the next tick. -/
def Mach.faultCleared (m : Mach) (g : Nat) : Mach := if (m.grp g).gf then m.gateTrip g else m

/-- `PWM_CTL.CLRCNT`: every `PWM_GRP_CNT[g]` becomes 0 (R124). -/
def Mach.clearPwmCounts (m : Mach) : Mach := each (upTo 12) m (fun m g => m.sw .PWM_GRP_CNT 0 g)

/-- PWM_RELOAD_POINT (R117): group g's counter reaches its bottom or its top at cycle c, and the ADC roles that take their triggers
there begin a scan (R93). -/
def execPwmReloadPoint (g c : Nat) (top : Bool) (s : State) : Host.Outcome State Fault Refusal :=
  .next { s with m := if (s.m.at c).reloadDue g top then ((s.m.at c).reload g top).reloadScans g top else s.m }

/-- GATE_DRIVER_FAULT (R121): at cycle c the level of GFg is `on` and has lasted w cycles. -/
def execGateDriverFault (g : Nat) (c : Pulse) (on : Bool) (s : State) : Host.Outcome State Fault Refusal :=
  .next { s with m := (s.m.at c.at_).gateFault g c.len on }

/-- DELAY_LINE_CAL_END (R123): the largest tap deviation measured, and the table of tap delays. -/
def execDelayLineCalEnd (g : Nat) (err : Int) (taps : List Nat) (s : State) : Host.Outcome State Fault Refusal :=
  .next { s with m := s.m.dlCalEnd g err taps }

/-- DELAY_LINE_WAIT_END (R123). -/
def execDelayLineWaitEnd (g : Nat) (s : State) : Host.Outcome State Fault Refusal := .next { s with m := s.m.dlWaitEnd g }

/-- DELAY_LINE_SWAP (R123). -/
def execDelayLineSwap (g c : Nat) (s : State) : Host.Outcome State Fault Refusal :=
  .next { s with m := (s.m.at c).dlSwap g }

end Sys2Proof.Machine
end

