-- ==== Sys2Proof/Machine/Loops.lean ====
section
/-! DEFINITION. Loop engines (spec/07_loops.md, R128 to R149): the slot equation, gain tables, regions, stale sources,
vector pairs, loop pages and their checks, state records, costs, and the commands of this chapter. -/

namespace Sys2Proof.Machine

open Sys2Proof

/-- A slot's memory beside its registers. -/
def Mach.slot (m : Mach) (s : Nat) : Slot := smGet (fun _ => ({} : Slot)) m.slots s

/-- Replace it. -/
def Mach.setSlot (m : Mach) (s : Nat) (x : Slot) : Mach := { m with slots := smPut (fun _ => ({} : Slot)) m.slots s x }

/-- TYPE of a slot (R128). -/
def Mach.slotType (m : Mach) (s : Nat) : Nat := m.g F.LP_CFG_TYPE s

/-- The engine that runs a slot: LE s/32, or LE8 while grafted for it (R129, R474). -/
def Mach.slotEngine (m : Mach) (s : Nat) : Nat :=
  if m.g F.SPR_STAT_LE8ST = 2 ∧ m.g F.SPR_STAT_LE8FOR = s / 32 then 11 else 3 + s / 32

/-- A signed 32-bit word of a byte list. -/
def s32At (bs : List Byte) (o : Nat) : Int := sgn 32 (fieldAt bs o 4)

/-! ### Pages (R144, R145) -/

/-- The byte address of a slot's page 0 or 1. -/
def Mach.pageAddr (m : Mach) (s k : Nat) : Nat :=
  0x20000000 + 512 * (if k = 1 then m.g F.LP_PAGE_PAGE1 s else m.g F.LP_PAGE_PAGE0 s)

/-- A cell number of R125's table. -/
def cellDefined (n : Nat) : Bool :=
  decide (n ≤ 1) || (decide (0x0100 ≤ n) && decide (n < 0x0500)) ||
  (decide (0x0500 ≤ n) && decide (n < 0x0600)) || (decide (0x0600 ≤ n) && decide (n < 0x0638)) ||
  (decide (0x0640 ≤ n) && decide (n < 0x0650)) || (decide (0x0700 ≤ n) && decide (n < 0x0800))

/-- Bytes [a, b) are 0. -/
def zeroRange (bs : List Byte) (a b : Nat) : Bool := ((bs.drop a).take (b - a)).all (fun x => x == 0)

/-- Entries j of the gain table meet R136 and R144. -/
def tableOk (bs : List Byte) (nseg j : Nat) : Bool :=
  let e := s32At bs (0x100 + 8 * j)
  let g := s32At bs (0x104 + 8 * j)
  if nseg ≤ j then e == 0 && g == 0
  else decide (0 ≤ g) && (if j = 0 then e == 0 else decide (s32At bs (0x100 + 8 * (j - 1)) < e))

/-- A page passes its check (R145). `vec` is true in the page of a TYPE 2 slot. -/
def pageOk (bs : List Byte) (vec : Bool) : Bool :=
  let nseg := fieldAt bs 0x90 4
  let t1 := s32At bs 0x80
  let t2 := s32At bs 0x84
  let t3 := s32At bs 0x88
  let half (o : Nat) : Nat := fieldAt bs o 2
  bs.length == 512 && fieldAt bs 0x1FC 4 == crc32c (bs.take 0x1FC) && fieldAt bs 0x1F8 2 == 1 &&
  (upTo 4).all (fun k => decide (fieldAt bs (0x1C + 32 * k) 4 ≤ 12)) &&
  decide (t1 ≤ t2) && decide (t2 ≤ t3) && decide (0 ≤ s32At bs 0x8C) &&
  decide (1 ≤ nseg) && decide (nseg ≤ 16) && (upTo 16).all (tableOk bs nseg) &&
  zeroRange bs 0x94 0x100 && zeroRange bs 0x1A0 0x1F8 &&
  (if vec then
    (upTo 6).all (fun i => cellDefined (half (0x180 + 2 * i))) && half 0x180 != 0 && half 0x182 != 0 &&
    half 0x186 != 0 && decide (0 < s32At bs 0x19C) && decide (s32At bs 0x19C ≤ 2 ^ 28)
   else zeroRange bs 0x180 0x1A0)

/-- A page's bytes in frame memory. -/
def Mach.pageBytes (m : Mach) (s k : Nat) : List Byte := m.mem.bytes (m.pageAddr s k - 0x20000000) 512

/-- The page number in `LP_PAGE[s]`, the argument of the events of group 0x07. -/
def Mach.pageArg (m : Mach) (s k : Nat) : Nat := if k = 1 then m.g F.LP_PAGE_PAGE1 s else m.g F.LP_PAGE_PAGE0 s

/-- A write of `LP_PAGE[s].SEL` (R145): a check in progress is abandoned with its event, and a check of the page newly
requested starts where it is not the page in use. -/
def Mach.pageRequest (m : Mach) (s sel : Nat) : Mach :=
  let old := m.g F.LP_PAGE_SEL s
  if sel = old then m
  else
    let m := if (m.slot s).chk.isSome then m.raise 0x0702 (m.slotEngine s) s (m.pageArg s old) else m
    let m := m.s F.LP_PAGE_SEL sel s
    m.setSlot s { m.slot s with chk := if sel = m.g F.LP_STAT_SELACT s then none else some 0 }

/-- A page check completes (R145): the page is in use from the next running frame, or SEL returns with PAGEERR. -/
def Mach.pageDone (m : Mach) (s : Nat) : Mach :=
  if (m.slot s).chk.isNone then m
  else
    let sel := m.g F.LP_PAGE_SEL s
    let m := m.setSlot s { m.slot s with chk := none }
    if pageOk (m.pageBytes s sel) (m.slotType s == 2) then
      (m.s F.LP_STAT_SELACT sel s).raise 0x0700 (m.slotEngine s) s (m.pageArg s sel)
    else
      ((m.s F.LP_PAGE_SEL (m.g F.LP_STAT_SELACT s) s).setBitW F.LP_STAT_PAGEERR 0 s).raise 0x0701 (m.slotEngine s) s
        (m.pageArg s sel)

/-- A fail-over abandons every page check: SEL returns to SELACT without PAGEERR (R145). -/
def Mach.pagesAbandon (m : Mach) : Mach :=
  each m.slots m (fun m p =>
    if p.2.chk.isNone then m
    else
      let sel := m.g F.LP_PAGE_SEL p.1
      let m := m.setSlot p.1 { m.slot p.1 with chk := none }
      (m.s F.LP_PAGE_SEL (m.g F.LP_STAT_SELACT p.1) p.1).raise 0x0702 (m.slotEngine p.1) p.1 (m.pageArg p.1 sel))

/-- Page checks go on while a side is active, and complete within 4 frames (R145). -/
def Mach.pagesFrame (m : Mach) : Mach :=
  each m.slots m (fun m p =>
    match p.2.chk with
    | none => m
    | some n =>
      if m.activeAp.isNone then m
      else if 3 ≤ n then m.pageDone p.1
      else m.setSlot p.1 { m.slot p.1 with chk := some (n + 1) })

/-! ### State records (R146) -/

/-- A slot's history: a half of its state record. -/
structure Hist where
  e1 : Int := 0
  e2 : Int := 0
  e3 : Int := 0
  u1 : Int := 0
  u2 : Int := 0
  u3 : Int := 0
  region : Nat := 0
  started : Bool := false
  srun : Nat := 0
  theta : Nat := 0
deriving DecidableEq, Repr

/-- The history that 32 bytes hold (R146). -/
def histOf (b : List Byte) : Hist :=
  let w := fieldAt b 0x18 4
  { e1 := s32At b 0, e2 := s32At b 4, e3 := s32At b 8, u1 := s32At b 12, u2 := s32At b 16, u3 := s32At b 20,
    region := w % 4, started := bit w 2, srun := w / 256 % 256, theta := fieldAt b 0x1C 4 }

/-- The 32 bytes of a history (R146). -/
def histBytes (h : Hist) : List Byte :=
  [h.e1, h.e2, h.e3, h.u1, h.u2, h.u3].flatMap (fun v => leBytes 4 (wrap 32 v)) ++
  leBytes 4 (h.region + 4 * b2n h.started + 256 * h.srun) ++ leBytes 4 h.theta

/-- Addresses of half k of the two copies of a slot's record. -/
def Mach.recordAddr (m : Mach) (s k : Nat) : Nat × Nat :=
  (0x20000000 + 64 * m.g F.LP_STATE_COPYA s + 32 * k, 0x20000000 + 64 * m.g F.LP_STATE_COPYB s + 32 * k)

/-- Read a slot's history from the half `HALF` names. -/
def Mach.readHist (m : Mach) (s : Nat) : Mach × Hist :=
  let a := m.recordAddr s (m.g F.LP_STAT_HALF s)
  match m.engRead (m.slotEngine s) a.1 32 true a.2 with
  | (m, some b) => (m, histOf b)
  | (m, none) => (m, {})

/-- Write a slot's history to the other half of both copies. -/
def Mach.writeHist (m : Mach) (s : Nat) (h : Hist) : Mach :=
  let a := m.recordAddr s (1 - m.g F.LP_STAT_HALF s)
  let e := m.slotEngine s
  (m.engWrite e a.1 (histBytes h)).engWrite e a.2 (histBytes h)

/-! ### The slot equation (R133 to R138) -/

/-- A coefficient set of a page (R144). -/
structure Coefs where
  b : List Int := []
  a : List Int := []
  ksh : Nat := 0
deriving DecidableEq, Repr

/-- Set k from its 32 bytes. -/
def coefsOf (bs : List Byte) : Coefs :=
  { b := (upTo 4).map (fun i => s32At bs (4 * i)), a := (upTo 3).map (fun i => s32At bs (16 + 4 * i)),
    ksh := fieldAt bs 28 4 % 16 }

/-- The accumulator of R133. -/
def slotAcc (k : Coefs) (e : Int) (h : Hist) : Int :=
  let c (i : Nat) : Int := nth k.b i 0
  let a (i : Nat) : Int := nth k.a i 0
  let acc := sat64 (c 0 * e)
  let acc := sat64 (acc + c 1 * h.e1)
  let acc := sat64 (acc + c 2 * h.e2)
  let acc := sat64 (acc + c 3 * h.e3)
  let acc := sat64 (acc * 2 ^ k.ksh)
  let acc := sat64 (acc - a 0 * h.u1)
  let acc := sat64 (acc - a 1 * h.u2)
  sat64 (acc - a 2 * h.u3)

/-- The direction d of R134. -/
def slotDir (k : Coefs) (e : Int) : Int := sign ((k.b.find? (fun c => c != 0)).getD 0) * sign e

/-- What the slot equation answers. -/
structure SlotOut where
  y : Int := 0
  hist : Hist := {}
  clamp : Bool := false
  held : Bool := false
deriving DecidableEq, Repr

/-- The slot equation from the shaped error on (R133, R134). -/
def slotEq (k : Coefs) (e f lo hi : Int) (h : Hist) : SlotOut :=
  let u := sat32 (rnd (slotAcc k e h) 28)
  let y := u + f
  let d := slotDir k e
  let clamp := decide (hi < y) || decide (y < lo)
  if (hi < y ∧ 0 < d) ∨ (y < lo ∧ d < 0) then
    { y := if hi < y then hi else lo, hist := h, clamp := clamp, held := true }
  else
    let out := clampI lo hi y
    { y := out, clamp := clamp, held := false,
      hist := { h with e3 := h.e2, e2 := h.e1, e1 := e, u3 := h.u2, u2 := h.u1, u1 := sat32 (out - f) } }

/-- The gain of R136 for a magnitude, from the page's table bytes (0x100 on) and NSEG. -/
def gainOf (tb : List Byte) (nseg : Nat) (a : Int) : Int :=
  let ej (j : Nat) : Int := s32At tb (8 * j)
  let gj (j : Nat) : Int := s32At tb (8 * j + 4)
  let n := max nseg 1
  if ej (n - 1) ≤ a then gj (n - 1)
  else
    let j := (upTo n).foldl (fun b i => if ej i ≤ a then i else b) 0
    gj j + rndDiv ((gj (j + 1) - gj j) * (a - ej j)) (ej (j + 1) - ej j)

/-- The region of R137: thresholds, hysteresis, schedule signal, present region. -/
def regionStep (t : Nat → Int) (h v : Int) (k : Nat) : Nat :=
  let up := (upTo 3).foldl (fun k _ => if k < 3 ∧ t (k + 1) + h < v then k + 1 else k) k
  (upTo 3).foldl (fun k _ => if 0 < k ∧ v < t k - h then k - 1 else k) up

/-- The region of a first running frame: the thresholds that v exceeds (R137). -/
def regionFirst (t : Nat → Int) (v : Int) : Nat := ((upTo 3).filter (fun i => decide (t (i + 1) < v))).length

/-- EN is 1 and FAULT is 0 (R139). -/
def Mach.slotGate (m : Mach) (s : Nat) : Bool := m.b F.LP_CTL_EN s && !m.b F.LP_STAT_FAULT s

/-- A slot is running under R139, its engine being in service. -/
def Mach.slotRuns (m : Mach) (s : Nat) : Bool :=
  let t := m.slotType s
  if t = 1 then m.slotGate s
  else if t = 2 then m.slotGate s && m.slotGate (s + 1)
  else if t = 3 then m.slotGate s && m.slotGate (s - 1)
  else false

/-- The slot runs in this frame by DIV and PH (R130). -/
def Mach.slotDue (m : Mach) (s : Nat) : Bool := m.frame % 2 ^ m.g F.LP_CFG_DIV s == m.g F.LP_CFG_PH s

/-- Write the four cells of a slot (R125, R133). -/
def Mach.slotCells (m : Mach) (s : Nat) (y e r x : Int) (v : Bool) : Mach :=
  (((m.putFresh (0x100 + 4 * s) y v).putFresh (0x101 + 4 * s) e v).putFresh (0x102 + 4 * s) r v).putFresh
    (0x103 + 4 * s) x v

/-- The cells of a slot keep their values with V as given; `y0` replaces Y. -/
def Mach.slotKeep (m : Mach) (s : Nat) (y : Int) (v : Bool) : Mach :=
  m.slotCells s y (m.cellI (0x101 + 4 * s)) (m.cellI (0x102 + 4 * s)) (m.cellI (0x103 + 4 * s)) v

/-- The cells of a slot that is not running (R139, STOPY). -/
def Mach.slotStopped (m : Mach) (s : Nat) : Mach :=
  let y := if m.g F.LP_CFG_STOPY s = 1 then m.cellI (0x100 + 4 * s) else 0
  let m := (m.slotKeep s y false).sb F.LP_STAT_RUNNING false s
  m.setSlot s { m.slot s with once := false }

/-- RESTART acts (R131, R139): FAULT clears, STALERUN becomes 0, the next running frame is a first running frame. -/
def Mach.slotRestart (m : Mach) (s : Nat) : Mach :=
  if m.b F.LP_CTL_RESTART s then
    (((m.sb F.LP_CTL_RESTART false s).sb F.LP_STAT_FAULT false s).s F.LP_STAT_STALERUN 0 s).setSlot s
      { m.slot s with first := true }
  else m

/-- Cell n is one of a lower-numbered slot on slot s's engine that ran in this frame (R126). -/
def Mach.chained (m : Mach) (s n : Nat) : Bool :=
  let q := (n - 0x100) / 4
  decide (0x100 ≤ n) && decide (n < 0x500) && decide (q < s) && q / 32 == s / 32 && (m.slot q).ran

/-- A cell's value as slot s reads it, and its V: as published at the last end of latch, but of a lower-numbered slot that ran in this
frame on the same engine the value it computed (R126). -/
def Mach.slotRead (m : Mach) (s n : Nat) : Int × Bool :=
  let c := if m.chained s n then m.cellNow n else m.cell n
  (c.1.toInt, c.2)

/-- What a vector slot adds to the equation: its feedback, the narrowed limit, stale sources of R141, and the angle that the d slot's
record keeps. -/
structure VecIn where
  x : Int := 0
  lim : Option Int := none
  stale : Bool := false
  theta : Nat := 0
deriving DecidableEq, Repr

/-- The limits of R135 with R142's narrowing; the last component says that the vector limit acted. -/
def slotLimits (lo hi : Int) (lim : Option Int) (vl : Option Int) : Int × Int :=
  let a := match lim with
    | some v => (max lo (-mag32 v), min hi (mag32 v))
    | none => (lo, hi)
  match vl with
  | some v => (max a.1 (-v), min a.2 v)
  | none => a

/-- One running frame of a slot (R131 to R138). `vi` is given for a vector slot. The result tells Y and whether the
vector limit acted. -/
def Mach.slotFrame (m : Mach) (s : Nat) (vi : Option VecIn) : Mach × Int × Bool :=
  let y0 := m.cellI (0x100 + 4 * s)
  let (m, h0) := m.readHist s
  let h := { (if (m.slot s).first then ({} : Hist) else h0) with theta := (vi.map (fun w => w.theta)).getD 0 }
  let m := m.setSlot s { m.slot s with first := false, ran := true, once := true }
  let m := m.sb F.LP_STAT_RUNNING true s
  if m.b F.LP_CTL_HOLD s then
    let m := (m.sb F.LP_STAT_CLAMP false s).sb F.LP_STAT_HELD false s
    ((m.slotKeep s y0 true).writeHist s h, y0, false)
  else
    let page := m.pageAddr s (m.g F.LP_STAT_SELACT s)
    let e := m.slotEngine s
    let sch := m.b F.LP_CFG_SCHMODE s
    let tab := m.b F.LP_CFG_TABLE s
    let (m, tb) := if sch || tab then m.engRead e (page + 0x80) 24 false 0 else (m, some [])
    let tb := tb.getD []
    let (vs, okS) := m.slotRead s (m.g F.LP_SRC1_SCHED s)
    let v := if m.b F.LP_CFG_SCHABS s then mag32 vs else vs
    let t (i : Nat) : Int := s32At tb (4 * (i - 1))
    let k := if sch then (if h.started then regionStep t (s32At tb 12) v h.region else regionFirst t v)
             else m.g F.LP_CFG_SET s
    let m := if sch && h.started && k != h.region then m.inc F.LP_STAT_REGCHG 0xFF s else m
    let (m, cb) := m.engRead e (page + 32 * k) 32 false 0
    let co := coefsOf (cb.getD [])
    let (ref, okR) := m.slotRead s (m.g F.LP_SRC0_REF s)
    let (fb, okB) := m.slotRead s (m.g F.LP_SRC0_FB s)
    let (ff, okF) := m.slotRead s (m.g F.LP_SRC1_FF s)
    let ln := m.g F.LP_SRC2_LIM s
    let (lv, okL) := m.slotRead s ln
    let stale := !okR || !okB || !okF || (sch && !okS) || (ln != 0 && !okL) || (vi.map (fun w => w.stale)).getD false
    let r := mulc (m.gi F.LP_KR s) ref
    let x := mulc (m.gi F.LP_KX s) ((vi.map (fun w => w.x)).getD fb)
    let er := sat32 (r - x)
    let (m, gb) := if tab then m.engRead e (page + 0x100) 128 false 0 else (m, some [])
    let er := if tab then mulc (gainOf (gb.getD []) (fieldAt tb 16 4) (mag32 er)) er else er
    let sr := if stale then satInc 0xFF h.srun else 0
    let h := { h with region := k, started := true, srun := sr }
    let lim := slotLimits (m.gi F.LP_LO s) (m.gi F.LP_HI s) (if ln = 0 then none else some lv) (vi.bind (fun w => w.lim))
    let base := slotLimits (m.gi F.LP_LO s) (m.gi F.LP_HI s) (if ln = 0 then none else some lv) none
    let f := mulc (m.gi F.LP_KF s) ff
    let o : SlotOut := if stale && m.b F.LP_CFG_STALEACT s then { y := y0, hist := h }
                       else slotEq co er f lim.1 lim.2 h
    let acted := o.clamp && ((o.y == lim.2 && lim.2 != base.2) || (o.y == lim.1 && lim.1 != base.1))
    let m := m.writeHist s o.hist
    let m := ((m.sb F.LP_STAT_CLAMP o.clamp s).sb F.LP_STAT_HELD o.held s).sb F.LP_STAT_STALE stale s
    let m := (m.s F.LP_STAT_REGION k s).s F.LP_STAT_STALERUN sr s
    let m := (m.staged (R.LP_Y.idx s 0) (wrap 32 o.y)).staged (R.LP_E.idx s 0) (wrap 32 er)
    (m.slotCells s o.y er r x true, o.y, acted)

/-- STALERUN has reached STALEMAX (R138). -/
def Mach.staleDue (m : Mach) (s : Nat) : Bool :=
  m.slotType s != 0 && m.b F.LP_CTL_EN s && !m.b F.LP_STAT_FAULT s && m.g F.LP_SRC2_STALEMAX s != 0 &&
    m.b F.LP_STAT_STALE s && decide (m.g F.LP_SRC2_STALEMAX s ≤ m.g F.LP_STAT_STALERUN s)

/-- A slot stops within the frame in which it faulted: its cells, computed in this frame, get V 0 (R139). -/
def Mach.stopNow (m : Mach) (s : Nat) : Mach :=
  let q (k : Nat) : Int := (m.cellNow (0x100 + 4 * s + k)).1.toInt
  let y := if m.g F.LP_CFG_STOPY s = 1 then q 0 else 0
  let m := (m.slotCells s y (q 1) (q 2) (q 3) false).sb F.LP_STAT_RUNNING false s
  m.setSlot s { m.slot s with once := false }

/-- A slot faults for staleness and stops running, a vector pair as a whole with its group's EN 0 (R138, R139). -/
def Mach.staleFault (m : Mach) (s : Nat) : Mach :=
  if m.staleDue s then
    let m := (m.sb F.LP_STAT_FAULT true s).raise 0x0703 (m.slotEngine s) s (m.pageArg s (m.g F.LP_STAT_SELACT s))
    let t := m.slotType s
    if t = 1 then m.stopNow s
    else
      let d := if t = 2 then s else s - 1
      ((m.stopNow d).stopNow (d + 1)).writeEn (m.g F.LP_VEC_GROUP d) false
  else m

/-! ### Vector pairs (R141 to R143) -/

/-- The result of the front stage: the angle, its change per frame, the currents, and a stale source. -/
structure Front where
  theta : Nat := 0
  delta : Int := 0
  id : Int := 0
  iq : Int := 0
  stale : Bool := false
deriving DecidableEq, Repr

/-- A Q15.16 signal times a sine in units of 2^-28. -/
def mulSin (v sn : Int) : Int := sat32 (rnd (v * sn) 28)

/-- The front stage (R141) with the d slot's vector bytes (0x180 on), the previous angle, first running frame. -/
def Mach.front (m : Mach) (s : Nat) (vb : List Byte) (prev : Nat) (first : Bool) : Front :=
  let ki := s32At vb 0x0C
  let (ca, va) := m.slotRead s (fieldAt vb 0 2)
  let (cb, okb) := m.slotRead s (fieldAt vb 2 2)
  let (cc, okc) := m.slotRead s (fieldAt vb 4 2)
  let three := fieldAt vb 4 2 != 0
  let ia := mulc ki ca
  let ib := mulc ki cb
  let ic := mulc ki cc
  let al := if three then sat32 (rndDiv (2 * ia - ib - ic) 3) else ia
  let be := if three then sat32 (divRoot3 (ib - ic)) else sat32 (divRoot3 (ia + 2 * ib))
  let (ang, okang) := m.slotRead s (fieldAt vb 10 2)
  let enc := m.g F.LP_VEC_ANGSRC s == 0
  let port := m.g F.LP_VEC_PORT s
  let theta :=
    if enc then wrap 32 (((m.g F.ADC_EP_POS port : Int) - s32At vb 0x18) * (fieldAt vb 0x14 4 : Int))
    else wrap 16 ang * 2 ^ 16
  let delta := if first then 0 else rndDiv (sgn 32 (wrap 32 ((theta : Int) - prev))) (2 ^ m.g F.LP_CFG_DIV s)
  let tp := wrap 32 ((theta : Int) - rndDiv (delta * m.g F.LP_VEC_PBK s) 16)
  let c := cosOf tp
  let sn := sineOf tp
  { theta := theta, delta := delta, id := sat32 (mulSin al c + mulSin be sn), iq := sat32 (mulSin be c - mulSin al sn),
    stale := !va || !okb || (three && !okc) || (if enc then !m.b F.ADC_EP_STAT_VALID port else !okang) }

/-- The duty of a phase as a compare at TOP t: 0, all ones, or the rounded value (R143). -/
def dutyCmp (duty : Int) (t : Nat) : Nat :=
  let c := rnd (duty * (32 * t : Nat)) 16
  if duty ≤ 0 then 0 else if ((32 * t : Nat) : Int) ≤ c then 0xFFFFFFFF else c.toNat

/-- The output stage (R143): three duties from vd and vq, the AUX pair, and EN 1. -/
def Mach.outputStage (m : Mach) (s : Nat) (vb : List Byte) (f : Front) (vd vq vdc : Int) : Mach :=
  let g := m.g F.LP_VEC_GROUP s
  let t := m.g F.PWM_GRP_TOP_TOP g
  let ti := wrap 32 ((f.theta : Int) + rndDiv (f.delta * m.g F.LP_VEC_ADV s) 16)
  let c := cosOf ti
  let sn := sineOf ti
  let va := sat32 (mulSin vd c - mulSin vq sn)
  let vbt := sat32 (mulSin vd sn + mulSin vq c)
  let h := rndDiv va 2
  let k := halfRoot3 vbt
  let pb := sat32 (k - h)
  let pc := sat32 (-h - k)
  let v0 := -(rndDiv (max va (max pb pc) + min va (min pb pc)) 2)
  let duty (v : Int) : Int := if vdc ≤ 0 then 2 ^ 15 else 2 ^ 15 + rndDiv ((v + v0) * 2 ^ 16) vdc
  let aux := fieldAt vb 8 2
  let da := clampI 0 (2 ^ 16) (if aux = 0 then 0 else (m.slotRead s aux).1)
  let m := ((m.writeCmp g 0 (dutyCmp (duty va) t)).writeCmp g 1 (dutyCmp (duty pb) t)).writeCmp g 2 (dutyCmp (duty pc) t)
  (m.writeCmp g 3 (dutyCmp da t)).writeEn g true

/-- One running frame of a vector pair: front stage, slot s, slot s + 1, output stage (R129). -/
def Mach.pairFrame (m : Mach) (s : Nat) : Mach :=
  let e := m.slotEngine s
  let (m, vb) := m.engRead e (m.pageAddr s (m.g F.LP_STAT_SELACT s) + 0x180) 32 false 0
  let vb := vb.getD []
  let first := (m.slot s).first
  let (m, h) := m.readHist s
  let f := m.front s vb h.theta (first || !h.started)
  let vdc := mulc (s32At vb 0x10) (m.slotRead s (fieldAt vb 6 2)).1
  let low := decide (vdc ≤ 0)
  let vmax := if low then 0 else divRoot3 (mulc (s32At vb 0x1C) vdc)
  let (m, vd, a1) := m.slotFrame s (some { x := f.id, lim := some vmax, stale := f.stale, theta := f.theta })
  let vq2 := rootOf (max (vmax * vmax - vd * vd) 0)
  let (m, vq, a2) := m.slotFrame (s + 1) (some { x := f.iq, lim := some vq2, stale := f.stale })
  let m := (m.sb F.LP_STAT_VDCLOW low s).sb F.LP_STAT_VLIM (a1 || a2) s
  m.outputStage s vb f vd vq vdc

/-! ### An engine's frame (R129, R140) -/

/-- A slot that does not run in this frame: stopped, or waiting for its frame (R130, R139). -/
def Mach.slotIdle (m : Mach) (s : Nat) : Mach :=
  let m := if (m.slot s).ran then m.setSlot s { m.slot s with ran := false } else m
  if !m.slotRuns s then
    let was := m.b F.LP_STAT_RUNNING s
    let m := m.slotStopped s
    if m.slotType s = 2 ∧ was then m.writeEn (m.g F.LP_VEC_GROUP s) false else m
  else (m.sb F.LP_STAT_RUNNING true s).slotKeep s (m.cellI (0x100 + 4 * s)) (m.slot s).once

/-- One slot, or both slots of a pair at its d slot, in this frame. -/
def loopSlot (m : Mach) (s : Nat) : Mach :=
  let t := m.slotType s
  if t = 0 then m
  else
    let m := if t = 2 then (m.slotRestart s).slotRestart (s + 1) else if t = 1 then m.slotRestart s else m
    if m.slotRuns s ∧ m.slotDue s then
      (if t = 1 then ((m.slotFrame s none).1).staleFault s
       else if t = 2 then ((m.pairFrame s).staleFault s).staleFault (s + 1)
       else m)
    else m.slotIdle s

/-- Some slot of loop engine k has a register that differs from its reset value. -/
def Mach.loopUsed (m : Mach) (k : Nat) : Bool :=
  m.reg.any (fun p => decide (0x1000 + 512 * k ≤ p.1) && decide (p.1 < 0x1200 + 512 * k))

/-- LOOP_ENGINE_FRAME (R129, R133): the slots of loop engine k in ascending order. -/
def loopFrame (m : Mach) (k : Nat) : Mach :=
  if m.loopUsed k then each ((upTo 32).map (fun i => 32 * k + i)) m loopSlot else m

/-- At the commit point of an on-time frame, HALF of every slot that ran toggles (R146). -/
def loopCommit (m : Mach) (k : Nat) : Mach :=
  each m.slots m (fun m p =>
    if p.1 / 32 = k ∧ p.2.ran then
      (m.s F.LP_STAT_HALF (1 - m.g F.LP_STAT_HALF p.1) p.1).setSlot p.1 { m.slot p.1 with ran := false }
    else m)

/-- An engine that stops without a spare (R140): its slots publish stopped cells and its vector groups go to their
safe state. -/
def loopStop (m : Mach) (k : Nat) : Mach :=
  if m.loopUsed k then
    each ((upTo 32).map (fun i => 32 * k + i)) m (fun m s =>
      if m.slotType s = 0 then m
      else
        let m := m.slotStopped s
        if m.slotType s = 2 then
          let g := m.g F.LP_VEC_GROUP s
          m.setGrp g { m.grp g with ownerFail := true }
        else m)
  else m

/-! ### Cost and budget (R147, R148) -/

/-- W0 of the bank of an address. -/
def Mach.w0At (m : Mach) (addr : Nat) : Nat := (m.bounds (bankOf addr)).1

/-- The cycles a slot costs in a frame in which it runs (R147). -/
def Mach.slotCost (m : Mach) (s : Nat) : Nat :=
  let t := m.slotType s
  let n := ([m.g F.LP_SRC0_REF s, m.g F.LP_SRC0_FB s, m.g F.LP_SRC1_FF s, m.g F.LP_SRC1_SCHED s,
             m.g F.LP_SRC2_LIM s].filter (fun c => c != 0)).length
  let pw := max (m.w0At (m.pageAddr s 0)) (m.w0At (m.pageAddr s 1))
  let aw := m.w0At (m.recordAddr s 0).1
  let bw := m.w0At (m.recordAddr s 0).2
  let sch := m.b F.LP_CFG_SCHMODE s
  let tab := m.b F.LP_CFG_TABLE s
  56 + 2 * n + (pw + 4) + 2 * (aw + 4) + (bw + 4) +
    (if sch then 10 else 0) + (if tab then 40 + 2 * (pw + 8) else 0) + (if sch || tab then pw + 3 else 0) +
    (if t = 2 then 180 + pw + 4 else 0)

/-- The budget of loop engine k (R148). -/
def Mach.loopBudget (m : Mach) (k : Nat) : Nat :=
  let ss := ((upTo 32).map (fun i => 32 * k + i)).filter (fun s => m.slotType s != 0)
  let costs := ss.map (fun s => (2 ^ m.g F.LP_CFG_DIV s, m.g F.LP_CFG_PH s, m.slotCost s))
  let at_ (n : Nat) : Nat := (costs.map (fun c => if n % c.1 == c.2.1 then c.2.2 else 0)).sum
  let wa := ss.foldl (fun a s => max a (m.w0At (m.recordAddr s 0).1)) 0
  if ss.isEmpty then 40 else 40 + (wa + 4) + (upTo 128).foldl (fun a n => max a (at_ n)) 0

/-- The byte ranges of a slot's two pages and two state records, in frame memory. -/
def Mach.slotSpans (m : Mach) (s : Nat) : List (Nat × Nat) :=
  [(m.pageAddr s 0, 512), (m.pageAddr s 1, 512), ((m.recordAddr s 0).1, 64), ((m.recordAddr s 0).2, 64)]

/-- Two ranges share a byte. -/
def spansMeet (a b : Nat × Nat) : Bool := decide (a.1 < b.1 + b.2) && decide (b.1 < a.1 + a.2)

/-- The engine's regions permit reading every page and reading and writing every record of a slot (R148). -/
def Mach.slotMpuOk (m : Mach) (s : Nat) : Bool :=
  let e := 3 + s / 32
  (upTo 4).all (fun i => m.mpuOk e (m.pageAddr s 0 + 128 * i) 128 false && m.mpuOk e (m.pageAddr s 1 + 128 * i) 128 false) &&
  [(m.recordAddr s 0).1, (m.recordAddr s 0).2].all (fun a => m.mpuOk e a 64 false && m.mpuOk e a 64 true)

/-- The limits of a slot break R135. -/
def Mach.limitsBad (m : Mach) (s : Nat) : Bool :=
  let lo := m.gi F.LP_LO s
  let hi := m.gi F.LP_HI s
  decide (hi < lo) ||
  ((m.g F.LP_SRC2_LIM s != 0 || m.slotType s == 2 || m.slotType s == 3) && (decide (hi < 0) || decide (0 < lo)))

/-- One slot of a configuration set breaks R148 or a not-stored rule (R475). -/
def Mach.slotBad (m : Mach) (s : Nat) : Bool :=
  let t := m.slotType s
  decide (2 ^ m.g F.LP_CFG_DIV s ≤ m.g F.LP_CFG_PH s) || m.limitsBad s ||
  (t != 0 &&
    (! [m.g F.LP_SRC0_REF s, m.g F.LP_SRC0_FB s, m.g F.LP_SRC1_FF s, m.g F.LP_SRC1_SCHED s, m.g F.LP_SRC2_LIM s].all
        cellDefined ||
     (t == 2 && (s % 2 == 1 || m.slotType (s + 1) != 3 || m.g F.LP_CFG_DIV s != m.g F.LP_CFG_DIV (s + 1) ||
        m.g F.LP_CFG_PH s != m.g F.LP_CFG_PH (s + 1) || m.g F.PWM_GRP_CFG_OWNER (m.g F.LP_VEC_GROUP s) != 1)) ||
     (t == 3 && (s % 2 == 0 || m.slotType (s - 1) != 2)) ||
     (t != 1 && m.g F.LP_SRC0_FB s != 0) ||
     bankOf (m.recordAddr s 0).1 == bankOf (m.recordAddr s 0).2 || !m.slotMpuOk s ||
     !pageOk (m.pageBytes s (m.g F.LP_PAGE_SEL s)) (t == 2)))

/-- The slots with TYPE not 0. -/
def Mach.usedSlots (m : Mach) : List Nat := (upTo 256).filter (fun s => m.slotType s != 0)

/-- The loop tables of a configuration set are refused (R148). -/
def Mach.loopsRefused (m : Mach) : Bool :=
  let us := m.usedSlots
  us.any m.slotBad || (upTo 256).any (fun s => m.slotType s == 0 && (decide (2 ^ m.g F.LP_CFG_DIV s ≤ m.g F.LP_CFG_PH s) || m.limitsBad s)) ||
  us.any (fun s => us.any (fun t => decide (s < t) &&
    ((m.slotSpans s).any (fun a => (m.slotSpans t).any (spansMeet a)) ||
     (m.slotType s == 2 && m.slotType t == 2 && m.g F.LP_VEC_GROUP s == m.g F.LP_VEC_GROUP t)))) ||
  (upTo 8).any (fun k => decide (m.W < m.loopBudget k))

/-! ### Commands -/

/-- SLOT_STALE_FAULT (R138): a slot whose STALERUN has reached STALEMAX faults. -/
def execSlotStaleFault (k : Nat) (s : State) : Host.Outcome State Fault Refusal :=
  .next { s with m := if k < 256 then s.m.staleFault k else s.m }

/-- PAGE_CHECK_DONE (R145): the check of the page that slot k requests completes. -/
def execPageCheckDone (k : Nat) (s : State) : Host.Outcome State Fault Refusal :=
  .next { s with m := if k < 256 ∧ s.m.activeAp.isSome then s.m.pageDone k else s.m }

end Sys2Proof.Machine
end

