-- ==== Sys2Proof/Machine/Profile.lean ====
section
/-! DEFINITION. Jerk-limited planning (spec/08_motion.md, R155, R157, R158): changes of velocity, stop points, plans,
their integration, duration and extent. Quantities are integers in units of 2^-80 (counts, counts/s, counts/s²,
counts/s³, seconds), so that the one rounding to 2^-16 that R155 names is the only visible one (assumption 7). -/

namespace Sys2Proof.Machine

open Sys2Proof

/-- A product of two quantities. -/
def mulF (a b : Int) : Int := a * b / 2 ^ 80

/-- A quotient of two quantities. -/
def divF (a b : Int) : Int := rndDiv (a * 2 ^ 80) b

/-- The square root of a quantity. -/
def sqrtF (a : Int) : Int := if a ≤ 0 then 0 else (isqrt (a.toNat * 2 ^ 80) : Int)

/-- A Q47.16 value as a quantity. -/
def ofQ (v : Int) : Int := v * 2 ^ 64

/-- A quantity rounded to Q47.16 (R155). -/
def toQ (x : Int) : Int := rnd x 64

/-- A segment of a plan: duration and jerk. -/
structure Seg where
  d : Int := 0
  j : Int := 0
deriving DecidableEq, Repr

/-- Motion under constant jerk for a time: displacement, velocity, acceleration. -/
def stepSeg (v a j t : Int) : Int × Int × Int :=
  (mulF v t + mulF (mulF a t) t / 2 + mulF (mulF (mulF j t) t) t / 6, v + mulF a t + mulF (mulF j t) t / 2, a + mulF j t)

/-- A segment, unless its duration is not above 0. -/
def segOf (d j : Int) : List Seg := if 0 < d then [{ d := d, j := j }] else []

/-- The sign of a quantity. -/
def sgnF (x : Int) : Int := if x < 0 then -1 else if x = 0 then 0 else 1

/-- The velocity reached if the acceleration is brought to 0 at once. -/
def restVel (v a jm : Int) : Int := v + divF (mulF a (a.natAbs : Int)) (2 * jm)

/-- The time-optimal change from (v0, a0), |a0| ≤ A, to (v1, 0) (R157). -/
def changeIn (v0 a0 v1 am jm : Int) : List Seg :=
  let vz := restVel v0 a0 jm
  if v1 = vz then segOf (divF (a0.natAbs : Int) jm) (-(sgnF a0) * jm)
  else
    let s : Int := if vz < v1 then 1 else -1
    let b0 := s * a0
    let dv := s * (v1 - v0)
    let ap := sqrtF (mulF jm dv + mulF b0 b0 / 2)
    let top := if am < ap then am else ap
    let hold := if am < ap then divF (dv - divF (2 * mulF am am - mulF b0 b0) (2 * jm)) am else 0
    segOf (divF (top - b0) jm) (s * jm) ++ segOf hold 0 ++ segOf (divF top jm) (-s * jm)

/-- The change of R157: an acceleration above A is first brought to A at jerk J. -/
def change (v0 a0 v1 am jm : Int) : List Seg :=
  if am < (a0.natAbs : Int) then
    let s := sgnF a0
    let d := divF ((a0.natAbs : Int) - am) jm
    segOf d (-s * jm) ++ changeIn (stepSeg v0 a0 (-s * jm) d).2.1 (s * am) v1 am jm
  else changeIn v0 a0 v1 am jm

/-- The displacement of a plan from velocity v and acceleration a. -/
def dispOf : List Seg → Int → Int → Int
  | [], _, _ => 0
  | s :: l, v, a =>
    let r := stepSeg v a s.j s.d
    r.1 + dispOf l r.2.1 r.2.2

/-- move of R157. -/
def moveF (v0 a0 v1 am jm : Int) : Int := dispOf (change v0 a0 v1 am jm) v0 a0

/-- The stop point S of R157. -/
def stopPoint (p v a am jm : Int) : Int := p + moveF v a 0 am jm

/-- The duration of a plan. -/
def durOf (l : List Seg) : Int := l.foldl (fun t s => t + s.d) 0

/-- Bisection for the c of R157 in units of 2^-16 counts/s: `f` at lo is within the distance, at hi it is not. -/
def bisect (f : Int → Bool) : Nat → Int → Int → Int
  | 0, lo, _ => lo
  | k + 1, lo, hi =>
    if hi - lo ≤ 1 then lo
    else if f ((lo + hi) / 2) then bisect f k ((lo + hi) / 2) hi else bisect f k lo ((lo + hi) / 2)

/-- The plan of R157 from (p, v, a) to P under V, A and J. -/
def planTo (p v a pt vm am jm : Int) : List Seg :=
  if toQ pt = toQ (stopPoint p v a am jm) then change v a 0 am jm
  else
    let s : Int := if stopPoint p v a am jm < pt then 1 else -1
    let goal := s * (pt - p)
    let total (c : Int) : Int := s * (moveF v a (s * c) am jm + moveF (s * c) 0 0 am jm)
    let vz := s * restVel v a jm
    let c :=
      if total vm ≤ goal then vm
      else
        let fits (k : Int) : Bool := decide (total (ofQ k) ≤ goal)
        let top := vm / 2 ^ 64 + 1
        let z := vz / 2 ^ 64
        if 0 < z ∧ z < top then
          (if fits z then ofQ (bisect fits 80 z top) else ofQ (bisect fits 80 0 z))
        else ofQ (bisect fits 80 0 top)
    change v a (s * c) am jm ++ (if 0 < c then segOf (divF (goal - total c) c) 0 else []) ++ change (s * c) 0 0 am jm

/-- Integrate a plan over a time: displacement, velocity, acceleration at its end. -/
def integrate : List Seg → Int → Int → Int → Int × Int × Int
  | [], v, a, _ => (0, v, a)
  | s :: l, v, a, t =>
    if t ≤ s.d then stepSeg v a s.j t
    else
      let r := stepSeg v a s.j s.d
      let q := integrate l r.2.1 r.2.2 (t - s.d)
      (r.1 + q.1, q.2.1, q.2.2)

/-- The state in Q47.16 after time t of a plan that ends at P; a plan that ends inside the time gives (P, 0, 0)
(R155). The 2^20 units of slack take up the rounding of summed durations. -/
def advance (pq v a : Int) (l : List Seg) (t ptq : Int) : Int × Int × Int :=
  if durOf l ≤ t + 2 ^ 20 then (ptq, 0, 0)
  else
    let r := integrate l v a t
    (pq + toQ r.1, toQ r.2.1, toQ r.2.2)

/-- The times inside a segment at which the velocity passes through 0. -/
def turnTimes (v a j : Int) : List Int :=
  if j = 0 then (if a = 0 then [] else [divF (-v) a])
  else
    let d := mulF a a - 2 * mulF j v
    if d < 0 then [] else [divF (-a + sqrtF d) j, divF (-a - sqrtF d) j]

/-- The lowest and highest displacement along a plan (R159 check 4). -/
def extentOf : List Seg → Int → Int → Int → Int × Int
  | [], x, _, _ => (x, x)
  | s :: l, x, v, a =>
    let xs := ((turnTimes v a s.j).filter (fun t => decide (0 < t) && decide (t < s.d))).map
      (fun t => x + (stepSeg v a s.j t).1)
    let r := stepSeg v a s.j s.d
    let q := extentOf l (x + r.1) r.2.1 r.2.2
    (xs.foldl min (min x q.1), xs.foldl max (max x q.2))

end Sys2Proof.Machine
end

