-- ==== Sys2Proof/Machine/Motion.lean ====
section
/-! DEFINITION. Motion generators (spec/08_motion.md, R150 to R182): axes, their targets, queries, holds and quick
stops, limit changes, feedback, the door governor, step axes with coil currents, stalls and references, state
records, and costs. -/

namespace Sys2Proof.Machine

open Sys2Proof

/-- An axis's memory beside its registers. -/
def Mach.axis (m : Mach) (a : Nat) : Axis := smGet (fun _ => ({} : Axis)) m.axes a

/-- Replace it. -/
def Mach.setAxis (m : Mach) (a : Nat) (x : Axis) : Mach := { m with axes := smPut (fun _ => ({} : Axis)) m.axes a x }

/-- The engine that runs an axis: MG a/8, or MG4 while grafted for it (R150, R474). -/
def Mach.axisEngine (m : Mach) (a : Nat) : Nat :=
  if m.g F.SPR_STAT_MG4ST = 2 ∧ m.g F.SPR_STAT_MG4FOR = a / 8 then 16 else 12 + a / 8

/-- TYPE of an axis (R150). -/
def Mach.axisType (m : Mach) (a : Nat) : Nat := m.g F.MG_CFG_TYPE a

/-- The frame period T in units of 2^-80 s (R151). -/
def Mach.period (m : Mach) : Int := rndDiv ((m.L : Int) * 25 * 2 ^ 80) (10 ^ 10)

/-! ### State records (R181) -/

/-- A half of an axis's state record, and the frame's working values. -/
structure AxRec where
  p : Int := 0
  v : Int := 0
  a : Int := 0
  fb : Int := 0
  frame : Nat := 0
  level : Nat := 0
  eofs : Nat := 0
  refd : Bool := false
  rest : Bool := false
  cnt : Nat := 0
  za : Int := 0
  zb : Int := 0
  i : Int := 0
  ua : Int := 0
  ub : Int := 0
deriving DecidableEq, Repr

/-- A signed 64-bit number of a byte list. -/
def s64At (bs : List Byte) (o : Nat) : Int := sgn 64 (fieldAt bs o 8)

/-- The record that 64 bytes hold (R181). -/
def axRecOf (b : List Byte) : AxRec :=
  let w := fieldAt b 0x24 4
  { p := s64At b 0, v := s64At b 8, a := s64At b 16, fb := s64At b 24, frame := fieldAt b 0x20 4,
    level := w % 16, eofs := w / 16 % 1024, refd := bit w 14, rest := bit w 15, cnt := w / 65536 % 256,
    za := s32At b 0x28, zb := s32At b 0x2C, i := s32At b 0x30, ua := s32At b 0x34, ub := s32At b 0x38 }

/-- The 64 bytes of a record (R181). -/
def axRecBytes (r : AxRec) : List Byte :=
  [r.p, r.v, r.a, r.fb].flatMap (fun x => leBytes 8 (wrap 64 x)) ++ leBytes 4 r.frame ++
  leBytes 4 (r.level % 16 + 16 * (r.eofs % 1024) + 2 ^ 14 * b2n r.refd + 2 ^ 15 * b2n r.rest + 65536 * (r.cnt % 256)) ++
  [r.za, r.zb, r.i, r.ua, r.ub].flatMap (fun x => leBytes 4 (wrap 32 x)) ++ leBytes 4 0

/-- Addresses of half k of the two copies of an axis's record. -/
def Mach.axRecAddr (m : Mach) (a k : Nat) : Nat × Nat :=
  (0x20000000 + 128 * m.g F.MG_STATE_COPYA a + 64 * k, 0x20000000 + 128 * m.g F.MG_STATE_COPYB a + 64 * k)

/-- Read an axis's record from the half `HALF` names. -/
def Mach.readAx (m : Mach) (a : Nat) : Mach × AxRec :=
  let ad := m.axRecAddr a (m.g F.MG_STATE_HALF a)
  match m.engRead (m.axisEngine a) ad.1 64 true ad.2 with
  | (m, some b) => (m, axRecOf b)
  | (m, none) => (m, {})

/-- Write an axis's record to a half of both copies. -/
def Mach.writeAx (m : Mach) (a k : Nat) (r : AxRec) : Mach :=
  let ad := m.axRecAddr a k
  let e := m.axisEngine a
  (m.engWrite e ad.1 (axRecBytes r)).engWrite e ad.2 (axRecBytes r)

/-! ### Limits (R156, R175) -/

/-- Effective limits in units of 2^-80: V, A, J. -/
abbrev Lims := Int × Int × Int

/-- The direction is one that GOVDIR includes: 1 positive, 2 negative (R175). -/
def govIncludes (dir : Nat) (s : Int) : Bool := if 0 < s then bit dir 0 else if s < 0 then bit dir 1 else true

/-- A frame is governed (R175): by the velocity's direction, at rest by the target's. -/
def Mach.governedFrame (m : Mach) (a : Nat) (p v tgt : Int) : Bool :=
  m.b F.MG_CFG_GOV a && govIncludes (m.g F.MG_CFG_GOVDIR a) (if v = 0 then tgt - p else v)

/-- The governed velocity cap √(2E/m)/s of R175. -/
def govV (ecap mass mpc : Nat) : Int :=
  if mass = 0 ∨ mpc = 0 then 0 else (isqrt (2 * ecap * 10 ^ 24 * 2 ^ 160 / (100 * mass)) / mpc : Nat)

/-- The governed acceleration cap α·F/(m·s) of R175. -/
def govA (afrac fcap mass mpc : Nat) : Int :=
  if mass = 0 ∨ mpc = 0 then 0 else (afrac * fcap * 10 ^ 12 * 2 ^ 80 / (256 * mass * mpc) : Nat)

/-- A cap that comes out as 0 in Q47.16 would be a limit of 0, which R156 forbids and the spec resolves nowhere: a
free positive limit stands there (assumption 8). -/
def freeCap (x : Int) : Int := if toQ x ≤ 0 then ofQ ((Config.freeCap x.toNat : Int) + 1) else x

/-- Limits with what acts: normal (V, A, J), quick stop (V, A, J), GOVV, GOVA normal, GOVA in a quick stop. -/
structure LimSet where
  n : Lims := (0, 0, 0)
  q : Lims := (0, 0, 0)
  gv : Bool := false
  ga : Bool := false
  gaq : Bool := false
deriving DecidableEq, Repr

/-- The effective limits, narrowed by the governor or not (R156, R175). -/
def Mach.limits (m : Mach) (a : Nat) (gov : Bool) : LimSet :=
  let v := ofQ (m.qi .MG_VMAX_LO a)
  let am := ofQ (m.qi .MG_AMAX_LO a)
  let j := ofQ (m.qi .MG_JMAX_LO a)
  let aq := ofQ (m.qi .MG_AQS_LO a)
  let jq := ofQ (m.qi .MG_JQS_LO a)
  if gov then
    let mass := m.g F.MG_MASS_MASS a
    let mpc := (m.w .MG_MPC a).toNat
    let cv := freeCap (govV (m.g F.MG_GOV_ECAP a) mass mpc)
    let ca := freeCap (govA (m.g F.MG_CFG_AFRAC a) (m.g F.MG_GOV_FCAP a) mass mpc)
    { n := (min v cv, min am ca, j), q := (min v cv, min aq ca, jq), gv := decide (cv < v), ga := decide (ca < am),
      gaq := decide (ca < aq) }
  else { n := (v, am, j), q := (v, aq, jq) }

/-- The limits of a plan towards a target: narrowed where its σ lies in a governed direction, and where P is the stop
point, in a governed frame (R175). -/
def Mach.limitsFor (m : Mach) (a : Nat) (p v ac tgt : Int) : LimSet :=
  let free := m.limits a false
  if !m.b F.MG_CFG_GOV a then free
  else
    let s := toQ (stopPoint (ofQ p) (ofQ v) (ofQ ac) free.n.2.1 free.n.2.2)
    let gov := if s = tgt then m.governedFrame a p v tgt else govIncludes (m.g F.MG_CFG_GOVDIR a) (tgt - s)
    m.limits a gov

/-- The stop point of a state in Q47.16 under limits (R157). -/
def stopQ (p v ac : Int) (k : Lims) : Int := toQ (stopPoint (ofQ p) (ofQ v) (ofQ ac) k.2.1 k.2.2)

/-- The direction of travel: the sign of v, or of a if v is 0 (R158). -/
def travel (v ac : Int) : Int := if v = 0 then sgnF ac else sgnF v

/-- The limits of a plan that has a direction of its own: a stop, which has that of the travel, and a reference run,
which has REFDIR's (R161, R173, R175). -/
def Mach.limitsIn (m : Mach) (a : Nat) (d : Int) : LimSet :=
  m.limits a (m.b F.MG_CFG_GOV a && govIncludes (m.g F.MG_CFG_GOVDIR a) d)

/-! ### Judging a target (R158, R159, R163) -/

/-- How a target is judged: 0 accepted, 15 TGTREF, 14 TGTLIM; the plan reverses; its frames until it ends. -/
structure Verdict where
  bit : Nat := 0
  rev : Bool := false
  frames : Int := 0
deriving DecidableEq, Repr

/-- Frames of a duration, rounded up. -/
def framesOf (d t : Int) : Int := -((-(d - 2 ^ 20)) / t)

/-- Judge a target in Q47.16 against a state and limits (R159). `busy` is check 1; `again` repeats checks 3 and 4 only
(R162). -/
def Mach.judge_ (m : Mach) (a : Nat) (tgt p v ac : Int) (k : Lims) (busy again : Bool) : Verdict :=
  let lo := m.qi .MG_SMIN_LO a
  let hi := m.qi .MG_SMAX_LO a
  if busy then { bit := 15 }
  else if !again ∧ (tgt < lo ∨ hi < tgt) then { bit := 14 }
  else
    let s := stopQ p v ac k
    let d := travel v ac
    let rev := decide (s ≠ tgt) && decide (d ≠ 0) && decide (sgnF (tgt - s) ≠ d)
    let (vm, am, jm) := k
    let stopFirst := rev && m.b F.MG_CFG_REVSTOP a
    let l1 := planTo (ofQ p) (ofQ v) (ofQ ac) (if stopFirst then ofQ s else ofQ tgt) vm am jm
    let l2 := if stopFirst then planTo (ofQ s) 0 0 (ofQ tgt) vm am jm else []
    let fr := if stopFirst then framesOf (durOf l1) m.period + m.g F.MG_CFG_REVDWELL a + framesOf (durOf l2) m.period
              else framesOf (durOf l1) m.period
    let ovs := m.b F.MG_CFG_OVS a
    if rev && !ovs then { bit := 15, rev := rev, frames := fr }
    else
      let ex := extentOf l1 0 (ofQ v) (ofQ ac)
      let out := toQ (min (ofQ p + ex.1) (ofQ tgt)) < lo ∨ hi < toQ (max (ofQ p + ex.2) (ofQ tgt))
      if ovs ∧ out then { bit := 14, rev := rev, frames := fr } else { bit := 0, rev := rev, frames := fr }

/-! ### One axis in one frame -/

/-- The working state of an axis in a frame. -/
structure AxW where
  m : Mach
  a : Nat := 0
  x : Axis := {}
  r : AxRec := {}
  /-- Frames since the record's tick (R179). -/
  k : Nat := 1
  /-- The target in force. -/
  tgt : Int := 0
  ferrOk : Bool := false

/-- Set a W1C bit of `MG_STAT` with its event; TGTREF, TGTLIM and MISS raise one at each occurrence. -/
def AxW.flag (w : AxW) (f : Fd) : AxW :=
  let e := w.m.axisEngine w.a
  let p := (w.m.w .MG_POS_LO w.a).toNat
  let m := w.m.noteSet f 0 w.a 0 (if f.lo < 13 then 0x0800 + f.lo else 0, e, w.a, p)
  if w.m.b f w.a ∧ f.lo < 13 then { w with m := m }
  else { w with m := (m.sb f true w.a).raise (0x0800 + f.lo) e w.a p }

/-- The axis moves: v or a is not 0. -/
def AxW.moving (w : AxW) : Bool := w.r.v != 0 || w.r.a != 0

/-- The limits of the plan that the axis follows: of its stop in a quick stop and under HOLD, of its reference run, or
towards its target (R156, R160, R161, R173, R175). -/
def AxW.lims (w : AxW) : LimSet :=
  if w.x.qs || w.m.b F.MG_CTL_HOLD w.a then w.m.limitsIn w.a (travel w.r.v w.r.a)
  else if w.x.refRun.isSome then w.m.limitsIn w.a (if w.m.b F.MG_CTL_REFDIR w.a then -1 else 1)
  else w.m.limitsFor w.a w.r.p w.r.v w.r.a w.tgt

/-- The effective limits of R156: in a quick stop with AQS and JQS. -/
def AxW.eff (w : AxW) : Lims := if w.x.qs then w.lims.q else w.lims.n

/-- A reference run ends without result (R173). -/
def AxW.refAbandon (w : AxW) : AxW :=
  if w.x.refRun.isSome then
    { w with x := { w.x with refRun := none }, m := w.m.sb F.MG_CTL_REF false w.a }.flag F.MG_STAT_REFFAIL
  else w

/-- A quick stop starts: the target becomes S under the quick-stop limits (R161). -/
def AxW.quickStop (w : AxW) : AxW :=
  let w := w.refAbandon
  let w := { w with x := { w.x with qs := true, rev := false } }
  { w with x := { w.x with lim := some w.eff }, tgt := stopQ w.r.p w.r.v w.r.a w.eff }

/-- Feedback is lost after 4 frames (R164): at the fourth frame of each run, and where the flag is cleared while the
run lasts. -/
def AxW.feedbackLost (w : AxW) : AxW :=
  if 4 ≤ w.x.inval ∧ (!w.m.b F.MG_STAT_FBLOST w.a ∨ (w.x.inval = 4 ∧ !w.x.qs)) then (w.flag F.MG_STAT_FBLOST).quickStop
  else w

/-- The feedback step of R164. -/
def AxW.feedback (w : AxW) : AxW :=
  let m := w.m
  if !m.b F.MG_FB_FBEN w.a then { w with ferrOk := false }
  else
    let port := m.g F.MG_FB_PORT w.a
    if m.b F.ADC_EP_STAT_VALID port then
      let pos := m.g F.ADC_EP_POS port
      let bits := if m.g F.ADC_EP_CFG_MODE port = 3 then m.g F.ADC_EP_SSI_BITS port else 32
      let old := m.g F.ADC_EP_CFG_MODE port = 3 ∧ m.b F.ADC_EP_STAT_OLD port
      let d := match w.x.last with
        | some q => if old then 0 else sgn bits (wrap bits ((pos : Int) - q))
        | none => 0
      { w with ferrOk := true, r := { w.r with fb := w.r.fb + rnd (m.gi F.MG_FBK w.a * d) 12 },
               x := { w.x with last := some pos, inval := 0 } }
    else { w with ferrOk := false, x := { w.x with inval := satInc 255 w.x.inval } }.feedbackLost

/-- Power-up (R178): the record starts from 0, and with an SSI port `MG_FBPOS` starts from the first position that the
port gives, with REFD. -/
def AxW.powerUp (w : AxW) : AxW :=
  let w := if w.x.up then w else { w with r := {}, x := { w.x with up := true } }
  let m := w.m
  let port := m.g F.MG_FB_PORT w.a
  if w.x.fbUp ∨ !m.b F.MG_FB_FBEN w.a ∨ m.g F.ADC_EP_CFG_MODE port ≠ 3 ∨ !m.b F.ADC_EP_STAT_VALID port then w
  else
    let pos := m.g F.ADC_EP_POS port
    { w with x := { w.x with fbUp := true, last := some pos },
             r := { w.r with fb := rnd (m.gi F.MG_FBK w.a * pos) 12, refd := true } }

/-- EN has gone to 1 (R178): v and a are 0, the position from feedback or the last one, the target is the position. -/
def AxW.start (w : AxW) : AxW :=
  let m := w.m
  let p := if m.b F.MG_FB_FBEN w.a ∧ m.b F.MG_FB_INIT w.a then w.r.fb else w.r.p
  { w with k := 1, tgt := p, r := { w.r with p := p, v := 0, a := 0, cnt := 0, za := 0, zb := 0 },
           x := { w.x with run := true, qs := false, rev := false, lim := none, inval := 0, ferr := 0, eov := 0,
                           refRun := none, rest := 0 } }

/-- Speed in counts per frame, Q15.16. -/
def Mach.perFrame (m : Mach) (v : Int) : Int := satQ (rnd (v * m.period) 80)

/-- VREF or VMIN, Q8.8 counts per frame, as Q15.16. -/
def q88 (v : Nat) : Int := (v * 256 : Nat)

/-- A REF command (R173, R174), also one written while a reference run is in progress. -/
def AxW.reference (w : AxW) : AxW :=
  let m := w.m
  let again := w.x.refAgain
  let w := { w with x := { w.x with refAgain := false } }
  if !m.b F.MG_CTL_REF w.a then w
  else if w.x.refRun.isSome then
    (if !again then w
     else if w.moving then w.flag F.MG_STAT_REFFAIL
     else { w with x := { w.x with refRun := some w.r.p } })
  else
    let done := { w with m := m.sb F.MG_CTL_REF false w.a }
    if m.axisType w.a = 2 then
      (if m.g F.MG_REFCFG_VREF w.a < m.g F.MG_STALL_VMIN w.a ∨ w.moving ∨ !m.b F.MG_CTL_EN w.a then
        done.flag F.MG_STAT_REFFAIL
       else
        let w := { w with x := { w.x with refRun := some w.r.p } }
        { w with x := { w.x with lim := some w.eff } })
    else if w.moving ∨ m.b F.MG_CTL_REFMODE w.a then done.flag F.MG_STAT_REFFAIL
    else
      let d := m.qi .MG_REFPOS_LO w.a - w.r.fb
      { done with r := { w.r with p := w.r.p + d, fb := w.r.fb + d, refd := true } }

/-- QSTOP, or EN cleared while moving (R161). -/
def AxW.stopCommands (w : AxW) : AxW :=
  if w.x.qs then w
  else if w.m.b F.MG_CTL_QSTOP w.a then w.quickStop
  else if !w.m.b F.MG_CTL_EN w.a ∧ w.moving then w.quickStop
  else w

/-- A changed effective limit (R158, R162): MISS, SOFTLIM, the end of a dwell. A reference run goes on to its own end
where its target is missed. -/
def AxW.limitChange (w : AxW) : AxW :=
  let k := w.eff
  let changed := (w.x.lim.map (fun l => l != k)).getD false
  let w1 := { w with x := { w.x with lim := some k } }
  if !changed then w1
  else
    let w1 := { w1 with x := { w1.x with rev := false }, r := { w1.r with cnt := if w1.moving then w1.r.cnt else 0 } }
    let s := stopQ w.r.p w.r.v w.r.a k
    let v := w.m.judge_ w.a w.tgt w.r.p w.r.v w.r.a k false true
    let w1 := if v.bit ≠ 0 then ({ w1 with tgt := s }.flag F.MG_STAT_MISS) else w1
    if s < w.m.qi .MG_SMIN_LO w.a ∨ w.m.qi .MG_SMAX_LO w.a < s then (w1.flag F.MG_STAT_SOFTLIM).quickStop else w1

/-- Check 1 of R159: a quick stop, a reference run or a stall hold is in progress; or `HOLD` takes effect in this frame
(R206; DEDUCED: R160 has targets accepted while `HOLD` is 1, so the refusal of R206 is that of the frame in which it becomes
1). -/
def AxW.busy (w : AxW) : Bool :=
  w.x.qs || w.x.refRun.isSome || w.m.b F.MG_STAT_STALL w.a || (w.m.b F.MG_CTL_HOLD w.a && !w.x.held)

/-- Whether `HOLD` has taken effect is kept for the next frame (R206). -/
def AxW.keepHold (w : AxW) : AxW := { w with x := { w.x with held := w.m.b F.MG_CTL_HOLD w.a && !w.x.qs } }

/-- A target waiting for this frame is judged (R159). `busy` is check 1. -/
def AxW.target (w : AxW) (busy : Bool) : AxW :=
  match w.x.tgt with
  | none => w
  | some t =>
    let k := (w.m.limitsFor w.a w.r.p w.r.v w.r.a t).n
    let v := w.m.judge_ w.a t w.r.p w.r.v w.r.a k busy false
    let w := { w with x := { w.x with tgt := none } }
    if v.bit = 15 then w.flag F.MG_STAT_TGTREF
    else if v.bit = 14 then w.flag F.MG_STAT_TGTLIM
    else
      let w := { w with tgt := t, x := { w.x with rev := false }, r := { w.r with cnt := if w.moving then w.r.cnt else 0 } }
      { w with x := { w.x with lim := some w.eff } }

/-- A query waiting for this frame is answered (R163), as R159 would judge it. -/
def AxW.answer (w : AxW) (busy : Bool) : AxW :=
  if !w.x.query then w
  else
    let t := w.m.qi .MG_QPOS_LO w.a
    let k := (w.m.limitsFor w.a w.r.p w.r.v w.r.a t).n
    let v := w.m.judge_ w.a t w.r.p w.r.v w.r.a k busy false
    let eta := if v.bit ≠ 0 ∨ 0xFFFFFF < v.frames then 0xFFFFFF else (v.frames - (w.k - 1 : Nat)).toNat
    let res := 2 ^ 31 + b2n (v.bit == 0 && !v.rev) * 2 ^ 30 + b2n (v.bit == 14) * 2 ^ 29 + eta
    { w with x := { w.x with query := false },
             m := (w.m.s F.MG_QRES_VALID 0 w.a).staged (R.MG_QRES.idx w.a 0) res }

/-! ### Coils (R166 to R173) -/

/-- The back-EMF estimate of a running frame: ρ and LD in Q15.16. -/
structure Emf where
  rho : Int := 0
  ld : Int := 0
deriving DecidableEq, Repr

/-- 2π in units of 2^-60. -/
def twoPi60 : Int := 4 * (halfPi60 : Int)

/-- ω in electrical rad per frame, Q15.16 (R169). -/
def omega (vf : Int) : Int := rndDiv (vf * twoPi60) (1024 * 2 ^ 60)

/-- The estimate of R169, where it is evaluated; the spec states no ρ or LD where KE·|ω| is 0: free values. -/
def AxW.emf (w : AxW) : AxW × Option Emf :=
  let m := w.m
  let vf := m.perFrame w.r.v
  if (vf.natAbs : Int) < q88 (m.g F.MG_STALL_VMIN w.a) ∨ w.x.vdcLow ∨ vf = 0 then (w, none)
  else
    let ia := m.cellI (m.g F.MG_STEP_CELL_IA w.a)
    let ib := m.cellI (m.g F.MG_STEP_CELL_IB w.a)
    let rs := m.gi F.MG_STEP_RS w.a
    let ls := m.gi F.MG_STEP_LS w.a
    let om := omega vf
    let ea := sat32 (w.r.ua - mulc rs ia + mulc ls (sat32 (rnd (om * ib) 16)))
    let eb := sat32 (w.r.ub - mulc rs ib - mulc ls (sat32 (rnd (om * ia) 16)))
    let den := mulc (m.gi F.MG_STEP_KE w.a) (om.natAbs : Int)
    if den = 0 then
      let (f1, m) := m.draw
      let (f2, m) := m.draw
      ({ w with m := m }, some { rho := sgn 32 f1, ld := sgn 32 f2 })
    else
      let ang := w.x.phi * 2 ^ 22
      let mag := rootOf (ea * ea + eb * eb)
      (w, some { rho := satQ (rndDiv (mag * 65536) den),
                 ld := satQ (sgnF vf * rndDiv ((mulSin ea (cosOf ang) + mulSin eb (sineOf ang)) * 65536) den) })

/-- The run of frames with ρ below RHO (R171): the counter and the position at its onset. -/
def AxW.stallRun (w : AxW) (e : Option Emf) : AxW :=
  match e with
  | none => { w with r := { w.r with cnt := if w.moving then 0 else w.r.cnt } }
  | some f =>
    if f.rho < (w.m.g F.MG_STALL_RHO w.a * 256 : Nat) then
      { w with x := { w.x with onset := if w.r.cnt = 0 then w.r.p else w.x.onset },
               r := { w.r with cnt := satInc 255 w.r.cnt } }
    else { w with r := { w.r with cnt := 0 } }

/-- The whole counts of a position. -/
def floorQ (p : Int) : Int := p / 65536

/-- The position is reassigned at rest so that the applied angle stays (R172, R173). -/
def AxW.rebase (w : AxW) (dest : Int) : AxW :=
  let eofs := wrap 10 (w.r.eofs + floorQ w.r.p - floorQ dest)
  { w with tgt := dest, r := { w.r with eofs := eofs, p := dest, v := 0, a := 0, cnt := 0 } }

/-- `MG_CAPPOS[a]` takes a position: published with the frame's registers. -/
def AxW.capture (w : AxW) (p : Int) : AxW := { w with m := w.m.stagedQ (R.MG_CAPPOS_LO.idx w.a 0) p }

/-- A stall is due: ρ was below RHO in STALLN consecutive frames (R171). -/
def AxW.stallFound (w : AxW) : Bool :=
  w.m.axisType w.a == 2 && w.moving && decide (w.m.g F.MG_STALL_STALLN w.a ≤ w.r.cnt)

/-- A stall is found (R172, R173). -/
def AxW.stall (w : AxW) : AxW :=
  let p0 := w.x.onset
  let w := w.capture p0
  if w.x.refRun.isSome then
    let w := { w with x := { w.x with refRun := none }, m := w.m.sb F.MG_CTL_REF false w.a }
    if w.m.b F.MG_CTL_REFMODE w.a then w.rebase p0
    else
      let w := w.rebase (w.m.qi .MG_REFPOS_LO w.a)
      { w with r := { w.r with refd := true } }
  else
    let w := w.rebase p0
    ({ w with x := { w.x with rev := false }, r := { w.r with refd := false } }).flag F.MG_STAT_STALL

/-- The reference run has travelled REFMAX·256 counts (R173). -/
def AxW.refLong (w : AxW) : Bool :=
  match w.x.refRun with
  | some p0 => decide ((w.m.g F.MG_REFCFG_REFMAX w.a * 256 * 65536 : Nat) ≤ ((w.r.p - p0).natAbs : Int))
  | none => false

/-- IMAXe of R170 in Q15.16. -/
def AxW.imaxe (w : AxW) : Int :=
  let i := (w.m.g F.MG_STEP_I_IMAX w.a * 256 : Nat)
  if w.m.governedFrame w.a w.r.p w.r.v w.tgt then
    min i (rndDiv (w.m.g F.MG_GOV_FCAP w.a * 65536 : Nat) (10 * w.m.g F.MG_MASS_FUNIT w.a : Nat))
  else i

/-- The current magnitude of R170. -/
def AxW.current (w : AxW) (e : Option Emf) : Int :=
  let m := w.m
  let top := w.imaxe
  let reg (f : Fd) : Int := (m.g f w.a * 256 : Nat)
  let vf := (m.perFrame w.r.v).natAbs
  let goal : Int :=
    if w.x.refRun.isSome then reg F.MG_STEP_I_IREF
    else if !w.moving ∧ 16 * m.g F.MG_STEP_LD_HOLDDLY w.a ≤ w.x.rest then reg F.MG_STEP_I_IHOLD
    else if (vf : Int) < q88 (m.g F.MG_STALL_VMIN w.a) then top
    else match e with
      | some f => if reg F.MG_STEP_LD_LDHI < f.ld then top
                  else if f.ld < reg F.MG_STEP_LD_LDLO then reg F.MG_STEP_I_IMIN else w.r.i
      | none => w.r.i
  let st : Int := m.g F.MG_STEP_LD_ISTEP w.a
  min top (clampI (w.r.i - st) (w.r.i + st) (min top goal))

/-- The largest level k ≤ KMAX with |v|·den ≥ num·VK·2^k, or 0 (R167). `vf` is Q15.16, VK Q8.8. -/
def levelOf (vf : Nat) (vk kmax num den : Nat) : Nat :=
  (upTo (kmax + 1)).foldl (fun b k => if num * (vk * 2 ^ 8) * 2 ^ k ≤ den * vf then k else b) 0

/-- The commanded position passes a multiple of q counts between two ticks (R167). -/
def passes (p pn : Int) (q : Nat) : Bool :=
  let g : Int := (q * 65536 : Nat)
  decide (p / g < pn / g) || decide ((-p) / g < (-pn) / g)

/-- The level of the next frame (R167). -/
def AxW.level (w : AxW) (pn vn : Int) (rest : Bool) : Nat :=
  let m := w.m
  let vf := (m.perFrame vn).natAbs
  let vk := m.g F.MG_STEP_CFG_VK w.a
  let kmax := m.g F.MG_STEP_CFG_KMAX w.a
  let up := levelOf vf vk kmax 1 1
  let dn := levelOf vf vk kmax 7 8
  let k := w.r.level
  let want := if k < up then up else if dn < k then dn else k
  if want = k then k
  else if rest then 0
  else if passes w.r.p pn (2 ^ max k want) then want else k

/-- The applied angle φ of R166. -/
def angleOf (p v : Int) (eofs k : Nat) : Nat :=
  let x := floorQ p + eofs
  let q : Int := (2 ^ k : Nat)
  wrap 10 (if v < 0 then -((-x) / q) * q else x / q * q)

/-- One coil of the regulator (R168): the voltage, the integrator, the duties of its two pairs. -/
def coil (kp ki vdc want is z : Int) : Int × Int × Int × Int :=
  let e := sat32 (want - is)
  let u := sat32 (mulc kp e + z)
  let z := if (u.natAbs : Int) ≤ vdc ∨ sgnF e ≠ sgnF u then sat32 (z + mulc ki e) else z
  let ux := clampI (-vdc) vdc u
  let h := rndDiv (ux * 2 ^ 16) (2 * vdc)
  (ux, z, 2 ^ 15 + h, 2 ^ 15 - h)

/-- The coil current regulator and the group's compares (R168, R143). -/
def AxW.regulate (w : AxW) (i : Int) (phi : Nat) : AxW :=
  let m := w.m
  let g := m.g F.MG_STEP_CFG_GROUP w.a
  let t := m.g F.PWM_GRP_TOP_TOP g
  let st := m.g F.PWM_GRP_STAT_STATE g
  let safe := st == 2 || st == 3
  let r := if w.x.safe && !safe then { w.r with za := 0, zb := 0 } else w.r
  let ia := m.cellI (m.g F.MG_STEP_CELL_IA w.a)
  let ib := m.cellI (m.g F.MG_STEP_CELL_IB w.a)
  let vdc := m.cellI (m.g F.MG_STEP_VDC_VDC w.a)
  let put (m : Mach) (d0 d1 d2 d3 : Int) : Mach :=
    ((((m.writeCmp g 0 (dutyCmp d0 t)).writeCmp g 1 (dutyCmp d1 t)).writeCmp g 2 (dutyCmp d2 t)).writeCmp g 3
      (dutyCmp d3 t)).writeEn g true
  if vdc ≤ 0 then
    { w with m := put m (2 ^ 15) (2 ^ 15) (2 ^ 15) (2 ^ 15), x := { w.x with safe := safe, vdcLow := true, phi := phi },
             r := { r with ua := 0, ub := 0, i := i } }
  else
    let kp := m.gi F.MG_STEP_KP w.a
    let ki := m.gi F.MG_STEP_KI w.a
    let ang := phi * 2 ^ 22
    let ca := coil kp ki vdc (mulSin i (cosOf ang)) ia r.za
    let cb := coil kp ki vdc (mulSin i (sineOf ang)) ib r.zb
    { w with m := put m ca.2.2.1 ca.2.2.2 cb.2.2.1 cb.2.2.2, x := { w.x with safe := safe, vdcLow := false, phi := phi },
             r := { r with ua := ca.1, za := ca.2.1, ub := cb.1, zb := cb.2.1, i := i } }

/-! ### Planning and publishing a frame -/

/-- The state n frames on along the plan from a state to a destination. -/
def Mach.along (m : Mach) (k : Lims) (p v ac dest : Int) (n : Nat) : Int × Int × Int :=
  advance p (ofQ v) (ofQ ac) (planTo (ofQ p) (ofQ v) (ofQ ac) (ofQ dest) k.1 k.2.1 k.2.2) (m.period * n) dest

/-- The next state of the axis: at rest, or its frames along its plan (R155, R157 to R161, R173, R179). The first
component says that a reversal's stop is under way, the second the dwell left, or the run of R171 while the axis moves. -/
def AxW.next (w : AxW) : (Bool × Nat) × Int × Int × Int :=
  let m := w.m
  let r := w.r
  let go (k : Lims) (dest : Int) (n : Nat) : (Bool × Nat) × Int × Int × Int :=
    let q := m.along k r.p r.v r.a dest n
    ((false, if w.moving ∧ (q.2.1 ≠ 0 ∨ q.2.2 ≠ 0) then r.cnt else 0), q)
  let ls := w.lims
  if m.b F.MG_STAT_STALL w.a && !w.moving then ((false, 0), r.p, r.v, r.a)
  else if w.x.qs then go ls.q w.tgt w.k
  else if m.b F.MG_CTL_HOLD w.a then go ls.n (stopQ r.p r.v r.a ls.n) w.k
  else if w.x.refRun.isSome then
    let t := m.period * w.k
    let vref := min ls.n.1 (divF (m.g F.MG_REFCFG_VREF w.a * 2 ^ 72 : Nat) m.period)
    let s : Int := if m.b F.MG_CTL_REFDIR w.a then -vref else vref
    let q := integrate (change (ofQ r.v) (ofQ r.a) s ls.n.2.1 ls.n.2.2 ++ [{ d := 2 * t, j := 0 }]) (ofQ r.v) (ofQ r.a) t
    ((false, if w.moving then r.cnt else 0), r.p + toQ q.1, toQ q.2.1, toQ q.2.2)
  else
    let dwell := if w.moving then 0 else if w.x.rev then m.g F.MG_CFG_REVDWELL w.a else r.cnt
    if w.k ≤ dwell then ((false, dwell - w.k), r.p, 0, 0)
    else
      let s := stopQ r.p r.v r.a ls.n
      let d := travel r.v r.a
      let rev := decide (s ≠ w.tgt) && decide (d ≠ 0) && decide (sgnF (w.tgt - s) ≠ d) && m.b F.MG_CFG_REVSTOP w.a
      if !rev then go ls.n w.tgt (w.k - dwell)
      else
        let n := (framesOf (durOf (planTo (ofQ r.p) (ofQ r.v) (ofQ r.a) (ofQ s) ls.n.1 ls.n.2.1 ls.n.2.2)) m.period).toNat
        let left := w.k - n
        let dw := m.g F.MG_CFG_REVDWELL w.a
        if left = 0 then
          let q := go ls.n s w.k
          ((true, q.1.2), q.2)
        else if left ≤ dw then ((false, dw - left), s, 0, 0)
        else ((false, 0), m.along (m.limitsFor w.a s 0 0 w.tgt).n s 0 0 w.tgt (left - dw))

/-- Kinetic energy in mJ of MASS (0.1 kg) at v·MPC, v given as a fraction of counts per second (R176): numerator and
denominator. -/
def energy (mass mpc : Nat) (vn vd : Int) : Int × Int := ((mass : Int) * 50 * (vn * mpc) * (vn * mpc), vd * vd * 10 ^ 24)

/-- Measured energy above 1.25·E in a governed frame counts up (R176). -/
def AxW.energyRun (w : AxW) (gov : Bool) : AxW × Nat :=
  let m := w.m
  if !m.b F.MG_FB_FBEN w.a then (w, 0)
  else
    let spd := m.cellI (0x0641 + 2 * m.g F.MG_FB_PORT w.a)
    let e := energy (m.g F.MG_MASS_MASS w.a) (m.w .MG_MPC w.a).toNat (spd * m.gi F.MG_FBK w.a * 4 * 10 ^ 8)
      (2 ^ 44 * (m.L : Int))
    let past := gov && decide (5 * (m.g F.MG_GOV_ECAP w.a : Int) * e.2 < 4 * e.1)
    ({ w with x := { w.x with eov := if past then satInc 255 w.x.eov else 0 } }, min 0xFFFF (rndDiv e.1 e.2).toNat)

/-- EOVER after 4 consecutive governed frames (R176). -/
def AxW.energyOver (w : AxW) : AxW :=
  if 4 ≤ w.x.eov ∧ !w.m.b F.MG_STAT_EOVER w.a then w.flag F.MG_STAT_EOVER else w

/-- FERR in the second consecutive frame over the limit (R165), and where the flag is cleared while the run lasts. -/
def AxW.followError (w : AxW) : AxW :=
  if 2 ≤ w.x.ferr ∧ (!w.m.b F.MG_STAT_FERR w.a ∨ (w.x.ferr = 2 ∧ !w.x.qs)) then (w.flag F.MG_STAT_FERR).quickStop else w

/-- The following error: commanded position − `MG_FBPOS`. -/
def AxW.ferr (w : AxW) : Int := if w.m.b F.MG_FB_FBEN w.a then w.r.p - w.r.fb else 0

/-- Publish a frame's registers and cells (R152, R154). -/
def AxW.publish (w : AxW) (aOld : Int) (gov : Bool) (lim : LimSet) (emeas : Nat) (e : Option Emf) : Mach :=
  let m := w.m
  let a := w.a
  let r := w.r
  let t := m.period
  let rest := !w.moving
  let inpos := r.p == w.tgt && rest
  let am := if w.x.qs then lim.q.2.1 else lim.n.2.1
  let st :=
    2 ^ 30 + b2n inpos * 2 ^ 29 + b2n (!rest) * 2 ^ 28 + b2n r.refd * 2 ^ 27 + b2n w.x.refRun.isSome * 2 ^ 26 +
    b2n (m.b F.MG_CTL_HOLD a && !w.x.qs) * 2 ^ 25 + b2n w.x.qs * 2 ^ 24 + b2n lim.gv * 2 ^ 23 +
    b2n (if w.x.qs then lim.gaq else lim.ga) * 2 ^ 22 + b2n (decide (toQ am < (r.a.natAbs : Int))) * 2 ^ 21 +
    b2n w.x.vdcLow * 2 ^ 16
  let flags := b2n (getBits (m.w .MG_STAT a) 15 7 != 0) * 2 ^ 20
  let m := m.stagedHi (R.MG_STAT.idx a 0) st
  let jerk := divF (ofQ (r.a - aOld)) (t * w.k)
  let m := ((m.stagedQ (R.MG_POS_LO.idx a 0) r.p).stagedQ (R.MG_VEL_LO.idx a 0) r.v).stagedQ (R.MG_ACC_LO.idx a 0) r.a
  let m := (m.stagedQ (R.MG_JRK_LO.idx a 0) (toQ jerk)).stagedQ (R.MG_FBPOS_LO.idx a 0) r.fb
  let m := m.stagedQ (R.MG_STOP_LO.idx a 0) (stopQ r.p r.v r.a (if w.x.qs then lim.q else lim.n))
  let ep := energy (m.g F.MG_MASS_MASS a) (m.w .MG_MPC a).toNat r.v (2 ^ 16)
  let eplan := min 0xFFFF (rndDiv ep.1 ep.2).toNat
  let m := m.staged (R.MG_GOVSTAT.idx a 0) (eplan * 65536 + emeas)
  let step := m.axisType a == 2
  let ilim := if step then w.imaxe
    else if gov then min (m.gi F.MG_ILIM a) (rndDiv (m.g F.MG_GOV_FCAP a * 65536 : Nat) (10 * m.g F.MG_MASS_FUNIT a : Nat))
    else m.gi F.MG_ILIM a
  let old := m.w .MG_STEP_STAT a
  let ld := match e with | some f => wrap 8 (satS 8 (rnd (f.ld * 128) 16)) | none => getBits old 27 20
  let rh := match e with | some f => (clampI 0 255 (rnd (f.rho * 256) 16)).toNat | none => getBits old 19 12
  let m := if step then m.staged (R.MG_STEP_STAT.idx a 0) (r.level * 2 ^ 28 + ld * 2 ^ 20 + rh * 2 ^ 12 + w.x.phi) else m
  let c := 0x0500 + 8 * a
  let m := (m.putFresh c r.p true).putFresh (c + 1) (m.perFrame r.v) true
  let m := m.putFresh (c + 2) (satQ (rnd (r.a * t * t) 160)) true
  let m := m.putFresh (c + 3) (satQ (rndDiv ((r.a - aOld) * t * t) (2 ^ 160 * (w.k : Int)))) true
  let m := m.putFresh (c + 4) (clampI (-(2 ^ 31 : Int)) (2 ^ 31 - 1) w.ferr) true
  let m := (m.putFresh (c + 5) ilim true).putFresh (c + 6) (if step then r.i else 0) true
  m.putFresh (c + 7) ((st + flags : Nat) : Int) true

/-- What a running axis does in a frame before it publishes: commands, a stall or a plan (R155 to R175). -/
def AxW.advance (w : AxW) : AxW :=
  let busy := w.busy
  let w := w.reference.stopCommands
  if w.stallFound then
    let w := w.stall
    (w.target (busy || w.busy)).answer (busy || w.busy)
  else
    let w := if w.refLong then w.quickStop else w
    let w := w.limitChange
    let w := (w.target w.busy).answer w.busy
    let (d, s) := w.next
    { w with x := { w.x with rev := d.1 }, r := { w.r with p := s.1, v := s.2.1, a := s.2.2, cnt := d.2 } }

/-- A quick stop has ended: the limits of R156 apply again, and the axis stops running where EN is 0 (R161). -/
def AxW.stopEnded (w : AxW) : AxW :=
  if w.x.qs && !w.moving then
    let w := { w with x := { w.x with qs := false, run := w.m.b F.MG_CTL_EN w.a }, m := w.m.sb F.MG_CTL_QSTOP false w.a }
    { w with x := { w.x with lim := some w.eff } }
  else w

/-- A running axis in one frame (R155 to R179). -/
def AxW.frame (w : AxW) : Mach :=
  let a := w.a
  let w := if w.x.run then w.feedback else (w.feedback).start
  let step := w.m.axisType a == 2
  let (w, e) := if step then w.emf else (w, none)
  let w := if step then w.stallRun e else w
  let pOld := w.r.p
  let aOld := w.r.a
  let w1 := w.advance
  let rest := !w1.moving
  let lv := if step then { w1 with r := { w1.r with p := pOld } }.level w1.r.p w1.r.v rest else 0
  let w := { w1 with r := { w1.r with level := lv, rest := rest, frame := (w1.m.frame + 1) % 2 ^ 32 },
                     x := { w1.x with rest := if rest then satInc 0xFFFF w1.x.rest else 0, ran := true } }
  let w := if step then w.regulate (w.current e) (angleOf w.r.p w.r.v w.r.eofs lv) else w
  let w := w.stopEnded.keepHold
  let lim := w.m.gi F.MG_FERRLIM a
  let past := w.ferrOk && lim != 0 && decide (lim < (w.ferr.natAbs : Int))
  let w := { w with x := { w.x with ferr := if past then satInc 255 w.x.ferr else 0 } }.followError
  let gov := w.m.governedFrame a w.r.p w.r.v w.tgt
  let (w, em) := w.energyRun gov
  let w := w.energyOver
  let ls := w.lims
  let m := w.m.sqi .MG_TGT_LO w.tgt a
  let m := m.writeAx a (1 - m.g F.MG_STATE_HALF a) w.r
  ({ w with m := m }.publish aOld gov ls em e).setAxis a w.x

/-- FLAGS: a bit of `MG_STAT[a]` [15:7] is set. -/
def Mach.axisFlags (m : Mach) (a : Nat) : Nat := b2n (getBits (m.w .MG_STAT a) 15 7 != 0) * 2 ^ 20

/-- An axis that is not running in this frame (R153); targets, queries and REF are judged as at rest. -/
def AxW.idle (w : AxW) (old : AxRec) : Mach :=
  let a := w.a
  let w := { w with r := { w.r with v := 0, a := 0 },
                    x := { w.x with run := false, rest := 0, inval := 0, ferr := 0, eov := 0, qs := false, rev := false, lim := none } }
  let port := w.m.g F.MG_FB_PORT a
  let w := if w.m.b F.MG_FB_FBEN a ∧ w.m.b F.ADC_EP_STAT_VALID port then
      { w with x := { w.x with last := some (w.m.g F.ADC_EP_POS port) } } else w
  let w := w.refAbandon.reference
  let w := ((w.target w.busy).answer w.busy).keepHold
  let (w, em) := w.energyRun false
  let m := w.m.sb F.MG_CTL_QSTOP false a
  let m := if m.qi .MG_TGT_LO a = w.tgt then m else m.sqi .MG_TGT_LO w.tgt a
  let m := if w.r = old then m else m.writeAx a (m.g F.MG_STATE_HALF a) w.r
  let m := if w.r.p = old.p then m else m.stagedQ (R.MG_POS_LO.idx a 0) w.r.p
  let m := if w.r.fb = old.fb then m else m.stagedQ (R.MG_FBPOS_LO.idx a 0) w.r.fb
  let st := b2n w.r.refd * 2 ^ 27
  let flags := m.axisFlags a
  let m := (m.stagedHi (R.MG_STAT.idx a 0) (st + flags)).staged (R.MG_GOVSTAT.idx a 0) em
  let c := 0x0500 + 8 * a
  let m := m.putFresh c (m.cellI c) false
  let m := each (upTo 6) m (fun m q => m.putFresh (c + 1 + q) 0 false)
  (m.putFresh (c + 7) ((st + flags : Nat) : Int) true).setAxis a w.x

/-- The working state of an axis at the start of its frame. -/
def Mach.axW (m : Mach) (a : Nat) : AxW :=
  let (m, r) := m.readAx a
  { m := m, a := a, x := m.axis a, r := r, tgt := m.qi .MG_TGT_LO a,
    k := if (m.axis a).run then max 1 ((m.frame + 1 - r.frame) % 2 ^ 32) else 1 }

/-- One axis in this frame. An axis whose EN is cleared runs on while it stops (R161). -/
def axisFrame (m : Mach) (a : Nat) : Mach :=
  if m.axisType a = 0 then m
  else
    let w := m.axW a
    let old := w.r
    let w := w.powerUp
    if m.b F.MG_CTL_EN a || (w.x.run && (w.moving || w.x.qs)) then w.frame else w.idle old

/-- Some axis of motion generator k has a register that differs from its reset value. -/
def Mach.motionUsed (m : Mach) (k : Nat) : Bool :=
  m.reg.any (fun p => decide (0x2000 + 512 * k ≤ p.1) && decide (p.1 < 0x2200 + 512 * k))

/-- MOTION_FRAME (R157): the axes of motion generator k in ascending order. -/
def motionFrame (m : Mach) (k : Nat) : Mach :=
  if m.motionUsed k then each ((upTo 8).map (fun i => 8 * k + i)) m axisFrame else m

/-- At the commit point of an on-time frame, HALF of every axis that ran toggles (R181). -/
def motionCommit (m : Mach) (k : Nat) : Mach :=
  each m.axes m (fun m p =>
    if p.1 / 8 = k ∧ p.2.ran then
      (m.s F.MG_STATE_HALF (1 - m.g F.MG_STATE_HALF p.1) p.1).setAxis p.1 { m.axis p.1 with ran := false }
    else m)

/-- An engine that stops without a spare (R173, R180): its axes publish stopped values, a reference run fails, step
groups go to their safe state. -/
def motionStop (m : Mach) (k : Nat) : Mach :=
  if m.motionUsed k then
    each ((upTo 8).map (fun i => 8 * k + i)) m (fun m a =>
      if m.axisType a = 0 then m
      else
        let w : AxW := { m := m, a := a, x := m.axis a }
        let w := w.refAbandon
        let m := w.m.setAxis a { w.x with run := false, qs := false, rev := false, ran := false }
        let m : Mach := { m with stage := m.stage.filter (fun (p : Nat × Word) => decide (p.1 % 0x10000 / 64 ≠ 128 + a)) }
        let m := m.sw .MG_STAT (Word.of (2 ^ 31 + getBits (m.w .MG_STAT a) 27 27 * 2 ^ 27 + getBits (m.w .MG_STAT a) 15 0)) a
        let c := 0x0500 + 8 * a
        let m := m.putFresh c (m.cellI c) false
        let m := each (upTo 6) m (fun m q => m.putFresh (c + 1 + q) 0 false)
        let m := m.putFresh (c + 7) (((m.w .MG_STAT a).toNat / 65536 * 65536 + m.axisFlags a : Nat) : Int) false
        if m.axisType a = 2 then
          let g := m.g F.MG_STEP_CFG_GROUP a
          m.setGrp g { m.grp g with ownerFail := true }
        else m)
  else m

/-! ### Cost and budget (R182) -/

/-- The cycles of an axis with TYPE not 0 (R182). -/
def Mach.axisCost (m : Mach) (a : Nat) : Nat :=
  480 + (if m.b F.MG_FB_FBEN a then 40 else 0) + (if m.b F.MG_CFG_GOV a then 60 else 0) +
    (if m.axisType a = 2 then 320 else 0) + 2 * (m.w0At (m.axRecAddr a 0).1 + 8) + (m.w0At (m.axRecAddr a 0).2 + 8)

/-- The budget of motion generator k (R182). -/
def Mach.motionBudget (m : Mach) (k : Nat) : Nat :=
  let as := ((upTo 8).map (fun i => 8 * k + i)).filter (fun a => m.axisType a != 0)
  if as.isEmpty then 40
  else 40 + (as.map m.axisCost).sum + as.foldl (fun b a => max b (m.w0At (m.axRecAddr a 0).1)) 0 + 8

/-- A write that would make a limit 0 or negative, AMAX exceed AQS, or JMAX exceed JQS is not stored (R156). -/
def Mach.axisLimitsBad (m : Mach) (a : Nat) : Bool :=
  let q (r : R) : Int := m.qi r a
  [q .MG_VMAX_LO, q .MG_AMAX_LO, q .MG_JMAX_LO, q .MG_AQS_LO, q .MG_JQS_LO].any (fun v => decide (v ≤ 0)) ||
  decide (q .MG_AQS_LO < q .MG_AMAX_LO) || decide (q .MG_JQS_LO < q .MG_JMAX_LO)

/-- One axis of a configuration set breaks R182 or a not-stored rule (R475). -/
def Mach.axisBad (m : Mach) (a : Nat) : Bool :=
  let t := m.axisType a
  let e := 12 + a / 8
  let ad := m.axRecAddr a 0
  m.axisLimitsBad a || (t != 0 &&
    (decide (m.qi .MG_SMAX_LO a < m.qi .MG_SMIN_LO a) || bankOf ad.1 == bankOf ad.2 ||
     ! [ad.1, ad.2].all (fun x => m.mpuOk e x 128 false && m.mpuOk e x 128 true) ||
     (m.b F.MG_CFG_GOV a && (m.g F.MG_MASS_MASS a == 0 || m.g F.MG_MASS_FUNIT a == 0 || (m.w .MG_MPC a).toNat == 0)) ||
     (t == 2 && (m.g F.PWM_GRP_CFG_OWNER (m.g F.MG_STEP_CFG_GROUP a) != 2 || decide (8 < m.g F.MG_STEP_CFG_KMAX a) ||
        !(cellDefined (m.g F.MG_STEP_CELL_IA a) && cellDefined (m.g F.MG_STEP_CELL_IB a) &&
          cellDefined (m.g F.MG_STEP_VDC_VDC a))))))

/-- The motion tables of a configuration set are refused (R182). -/
def Mach.motionRefused (m : Mach) : Bool :=
  let us := (upTo 32).filter (fun a => m.axisType a != 0)
  let spans (a : Nat) : List (Nat × Nat) := [((m.axRecAddr a 0).1, 128), ((m.axRecAddr a 0).2, 128)]
  (upTo 32).any m.axisBad ||
  us.any (fun a => us.any (fun b => decide (a < b) && ((spans a).any (fun s => (spans b).any (spansMeet s)) ||
    (m.axisType a == 2 && m.axisType b == 2 && m.g F.MG_STEP_CFG_GROUP a == m.g F.MG_STEP_CFG_GROUP b)))) ||
  (upTo 4).any (fun k => decide (m.W < m.motionBudget k))

/-! ### Writes and commands -/

/-- A value written to `MG_TGT[a]` waits for the axis's next frame (R154, R159). -/
def Mach.writeTarget (m : Mach) (a : Nat) (v : Int) : Mach := m.setAxis a { m.axis a with tgt := some v }

/-- A write of `MG_QPOS[a]` poses a query (R163). -/
def Mach.writeQuery (m : Mach) (a : Nat) (v : Int) : Mach :=
  let m := m.sqi .MG_QPOS_LO v a
  m.setAxis a { m.axis a with query := true }

/-- Act on an axis between its frames: its record is rewritten where it stands. -/
def Mach.onAxis (m : Mach) (a : Nat) (f : AxW → AxW) : Mach :=
  if 32 ≤ a ∨ m.axisType a = 0 then m
  else
    let w := f (m.axW a)
    let m := if w.tgt = w.m.qi .MG_TGT_LO a then w.m else w.m.sqi .MG_TGT_LO w.tgt a
    let m := if w.r = (m.readAx a).2 then m else m.writeAx a (m.g F.MG_STATE_HALF a) w.r
    m.setAxis a w.x

/-- REFERENCE_RUN_FAIL (R173): a reference run has travelled REFMAX·256 counts without a stall. -/
def execReferenceRunFail (a : Nat) (s : State) : Host.Outcome State Fault Refusal :=
  .next { s with m := s.m.onAxis a (fun w => if w.refLong then w.quickStop else w) }

/-- REVERSAL_DWELL_END (R158): the dwell of an axis at rest has lasted REVDWELL frames. -/
def execReversalDwellEnd (a : Nat) (s : State) : Host.Outcome State Fault Refusal :=
  .next { s with m := s.m.onAxis a (fun w =>
    if w.x.rev ∧ !w.moving ∧ s.m.g F.MG_CFG_REVDWELL a = 0 then { w with x := { w.x with rev := false } } else w) }

/-- FEEDBACK_LOST (R164): the port of the axis has been invalid for 4 frames. -/
def execFeedbackLost (a : Nat) (s : State) : Host.Outcome State Fault Refusal :=
  .next { s with m := s.m.onAxis a AxW.feedbackLost }

/-- FOLLOWING_ERROR (R165): the following error has exceeded FERRLIM in 2 consecutive frames. -/
def execFollowingError (a : Nat) (s : State) : Host.Outcome State Fault Refusal :=
  .next { s with m := s.m.onAxis a AxW.followError }

/-- STALL_DETECTED (R171, R172): ρ has been below RHO in STALLN consecutive frames. -/
def execStallDetected (a : Nat) (s : State) : Host.Outcome State Fault Refusal :=
  .next { s with m := s.m.onAxis a (fun w => if w.stallFound then w.stall else w) }

/-- ENERGY_OVER (R176): the measured energy has exceeded 1.25·E in 4 consecutive governed frames. -/
def execEnergyOver (a : Nat) (s : State) : Host.Outcome State Fault Refusal :=
  .next { s with m := s.m.onAxis a AxW.energyOver }

end Sys2Proof.Machine
end

