-- ==== Sys2Proof/Machine/LiftTable.lean ====
section
/-! DEFINITION. The machine table, landing tables and group table of the configuration set (spec/09_lift_primitives.md,
R184 to R188, R209): their layout, a machine's axes and slots, and their checks. -/

namespace Sys2Proof.Machine

open Sys2Proof

/-- A machine table entry of 64 bytes (R184). -/
def machnOf (b : List Byte) : Machn :=
  { typ := fieldAt b 0 1, pos := fieldAt b 1 1, group := fieldAt b 2 2, carAx := fieldAt b 4 1, doorF := fieldAt b 5 1,
    doorR := fieldAt b 6 1, motPort := fieldAt b 7 1, shSrc := fieldAt b 8 1, shBuf := fieldAt b 9 1,
    dslotF := fieldAt b 10 1, dslotR := fieldAt b 11 1, shk := sgn 32 (fieldAt b 12 4), pwm := fieldAt b 16 4,
    trm := fieldAt b 20 12, ai := fieldAt b 32 8, sfChain := fieldAt b 40 1, sfZone := fieldAt b 41 1,
    sfRun := fieldAt b 42 1, sfBrk := fieldAt b 43 1, runReq := fieldAt b 44 1, brkReq := fieldAt b 45 1,
    landTab := fieldAt b 48 4, dtrav := [sgn 32 (fieldAt b 52 4), sgn 32 (fieldAt b 56 4)] }

/-- The eight entries of a machine table of 512 bytes. -/
def machsOf (b : List Byte) : List Machn := (upTo 8).map (fun i => machnOf (sliceB b (64 * i) 64))

/-- An entry's CRC holds (R184, R187). -/
def machnCrcOk (e : List Byte) : Bool := fieldAt e 60 4 == crc32c (e.take 60)

/-- Machine m of the table in force. -/
def Mach.mach (m : Mach) (i : Nat) : Machn := nth m.scan.machs i {}

/-- A lift or an inclined lift. -/
def Machn.lift (x : Machn) : Bool := x.typ == 1 || x.typ == 2

/-- Axes a machine has (R185). -/
def Machn.naxes (x : Machn) : Nat := if x.lift then 8 else 4

/-- The axis at an offset among the machine's axes (R185). -/
def Machn.axis (x : Machn) (o : Nat) : Nat := if x.lift then 8 * x.pos + o else 8 * (x.pos % 4) + 4 * (x.pos / 4) + o

/-- Slots a machine has. -/
def Machn.nslots (x : Machn) : Nat := if x.lift then 64 else 32

/-- The slot at an offset among the machine's slots (R185): a lift's second half lies on LE i+4. -/
def Machn.slot (x : Machn) (o : Nat) : Nat := if x.lift ∧ 32 ≤ o then 32 * (x.pos + 4) + (o - 32) else 32 * x.pos + o

/-- The car or drive axis. -/
def Machn.car (x : Machn) : Nat := x.axis x.carAx

/-- The door axis of a side, if any. -/
def Machn.door (x : Machn) (side : Nat) : Option Nat :=
  let o := if side = 0 then x.doorF else x.doorR
  if o = 255 then none else some (x.axis o)

/-- The door speed slot of a side, if any. -/
def Machn.dslot (x : Machn) (side : Nat) : Option Nat :=
  let o := if side = 0 then x.dslotF else x.dslotR
  if o = 255 then none else some (x.slot o)

/-- Learned door travel of a side. -/
def Machn.travel (x : Machn) (side : Nat) : Int := nth x.dtrav side 0

/-- The units a machine claims (R185). -/
def Machn.units (x : Machn) : List Nat := if x.typ = 0 then [] else if x.lift then [x.pos, x.pos + 4] else [x.pos]

/-- The encoder ports a machine names. -/
def Machn.ports (x : Machn) : List Nat :=
  if x.typ = 0 then [] else (if x.motPort < 8 then [x.motPort] else []) ++ (if x.shSrc < 8 then [x.shSrc] else [])

/-- A lift block of machine i may use a terminal: its own, or one that no entry names (R186). -/
def Mach.mayUse (m : Mach) (i t : Nat) : Bool :=
  bit (m.mach i).trm t || (upTo 8).all (fun j => (m.mach j).typ == 0 || !bit (m.mach j).trm t)

/-- Two lists share an element. -/
def shares (a b : List Nat) : Bool := a.any (fun x => b.contains x)

/-- Two machines name one resource, unit or request cell (R187). -/
def machPairBad (a b : Machn) : Bool :=
  a.typ != 0 && b.typ != 0 &&
  (shares a.units b.units || shares a.ports b.ports || ((a.pwm &&& b.pwm) % 4096 != 0) || ((a.trm &&& b.trm) != 0) ||
   ((a.ai &&& b.ai) != 0) || shares [a.runReq, a.brkReq] [b.runReq, b.brkReq])

/-- Position of landing j in a landing table of 1,024 bytes (R188). -/
def landPos (t : List Byte) (j : Nat) : Int := sgn 64 (fieldAt t (16 * j) 8)

/-- Flag byte of landing j. -/
def landFlags (t : List Byte) (j : Nat) : Nat := fieldAt t (16 * j + 8) 1

/-- NLAND. -/
def landCount (t : List Byte) : Nat := fieldAt t 0x3F2 1

/-- The landing table of a machine, as frame memory holds it. -/
def Mach.landings (m : Mach) (x : Machn) : List Byte :=
  match memOff x.landTab with
  | some o => m.mem.bytes o 1024
  | none => []

/-- A landing table fails R188 for an axis. -/
def Mach.landBad (m : Mach) (ax : Nat) (t : List Byte) : Bool :=
  let n := landCount t
  !(t.length == 1024 && fieldAt t 0x3FC 4 == crc32c (t.take 0x3FC) && fieldAt t 0x3F0 2 == 1 && decide (2 ≤ n) &&
    decide (n ≤ 63) && zeroRange t 0x3F3 0x3FC &&
    (upTo n).all (fun j =>
      decide (m.qi .MG_SMIN_LO ax ≤ landPos t j) && decide (landPos t j ≤ m.qi .MG_SMAX_LO ax) &&
      (j == 0 || decide (landPos t (j - 1) < landPos t j)) && decide (landFlags t j < 8) &&
      zeroRange t (16 * j + 9) (16 * j + 10) && zeroRange t (16 * j + 12) (16 * j + 16)) &&
    zeroRange t (16 * n) 0x3F0)

/-- The axes of a machine. -/
def Machn.axes (x : Machn) : List Nat := if x.typ = 0 then [] else (upTo x.naxes).map x.axis

/-- A slot or axis of machine y owns a PWM group (R111, R187). -/
def Mach.groupHeld (m : Mach) (y : Machn) (g : Nat) : Bool :=
  let own := m.g F.PWM_GRP_CFG_OWNER g
  (own == 1 && (upTo 256).any (fun s => m.slotType s == 2 && m.g F.LP_VEC_GROUP s == g && y.units.contains (s / 32))) ||
  (own == 2 && y.axes.any (fun a => m.g F.MG_CFG_TYPE a == 2 && m.g F.MG_STEP_CFG_GROUP a == g))

/-- A slot or axis of another machine of the table owns a PWM group of machine i (R187). -/
def Mach.groupForeign (m : Mach) (xs : List Machn) (i g : Nat) : Bool :=
  (upTo 8).any (fun j => j != i && m.groupHeld (nth xs j {}) g)

/-- One door of a machine fails R177 or R187: a door closes in the negative direction, towards the closed stop at 0 (R198). -/
def Mach.doorBad (m : Mach) (x : Machn) (side : Nat) : Bool :=
  let o := if side = 0 then x.doorF else x.doorR
  let so := if side = 0 then x.dslotF else x.dslotR
  (o != 255 && (decide (x.naxes ≤ o) || o == x.carAx || !m.b F.MG_CFG_OVS (x.axis o) ||
    !m.b F.MG_CFG_GOV (x.axis o) || !bit (m.g F.MG_CFG_GOVDIR (x.axis o)) 1)) ||
  (so != 255 && (decide (x.nslots ≤ so) || m.slotType (x.slot so) != 1))

/-- Machine i of a table fails R187. -/
def Mach.machBad (m : Mach) (xs : List Machn) (i : Nat) : Bool :=
  let x : Machn := nth xs i {}
  if x.typ = 0 then false
  else
    decide (3 < x.typ) || decide ((if x.lift then 3 else 7) < x.pos) || decide (x.naxes ≤ x.carAx) ||
    m.doorBad x 0 || m.doorBad x 1 || x.runReq == x.brkReq ||
    !(decide (x.shSrc < 8) || (decide (16 ≤ x.shSrc) && decide (x.shSrc < 20)) || x.shSrc == 255) ||
    (decide (x.shSrc < 8) && m.g F.ADC_EP_CFG_MODE x.shSrc != 3) ||
    (upTo 12).any (fun g => bit x.pwm g && m.groupForeign xs i g) ||
    (if x.lift then
      let a := x.car
      !(m.g F.MG_CFG_TYPE a == 1 && m.b F.MG_FB_FBEN a && m.g F.MG_FB_PORT a == x.motPort && m.b F.MG_FB_INIT a &&
        !m.b F.MG_CFG_OVS a) || x.shSrc == 255 || x.landTab % 1024 != 0 || m.landBad a (m.landings x)
     else x.doorF != 255 || x.doorR != 255 || x.group != 0 || x.landTab != 0)

/-- Some pair of a list of machines fails. -/
def anyMachPair : List Machn → Bool
  | [] => false
  | a :: l => l.any (machPairBad a) || anyMachPair l

/-- The module refuses the machine table (R187); its machines name at most one group (R373). -/
def Mach.machsRefused (m : Mach) (tab : List Byte) : Bool :=
  let xs := machsOf tab
  let gs := (xs.filter (fun x => x.typ != 0 && x.group != 0)).map (fun x => x.group)
  !((upTo 8).all (fun i => machnCrcOk (sliceB tab (64 * i) 64))) || (upTo 8).any (m.machBad xs) || anyMachPair xs ||
  gs.any (fun g => g != gs.headD g)

/-! ### The group table (R209) -/

/-- A group table: header of 16 bytes and NMEM entries of 16 bytes. -/
def groupOf (b : List Byte) : Group :=
  let n := fieldAt b 2 1
  { group := fieldAt b 0 2, kt := fieldAt b 3 1, ks := fieldAt b 4 1, full := fieldAt b 5 1, absentC := fieldAt b 6 1,
    declT := fieldAt b 7 1, crc := fieldAt b 12 4,
    members := (upTo n).map (fun i =>
      { addr := fieldAt b (16 + 16 * i) 2, mach := fieldAt b (18 + 16 * i) 1, serves := fieldAt b (20 + 16 * i) 8 }) }

/-- Members in ascending address, then machine number. -/
def membersRise : List Member → Bool
  | a :: b :: l => (decide (a.addr < b.addr) || (a.addr == b.addr && decide (a.mach < b.mach))) && membersRise (b :: l)
  | _ => true

/-- Landings in service of a machine's table. -/
def servesOf (t : List Byte) : Nat :=
  (upTo (landCount t)).foldl (fun a j => if bit (landFlags t j) 2 then a + 2 ^ j else a) 0

/-- The module refuses its group table (R209, R38): layout, CRC, members of its own. -/
def Mach.groupRefused (m : Mach) (own : Nat) (b : List Byte) (tab : List Byte) : Bool :=
  let g := groupOf b
  let xs := machsOf tab
  let mine := (upTo 8).filter (fun i => (nth xs i {}).lift && (nth xs i {}).group != 0)
  if mine.isEmpty then false
  else
    let n := g.members.length
    !(decide (1 ≤ n) && decide (n ≤ 16) && g.crc == crc32c (b.take 12 ++ (b.drop 16).take (16 * n)) && membersRise g.members) ||
    mine.any (fun i => (nth xs i {}).group != g.group ||
      !(g.members.any (fun e => e.addr == own && e.mach == i && e.serves == servesOf (m.landings (nth xs i {})))))

end Sys2Proof.Machine
end

