-- ==== Sys2Proof/Machine/Image.lean ====
section
/-! DEFINITION. The scan image (spec/12_scan_programs.md, R264 to R268, R272, R280, R262; R290, R322): its layout, the
signatures of the block types, and the conditions under which the module refuses an image. -/

namespace Sys2Proof.Machine

open Sys2Proof

/-- Inputs and outputs of a block TYPE with NOP operands; none where the library does not allow them (R269, R272). -/
def blkSig (t nop : Nat) : Option (Nat × Nat) :=
  let fix (i o : Nat) : Option (Nat × Nat) := if nop = i + o then some (i, o) else none
  let span (lo : Nat) : Option (Nat × Nat) := if lo ≤ nop ∧ nop ≤ 16 then some (nop - 1, 1) else none
  match t with
  | 0x01 | 0x02 | 0x15 | 0x17 | 0x1C | 0x1D => span 3
  | 0x03 | 0x05 | 0x06 | 0x16 | 0x18 | 0x19 | 0x22 | 0x23 | 0x24 | 0x25 | 0x2A | 0x2B => fix 2 1
  | 0x0F | 0x10 | 0x11 | 0x12 | 0x13 | 0x14 => fix 2 1
  | 0x04 | 0x07 | 0x08 | 0x1A | 0x1B | 0x21 | 0x27 | 0x28 | 0x2F | 0x37 => fix 1 1
  | 0x09 | 0x0A | 0x0B => fix 2 2
  | 0x0C | 0x0D => fix 3 2
  | 0x0E => fix 5 3
  | 0x1E | 0x1F | 0x26 | 0x29 | 0x2C => fix 3 1
  | 0x20 => span 4
  | 0x2D => span 2
  | 0x2E => if 2 ≤ nop ∧ nop ≤ 16 then some (1, nop - 1) else none
  | 0x30 | 0x32 => fix 3 0
  | 0x31 => fix 4 0
  | 0x33 => fix 1 0
  | 0x34 => fix 3 3
  | 0x35 => if 4 ≤ nop ∧ nop ≤ 16 then some (2, nop - 2) else none
  | 0x36 => if 4 ≤ nop ∧ nop ≤ 16 then some (nop, 0) else none
  | 0x38 => fix 0 4
  | 0x39 => fix 0 1
  | 0x3A => fix 3 2
  | 0x3B => fix 3 1
  | 0x3C => fix 6 2
  | 0x3D => fix 5 4
  | 0x3E => fix 5 1
  | 0x3F => fix 4 1
  | 0x40 => fix 3 0
  | _ => none

/-- The operands that must be CONST (R269, R272). -/
def constOps (t : Nat) : List Nat :=
  match t with
  | 0x2F => [0]
  | 0x30 | 0x31 | 0x32 => [1]
  | 0x34 => [1, 2]
  | 0x35 => [0, 1]
  | 0x36 => [1, 2]
  | 0x3A | 0x3B | 0x3D | 0x3E | 0x3F => [0]
  | 0x3C | 0x40 => [0, 1]
  | _ => []

/-- The parameter operand of a lift block and the cells it takes (R272). -/
def paramOp (t : Nat) : Option (Nat × Nat) :=
  match t with
  | 0x3A => some (1, 17)
  | 0x3C => some (2, 13)
  | 0x3E => some (1, 1)
  | 0x3F => some (1, 1)
  | _ => none

/-- Space of an operand word (R266). -/
def opSpace (w : Nat) : Nat := w / 2 ^ 29 % 8

/-- BIT of an operand word. -/
def opBit (w : Nat) : Bool := bit w 28

/-- BITNO of an operand word. -/
def opNo (w : Nat) : Nat := w / 2 ^ 16 % 32

/-- Index of an operand word. -/
def opIdx (w : Nat) : Nat := w % 2 ^ 16

/-- The block table: NBLK entries from the front of a byte list, and the bytes it takes (R265). -/
def parseBlks : Nat → List Byte → Option (List Blk × Nat)
  | 0, _ => some ([], 0)
  | n + 1, b =>
    let nop := fieldAt b 1 1
    if b.length < 4 + 4 * nop ∨ 16 < nop ∨ fieldAt b 2 2 ≠ 0 then none
    else
      match parseBlks n (b.drop (4 + 4 * nop)) with
      | none => none
      | some (l, k) =>
        some ({ typ := fieldAt b 0 1, ops := (upTo nop).map (fun i => fieldAt b (4 + 4 * i) 4) } :: l, k + 4 + 4 * nop)

/-- A station table entry (R280). -/
def stnOf (e : List Byte) : StnCfg :=
  { cb := fieldAt e 0 1, rx := fieldAt e 1 1, tx := fieldAt e 2 1, nin := fieldAt e 3 1, nout := fieldAt e 4 1,
    hold := bit (fieldAt e 5 1) 0, en := bit (fieldAt e 5 1) 1, absF := fieldAt e 6 2 }

/-- An entry's ranges hold (R280). -/
def stnRangeOk (e : List Byte) : Bool :=
  let s := stnOf e
  decide (s.cb ≤ 3) && decide (s.rx ≤ 127) && decide (s.tx ≤ 127) && decide (1 ≤ s.nin) && decide (s.nin ≤ 15) &&
  decide (s.nout ≤ 15) && decide (fieldAt e 5 1 < 4) && decide (1 ≤ s.absF) && zeroRange e 8 16

/-- A parameter declaration (R265). -/
def pdeclOf (e : List Byte) : PDecl :=
  { cell := fieldAt e 0 2, typ := fieldAt e 2 1, lo := sgn 32 (fieldAt e 4 4), hi := sgn 32 (fieldAt e 8 4),
    init := sgn 32 (fieldAt e 12 4) }

/-- Declarations in ascending cell index, with INIT inside MIN to MAX (R265, R268). -/
def pdeclsOk : List PDecl → Bool
  | [] => true
  | d :: l =>
    decide (d.cell < 32768) && decide (d.typ ≤ 3) && decide (d.lo ≤ d.init) && decide (d.init ≤ d.hi) &&
    (match l with
     | [] => true
     | e :: _ => decide (d.cell < e.cell)) && pdeclsOk l

/-- Sections of the image that are not empty do not overlap and lie between the header and the trailer. -/
def sectionsOk (endAt : Nat) (ss : List (Nat × Nat)) : Bool :=
  let us := ss.filter (fun s => s.2 != 0)
  us.all (fun s => decide (64 ≤ s.1) && decide (s.1 + s.2 ≤ endAt)) &&
  (upTo us.length).all (fun i => (upTo us.length).all (fun j =>
    i == j || decide ((nth us i (0, 0)).1 + (nth us i (0, 0)).2 ≤ (nth us j (0, 0)).1) ||
    decide ((nth us j (0, 0)).1 + (nth us j (0, 0)).2 ≤ (nth us i (0, 0)).1)))

/-- The image that bytes hold: header, sections and CRC of R264, R265 and R268; none where they are wrong. DESIGN CHOICE: an image with a
reserved byte or bit that is not 0 is refused too; R268 does not name it (assumption 44). -/
def parseImage (b : List Byte) : Option Image :=
  let len := fieldAt b 0x0C 4
  let nblk := fieldAt b 0x10 2
  let nvar := fieldAt b 0x12 2
  let nconst := fieldAt b 0x14 2
  let npar := fieldAt b 0x16 2
  let ncell := fieldAt b 0x18 2
  let nstn := fieldAt b 0x1A 1
  let ob := fieldAt b 0x20 4
  let oc := fieldAt b 0x24 4
  let op := fieldAt b 0x28 4
  let ol := fieldAt b 0x2C 4
  let os := fieldAt b 0x30 4
  let cellBytes := (2 * ncell + 3) / 4 * 4
  if b.length < 68 ∨ len ≠ b.length ∨ len % 4 ≠ 0 ∨ 524288 < len then none
  else if fieldAt b 0 4 ≠ 0x494E4353 ∨ fieldAt b 4 2 ≠ 1 ∨ 0x0100 < fieldAt b 6 2 then none
  else if fieldAt b (len - 4) 4 ≠ crc32c (b.take (len - 4)) then none
  else if !(fieldAt b 0x08 4 != 0 && decide (1 ≤ nblk) && decide (nblk ≤ 2048) && decide (nvar ≤ 16384) &&
      decide (nconst ≤ 4096) && decide (npar ≤ 32768) && decide (ncell ≤ 1024) && decide (nstn ≤ 64) &&
      fieldAt b 0x1B 1 == 0 && decide (2 ≤ fieldAt b 0x1C 2) && decide (1 ≤ fieldAt b 0x1E 2) && zeroRange b 0x34 0x40) then none
  else
    match parseBlks nblk ((b.take (len - 4)).drop ob) with
    | none => none
    | some (blks, bl) =>
      let pars := (upTo npar).map (fun i => sliceB b (op + 16 * i) 16)
      let stns := (upTo nstn).map (fun i => sliceB b (os + 16 * i) 16)
      let decls := pars.map pdeclOf
      if !(sectionsOk (len - 4) [(ob, bl), (oc, 4 * nconst), (op, 16 * npar), (ol, cellBytes), (os, 16 * nstn)] &&
          pars.all (fun e => fieldAt e 3 1 == 0) && pdeclsOk decls && stns.all stnRangeOk &&
          zeroRange b (ol + 2 * ncell) (ol + cellBytes)) then none
      else
        some { imgid := fieldAt b 0x08 4, scanMax := fieldAt b 0x1C 2, syncT := fieldAt b 0x1E 2, nvar := nvar,
               consts := (upTo nconst).map (fun i => fieldAt b (oc + 4 * i) 4), params := decls,
               cells := (upTo ncell).map (fun i => fieldAt b (ol + 2 * i) 2), blks := blks, stns := stns.map stnOf, raw := b }

/-- The value of an operand that must be CONST. -/
def Image.constOf (im : Image) (w : Nat) : Nat := nth im.consts (opIdx w) 0

/-- The index of an operand lies in its space (R266, R268). -/
def Image.idxOk (im : Image) (w : Nat) : Bool :=
  let i := opIdx w
  match opSpace w with
  | 0 => decide (i < im.nvar)
  | 1 => im.params.any (fun d => d.cell == i)
  | 2 => decide (i < im.consts.length)
  | 3 => im.cells.contains i
  | 4 => decide (i < 96)
  | 5 => decide (i < 256)
  | 6 => decide (i / 16 < im.stns.length) && i % 16 != 15
  | _ => false

/-- The operand may be written (R266, R268). -/
def Mach.opWritable (m : Mach) (w : Nat) : Bool :=
  match opSpace w with
  | 1 | 2 | 3 | 7 => false
  | 4 => decide (2 ≤ m.g F.TRM_CFG_MODE (opIdx w))
  | _ => true

/-- The AP cells of the enabled monitor channels (R231). -/
def Mach.monCell (m : Mach) (i : Nat) : Bool :=
  (upTo 8).any (fun c => m.b F.SF_MON_CFG_EN c && decide (m.g F.SF_MON_CFG_DCELL c ≤ i) &&
    decide (i ≤ m.g F.SF_MON_CFG_DCELL c + 2))

/-- An AP cell operand written by a block of the given TYPE and machine is another's request or diverse cell (R268). -/
def Mach.apForeign (m : Mach) (machs : List Machn) (t mch i : Nat) : Bool :=
  let own (k : Nat) : Bool := (t == 0x3A || t == 0x3E || t == 0x3F) && mch == k
  (upTo 8).any (fun k => let x := nth machs k {}; x.typ != 0 && (x.runReq == i || x.brkReq == i) && !(own k)) ||
  (t != 0x40 && m.monCell i)

/-- The consecutive parameter cells of a lift block are declared (R272). -/
def Image.cellsDeclared (im : Image) (p n : Nat) : Bool :=
  (upTo n).all (fun i => im.params.any (fun d => d.cell == p + i))

/-- One block of an image breaks R268, R269 or R322. -/
def Mach.blkBad (m : Mach) (machs : List Machn) (im : Image) (b : Blk) : Bool :=
  match blkSig b.typ b.ops.length with
  | none => true
  | some (ni, _) =>
    let mch := im.constOf (nth b.ops 0 0)
    (upTo b.ops.length).any (fun j =>
      let w := nth b.ops j 0
      (w / 2 ^ 21 % 128 != 0) || !(im.idxOk w) || ((constOps b.typ).contains j && opSpace w != 2) ||
      (decide (ni ≤ j) && (!(m.opWritable w) || (opSpace w == 5 && m.apForeign machs b.typ mch (opIdx w))))) ||
    (match paramOp b.typ with
     | some (j, n) => opSpace (nth b.ops j 0) != 1 || !(im.cellsDeclared (opIdx (nth b.ops j 0)) n)
     | none => false) ||
    (match b.typ with
     | 0x30 | 0x31 =>
       let ix := im.constOf (nth b.ops 1 0)
       let top := if b.typ = 0x31 then ix + 1 else ix
       decide (0x8000 ≤ top) || (decide (0x2800 ≤ top) && decide (ix < 0x2C00))
     | 0x34 => decide (im.constOf (nth b.ops 1 0) < 24) || decide (31 < im.constOf (nth b.ops 1 0))
     | 0x35 =>
       let cb := im.constOf (nth b.ops 0 0)
       let bf := im.constOf (nth b.ops 1 0)
       decide (3 < cb) || decide (127 < bf) || m.bufType cb bf != 1 ||
       im.stns.any (fun s => s.cb == cb && s.rx == bf) ||
       machs.any (fun x => x.typ != 0 && x.shSrc == 16 + cb && x.shBuf == bf)
     | 0x36 =>
       let cb := im.constOf (nth b.ops 1 0)
       let bf := im.constOf (nth b.ops 2 0)
       decide (3 < cb) || decide (127 < bf) || m.bufType cb bf != 2 || m.bufSched cb bf
     | _ => false)

/-- What must not be named twice: DMA channels of DMA_COPY, buffers of CB_RX and CB_TX (R268, R322). -/
def Image.named (im : Image) : List Nat :=
  im.blks.filterMap (fun b =>
    match b.typ with
    | 0x34 => some (im.constOf (nth b.ops 1 0))
    | 0x35 => some (1000 + 128 * im.constOf (nth b.ops 0 0) + im.constOf (nth b.ops 1 0))
    | 0x36 => some (1000 + 128 * im.constOf (nth b.ops 1 0) + im.constOf (nth b.ops 2 0))
    | _ => none)

/-- A list repeats no element. -/
def noDup : List Nat → Bool
  | [] => true
  | a :: l => !(l.contains a) && noDup l

/-- Instances of a lift block for a machine (and a door side). -/
def Image.liftCount (im : Image) (t mch : Nat) (side : Option Nat) : Nat :=
  (im.blks.filter (fun b => b.typ == t && im.constOf (nth b.ops 0 0) == mch &&
    (match side with
     | none => true
     | some d => im.constOf (nth b.ops 1 0) == d))).length

/-- The lift blocks match the machine table (R272). -/
def Image.liftOk (im : Image) (machs : List Machn) : Bool :=
  let isLift (k : Nat) : Nat := b2n (nth machs k {}).lift
  let count (t : Nat) : Nat := (im.blks.filter (fun b => b.typ == t)).length
  let door (k d : Nat) : Nat :=
    let x := nth machs k {}
    b2n (x.lift && (if d = 0 then x.doorF else x.doorR) != 255)
  let gs := (machs.filter (fun x => x.lift && x.group != 0)).map (fun x => x.group)
  (upTo 8).all (fun k =>
    im.liftCount 0x3A k none == isLift k && im.liftCount 0x3B k none == isLift k && im.liftCount 0x3F k none == isLift k &&
    im.liftCount 0x3C k (some 0) == door k 0 && im.liftCount 0x3C k (some 1) == door k 1 &&
    im.liftCount 0x3E k none == b2n ((nth machs k {}).typ == 3)) &&
  count 0x3A == (upTo 8).foldl (fun a k => a + isLift k) 0 &&
  count 0x3B == count 0x3A && count 0x3F == count 0x3A &&
  count 0x3C == (upTo 8).foldl (fun a k => a + door k 0 + door k 1) 0 &&
  count 0x3E == (machs.filter (fun x => x.typ == 3)).length &&
  (match gs with
   | [] => true
   | g :: _ => im.liftCount 0x3D g none == 1 && count 0x3D == 1)

/-- Words of live reads in one scan (R290). -/
def Image.liveReads (im : Image) : Nat :=
  im.blks.foldl (fun a b =>
    match b.typ with
    | 0x2F | 0x39 => a + 1
    | 0x35 => a + (b.ops.length - 3)
    | 0x34 => a + 3
    | _ => a) 0

/-- One station fails R280 or R322. -/
def Mach.stnBad (m : Mach) (im : Image) (s : StnCfg) : Bool :=
  (m.bufType s.cb s.rx != 1 || !m.bufSched s.cb s.rx ||
   decide (dlcBytes (m.g F.CB_BUF_CFG_DLC s.cb s.rx) < 4 + 4 * s.nin) ||
   m.bufType s.cb s.tx != 2 || !m.bufSched s.cb s.tx ||
   decide (dlcBytes (m.g F.CB_BUF_CFG_DLC s.cb s.tx) < 4 + 4 * s.nout) ||
   decide (im.syncT ≤ m.bufInterval s.cb s.tx + m.bufInterval s.cb s.rx) ||
   decide (s.absF ≤ 2 * m.bufInterval s.cb s.rx))

/-- The module refuses the image (R38, R262, R268, R280, R290, R322). -/
def Mach.imageRefused (m : Mach) (machs : List Machn) (im : Image) : Bool :=
  !(im.cells.all cellDefined) || im.blks.any (m.blkBad machs im) || !(noDup im.named) || !(im.liftOk machs) ||
  decide (2048 < im.liveReads) || im.stns.any (m.stnBad im) ||
  !(noDup ((im.stns.map (fun s => 128 * s.cb + s.rx)) ++ (im.stns.map (fun s => 128 * s.cb + s.tx)))) ||
  machs.any (fun x => x.typ != 0 && decide (16 ≤ x.shSrc) && decide (x.shSrc < 20) && m.bufType (x.shSrc - 16) x.shBuf != 1) ||
  (upTo 6).any (fun g =>
    (upTo 16).any (fun i => decide (2 ≤ m.g F.TRM_CFG_MODE (16 * g + i))) &&
    decide (m.g F.TRM_GRP_CFG_WDOG g ≤ im.scanMax + im.syncT + 2))

/-- An image that the module accepts. -/
def Mach.acceptImage (m : Mach) (machs : List Machn) (b : List Byte) : Option Image :=
  match parseImage b with
  | some im => if m.imageRefused machs im then none else some im
  | none => none

end Sys2Proof.Machine
end

