-- ==== Sys2Proof/Machine/Terminals.lean ====
section
/-! DEFINITION. Universal 24 V terminals (spec/04_terminals.md, R70 to R89): drive states, off-tests, supply bands,
filters, checks, cross-wiring, the group watchdogs, and the terminals' commands. -/

namespace Sys2Proof.Machine

open Sys2Proof

/-- The memory of terminal t beside its registers. -/
def Mach.term (m : Mach) (t : Nat) : Term := nth m.trm.t t {}

/-- Replace the memory of terminal t. -/
def Mach.setTerm (m : Mach) (t : Nat) (x : Term) : Mach := { m with trm := { m.trm with t := setNth {} 96 m.trm.t t x } }

/-- `TRM_CFG[t].MODE` (R70). -/
def Mach.trmMode (m : Mach) (t : Nat) : Nat := m.g F.TRM_CFG_MODE t

/-- Modes whose switch follows the drive state (R70). -/
def Mach.trmDriven (m : Mach) (t : Nat) : Bool := m.trmMode t == 2 || m.trmMode t == 3

/-- `TRM_GRP_STAT[g].BAND`. -/
def Mach.band (m : Mach) (g : Nat) : Nat := m.g F.TRM_GRP_STAT_BAND g

/-- A fault bit of `TRM_TSTAT[t]` is set: bits 2 to 8. -/
def Mach.trmFault (m : Mach) (t : Nat) : Bool := getBits (m.w .TRM_TSTAT t) 8 2 != 0

/-- The bit of the output image for t. -/
def Mach.outBit (m : Mach) (t : Nat) : Bool := m.gb F.TRM_OUT (t % 32) (t / 32)

/-- The drive state of a terminal at a tick: the first rule of R77 that applies. After expiry of the group watchdog
HOLD gives the image bit of the last commit point before it, which `TRM_OUT` still holds. -/
def Mach.driveRule (m : Mach) (t : Nat) : Bool :=
  if !m.trmDriven t then false
  else if m.st = stPOWER_FAIL then false
  else if !m.trm.imageTaken then false
  else if m.band (t / 16) = 3 then false
  else if m.b F.TRM_TSTAT_OVERLOAD t || m.b F.TRM_TSTAT_THERMAL t then false
  else if m.b F.TRM_GRP_STAT_WDEXP (t / 16) then
    (if m.g F.TRM_CFG_SAFE t = 0 then false else if m.g F.TRM_CFG_SAFE t = 1 then true else m.outBit t)
  else m.outBit t

/-- The drive state in effect (`TRM_DRV`). -/
def Mach.drv (m : Mach) (t : Nat) : Bool := m.gb F.TRM_DRV (t % 32) (t / 32)

/-- A driven terminal is settled: no change of its drive state in the last SETTLE ticks (R76). -/
def Mach.settled (m : Mach) (t : Nat) : Bool :=
  m.trmDriven t && decide (m.g F.TRM_CHK_CFG_SETTLE ≤ (m.term t).since)

/-- One terminal at the tick: drive state, switching count (R79), settled (R76). -/
def trmTick1 (m : Mach) (t : Nat) : Mach :=
  let d := m.driveRule t
  let x := m.term t
  let changed := d != m.drv t
  let m := if changed then m.count t 1 else m
  let m := m.setTerm t { x with since := if changed then 0 else satInc 65535 x.since }
  let m := m.setb F.TRM_DRV (t % 32) d (t / 32)
  let m := m.sb F.TRM_TSTAT_DRV d t
  m.sb F.TRM_TSTAT_SETTLED (m.settled t) t

/-- The terminal frame n off-tests, or 127 (R80). -/
def Mach.offTestPick (m : Mach) : Nat :=
  let k := (m.frame + 8) % 96
  if m.trmMode k = 3 ∧ m.b F.TRM_CFG_OFFT k ∧ m.drv k ∧ m.settled k ∧ !m.trmFault k ∧ m.band (k / 16) < 2 then k
  else 127

/-- A conversion of the terminal path as millivolts: code × 1.25 mV, rounded, negatives 0; none where the ADC marks
it overrange or suspect (R478, R74). -/
def Conv.mv (c : Conv) : Option Nat :=
  if c.ovr || c.sus then none else some (rndDiv (c.code * 125) 100).toNat

/-- The switches that stay open at a tick: those of groups whose comparator has tripped and whose LOST is not yet
published (R87). -/
def Mach.cmpOpen (m : Mach) : Nat :=
  (upTo 6).foldl (fun a g => if nth m.trm.cmpLost g false then a + 0xFFFF * 2 ^ (16 * g) else a) 0

/-- The terminals at the tick and through the latch phase (R73): drive states, off-test, samples and conversions. -/
def trmTick (m : Mach) (raw : Nat) (osv tv : List Conv) : Mach :=
  let m := each (upTo 96) m trmTick1
  let k := m.offTestPick
  { m with trm := { m.trm with tested := k, raw := raw, osv := osv.map Conv.mv, volt := tv.map Conv.mv, opened := m.cmpOpen } }

/-- The band of a measured supply voltage in mV, falling (R86). -/
def bandOf (mv : Nat) : Nat := if 19200 ≤ mv then 0 else if 16000 ≤ mv then 1 else if 12000 ≤ mv then 2 else 3

/-- The lower boundary in mV of a band (R86). -/
def bandFloor (b : Nat) : Nat := if b = 0 then 19200 else if b = 1 then 16000 else if b = 2 then 12000 else 0

/-- Enter a band: publish it, restart the run, raise the event (R87, code 0x0410 + BAND). -/
def Mach.setBand (m : Mach) (g b : Nat) : Mach :=
  let m := { m with trm := { m.trm with bandRun := setNth 0 6 m.trm.bandRun g 0 } }
  if m.band g = b then m
  else (m.s F.TRM_GRP_STAT_BAND b g).raise (0x0410 + b) 0x20 g (m.g F.TRM_GRP_STAT_OSV g)

/-- The band of group g at the end of latch (R87). -/
def bandStep (m : Mach) (g : Nat) : Mach :=
  let v := nth m.trm.osv g none
  let m := match v with
    | some mv => m.s F.TRM_GRP_STAT_OSV (min mv 0xFFFF) g
    | none => m
  if nth m.trm.cmpLost g false then
    { m with trm := { m.trm with cmpLost := setNth false 6 m.trm.cmpLost g false } }.setBand g 3
  else match v with
    | none => m
    | some mv =>
      let b := m.band g
      if b < bandOf mv then m.setBand g (bandOf mv)
      else if b = 0 then m
      else if bandFloor (b - 1) + 400 ≤ mv then
        let r := nth m.trm.bandRun g 0 + 1
        if 8 ≤ r then m.setBand g (b - 1) else { m with trm := { m.trm with bandRun := setNth 0 6 m.trm.bandRun g r } }
      else { m with trm := { m.trm with bandRun := setNth 0 6 m.trm.bandRun g 0 } }

/-- Set a fault bit of a terminal: a change from 0 to 1 raises code 0x0400 + bit (R81, R348). -/
def Mach.trmSet (m : Mach) (t : Nat) (f : Fd) : Mach :=
  m.setRaise f t 0 (0x0400 + f.lo) 0x20 t (m.g F.TRM_TSTAT_PARTNER t)

/-- The raw sample of t in this frame. -/
def Mach.rawBit (m : Mach) (t : Nat) : Bool := bit m.trm.raw t

/-- The filter of R75, and the readback: a mode-3 terminal's own off-test frame is skipped. -/
def filtStep (m : Mach) (t : Nat) : Mach :=
  let x := m.term t
  let r := m.rawBit t
  if m.trm.tested = t then m
  else
    let run := if x.run ≠ 0 ∧ x.last = r then satInc 65535 x.run else 1
    let f := if m.g F.TRM_CFG_FILT t + 1 ≤ run then r else x.filt
    m.setTerm t { x with run := run, last := r, filt := f, readback := r }

/-- What `TRM_IN` shows for t (R75). -/
def Mach.inBit (m : Mach) (t : Nat) : Bool := if m.trmMode t = 0 then m.rawBit t else (m.term t).filt

/-- The accepted conversion of t's pin in this frame, if t was visited (R73, R74). -/
def Mach.visitMv (m : Mach) (t : Nat) : Option Nat :=
  if t % 16 = m.frame % 16 then nth m.trm.volt (t / 16) none else none

/-- The checks of R81 on a settled mode-3 terminal, in the bands that permit them (R86). -/
def checkStep (m : Mach) (t : Nat) : Mach :=
  let x := m.term t
  if m.trmMode t ≠ 3 then m
  else if !m.settled t || decide (2 ≤ m.band (t / 16)) then m.setTerm t { x with rb0 := 0, rb1 := 0, openRun := 0 }
  else
    let tested := m.trm.tested == t
    let on := m.drv t
    let trip := m.b F.TRM_TSTAT_OVERLOAD t
    let rb0 := if tested then x.rb0 else if on && !trip && !x.readback then x.rb0 + 1 else 0
    let rb1 := if tested then x.rb1 else if !on && x.readback then x.rb1 + 1 else 0
    let v := m.visitMv t
    let high := match v with | some mv => !on && decide (15000 ≤ mv) | none => false
    let openRun := match v with
      | some mv => if !on && decide (8000 ≤ mv) && decide (mv < 15000) then x.openRun + 1 else 0
      | none => if on then 0 else x.openRun
    let m := m.setTerm t { x with rb0 := min rb0 2, rb1 := min rb1 2, openRun := min openRun 2 }
    let m := if 2 ≤ rb0 ∧ !tested then m.trmSet t F.TRM_TSTAT_RB_LOW else m
    let m := if tested && m.rawBit t then m.trmSet t F.TRM_TSTAT_OFFT_FAIL else m
    let m := if (decide (2 ≤ rb1) && !tested) || high then m.trmSet t F.TRM_TSTAT_EXT_HIGH else m
    if 2 ≤ openRun then m.trmSet t F.TRM_TSTAT_OPEN else m

/-- Cross-wiring of terminal j with k is found, with an event each time (R82). -/
def Mach.crossFound (m : Mach) (j k : Nat) : Mach :=
  ((m.s F.TRM_TSTAT_PARTNER k j).setBitW F.TRM_TSTAT_CROSS 0 j).raise (0x0400 + F.TRM_TSTAT_CROSS.lo) 0x20 j k

/-- The cross-wiring check of R82 on terminal j, one frame after the off-test of k. -/
def crossStep (m : Mach) (j : Nat) : Mach :=
  let k := m.trm.lastTested
  let x := m.term j
  let applies := m.b F.TRM_CFG_CROSSCHK j &&
    (m.trmMode j == 1 || (m.trmMode j == 3 && !m.drv j && m.settled j)) && decide (m.band (j / 16) < 2)
  let m :=
    if k ≠ 127 ∧ j ≠ k ∧ applies ∧ x.raw2 ∧ !x.raw1 ∧ m.rawBit j then
      if x.cand = k then m.crossFound j k
      else m.setTerm j { x with cand := k }
    else m
  let x := m.term j
  m.setTerm j { x with raw2 := x.raw1, raw1 := m.rawBit j }

/-- Publish word w of the raw samples and of the inputs. -/
def publishWord (m : Mach) (w : Nat) : Mach :=
  let m := m.s F.TRM_RAW (m.trm.raw >>> (32 * w)) w
  m.s F.TRM_IN ((upTo 32).foldl (fun a i => a + b2n (m.inBit (32 * w + i)) * 2 ^ i) 0) w

/-- Publish the pin voltage of the terminal visited in group g (R73, R74). -/
def publishVolt (m : Mach) (g : Nat) : Mach :=
  let t := 16 * g + m.frame % 16
  match m.visitMv t with
  | some mv => (m.s F.TRM_VOLT_MV (min mv 0xFFFF) t).s F.TRM_VOLT_FRAME (m.frame % 65536) t
  | none => m

/-- Group bands, inputs and voltages are published (R73), before host commands are applied. -/
def trmPublish (m : Mach) : Mach :=
  let m := each (upTo 6) m bandStep
  let m := each (upTo 96) m filtStep
  let m := each (upTo 3) m publishWord
  let m := each (upTo 6) m publishVolt
  (m.s F.TRM_STAT_OFFT_T ((m.frame + 8) % 96 * b2n (m.trm.tested != 127) + 127 * b2n (m.trm.tested == 127))).s
    F.TRM_STAT_VISIT (m.frame % 16)

/-- The checks of the end of latch (R81, R82); a clear in the same frame leaves their bits set (R88). The result of an
off-test in whose frame the band fell to LOW or LOST is discarded (R87). -/
def trmChecks (m : Mach) : Mach :=
  let m := each (upTo 96) m checkStep
  let m := each (upTo 96) m crossStep
  let k := m.trm.tested
  { m with trm := { m.trm with lastTested := if k ≠ 127 ∧ 2 ≤ m.band (k / 16) then 127 else k } }

/-- The group watchdog expires (R78): safe states apply from the next tick. -/
def Mach.wdExpire (m : Mach) (g : Nat) : Mach :=
  if m.trm.wdOn ∧ m.g F.TRM_GRP_CFG_WDOG g ≤ nth m.trm.wdCount g 0 ∧ !m.b F.TRM_GRP_STAT_WDEXP g then
    ((m.sb F.TRM_GRP_STAT_WDEXP true g).setBitW F.TRM_GRP_STAT_WDEVT 0 g).raise 0x0420 0x20 g (m.g F.TRM_GRP_STAT_OSV g)
  else m

/-- A new output image at a commit point restarts the watchdog of group g and ends its expiry (R78). -/
def wdImage (m : Mach) (g : Nat) : Mach :=
  let m := { m with trm := { m.trm with wdCount := setNth 0 6 m.trm.wdCount g 0 } }
  if m.b F.TRM_GRP_STAT_WDEXP g then
    ((m.sb F.TRM_GRP_STAT_WDEXP false g).setBitW F.TRM_GRP_STAT_WDEVT 0 g).raise 0x0421 0x20 g (m.g F.TRM_GRP_STAT_OSV g)
  else m

/-- A commit point without a new image counts against the watchdog of group g (R78). -/
def wdFrame (m : Mach) (g : Nat) : Mach :=
  let m := { m with trm := { m.trm with wdCount := setNth 0 6 m.trm.wdCount g (satInc 65535 (nth m.trm.wdCount g 0)) } }
  m.wdExpire g

/-- The watchdogs at a commit point; `fresh`: a newly completed output image is taken (R78). -/
def trmWatchdogs (m : Mach) (fresh : Bool) : Mach :=
  if fresh then each (upTo 6) { m with trm := { m.trm with wdOn := true } } wdImage
  else if m.trm.wdOn then each (upTo 6) m wdFrame
  else m

/-- The output image of 96 bits is taken into `TRM_OUT` (R37, R89). -/
def trmTake (m : Mach) (image : Nat) : Mach :=
  let m := { m with trm := { m.trm with imageTaken := true } }
  each (upTo 3) m (fun m w => m.s F.TRM_OUT (image >>> (32 * w)) w)

/-- Clearing CROSS sets PARTNER to 0x7F and drops the candidate (R82). -/
def Mach.crossCleared (m : Mach) (t : Nat) : Mach :=
  (m.s F.TRM_TSTAT_PARTNER 0x7F t).setTerm t { m.term t with cand := 127 }

/-- Clear the W1C bits of `TRM_TSTAT[t]` named in a mask (R88). -/
def Mach.trmClear (m : Mach) (t mask : Nat) : Mach :=
  let n := m.clearBits .TRM_TSTAT (mask &&& 0x1FC) t 0
  if m.b F.TRM_TSTAT_CROSS t && !n.b F.TRM_TSTAT_CROSS t then n.crossCleared t else n

/-- A terminal's switch opens in hardware (R83): the bit holds it off from the next tick. -/
def Mach.trip (m : Mach) (t : Nat) (f : Fd) : Mach :=
  if t < 96 then
    { m with trm := { m.trm with opened := setBit m.trm.opened t true } }.trmSet t f
  else m

/-- OVERLOAD_TRIP (R83): a driven terminal that stayed in current limit for 36 to 44 µs. -/
def execOverloadTrip (t c : Nat) (s : State) : Host.Outcome State Fault Refusal :=
  .next { s with m := if t < 96 ∧ s.m.drv t then (s.m.at c).trip t F.TRM_TSTAT_OVERLOAD else s.m }

/-- THERMAL_SHUTDOWN (R83): a terminal switch at 150 °C junction opens and sets THERMAL. -/
def execThermalShutdown (t c : Nat) (s : State) : Host.Outcome State Fault Refusal :=
  .next { s with m := (s.m.at c).trip t F.TRM_TSTAT_THERMAL }

/-- SUPPLY_COMPARATOR_TRIP (R87): OSg below 12.0 V opens every switch of the group; LOST is published at the next
end of latch. -/
def supplyTrip (m : Mach) (g : Nat) : Mach :=
  if g < 6 then
    { m with trm := { m.trm with cmpLost := setNth false 6 m.trm.cmpLost g true,
                                 opened := m.trm.opened ||| (0xFFFF * 2 ^ (16 * g)) } }
  else m

/-- SUPPLY_COMPARATOR_TRIP. -/
def execSupplyComparatorTrip (g c : Nat) (s : State) : Host.Outcome State Fault Refusal :=
  .next { s with m := supplyTrip (s.m.at c) g }

/-- GROUP_WATCHDOG_EXPIRY (R78): the instant at which a group's count has reached WDOG without a new image. -/
def execGroupWatchdogExpiry (g : Nat) (s : State) : Host.Outcome State Fault Refusal :=
  .next { s with m := if g < 6 then s.m.wdExpire g else s.m }

end Sys2Proof.Machine
end

