-- ==== Sys2Proof/Machine/RegRead.lean ====
section
/-! DEFINITION. Reading a register (R5 to R8, R24 to R26, R353): fields that are views of other state, the latched high
words of R8, and the field-side mirror of the host blocks. -/

namespace Sys2Proof.Machine

open Sys2Proof

/-- The low registers of the quantities of R8 of more than 32 bits. -/
def lowRegs : List R :=
  [R.DEV_SERIAL_LO, R.FRM_CNT_LO, R.FRM_SYST_LO, R.ADC_MASK_LO, R.MG_TGT_LO, R.MG_VMAX_LO, R.MG_AMAX_LO, R.MG_JMAX_LO, R.MG_AQS_LO,
   R.MG_JQS_LO, R.MG_SMIN_LO, R.MG_SMAX_LO, R.MG_POS_LO, R.MG_VEL_LO, R.MG_ACC_LO, R.MG_JRK_LO, R.MG_STOP_LO,
   R.MG_QPOS_LO, R.MG_FBPOS_LO, R.MG_REFPOS_LO, R.MG_CAPPOS_LO, R.DX_LASTFO_LO, R.PWR_JFRAME_LO, R.LG_CAL_LO,
   R.LG_INSP_LO, R.LG_CNT_LO, R.ZL_SYST_LO, R.UPD_FRAME_LO, R.UPD_LASTF_LO]

/-- The index is the low word of such a quantity. -/
def isLow (idx : Nat) : Bool :=
  match regAt idx with
  | some (r, _) => lowRegs.contains r
  | none => false

/-- The index is the high word of such a quantity. -/
def isHigh (idx : Nat) : Bool := decide (0 < idx) && isLow (idx - 1)

/-- `DEV_STATE.STANDBY_OK` (R285): the side that is not active is in STANDBY. -/
def Mach.standbyOk (m : Mach) : Bool :=
  match m.activeAp with
  | some 0 => m.g F.DX_STAT_STATEB == 2
  | some _ => m.g F.DX_STAT_STATEA == 2
  | none => false

/-- Open sessions (R387). -/
def Mach.nsess (m : Mach) : Nat := ((upTo 32).filter (fun j => m.b F.ZL_SESS_VALID j)).length

/-- Word w of record n of the log, 0 beyond the last (R353). -/
def Mach.logWord (m : Mach) (n w : Nat) : Nat :=
  match m.log.recs[n]? with
  | some r => fieldAt r.bytes (4 * w) 4
  | none => 0

/-- Engine e's registers of the FRM block hold values: HX's read 0, and those of LE8 and MG4 while they are not grafted (R48). -/
def Mach.perEngine (m : Mach) (e : Nat) : Bool :=
  e != 18 && !(e == 11 && m.g F.SPR_STAT_LE8ST != 2) && !(e == 16 && m.g F.SPR_STAT_MG4ST != 2)

/-- The value in force at an index: the stored word with the fields that are views of other state. -/
def Mach.view (m : Mach) (idx : Nat) : Word :=
  let w := m.word idx
  match regAt idx with
  | none => 0
  | some (r, i, j) =>
    match r with
    | .DEV_STATE => setBits w 10 10 (b2n m.standbyOk)
    | .FRM_SUB => setBits w 13 0 (subAt m.L m.cyc)
    | .FRM_SYST_LO => if m.b F.FRM_STAT_LOCKED || m.b F.FRM_STAT_HOLDOVER then Word.of (m.lock.sys / 2) else 0
    | .FRM_SYST_HI => if m.b F.FRM_STAT_LOCKED || m.b F.FRM_STAT_HOLDOVER then Word.of (m.lock.sys / 2 ^ 33) else 0
    | .FRM_BUD => if m.perEngine i then w else 0
    | .FRM_USE => if m.perEngine i then w else 0
    | .FRM_PEAK => if m.perEngine i then w else 0
    | .FRM_OVR => if m.perEngine i then w else 0
    | .MEM_MPU_BASE => Word.of ((m.mem.region (m.g F.MEM_MPU_SEL_REQ) i).base * 256)
    | .MEM_MPU_LIM =>
      let g := m.mem.region (m.g F.MEM_MPU_SEL_REQ) i
      Word.of (g.lim * 256 + 4 * b2n g.w + 2 * b2n g.rd + b2n g.en)
    | .MEM_BOUND =>
      if m.st < stFIELD_START then 0 else Word.of (min 65535 (m.bounds i).2 * 2 ^ 16 + min 65535 (m.bounds i).1)
    | .ADC_ROLE_STAT => setBits w 16 16 (b2n (m.roleBusy i))
    | .TRM_STAT =>
      setBits w 5 0 ((upTo 6).foldl (fun a g => if (upTo 16).any (fun k => m.trmFault (16 * g + k)) then a + 2 ^ g else a) 0)
    | .TRM_FSUM => Word.of ((upTo 32).foldl (fun a t => if m.trmFault (32 * i + t) then a + 2 ^ t else a) 0)
    | .PWM_STAT => setBits w 27 16 ((upTo 12).foldl (fun a g => if m.b F.PWM_GRP_STAT_FAULT g then a + 2 ^ g else a) 0)
    | .MG_STAT => setBits w 20 20 (b2n (getBits w 15 7 != 0))
    | .CB_BUF_STAT => setBits w 12 12 (b2n (m.bufStale i j))
    | .PWR_STAT => setBits w 28 28 (b2n (m.hostUp && m.g F.DEV_BAR_STAT_INSERV != 0))
    | .PWR_ERST => setBits w 7 0 (min 255 (countOf (recent m.now (if i < 2 then m.dx.restarts else m.pow.restarts)) i))
    | .PWR_HOST => setBits w 3 0 m.pow.hst
    | .EV_STAT => setBits w 14 0 m.log.recs.length
    | .EV_WIN => Word.of (m.logWord (m.g F.EV_CURSOR_CURSOR + i) j)
    | .LG_STAT => setBits (setBits (setBits w 15 0 (min 65535 m.led.mirrSince)) 30 30 (b2n m.led.cellLow)) 31 31 (b2n m.led.calValid)
    | .LG_CAL_LO => Word.of m.led.cal
    | .LG_CAL_HI => Word.of (m.led.cal / 2 ^ 32)
    | .LG_INSP_LO => Word.of m.led.insp
    | .LG_INSP_HI => Word.of (m.led.insp / 2 ^ 32)
    | .LG_WEAR => Word.of (lookN m.led.wear i)
    | .LG_CNT_LO => Word.of (m.led.counter i)
    | .LG_CNT_HI => Word.of (m.led.counter i / 2 ^ 32)
    | .ZL_STAT => setBits w 5 0 m.nsess
    | _ => w

/-- The indices of the host blocks that a chapter defines, as the mirror carries them (R24). -/
def mirrorIdx : List Nat :=
  (List.range' 0x4400 5) ++ (List.range' 0x4480 128) ++ (List.range' 0x4500 7) ++ (List.range' 0x4580 36) ++
  (List.range' 0x4600 512) ++ (List.range' 0x4800 12) ++ (List.range' 0x4810 32) ++ (List.range' 0x4A00 13)

/-- HX refreshes the field-side mirror (R24). -/
def Mach.refreshMirror (m : Mach) : Mach :=
  { m with bar := { m.bar with mirror := (mirrorIdx.map (fun i => (i, m.view i))).filter (fun p => p.2 != 0) } }

/-- A requester's number among those that hold latches and held words of their own (R8). -/
def Who.key : Who → Nat
  | .eng e => e
  | .dma ch => 32 + ch
  | .host _ _ => 64

/-- The value at an index for a requester: field engines see the host blocks through the mirror (R24); an index that no chapter
defines reads 0 (R26). -/
def Mach.seen (m : Mach) (who : Who) (idx : Nat) : Word :=
  match who with
  | .host _ _ => m.view idx
  | _ => if isHostIdx idx && (regAt idx).isSome then smGet (fun _ => (0 : Word)) m.bar.mirror idx else m.view idx

/-- A requester reads a register (R8). -/
def Mach.regRead (m : Mach) (who : Who) (idx : Nat) : Mach × Word :=
  let k := Who.key who
  let v := m.seen who idx
  if isLow idx then
    ({ m with latches := (m.latches.filter (fun l => !(l.1 == k && l.2.1 == idx))) ++ [(k, idx, m.seen who (idx + 1))] }, v)
  else if isHigh idx then
    match m.latches.find? (fun l => l.1 == k && l.2.1 == idx - 1) with
    | some l => (m, l.2.2)
    | none => (m, v)
  else (m, v)

/-- A requester's latches and held words end (R8): a host packet's with the packet. -/
def Mach.dropLatches (m : Mach) (who : Who) : Mach :=
  { m with latches := m.latches.filter (fun l => l.1 != Who.key who), held := m.held.filter (fun l => l.1 != Who.key who) }

end Sys2Proof.Machine
end

