-- ==== Sys2Proof/Machine/Blocks.lean ====
section
/-! DEFINITION. The block library (spec/12_scan_programs.md, R259, R261, R266, R267, R269 to R271, R323): operands, what
each type computes, and one command per type that evaluates an instance of it on the present input image. -/

namespace Sys2Proof.Machine

open Sys2Proof

/-- A block instance being evaluated: the machine, the image, the input image, the instance's number and entry, its
inputs, its state and its Δ (R261). -/
structure BCtx where
  m : Mach
  im : Image
  ip : InImg
  k : Nat
  b : Blk
  ni : Nat
  st : BSt
  dt : Int

/-- A signed 32-bit number of a word (R267). -/
def s32 (n : Nat) : Int := sgn 32 n

/-- The register word of the input image (R258). -/
def InImg.w (ip : InImg) (idx : Nat) : Nat := (smGet (fun _ => (0 : Word)) ip.reg idx).toNat

/-- A field of the input image. -/
def InImg.g (ip : InImg) (f : Fd) (i : Nat := 0) (j : Nat := 0) : Nat :=
  getBits (smGet (fun _ => (0 : Word)) ip.reg (f.reg.idx i j)) f.hi f.lo

/-- A one-bit field of the input image. -/
def InImg.b (ip : InImg) (f : Fd) (i : Nat := 0) : Bool := ip.g f i != 0

/-- A signed 64-bit quantity of the input image. -/
def InImg.qi (ip : InImg) (lo : R) (i : Nat) : Int := sgn 64 (ip.w (lo.idx i 0) + 2 ^ 32 * ip.w (lo.idx i 0 + 1))

/-- The word an operand names, before BIT (R266). -/
def BCtx.word (c : BCtx) (w : Nat) : Int :=
  let i := opIdx w
  match opSpace w with
  | 0 => smGet (fun _ => (0 : Int)) c.m.scan.vars i
  | 1 => (c.m.word (0x8000 + i)).toInt
  | 2 => s32 (nth c.im.consts i 0)
  | 3 => (smGet cellDefault c.ip.cells i).1.toInt
  | 4 => if bit (c.ip.w (R.TRM_IN.idx (i / 32) 0)) (i % 32) then 1 else 0
  | 5 => smGet (fun _ => (0 : Int)) c.m.scan.ap i
  | 6 => s32 (nth (nth c.ip.stn (i / 16) {}).words (i % 16) 0)
  | _ => 0

/-- The value an operand reads (R266): with BIT 1 one bit of the word, of a CELL its V. -/
def BCtx.read (c : BCtx) (w : Nat) : Int :=
  if opBit w ∧ opSpace w ≠ 4 then
    if opSpace w = 3 then (if (smGet cellDefault c.ip.cells (opIdx w)).2 then 1 else 0)
    else if bit (wrap 32 (c.word w)) (opNo w) then 1 else 0
  else c.word w

/-- Input i. -/
def BCtx.x (c : BCtx) (i : Nat) : Int := c.read (nth c.b.ops i 0)

/-- Input i as a BOOL (R267). -/
def BCtx.t (c : BCtx) (i : Nat) : Bool := c.x i != 0

/-- Input i as a TIME (R267). -/
def BCtx.time (c : BCtx) (i : Nat) : Int := max 0 (c.x i)

/-- All inputs. -/
def BCtx.xs (c : BCtx) : List Int := (upTo c.ni).map c.x

/-- The word that an operand writes to, as it stands (R266): a variable, an output bit, an AP cell, a station's output word. -/
def Scan.outWord (k : Scan) (w : Nat) : Int :=
  let i := opIdx w
  match opSpace w with
  | 0 => smGet (fun _ => (0 : Int)) k.vars i
  | 4 => if bit k.term i then 1 else 0
  | 5 => smGet (fun _ => (0 : Int)) k.ap i
  | 6 => smGet (fun _ => (0 : Int)) k.stnOut i
  | _ => 0

/-- Write a whole word to the place an operand names. -/
def Scan.store (k : Scan) (w : Nat) (v : Int) : Scan :=
  let i := opIdx w
  match opSpace w with
  | 0 => { k with vars := smPut (fun _ => (0 : Int)) k.vars i (s32 (wrap 32 v)) }
  | 4 => { k with term := setBit k.term i (s32 (wrap 32 v) != 0) }
  | 5 => { k with ap := smPut (fun _ => (0 : Int)) k.ap i (s32 (wrap 32 v)) }
  | 6 => { k with stnOut := smPut (fun _ => (0 : Int)) k.stnOut i (s32 (wrap 32 v)) }
  | _ => k

/-- Write a value to an operand (R266): with BIT 1 only that bit of the word changes. -/
def Scan.put (k : Scan) (w : Nat) (v : Int) : Scan :=
  if opBit w ∧ opSpace w ≠ 4 then k.store w (setBit (wrap 32 (k.outWord w)) (opNo w) (v != 0)) else k.store w v

/-- Write output j. -/
def BCtx.out (c : BCtx) (j : Nat) (v : Int) : BCtx :=
  { c with m := { c.m with scan := c.m.scan.put (nth c.b.ops (c.ni + j) 0) v } }

/-- Write a BOOL: 0 or 1 (R267). -/
def BCtx.outB (c : BCtx) (j : Nat) (v : Bool) : BCtx := c.out j (if v then 1 else 0)

/-- Saturate a result (R267). -/
def satD (x : Int) : Int := satS 32 x

/-- Place one word in the scan's write list; an instance places at most 8 words (R259). -/
def BCtx.place (c : BCtx) (idx : Nat) (v : Nat) : BCtx :=
  let k := c.m.scan
  if 8 ≤ k.placed then c
  else { c with m := { c.m with scan := { k with wl := k.wl ++ [(idx, Word.of v)], placed := k.placed + 1 } } }

/-- The present state of the instance, replaced. -/
def BCtx.set (c : BCtx) (f : BSt → BSt) : BCtx := { c with st := f c.st }

/-- The context in which an instance is evaluated: its state, its inputs' number and its Δ (R261); it has placed no words yet. -/
def Mach.blkCtx (m : Mach) (im : Image) (ip : InImg) (k : Nat) (b : Blk) : BCtx :=
  let st := smGet (fun _ => ({} : BSt)) m.scan.bst k
  let dt : Int := if st.seen then ((min (ip.f - st.fprev) (2 ^ 31 - 1) : Nat) : Int) else 0
  let ni := match blkSig b.typ b.ops.length with
    | some (n, _) => n
    | none => 0
  { m := { m with scan := { m.scan with placed := 0 } }, im := im, ip := ip, k := k, b := b, ni := ni, st := st, dt := dt }

/-- Evaluate one instance with a block function (R257 step 4): the frame of this evaluation is kept for the next Δ. -/
def Mach.evalBlk (m : Mach) (im : Image) (ip : InImg) (k : Nat) (b : Blk) (f : BCtx → BCtx) : Mach :=
  let c := f (m.blkCtx im ip k b)
  { c.m with scan := { c.m.scan with bst := smPut (fun _ => ({} : BSt)) c.m.scan.bst k { c.st with seen := true, fprev := ip.f } } }

/-- Evaluate instance `inst` of the image in force if it has the given TYPE, on the present input image. -/
def Mach.evalOne (m : Mach) (typ inst : Nat) (f : BCtx → BCtx) : Mach :=
  match m.scan.img, m.scan.inp with
  | some im, some ip =>
    (match im.blks[inst]? with
     | some b => if b.typ = typ then m.evalBlk im ip inst b f else m
     | none => m)
  | _, _ => m

/-! ### Logic and bistables -/

/-- AND: 1 if every input is true. -/
def blkAnd (c : BCtx) : BCtx :=
  c.outB 0 (c.xs.all (fun v => v != 0))

/-- AND: evaluate instance `inst` of this type. -/
def execAnd_ (inst : Nat) (s : State) : Host.Outcome State Fault Refusal :=
  .next { s with m := s.m.evalOne 0x01 inst blkAnd }

/-- OR: 1 if any input is true. -/
def blkOr (c : BCtx) : BCtx :=
  c.outB 0 (c.xs.any (fun v => v != 0))

/-- OR: evaluate instance `inst` of this type. -/
def execOr_ (inst : Nat) (s : State) : Host.Outcome State Fault Refusal :=
  .next { s with m := s.m.evalOne 0x02 inst blkOr }

/-- XOR: 1 if exactly one input is true. -/
def blkXor (c : BCtx) : BCtx :=
  c.outB 0 (c.t 0 != c.t 1)

/-- XOR: evaluate instance `inst` of this type. -/
def execXor_ (inst : Nat) (s : State) : Host.Outcome State Fault Refusal :=
  .next { s with m := s.m.evalOne 0x03 inst blkXor }

/-- NOT: inverse. -/
def blkNot (c : BCtx) : BCtx :=
  c.outB 0 (!c.t 0)

/-- NOT: evaluate instance `inst` of this type. -/
def execNot_ (inst : Nat) (s : State) : Host.Outcome State Fault Refusal :=
  .next { s with m := s.m.evalOne 0x04 inst blkNot }

/-- SR: set dominant bistable, Q1 starts at 0 (R271). -/
def blkSr (c : BCtx) : BCtx :=
  let q := c.t 0 || (c.st.q && !c.t 1)
  (c.set (fun s => { s with q := q })).outB 0 q

/-- SR: evaluate instance `inst` of this type. -/
def execSr (inst : Nat) (s : State) : Host.Outcome State Fault Refusal :=
  .next { s with m := s.m.evalOne 0x05 inst blkSr }

/-- RS: reset dominant bistable. -/
def blkRs (c : BCtx) : BCtx :=
  let q := !c.t 1 && (c.st.q || c.t 0)
  (c.set (fun s => { s with q := q })).outB 0 q

/-- RS: evaluate instance `inst` of this type. -/
def execRs (inst : Nat) (s : State) : Host.Outcome State Fault Refusal :=
  .next { s with m := s.m.evalOne 0x06 inst blkRs }

/-- R_TRIG (R271). -/
def blkRTrig (c : BCtx) : BCtx :=
  let clk := c.t 0
  (c.set (fun s => { s with p1 := clk })).outB 0 (clk && !c.st.p1)

/-- R_TRIG: evaluate instance `inst` of this type. -/
def execRTrig (inst : Nat) (s : State) : Host.Outcome State Fault Refusal :=
  .next { s with m := s.m.evalOne 0x07 inst blkRTrig }

/-- F_TRIG (R271). -/
def blkFTrig (c : BCtx) : BCtx :=
  let clk := c.t 0
  (c.set (fun s => { s with p1 := clk })).outB 0 (!clk && c.st.p1)

/-- F_TRIG: evaluate instance `inst` of this type. -/
def execFTrig (inst : Nat) (s : State) : Host.Outcome State Fault Refusal :=
  .next { s with m := s.m.evalOne 0x08 inst blkFTrig }

/-! ### Timers and counters -/

/-- TP (R270). -/
def blkTp (c : BCtx) : BCtx :=
  let i := c.t 0
  let pt := c.time 1
  let (q, et) : Bool × Int :=
    if !c.st.q ∧ i ∧ !c.st.p1 then (true, 0) else if c.st.q then (true, min (c.st.n + c.dt) pt) else (c.st.q, c.st.n)
  let q := q && !(decide (pt ≤ et))
  let et := if !q ∧ !i then 0 else et
  ((c.set (fun s => { s with p1 := i, q := q, n := et })).outB 0 q).out 1 et

/-- TP: evaluate instance `inst` of this type. -/
def execTp (inst : Nat) (s : State) : Host.Outcome State Fault Refusal :=
  .next { s with m := s.m.evalOne 0x09 inst blkTp }

/-- TON (R270). -/
def blkTon (c : BCtx) : BCtx :=
  let i := c.t 0
  let pt := c.time 1
  let et := if !i then 0 else if c.st.p1 then min (c.st.n + c.dt) pt else c.st.n
  let q := i && decide (pt ≤ et)
  ((c.set (fun s => { s with p1 := i, q := q, n := et })).outB 0 q).out 1 et

/-- TON: evaluate instance `inst` of this type. -/
def execTon (inst : Nat) (s : State) : Host.Outcome State Fault Refusal :=
  .next { s with m := s.m.evalOne 0x0A inst blkTon }

/-- TOF (R270). -/
def blkTof (c : BCtx) : BCtx :=
  let i := c.t 0
  let pt := c.time 1
  let (q, et) : Bool × Int :=
    if i then (true, 0) else if c.st.p1 then (c.st.q, 0) else if c.st.q then (true, min (c.st.n + c.dt) pt)
    else (c.st.q, c.st.n)
  let q := if !i ∧ pt ≤ et then false else q
  ((c.set (fun s => { s with p1 := i, q := q, n := et })).outB 0 q).out 1 et

/-- TOF: evaluate instance `inst` of this type. -/
def execTof (inst : Nat) (s : State) : Host.Outcome State Fault Refusal :=
  .next { s with m := s.m.evalOne 0x0B inst blkTof }

/-- CTU (R270). -/
def blkCtu (c : BCtx) : BCtx :=
  let cu := c.t 0
  let cv := if c.t 1 then 0 else if cu ∧ !c.st.p1 ∧ c.st.n < 2 ^ 31 - 1 then c.st.n + 1 else c.st.n
  ((c.set (fun s => { s with p1 := cu, n := cv })).outB 0 (decide (c.x 2 ≤ cv))).out 1 cv

/-- CTU: evaluate instance `inst` of this type. -/
def execCtu (inst : Nat) (s : State) : Host.Outcome State Fault Refusal :=
  .next { s with m := s.m.evalOne 0x0C inst blkCtu }

/-- CTD (R270). -/
def blkCtd (c : BCtx) : BCtx :=
  let cd := c.t 0
  let cv := if c.t 1 then c.x 2 else if cd ∧ !c.st.p1 ∧ -(2 ^ 31) < c.st.n then c.st.n - 1 else c.st.n
  ((c.set (fun s => { s with p1 := cd, n := cv })).outB 0 (decide (cv ≤ 0))).out 1 cv

/-- CTD: evaluate instance `inst` of this type. -/
def execCtd (inst : Nat) (s : State) : Host.Outcome State Fault Refusal :=
  .next { s with m := s.m.evalOne 0x0D inst blkCtd }

/-- CTUD (R270). -/
def blkCtud (c : BCtx) : BCtx :=
  let cu := c.t 0
  let cd := c.t 1
  let eu := cu && !c.st.p1
  let ed := cd && !c.st.p2
  let cv :=
    if c.t 2 then 0 else if c.t 3 then c.x 4
    else if eu ∧ !ed ∧ c.st.n < 2 ^ 31 - 1 then c.st.n + 1
    else if ed ∧ !eu ∧ -(2 ^ 31) < c.st.n then c.st.n - 1 else c.st.n
  (((c.set (fun s => { s with p1 := cu, p2 := cd, n := cv })).outB 0 (decide (c.x 4 ≤ cv))).outB 1 (decide (cv ≤ 0))).out 2 cv

/-- CTUD: evaluate instance `inst` of this type. -/
def execCtud (inst : Nat) (s : State) : Host.Outcome State Fault Refusal :=
  .next { s with m := s.m.evalOne 0x0E inst blkCtud }

/-! ### Comparison and arithmetic -/

/-- GT. -/
def blkGt (c : BCtx) : BCtx :=
  c.outB 0 (decide (c.x 1 < c.x 0))

/-- GT: evaluate instance `inst` of this type. -/
def execGt_ (inst : Nat) (s : State) : Host.Outcome State Fault Refusal :=
  .next { s with m := s.m.evalOne 0x0F inst blkGt }

/-- GE. -/
def blkGe (c : BCtx) : BCtx :=
  c.outB 0 (decide (c.x 1 ≤ c.x 0))

/-- GE: evaluate instance `inst` of this type. -/
def execGe_ (inst : Nat) (s : State) : Host.Outcome State Fault Refusal :=
  .next { s with m := s.m.evalOne 0x10 inst blkGe }

/-- EQ. -/
def blkEq (c : BCtx) : BCtx :=
  c.outB 0 (c.x 0 == c.x 1)

/-- EQ: evaluate instance `inst` of this type. -/
def execEq_ (inst : Nat) (s : State) : Host.Outcome State Fault Refusal :=
  .next { s with m := s.m.evalOne 0x11 inst blkEq }

/-- NE. -/
def blkNe (c : BCtx) : BCtx :=
  c.outB 0 (c.x 0 != c.x 1)

/-- NE: evaluate instance `inst` of this type. -/
def execNe_ (inst : Nat) (s : State) : Host.Outcome State Fault Refusal :=
  .next { s with m := s.m.evalOne 0x12 inst blkNe }

/-- LE. -/
def blkLe (c : BCtx) : BCtx :=
  c.outB 0 (decide (c.x 0 ≤ c.x 1))

/-- LE: evaluate instance `inst` of this type. -/
def execLe_ (inst : Nat) (s : State) : Host.Outcome State Fault Refusal :=
  .next { s with m := s.m.evalOne 0x13 inst blkLe }

/-- LT. -/
def blkLt (c : BCtx) : BCtx :=
  c.outB 0 (decide (c.x 0 < c.x 1))

/-- LT: evaluate instance `inst` of this type. -/
def execLt_ (inst : Nat) (s : State) : Host.Outcome State Fault Refusal :=
  .next { s with m := s.m.evalOne 0x14 inst blkLt }

/-- ADD: the exact sum, saturated once (R267). -/
def blkAdd (c : BCtx) : BCtx :=
  c.out 0 (satD (c.xs.foldl (· + ·) 0))

/-- ADD: evaluate instance `inst` of this type. -/
def execAdd_ (inst : Nat) (s : State) : Host.Outcome State Fault Refusal :=
  .next { s with m := s.m.evalOne 0x15 inst blkAdd }

/-- SUB. -/
def blkSub (c : BCtx) : BCtx :=
  c.out 0 (satD (c.x 0 - c.x 1))

/-- SUB: evaluate instance `inst` of this type. -/
def execSub_ (inst : Nat) (s : State) : Host.Outcome State Fault Refusal :=
  .next { s with m := s.m.evalOne 0x16 inst blkSub }

/-- MUL: the exact product, saturated once (R267). -/
def blkMul (c : BCtx) : BCtx :=
  c.out 0 (satD (c.xs.foldl (· * ·) 1))

/-- MUL: evaluate instance `inst` of this type. -/
def execMul_ (inst : Nat) (s : State) : Host.Outcome State Fault Refusal :=
  .next { s with m := s.m.evalOne 0x17 inst blkMul }

/-- DIV, MOD and QDIV: a zero divisor leaves the output unchanged; the first one since the last non-zero divisor raises
its event (R267, code 0x0C02). -/
def BCtx.divide (c : BCtx) (f : Int → Int → Int) : BCtx :=
  if c.x 1 = 0 then
    let c := if c.st.dz then c else { c with m := c.m.raise 0x0C02 c.m.apSrc c.k (c.ip.f % 2 ^ 32) }
    c.set (fun s => { s with dz := true })
  else (c.set (fun s => { s with dz := false })).out 0 (f (c.x 0) (c.x 1))

/-- DIV: truncated toward zero; unchanged by a zero divisor. -/
def blkDiv (c : BCtx) : BCtx :=
  c.divide (fun a b => satD (Int.tdiv a b))

/-- DIV: evaluate instance `inst` of this type. -/
def execDiv_ (inst : Nat) (s : State) : Host.Outcome State Fault Refusal :=
  .next { s with m := s.m.evalOne 0x18 inst blkDiv }

/-- MOD: remainder with the sign of I1. -/
def blkMod (c : BCtx) : BCtx :=
  c.divide (fun a b => Int.tmod a b)

/-- MOD: evaluate instance `inst` of this type. -/
def execMod_ (inst : Nat) (s : State) : Host.Outcome State Fault Refusal :=
  .next { s with m := s.m.evalOne 0x19 inst blkMod }

/-- ABS: −2^31 gives 2^31 − 1. -/
def blkAbs (c : BCtx) : BCtx :=
  c.out 0 (satD (c.x 0).natAbs)

/-- ABS: evaluate instance `inst` of this type. -/
def execAbs_ (inst : Nat) (s : State) : Host.Outcome State Fault Refusal :=
  .next { s with m := s.m.evalOne 0x1A inst blkAbs }

/-- NEG, saturated. -/
def blkNeg (c : BCtx) : BCtx :=
  c.out 0 (satD (-(c.x 0)))

/-- NEG: evaluate instance `inst` of this type. -/
def execNeg_ (inst : Nat) (s : State) : Host.Outcome State Fault Refusal :=
  .next { s with m := s.m.evalOne 0x1B inst blkNeg }

/-- MIN: smallest input. -/
def blkMin (c : BCtx) : BCtx :=
  c.out 0 (c.xs.foldl min (c.x 0))

/-- MIN: evaluate instance `inst` of this type. -/
def execMin_ (inst : Nat) (s : State) : Host.Outcome State Fault Refusal :=
  .next { s with m := s.m.evalOne 0x1C inst blkMin }

/-- MAX: largest input. -/
def blkMax (c : BCtx) : BCtx :=
  c.out 0 (c.xs.foldl max (c.x 0))

/-- MAX: evaluate instance `inst` of this type. -/
def execMax_ (inst : Nat) (s : State) : Host.Outcome State Fault Refusal :=
  .next { s with m := s.m.evalOne 0x1D inst blkMax }

/-- LIMIT: MN if MN > MX. -/
def blkLimit (c : BCtx) : BCtx :=
  c.out 0 (if c.x 2 < c.x 0 then c.x 0 else min (max (c.x 1) (c.x 0)) (c.x 2))

/-- LIMIT: evaluate instance `inst` of this type. -/
def execLimit (inst : Nat) (s : State) : Host.Outcome State Fault Refusal :=
  .next { s with m := s.m.evalOne 0x1E inst blkLimit }

/-- SEL. -/
def blkSel (c : BCtx) : BCtx :=
  c.out 0 (if c.t 0 then c.x 2 else c.x 1)

/-- SEL: evaluate instance `inst` of this type. -/
def execSel (inst : Nat) (s : State) : Host.Outcome State Fault Refusal :=
  .next { s with m := s.m.evalOne 0x1F inst blkSel }

/-- MUX: unchanged if K is out of range. -/
def blkMux (c : BCtx) : BCtx :=
  let k := c.x 0
  if 0 ≤ k ∧ k + 1 < c.ni then c.out 0 (c.x (k.toNat + 1)) else c

/-- MUX: evaluate instance `inst` of this type. -/
def execMux (inst : Nat) (s : State) : Host.Outcome State Fault Refusal :=
  .next { s with m := s.m.evalOne 0x20 inst blkMux }

/-- MOVE. -/
def blkMove (c : BCtx) : BCtx :=
  c.out 0 (c.x 0)

/-- MOVE: evaluate instance `inst` of this type. -/
def execMove (inst : Nat) (s : State) : Host.Outcome State Fault Refusal :=
  .next { s with m := s.m.evalOne 0x21 inst blkMove }

/-- QADD. -/
def blkQadd (c : BCtx) : BCtx :=
  c.out 0 (satD (c.x 0 + c.x 1))

/-- QADD: evaluate instance `inst` of this type. -/
def execQadd (inst : Nat) (s : State) : Host.Outcome State Fault Refusal :=
  .next { s with m := s.m.evalOne 0x22 inst blkQadd }

/-- QSUB. -/
def blkQsub (c : BCtx) : BCtx :=
  c.out 0 (satD (c.x 0 - c.x 1))

/-- QSUB: evaluate instance `inst` of this type. -/
def execQsub (inst : Nat) (s : State) : Host.Outcome State Fault Refusal :=
  .next { s with m := s.m.evalOne 0x23 inst blkQsub }

/-- QMUL: rnd(I1·I2, 16). -/
def blkQmul (c : BCtx) : BCtx :=
  c.out 0 (satD (rnd (c.x 0 * c.x 1) 16))

/-- QMUL: evaluate instance `inst` of this type. -/
def execQmul (inst : Nat) (s : State) : Host.Outcome State Fault Refusal :=
  .next { s with m := s.m.evalOne 0x24 inst blkQmul }

/-- QDIV: I1·2^16 / I2, rounded. -/
def blkQdiv (c : BCtx) : BCtx :=
  c.divide (fun a b => satD (rndDiv (a * 65536) b))

/-- QDIV: evaluate instance `inst` of this type. -/
def execQdiv (inst : Nat) (s : State) : Host.Outcome State Fault Refusal :=
  .next { s with m := s.m.evalOne 0x25 inst blkQdiv }

/-- QSCALE: rnd(K·X, 16) + C. -/
def blkQscale (c : BCtx) : BCtx :=
  c.out 0 (satD (rnd (c.x 1 * c.x 0) 16 + c.x 2))

/-- QSCALE: evaluate instance `inst` of this type. -/
def execQscale (inst : Nat) (s : State) : Host.Outcome State Fault Refusal :=
  .next { s with m := s.m.evalOne 0x26 inst blkQscale }

/-- DINT_TO_Q. -/
def blkDintToQ (c : BCtx) : BCtx :=
  c.out 0 (satD (c.x 0 * 65536))

/-- DINT_TO_Q: evaluate instance `inst` of this type. -/
def execDintToQ (inst : Nat) (s : State) : Host.Outcome State Fault Refusal :=
  .next { s with m := s.m.evalOne 0x27 inst blkDintToQ }

/-- Q_TO_DINT. -/
def blkQToDint (c : BCtx) : BCtx :=
  c.out 0 (rnd (c.x 0) 16)

/-- Q_TO_DINT: evaluate instance `inst` of this type. -/
def execQToDint (inst : Nat) (s : State) : Host.Outcome State Fault Refusal :=
  .next { s with m := s.m.evalOne 0x28 inst blkQToDint }

/-- HYST. -/
def blkHyst (c : BCtx) : BCtx :=
  let q := if c.x 1 < c.x 0 then true else if c.x 0 < c.x 2 then false else c.st.q
  (c.set (fun s => { s with q := q })).outB 0 q

/-- HYST: evaluate instance `inst` of this type. -/
def execHyst (inst : Nat) (s : State) : Host.Outcome State Fault Refusal :=
  .next { s with m := s.m.evalOne 0x29 inst blkHyst }

/-- LAG. -/
def blkLag (c : BCtx) : BCtx :=
  let tau := max 1 (c.x 1)
  let y := satD (c.st.n + rndDiv ((c.x 0 - c.st.n) * min c.dt tau) tau)
  (c.set (fun s => { s with n := y })).out 0 y

/-- LAG: evaluate instance `inst` of this type. -/
def execLag (inst : Nat) (s : State) : Host.Outcome State Fault Refusal :=
  .next { s with m := s.m.evalOne 0x2A inst blkLag }

/-- RAMP. -/
def blkRamp (c : BCtx) : BCtx :=
  let d := max 0 (c.x 1) * c.dt
  let y := clampI (c.st.n - d) (c.st.n + d) (c.x 0)
  (c.set (fun s => { s with n := y })).out 0 y

/-- RAMP: evaluate instance `inst` of this type. -/
def execRamp (inst : Nat) (s : State) : Host.Outcome State Fault Refusal :=
  .next { s with m := s.m.evalOne 0x2B inst blkRamp }

/-- Leave the phases of BLINK whose elapsed frames are over. -/
def blinkFrom (th tl : Int) : Nat → Bool × Int → Bool × Int
  | 0, s => s
  | n + 1, (q, e) =>
    let d := if q then th else tl
    if d ≤ e then blinkFrom th tl n (!q, e - d) else (q, e)

/-- BLINK: TH and TL both 0 leave the output open while EN. -/
def blkBlink (c : BCtx) : BCtx :=
  let th := c.time 1
  let tl := c.time 2
  if !c.t 0 then (c.set (fun s => { s with q := false, p1 := false, n := 0 })).outB 0 false
  else if th + tl = 0 then
    let (v, m) := c.m.draw
    let q := v % 2 == 1
    (({ c with m := m }).set (fun s => { s with q := q, p1 := true, n := 0 })).outB 0 q
  else
    let (q, n) := if c.st.p1 then blinkFrom th tl 3 (c.st.q, (c.st.n + c.dt) % (th + tl)) else blinkFrom th tl 3 (true, 0)
    (c.set (fun s => { s with q := q, p1 := true, n := n })).outB 0 q

/-- BLINK: evaluate instance `inst` of this type. -/
def execBlink (inst : Nat) (s : State) : Host.Outcome State Fault Refusal :=
  .next { s with m := s.m.evalOne 0x2C inst blkBlink }

/-- PACK. -/
def blkPack (c : BCtx) : BCtx :=
  c.out 0 ((upTo c.ni).foldl (fun a i => if c.t i then a + 2 ^ i else a) 0)

/-- PACK: evaluate instance `inst` of this type. -/
def execPack (inst : Nat) (s : State) : Host.Outcome State Fault Refusal :=
  .next { s with m := s.m.evalOne 0x2D inst blkPack }

/-- UNPACK. -/
def blkUnpack (c : BCtx) : BCtx :=
  let w := wrap 32 (c.x 0)
  (upTo (c.b.ops.length - 1)).foldl (fun c i => c.outB i (bit w i)) c

/-- UNPACK: evaluate instance `inst` of this type. -/
def execUnpack (inst : Nat) (s : State) : Host.Outcome State Fault Refusal :=
  .next { s with m := s.m.evalOne 0x2E inst blkUnpack }

/-! ### Registers, events, buses and time -/

/-- RD_REG: read live by the active AP (R258). -/
def blkRdReg (c : BCtx) : BCtx :=
  let (m, v) := c.m.regRead (.eng c.m.apSrc) (wrap 32 (c.x 0))
  ({ c with m := m }).out 0 v.toInt

/-- RD_REG: evaluate instance `inst` of this type. -/
def execRdReg (inst : Nat) (s : State) : Host.Outcome State Fault Refusal :=
  .next { s with m := s.m.evalOne 0x2F inst blkRdReg }

/-- WR_REG: a word of the scan's write list. A WR_REG that names a register of the channels 24 to 31 is not refused, and its write is one of
the active AP (R63, R268; assumption 41). -/
def blkWrReg (c : BCtx) : BCtx :=
  if c.t 0 then c.place (wrap 32 (c.x 1)) (wrap 32 (c.x 2)) else c

/-- WR_REG: evaluate instance `inst` of this type. -/
def execWrReg (inst : Nat) (s : State) : Host.Outcome State Fault Refusal :=
  .next { s with m := s.m.evalOne 0x30 inst blkWrReg }

/-- WR_REG64: INDEX, then INDEX + 1 (R8). -/
def blkWrReg64 (c : BCtx) : BCtx :=
  if c.t 0 then (c.place (wrap 32 (c.x 1)) (wrap 32 (c.x 2))).place (wrap 32 (c.x 1) + 1) (wrap 32 (c.x 3)) else c

/-- WR_REG64: evaluate instance `inst` of this type. -/
def execWrReg64 (inst : Nat) (s : State) : Host.Outcome State Fault Refusal :=
  .next { s with m := s.m.evalOne 0x31 inst blkWrReg64 }

/-- EVENT: on an edge of TRIG, user event CODE with ARG (R348). -/
def blkEventBlock (c : BCtx) : BCtx :=
  let t := c.t 0
  let e := t && !c.st.p1
  let c := c.set (fun s => { s with p1 := t })
  if e then { c with m := c.m.raise (0xF000 + wrap 8 (c.x 1)) c.m.apSrc (wrap 32 (c.x 2)) 0 } else c

/-- EVENT: evaluate instance `inst` of this type. -/
def execEventBlock (inst : Nat) (s : State) : Host.Outcome State Fault Refusal :=
  .next { s with m := s.m.evalOne 0x32 inst blkEventBlock }

/-- MARK: on an edge of TRIG, 0x5A5A_0002 for `DEV_CTL`. -/
def blkMarkBlock (c : BCtx) : BCtx :=
  let t := c.t 0
  let e := t && !c.st.p1
  let c := c.set (fun s => { s with p1 := t })
  if e then c.place 0x0010 0x5A5A0002 else c

/-- MARK: evaluate instance `inst` of this type. -/
def execMarkBlock (inst : Nat) (s : State) : Host.Outcome State Fault Refusal :=
  .next { s with m := s.m.evalOne 0x33 inst blkMarkBlock }

/-- DMA_COPY: on an edge of GO with the channel not BUSY, DESC and then GO; the outputs follow `MEM_DMA_STAT`. -/
def blkDmaCopy (c : BCtx) : BCtx :=
  let t := c.t 0
  let ch := wrap 5 (c.x 1)
  let st := c.m.g F.MEM_DMA_STAT_STATE ch
  let e := t && !c.st.p1 && st != 1
  let c := c.set (fun s => { s with p1 := t })
  let c := if e then (c.place (R.MEM_DMA_DESC.idx ch 0) (wrap 32 (c.x 2))).place (R.MEM_DMA_CTL.idx ch 0)
      (setBits (c.m.w .MEM_DMA_CTL ch) 1 0 1).toNat else c
  ((c.outB 0 (st == 1)).outB 1 (st == 2)).outB 2 (decide (3 ≤ st))

/-- DMA_COPY: evaluate instance `inst` of this type. -/
def execDmaCopy (inst : Nat) (s : State) : Host.Outcome State Fault Refusal :=
  .next { s with m := s.m.evalOne 0x34 inst blkDmaCopy }

/-- CB_RX: buffer BUF under the new-data protocol of R315; NEW is 1 when new data were read. -/
def blkCbRx (c : BCtx) : BCtx :=
  let k := wrap 2 (c.x 0)
  let b := wrap 7 (c.x 1)
  let n := c.b.ops.length - 3
  let (m, r) := c.m.readNew k b (4 * c.m.bufWords k b) (c.m.scan.torn.contains (k, b))
  let c := { c with m := m }
  match r with
  | none => c.outB 0 false
  | some d => (upTo n).foldl (fun c i => c.out (i + 1) (s32 (fieldAt d (4 * i) 4))) (c.outB 0 true)

/-- CB_RX: evaluate instance `inst` of this type. -/
def execCbRx (inst : Nat) (s : State) : Host.Outcome State Fault Refusal :=
  .next { s with m := s.m.evalOne 0x35 inst blkCbRx }

/-- CB_TX (R323): data words and the transmit request; 8 to 13 words take two scans. -/
def blkCbTx (c : BCtx) : BCtx :=
  let k := wrap 2 (c.x 1)
  let b := wrap 7 (c.x 2)
  let n := min (c.b.ops.length - 3) (c.m.bufWords k b)
  let word (c : BCtx) (i : Nat) : BCtx := c.place (R.CB_DATA.idx k (c.m.g F.CB_BUF_CFG_DOFS k b + i)) (wrap 32 (c.x (i + 3)))
  let rq (c : BCtx) : BCtx := c.place (R.CB_BUF_STAT.idx k b) 0x100
  if !c.t 0 then c
  else if n ≤ 7 then rq ((upTo n).foldl word c)
  else if c.st.q then rq ((List.range' 7 (n - 7)).foldl word (c.set (fun s => { s with q := false })))
  else (upTo 7).foldl word (c.set (fun s => { s with q := true }))

/-- CB_TX: evaluate instance `inst` of this type. -/
def execCbTx (inst : Nat) (s : State) : Host.Outcome State Fault Refusal :=
  .next { s with m := s.m.evalOne 0x36 inst blkCbTx }

/-- STN_STAT: the status word of R282; for a number without a station the word is open. -/
def blkStnStat (c : BCtx) : BCtx :=
  let i := c.x 0
  if 0 ≤ i ∧ i < c.im.stns.length then c.out 0 (s32 (nth c.ip.stn i.toNat {}).status)
  else
    let (v, m) := c.m.draw
    ({ c with m := m }).out 0 (s32 v)

/-- STN_STAT: evaluate instance `inst` of this type. -/
def execStnStat (inst : Nat) (s : State) : Host.Outcome State Fault Refusal :=
  .next { s with m := s.m.evalOne 0x37 inst blkStnStat }

/-- FRAME: f, the Δ of this instance, and the scan period (R257). -/
def blkFrameBlock (c : BCtx) : BCtx :=
  (((c.out 0 (s32 c.ip.f)).out 1 (s32 (c.ip.f / 2 ^ 32))).out 2 c.dt).out 3 (s32 (min c.m.scan.period (2 ^ 31 - 1)))

/-- FRAME: evaluate instance `inst` of this type. -/
def execFrameBlock (inst : Nat) (s : State) : Host.Outcome State Fault Refusal :=
  .next { s with m := s.m.evalOne 0x38 inst blkFrameBlock }

/-- RTC: bits [31:0] of the calendar, from the mirror (R24). -/
def blkRtc (c : BCtx) : BCtx :=
  c.out 0 (c.m.seen (.eng c.m.apSrc) (R.LG_CAL_LO.idx 0 0)).toInt

/-- RTC: evaluate instance `inst` of this type. -/
def execRtc (inst : Nat) (s : State) : Host.Outcome State Fault Refusal :=
  .next { s with m := s.m.evalOne 0x39 inst blkRtc }

end Sys2Proof.Machine
end

