-- ==== Sys2Proof/Machine/Stations.lean ====
section
/-! DEFINITION. Remote stations (spec/12_scan_programs.md, R280 to R284): their input frames, modes, absence and return,
and the output frames of a taken image. -/

namespace Sys2Proof.Machine

open Sys2Proof

/-- Station k's run-time state. -/
def Mach.stn (m : Mach) (k : Nat) : Stn := nth m.scan.stns k {}

/-- Replace it. -/
def Mach.setStn (m : Mach) (k : Nat) (x : Stn) : Mach :=
  { m with scan := { m.scan with stns := setNth {} 64 m.scan.stns k x } }

/-- Station k's entry in the image in force. -/
def Mach.stnCfg (m : Mach) (k : Nat) : StnCfg :=
  match m.scan.img with
  | some im => nth im.stns k {}
  | none => {}

/-- The stations of the image that are enabled. -/
def Mach.stnIds (m : Mach) : List Nat :=
  match m.scan.img with
  | some im => (upTo im.stns.length).filter (fun k => (nth im.stns k {}).en)
  | none => []

/-- The station is in synchronous exchange (R282). -/
def Stn.sync (x : Stn) : Bool := x.mode != 0

/-- A station becomes absent (R283): its event, and START ends. -/
def Mach.stnGone (m : Mach) (k : Nat) : Mach :=
  let x := m.stn k
  let m := m.setStn k { x with absent := true, exch := 0, mode := if x.mode = 1 then 0 else x.mode }
  m.raise 0x0C03 m.apSrc k (m.frame % 2 ^ 32)

/-- What makes a station absent holds (R282, R283): ABS frames without a valid frame in NORMAL, or no echo of the last
scan within SYNCT frames of the commit point that took its image. -/
def Mach.stnLate (m : Mach) (k : Nat) : Bool :=
  let x := m.stn k
  !x.absent &&
  (if x.mode = 0 then decide ((m.stnCfg k).absF ≤ x.since)
   else
     match m.scan.img with
     | some im =>
       m.scan.applied.1 == m.scan.num && decide (0 < m.scan.num) && x.echo != some (m.scan.num % 256) &&
       decide (m.scan.applied.2 + im.syncT ≤ m.frame)
     | none => false)

/-- An absent station sends a valid frame: RECOVERY, its inputs substituted until the echo of a later scan (R283). -/
def Mach.stnBack (m : Mach) (k : Nat) : Mach :=
  let x := m.stn k
  if x.absent then
    (m.setStn k { x with absent := false, mode := 3, exch := 0, subst := some m.scan.num }).raise 0x0C04 m.apSrc k
      (m.frame % 2 ^ 32)
  else m

/-- An echo of a scan started after number n0 (R283). -/
def echoAfter (num n0 echo : Nat) : Bool := (upTo (min 256 (num - n0))).any (fun i => (num - i) % 256 == echo)

/-- A valid input frame (R280, R281, R283): all words together, unless they stay substituted. -/
def Mach.stnFrame (m : Mach) (k : Nat) (d : List Byte) : Mach :=
  let m := m.stnBack k
  let x := m.stn k
  let echo := fieldAt d 0 1
  let sub := match x.subst with
    | some n0 => if echoAfter m.scan.num n0 echo then none else some n0
    | none => none
  let words := if sub.isSome then x.words else (upTo (m.stnCfg k).nin).map (fun i => fieldAt d (4 + 4 * i) 4)
  m.setStn k { x with since := 0, echo := some echo, status := fieldAt d 1 1, subst := sub, words := words }

/-- One station at an end of latch (R281): its buffer is read under R315. A station that returns here is not judged late at the same
end of latch (R284). -/
def stnLatch (torn : List (Nat × Nat)) (m : Mach) (k : Nat) : Mach :=
  let c := m.stnCfg k
  let was := (m.stn k).absent
  let n := 4 + 4 * c.nin
  let full := decide (n ≤ dlcBytes (m.g F.CB_BUF_STAT_RXDLC c.cb c.rx))
  let (m, r) := m.readNew c.cb c.rx n (torn.contains (c.cb, c.rx))
  let m :=
    match r, full with
    | some d, true => m.stnFrame k d
    | some _, false =>
      let m := m.raise 0x0C05 m.apSrc k (m.frame % 2 ^ 32)
      m.setStn k { m.stn k with since := min 65535 ((m.stn k).since + 1) }
    | none, _ => m.setStn k { m.stn k with since := min 65535 ((m.stn k).since + 1) }
  if !was && m.stnLate k then m.stnGone k else m

/-- All stations at an end of latch. -/
def stnInputs (m : Mach) (torn : List (Nat × Nat)) : Mach := each m.stnIds m (stnLatch torn)

/-- A station's side of the input image (R258, R282, R283). -/
def Mach.stnImage (m : Mach) (k : Nat) : StnIn :=
  let x := m.stn k
  let c := m.stnCfg k
  { words := if (x.absent || x.subst.isSome) && !c.hold then [] else x.words,
    status := x.mode + 4 * b2n x.absent + 8 * b2n (bit x.status 0) + 16 * b2n (bit x.status 1) + 65536 * min 65535 x.since }

/-- A synchronous station lets the next scan start (R282): its echo of the last scan, or SYNCT frames without it. -/
def Mach.stnReady (m : Mach) (k : Nat) : Bool :=
  let x := m.stn k
  !x.sync || m.scan.num == 0 || x.echo == some (m.scan.num % 256) ||
  (match m.scan.img with
   | some im => m.scan.applied.1 == m.scan.num && decide (m.scan.applied.2 + im.syncT ≤ m.frame)
   | none => true)

/-- TEST of a station ends: a station still in RECOVERY stays there (R284). -/
def Mach.stnTestEnd (m : Mach) (k : Nat) : Mach :=
  let x := m.stn k
  m.setStn k { x with until_ := none, testReq := none, mode := if x.mode = 2 then 0 else x.mode }

/-- One station at a scan boundary of frame f (R282): an exchange of the last scan counts, the third returns START and
RECOVERY to NORMAL, and TEST begins or ends. -/
def stnBoundary (f : Nat) (m : Mach) (k : Nat) : Mach :=
  let x := m.stn k
  let done := decide (0 < m.scan.num) && x.echo == some (m.scan.num % 256)
  let e := if x.sync then (if done then x.exch + 1 else 0) else 0
  let x := { x with exch := e, mode := if (x.mode = 1 ∨ x.mode = 3) ∧ 3 ≤ e then 0 else x.mode }
  let m := m.setStn k x
  let m := match x.until_ with
    | some u => if u ≤ f then m.stnTestEnd k else m
    | none => m
  let x := m.stn k
  let x := match x.testReq with
    | some d => { x with testReq := none, until_ := some (f + d) }
    | none => x
  m.setStn k (if x.mode = 0 ∧ x.until_.isSome then { x with mode := 2, exch := 0 } else x)

/-- Every enabled station enters a mode: START at FIELD_START, RECOVERY at a fail-over (R282). -/
def Mach.stnAll (m : Mach) (mode : Nat) : Mach :=
  each m.stnIds m (fun m k => m.setStn k { m.stn k with mode := mode, exch := 0 })

/-- A taken image's output frame of station k goes to TXBUF, followed by TXRQ (R281, R323). -/
def stnOutput (num : Nat) (out : List (Nat × Int)) (m : Mach) (k : Nat) : Mach :=
  let c := m.stnCfg k
  let d := leBytes 1 num ++ leBytes 1 (b2n (m.stn k).sync) ++ leBytes 2 0 ++
    ((upTo c.nout).map (fun w => leBytes 4 (wrap 32 (smGet (fun _ => (0 : Int)) out (16 * k + w))))).flatten
  (m.putBuf c.cb c.tx d).txRequest c.cb c.tx

/-- STATION_ABSENT (R283). -/
def execStationAbsent (k : Nat) (s : State) : Host.Outcome State Fault Refusal :=
  .next { s with m := if s.m.stnIds.contains k && s.m.stnLate k then s.m.stnGone k else s.m }

/-- STATION_RETURN (R283): a valid input frame waits in the RXBUF of an absent station. -/
def execStationReturn (k : Nat) (s : State) : Host.Outcome State Fault Refusal :=
  .next { s with m := if s.m.stnIds.contains k && (s.m.stn k).absent then stnLatch [] s.m k else s.m }

/-- STATION_TEST_END (R282). -/
def execStationTestEnd (k : Nat) (s : State) : Host.Outcome State Fault Refusal :=
  .next { s with m := match (s.m.stn k).until_ with
    | some u => if u ≤ s.m.frame then s.m.stnTestEnd k else s.m
    | none => s.m }

end Sys2Proof.Machine
end

