-- ==== Sys2Proof/Machine/Lift.lean ====
section
/-! DEFINITION. The lift blocks (spec/09_lift_primitives.md, R189 to R208, R272 to R274): car position and reference, the
sequences of runs and stops, levelling, calls and stops, doors, escalators, inspection runs and SF_DIVERSE. -/

namespace Sys2Proof.Machine

open Sys2Proof

/-! ### What the blocks read and write -/

/-- Machine i's car. -/
def Mach.lcar (m : Mach) (i : Nat) : Car := smGet (fun _ => ({} : Car)) m.scan.cars i

/-- Replace it. -/
def Mach.setCar (m : Mach) (i : Nat) (k : Car) : Mach :=
  { m with scan := { m.scan with cars := smPut (fun _ => ({} : Car)) m.scan.cars i k } }

/-- A door of machine i. -/
def Mach.ldoor (m : Mach) (i side : Nat) : Door := smGet (fun _ => ({} : Door)) m.scan.doors (2 * i + side)

/-- Replace it. -/
def Mach.setDoor (m : Mach) (i side : Nat) (d : Door) : Mach :=
  { m with scan := { m.scan with doors := smPut (fun _ => ({} : Door)) m.scan.doors (2 * i + side) d } }

/-- The image of the scan being judged was taken (R37): its frame is kept. -/
def Await.see (a : Await) (applied : Nat × Nat) : Await :=
  if a.taken.isNone ∧ a.num ≤ applied.1 then { a with taken := some applied.2 } else a

/-- A write of the image taken at frame n is judged in frame n+1 and its result published at the end of latch of frame
n+2 (R154, R163). -/
def Await.ready (a : Await) (f : Nat) : Bool :=
  match a.taken with
  | some n => decide (n + 2 ≤ f)
  | none => false

/-- A block that waits on nothing, or on a write already judged. -/
def settled (a : Option Await) (f : Nat) : Bool :=
  match a with
  | some x => x.ready f
  | none => true

/-- The writes of this scan, to be judged. -/
def BCtx.await (c : BCtx) : Option Await := some { num := c.m.scan.num, taken := none }

/-- A parameter cell of a lift block whose first cell is p (R272). -/
def BCtx.par (c : BCtx) (p i : Nat) : Int := (c.m.word (0x8000 + p + i)).toInt

/-- A parameter that is a count of frames. -/
def BCtx.parN (c : BCtx) (p i : Nat) : Nat := (c.par p i).toNat

/-- A parameter names a terminal that a lift block of machine i may use (R186). -/
def BCtx.hasTerm (c : BCtx) (i : Nat) (t : Int) : Bool := decide (0 ≤ t) && decide (t < 96) && c.m.mayUse i t.toNat

/-- A terminal parameter of machine i reads `on` in the input image; a parameter that names no terminal the machine may use
is taken as met. DESIGN CHOICE: R189's default is no terminal, for which R193 and R194 state no wait. -/
def BCtx.fb (c : BCtx) (i : Nat) (t : Int) (on : Bool) : Bool :=
  if c.hasTerm i t then bit (c.ip.w (R.TRM_IN.idx (t.toNat / 32) 0)) (t.toNat % 32) == on else true

/-- A safety function permits, as published (R204). -/
def BCtx.permits (c : BCtx) (f : Nat) : Bool := bit (c.ip.w (R.SF_PERMIT.idx 0 0)) f

/-- The SP's inspection word says that inspection mode is on (R258, R274). -/
def BCtx.insp (c : BCtx) : Bool := bit c.ip.insp 0

/-- The last word placed for a register and not yet applied, else its present word. -/
def BCtx.pend (c : BCtx) (idx : Nat) : Nat :=
  let l := (c.m.scan.done.map (fun o => o.wl)).flatten ++ c.m.scan.wl
  match (l.filter (fun p => p.1 == idx)).getLast? with
  | some p => p.2.toNat
  | none => (c.m.word idx).toNat

/-- Place a 64-bit register, low word first (R8). -/
def BCtx.place64 (c : BCtx) (lo : R) (a : Nat) (v : Int) : BCtx :=
  (c.place (lo.idx a 0) (wrap 32 v)).place (lo.idx a 0 + 1) (wrap 64 v / 2 ^ 32)

/-- Place `MG_CTL` of an axis with HOLD as given and the SC bits `sc` (4: QSTOP, 8: REF). -/
def BCtx.ctl (c : BCtx) (a : Nat) (hold : Bool) (sc : Nat) : BCtx :=
  let w := c.pend (R.MG_CTL.idx a 0)
  let keep := b2n (bit w 0) + 16 * b2n (bit w 4) + 32 * b2n (bit w 5)
  c.place (R.MG_CTL.idx a 0) (keep + 2 * b2n hold + sc)

/-- HOLD as last placed. -/
def BCtx.holdSet (c : BCtx) (a : Nat) : Bool := bit (c.pend (R.MG_CTL.idx a 0)) 1

/-- Place a reference command of an axis: `REFMODE`, `REFDIR` and `REF` (R173, R174). -/
def BCtx.refCtl (c : BCtx) (a mode dir : Nat) : BCtx :=
  let w := c.pend (R.MG_CTL.idx a 0)
  c.place (R.MG_CTL.idx a 0) (w % 4 + 8 + 16 * dir + 32 * mode)

/-- Place a target after clearing its refusal bits (R159). -/
def BCtx.target (c : BCtx) (a : Nat) (v : Int) (clear : Nat) : BCtx :=
  (c.place (R.MG_STAT.idx a 0) clear).place64 .MG_TGT_LO a v

/-- `TGTREF` and `TGTLIM` of `MG_STAT`. -/
def tgtBits : Nat := 0xC000

/-- `STALL` and `FERR` of `MG_STAT`. -/
def hitBits : Nat := 0x1400

/-- Write `EN` of the slots listed, as many as the words left to the instance in this scan allow (R259), and answer the
slots that remain for a later scan. -/
def BCtx.slotsEn (c : BCtx) (on : Bool) (l : List Nat) : BCtx × List Nat :=
  let n := 8 - c.m.scan.placed
  ((l.take n).foldl (fun (c : BCtx) s =>
    let w := c.pend (R.LP_CTL.idx s 0)
    c.place (R.LP_CTL.idx s 0) (w - w % 8 + 2 * b2n (bit w 1) + b2n on)) c, l.drop n)

/-- Set an AP cell. -/
def BCtx.ap (c : BCtx) (i : Nat) (v : Int) : BCtx :=
  { c with m := { c.m with scan := { c.m.scan with ap := smPut (fun _ => (0 : Int)) c.m.scan.ap i v } } }

/-- Set an output terminal's bit for a lift block of machine i. -/
def BCtx.termOut (c : BCtx) (i : Nat) (t : Int) (v : Bool) : BCtx :=
  if c.hasTerm i t then { c with m := { c.m with scan := { c.m.scan with term := setBit c.m.scan.term t.toNat v } } } else c

/-- Raise an event of a lift block (group 0x09, R348). -/
def BCtx.ev (c : BCtx) (low mch step : Nat) : BCtx := { c with m := c.m.raise (0x0900 + low) c.m.apSrc mch step }

/-- Count in the life ledger (R355). -/
def BCtx.tally (c : BCtx) (i : Nat) : BCtx := { c with m := c.m.count i 1 }

/-- The first parameter cell of the LIFT_CAR instance of machine `mch` (R272). -/
def Image.carPar (im : Image) (mch : Nat) : Nat :=
  match im.blks.find? (fun b => b.typ == 0x3A && im.constOf (nth b.ops 0 0) == mch) with
  | some b => opIdx (nth b.ops 1 0)
  | none => 0

/-- The machine has a LIFT_CAR instance. -/
def Image.hasCar (im : Image) (mch : Nat) : Bool :=
  im.blks.any (fun b => b.typ == 0x3A && im.constOf (nth b.ops 0 0) == mch)

/-- The landing table of the machine. -/
def BCtx.land (c : BCtx) (mch : Nat) : List Byte := c.m.landings (c.m.mach mch)

/-- Shaft position and age under R190, with SHOFS: a whole number of counts. -/
def BCtx.shaft (c : BCtx) (mch : Nat) (ofs : Int) : Option (Int × Nat) :=
  match nth c.ip.shaft mch none with
  | some (raw, f) => some (rnd ((c.m.mach mch).shk * raw) 16 + ofs, c.ip.f - f)
  | none => none

/-- ps if it is usable under SHAGE (R190): position, age. -/
def BCtx.usable (c : BCtx) (mch p : Nat) : Option (Int × Nat) :=
  match c.shaft mch (c.par p 0) with
  | some (ps, age) => if age ≤ c.parN p 1 then some (ps, age) else none
  | none => none

/-! ### The sequences of R193 and R194 -/

/-- What a sequence works with: machine, axis, feedback terminals, slots, waits. -/
structure SeqP where
  mch : Nat := 0
  a : Nat := 0
  mainFb : Int := 255
  brkFb : Int := 255
  drv : List Nat := []
  tMain : Nat := 8000
  tTorq : Nat := 4000
  tBrk : Nat := 12000
  tHold : Nat := 2000
  tDrop : Nat := 4000

/-- The sequence's parameters from LIFT_CAR's cells (R189). -/
def BCtx.seqOf (c : BCtx) (mch p : Nat) : SeqP :=
  let x := c.m.mach mch
  let mask := wrap 32 (c.par p 10) + 2 ^ 32 * wrap 32 (c.par p 11)
  { mch := mch, a := x.car, mainFb := c.par p 8, brkFb := c.par p 9,
    drv := (setIdx 64 mask).map x.slot, tMain := c.parN p 12, tTorq := c.parN p 13, tBrk := c.parN p 14,
    tHold := c.parN p 15, tDrop := c.parN p 16 }

/-- The car goes out of service and an event is raised. -/
def BCtx.outOf (c : BCtx) (mch : Nat) (k : Car) : BCtx × Car :=
  (if k.fault then c else c.ev 0 mch k.step, { k with fault := true })

/-- Begin a sequence: step 1 of R193. -/
def BCtx.begin_ (c : BCtx) (q : SeqP) (k : Car) (kind : Nat) (tgt : Int) : BCtx × Car :=
  (c.ap (c.m.mach q.mch).runReq 65536,
   { k with kind := kind, step := 1, et := 0, tgt := tgt, stopping := false, want := none, judge := none, slots := [] })

/-- Step 7: `HOLD` set and the brake request dropped. -/
def BCtx.brakeOff (c : BCtx) (q : SeqP) (k : Car) : BCtx × Car :=
  ((c.ctl q.a true 0).ap (c.m.mach q.mch).brkReq 0, { k with step := 7, et := 0 })

/-- Step 9: the slots disabled and the run request dropped. -/
def BCtx.mainOff (c : BCtx) (q : SeqP) (k : Car) : BCtx × Car :=
  let (c, l) := c.slotsEn false q.drv
  (c.ap (c.m.mach q.mch).runReq 0, { k with step := 9, et := 0, slots := l })

/-- The end of a sequence: the configured `MG_VMAX` is written back (R195, R274). -/
def BCtx.ended (c : BCtx) (q : SeqP) (k : Car) : BCtx × Car :=
  ((match k.vsave with
    | some v => c.place64 .MG_VMAX_LO q.a v
    | none => c), { k with step := 0, et := 0, vsave := none, kind := 0, ns := 63, stopping := false, inspDir := 0 })

/-- One check of the step in hand (R193, R194): each step waits for the previous one to end. -/
def BCtx.seqStep (c : BCtx) (q : SeqP) (k : Car) : BCtx × Car :=
  match k.step with
  | 1 =>
    if c.fb q.mch q.mainFb true then
      let (c, l) := c.slotsEn true q.drv
      (c, { k with step := 2, et := 0, slots := l })
    else if q.tMain ≤ k.et then
      let (c, k) := c.outOf q.mch k
      c.mainOff q k
    else (c, k)
  | 2 =>
    let (c, l) := c.slotsEn true k.slots
    let k := { k with slots := l }
    if l.isEmpty ∧ q.tTorq ≤ k.et then (c.ap (c.m.mach q.mch).brkReq 65536, { k with step := 3, et := 0 }) else (c, k)
  | 3 =>
    if c.fb q.mch q.brkFb true then
      ((c.target q.a k.tgt tgtBits).ctl q.a false 0, { k with step := 4, et := 0, judge := c.await })
    else if q.tBrk ≤ k.et then
      let (c, k) := c.outOf q.mch k
      c.brakeOff q k
    else (c, k)
  | 4 =>
    if settled k.judge c.ip.f then
      if c.ip.b F.MG_STAT_TGTREF q.a ∨ c.ip.b F.MG_STAT_TGTLIM q.a then
        (c, { k with step := 6, et := 0, judge := none, stopping := true })
      else (c.tally (112 + q.mch), { k with step := 5, et := 0, judge := none, atL := if k.kind = 1 then k.atL else none })
    else (c, k)
  | 5 =>
    if (if k.stopping then !c.ip.b F.MG_STAT_MOVING q.a else c.ip.b F.MG_STAT_INPOS q.a && settled k.judge c.ip.f) then
      (c, { k with step := 6, et := 0 })
    else (c, k)
  | 6 => if q.tHold ≤ k.et then c.brakeOff q k else (c, k)
  | 7 =>
    if c.fb q.mch q.brkFb false then (c, { k with step := 8, et := 0 })
    else if q.tBrk ≤ k.et then
      let (c, k) := c.outOf q.mch k
      (c, { k with step := 8, et := 0 })
    else (c, k)
  | 8 => if q.tDrop ≤ k.et then c.mainOff q k else (c, k)
  | 9 =>
    let (c, l) := c.slotsEn false k.slots
    let k := { k with slots := l }
    if !l.isEmpty then (c, k)
    else if c.fb q.mch q.mainFb false then c.ended q k
    else if q.tMain ≤ k.et then
      let (c, k) := c.outOf q.mch k
      c.ended q k
    else (c, k)
  | _ => (c, k)

/-- Elapsed frames of the step in hand, and the frames in which writes were taken (R261). -/
def BCtx.tickCar (c : BCtx) (k : Car) : Car :=
  { k with et := k.et + c.dt.toNat, judge := k.judge.map (fun a => a.see c.m.scan.applied),
           ref := k.ref.map (fun a => a.see c.m.scan.applied),
           query := k.query.map (fun x => (x.1, x.2.see c.m.scan.applied)) }

/-! ### LIFT_CAR -/

/-- The doors of a machine that its entry names: sides. -/
def Machn.sides (x : Machn) : List Nat := [0, 1].filter (fun s => (x.door s).isSome)

/-- Every door of the machine is CLOSED and SFCHAIN permits (R193, R199). -/
def BCtx.locked (c : BCtx) (mch : Nat) : Bool :=
  let x := c.m.mach mch
  x.sides.all (fun s => (c.m.ldoor mch s).st == 0) && c.permits x.sfChain

/-- Every door has its travel and its closing reference (R203). -/
def BCtx.doorsKnown (c : BCtx) (mch : Nat) : Bool :=
  let x := c.m.mach mch
  x.sides.all (fun s => x.travel s != 0 && (c.m.ldoor mch s).refDone)

/-- The landing nearest to a position, the lower one of two. -/
def nearestLand (t : List Byte) (p : Int) : Nat :=
  (upTo (landCount t)).foldl (fun b j => if (landPos t j - p).natAbs < (landPos t b - p).natAbs then j else b) 0

/-- The landing last passed (R210): the highest at or below p going up, the lowest at or above it going down. -/
def lastPassed (t : List Byte) (dir pl : Nat) (p : Int) : Nat :=
  if dir = 1 then ((upTo (landCount t)).filter (fun j => decide (landPos t j ≤ p))).getLastD pl
  else ((upTo (landCount t)).filter (fun j => decide (p ≤ landPos t j))).headD pl

/-- R191: reference of the car axis at rest. DEDUCED: SLIPMAX bounds the correction of an axis that has been referenced; with
`REFD` 0 the reference is made whatever its size, or no car could come into service after power-up. -/
def BCtx.carRef (c : BCtx) (mch p : Nat) (k : Car) : BCtx × Car :=
  let a := (c.m.mach mch).car
  match c.usable mch p with
  | none => (c, k)
  | some (ps, _) =>
    if c.ip.b F.MG_STAT_MOVING a ∨ !c.ip.b F.MG_STAT_HOLDACT a ∨ !settled k.ref c.ip.f then (c, k)
    else
      let d := (ps * 65536 - c.ip.qi .MG_FBPOS_LO a).natAbs
      let refd := c.ip.b F.MG_STAT_REFD a
      if refd ∧ (d : Int) ≤ c.par p 2 * 65536 then (c, k)
      else if refd ∧ c.par p 3 * 65536 < (d : Int) then
        (if k.fault then c else (c.ev 1 mch k.step).ev 0 mch k.step, { k with fault := true })
      else
        let t := c.land mch
        let j := nearestLand t (ps * 65536)
        ((c.place64 .MG_REFPOS_LO a (ps * 65536)).refCtl a 0 0,
         { k with ref := c.await, refMade := true, pl := j,
                  atL := if k.atL.isNone ∧ ((landPos t j - ps * 65536).natAbs : Int) ≤ c.par p 5 * 65536 then some j else k.atL })

/-- R192: divergence, or a shaft source unusable for 4·SHAGE frames, while the car moves. -/
def BCtx.carDiverge (c : BCtx) (mch p : Nat) (k : Car) : BCtx × Car :=
  let a := (c.m.mach mch).car
  let stop (c : BCtx) (k : Car) : BCtx × Car :=
    let c := (c.ctl a (c.holdSet a) 4).ev 6 mch k.step
    let (c, k) := c.outOf mch k
    (c, { k with stopping := true, div := true })
  if !c.ip.b F.MG_STAT_MOVING a then (c, { k with unus := 0, div := false })
  else if k.div then (c, { k with unus := 0 })
  else
    match c.usable mch p with
    | none =>
      let k := { k with unus := k.unus + c.dt.toNat }
      if 4 * c.parN p 1 ≤ k.unus then stop c k else (c, k)
    | some (ps, age) =>
      let k := { k with unus := 0 }
      let d := (ps * 65536 - c.ip.qi .MG_FBPOS_LO a).natAbs
      let v := (c.ip.qi .MG_VEL_LO a).natAbs
      if c.par p 4 * 65536 * 400000000 + (v * age * c.m.L : Nat) < (d * 400000000 : Nat) then stop c k else (c, k)

/-- Decline one hall call (R211): landing, direction (0 up, 1 down), TDMA cycle. A car word shows one declined call: further
ones wait their turn (DESIGN CHOICE). -/
def Car.declineOne (k : Car) (j dir cyc : Nat) : Car :=
  match k.decl with
  | none => { k with decl := some (j, dir, cyc) }
  | some (j0, d0, _) => if (j0 = j ∧ d0 = dir) ∨ k.declq.contains (j, dir) then k else { k with declq := k.declq ++ [(j, dir)] }

/-- A call the car cannot serve (R196): a car call stays, the hall calls of the landing are declined. -/
def Car.decline (k : Car) (j cyc : Nat) : Car :=
  let k := if bit k.up j then ({ k with up := setBit k.up j false } : Car).declineOne j 0 cyc else k
  if bit k.dn j then ({ k with dn := setBit k.dn j false } : Car).declineOne j 1 cyc else k

/-- All calls of the car are cleared; its hall calls are declined (R205). -/
def Car.declineAll (k : Car) (cyc : Nat) : Car :=
  { each (upTo 63) k (fun k j => k.decline j cyc) with calls := 0, up := 0, dn := 0 }

/-- R205: SFCHAIN or SFRUN stops permitting while the car moves, in a run of any kind. The car returns to service when both
permit again and a reference under R191 has been made since. -/
def BCtx.carLoss (c : BCtx) (mch : Nat) (k : Car) : BCtx × Car :=
  let x := c.m.mach mch
  let ch := c.permits x.sfChain
  let rn := c.permits x.sfRun
  let hit := ((k.chain && !ch) || (k.run && !rn)) && c.ip.b F.MG_STAT_MOVING x.car
  let k := { k with chain := ch, run := rn, lost := k.lost && !(ch && rn && k.refMade) }
  if !hit then (c, k)
  else
    let c := (((c.ctl x.car true 4).ap x.runReq 0).ap x.brkReq 0)
    (if k.lost then c else c.ev 0 mch k.step,
     { (k.declineAll c.m.scan.groups.cycle) with
         lost := true, refMade := false, stopping := true, want := none, query := none,
         step := if 1 ≤ k.step ∧ k.step < 5 then 5 else k.step })

/-- R195: the level error at rest at a landing starts a re-level. -/
def BCtx.carLevel (c : BCtx) (mch p : Nat) (k : Car) : BCtx × Car :=
  let x := c.m.mach mch
  match k.atL, c.usable mch p with
  | some j, some (ps, age) =>
    let bad := c.par p 5 * 65536 < ((ps * 65536 - landPos (c.land mch) j).natAbs : Int)
    let src := c.ip.f - age
    if !bad then (c, { k with levAt := none })
    else if k.levAt.isNone ∨ k.step ≠ 0 ∨ c.ip.b F.MG_STAT_MOVING x.car then
      (c, { k with levAt := if k.step = 0 ∧ !c.ip.b F.MG_STAT_MOVING x.car then some (k.levAt.getD src) else none })
    else if k.levAt = some src ∨ !c.permits x.sfZone ∨ !settled k.ref c.ip.f then (c, k)
    else
      let recent := k.relevs.filter (fun f => decide (c.ip.f < f + 2400000))
      if c.parN p 7 ≤ recent.length then
        let (c, k) := c.outOf mch k
        (c, { k with relevs := recent, levAt := none })
      else
        let q := c.seqOf mch p
        let c := c.place64 .MG_VMAX_LO x.car (c.par p 6 * 65536)
        let (c, k) := c.begin_ q { k with relevs := recent ++ [c.ip.f], levAt := none } 1 (landPos (c.land mch) j)
        (c, { k with vsave := some (c.ip.qi .MG_VMAX_LO x.car), ns := j })
  | _, _ => (c, k)

/-- Arrival at a landing: its calls are served, its doors are asked to open, reversals count anew (R196, R201). -/
def BCtx.arrive (c : BCtx) (mch j : Nat) (k : Car) : BCtx × Car :=
  let x := c.m.mach mch
  let fl := landFlags (c.land mch) j
  ({ c with m := each x.sides c.m (fun m s =>
      let d := m.ldoor mch s
      m.setDoor mch s { d with openReq := d.openReq || bit fl s, revs := 0, attempts := 0 }) },
   { k with atL := some j, pl := j, calls := setBit k.calls j false, up := setBit k.up j false, dn := setBit k.dn j false })

/-- LIFT_CAR. -/
def blkLiftCar (c : BCtx) : BCtx :=
  let mch := wrap 3 (c.x 0)
  let p := opIdx (nth c.b.ops 1 0)
  let x := c.m.mach mch
  let a := x.car
  let svc := c.t 2
  let k := c.tickCar (c.m.lcar mch)
  let brk := c.hasTerm mch (c.par p 9) && c.fb mch (c.par p 9) true
  let c := if brk && !k.brk then c.tally (128 + mch) else c
  let k := { k with brk := brk, fault := k.fault && !(svc && !k.svcPrev), svcPrev := svc }
  let (c, k) := c.carLoss mch k
  let k := { k with inSvc := svc && !k.fault && !k.lost && c.doorsKnown mch && c.ip.b F.MG_STAT_REFD a }
  let (c, k) := c.carRef mch p k
  let (c, k) := c.carDiverge mch p k
  let t := c.land mch
  let pos := c.ip.qi .MG_POS_LO a
  let k := if c.ip.b F.MG_STAT_MOVING a then { k with pl := lastPassed t (if 0 < c.ip.qi .MG_VEL_LO a then 1 else 2) k.pl pos }
    else k
  let q := c.seqOf mch p
  let (c, k) :=
    if k.kind ≥ 2 then (c, k)
    else if k.step = 0 then
      match k.want with
      | some tgt =>
        if !k.inSvc then (c, { k with want := none, ns := 63 })
        else if c.locked mch && !c.insp && settled k.ref c.ip.f then
          c.begin_ q k 0 tgt
        else (c, k)
      | none =>
        let c := if c.holdSet a then c else c.ctl a true 0
        c.carLevel mch p k
    else
      let was := k.step
      let ns := k.ns
      let (c, k) := c.seqStep q k
      if was = 5 ∧ k.step = 6 ∧ k.kind = 0 ∧ !k.stopping ∧ ns ≠ 63 then
        let (c, k) := c.arrive mch ns k
        (c.tally (120 + mch), { k with ns := 63 })
      else (c, k)
  let st := b2n k.inSvc + 2 * b2n (k.step != 0) + 4 * b2n (k.step != 0 && k.kind == 1) + 16 * k.dir + 256 * k.pl
  let c := { c with m := c.m.setCar mch k }
  let c := c.out 0 st
  match c.shaft mch (c.par p 0) with
  | some (ps, _) => c.out 1 (s32 (wrap 32 ps))
  | none => c.out 1 0

/-- LIFT_CAR (R272): evaluate instance `inst` of this type. -/
def execLiftCar (inst : Nat) (s : State) : Host.Outcome State Fault Refusal :=
  .next { s with m := s.m.evalOne 0x3A inst blkLiftCar }

/-! ### LIFT_STOPS -/

/-- Landing j lies ahead of p in a direction. -/
def aheadOf (t : List Byte) (dir : Nat) (p : Int) (j : Nat) : Bool :=
  if dir = 1 then decide (p < landPos t j) else decide (landPos t j < p)

/-- The candidate of R196: the nearest landing with a call and in service that meets `ok`; the lower one of two. -/
def candidate (t : List Byte) (calls : Nat) (p : Int) (ok : Nat → Bool) : Option Nat :=
  ((upTo (landCount t)).filter (fun j => bit calls j && bit (landFlags t j) 2 && ok j)).foldl
    (fun b j => match b with
      | none => some j
      | some i => if (landPos t j - p).natAbs < (landPos t i - p).natAbs then some j else some i) none


/-- The answer to a query (R163, R196). -/
def BCtx.answer (c : BCtx) (mch j : Nat) (k : Car) : BCtx × Car :=
  let a := (c.m.mach mch).car
  let t := c.land mch
  let k := { k with query := none }
  if c.ip.b F.MG_QRES_LIMIT a then
    let (v, m) := c.m.draw
    ({ c with m := m.raise (0x0900 + v % 256) m.apSrc mch k.step },
     { k with calls := setBit k.calls j false, up := setBit k.up j false, dn := setBit k.dn j false })
  else if !c.ip.b F.MG_QRES_REACH a then (c, k.decline j c.m.scan.groups.cycle)
  else if k.step = 5 then
    (c.target a (landPos t j) tgtBits,
     { k with prev := some (k.tgt, k.ns), tgt := landPos t j, ns := j, judge := c.await })
  else if k.step = 0 then
    (c, { k with want := some (landPos t j), ns := j })
  else (c, k)

/-- A call for the landing at which an idle car stands is served there: its doors are asked to open, and the call is
cleared once a door of the landing's sides opens or stands open, or where the car has no such door (DESIGN CHOICE: the spec
does not say when such a call ends; R200 has it reverse a closing door, so it lasts until then). -/
def BCtx.serveHere (c : BCtx) (mch j : Nat) (k : Car) : BCtx × Car :=
  let fl := landFlags (c.land mch) j
  let sides := (c.m.mach mch).sides.filter (fun s => bit fl s)
  if sides.isEmpty ∨ sides.any (fun s => (c.m.ldoor mch s).st == 1 || (c.m.ldoor mch s).st == 2) then
    (c, { k with calls := setBit k.calls j false, up := setBit k.up j false, dn := setBit k.dn j false })
  else
    ({ c with m := each sides c.m (fun m s => m.setDoor mch s { m.ldoor mch s with openReq := true }) }, k)

/-- LIFT_STOPS. -/
def blkLiftStops (c : BCtx) : BCtx :=
  let mch := wrap 3 (c.x 0)
  let x := c.m.mach mch
  let a := x.car
  let t := c.land mch
  let p := c.ip.qi .MG_POS_LO a
  let k := c.m.lcar mch
  let k : Car := if k.inSvc && !c.insp then
      { k with calls := (k.calls ||| (wrap 32 (c.x 1) + 2 ^ 32 * wrap 32 (c.x 2))) % 2 ^ landCount t }
    else { k with calls := 0, up := 0, dn := 0, want := none, query := none }
  -- a target refused after a positive answer (R197)
  let k : Car := if k.step = 5 ∧ k.kind = 0 ∧ k.judge.isSome ∧ settled k.judge c.ip.f then
      let refd := c.ip.b F.MG_STAT_TGTREF a || c.ip.b F.MG_STAT_TGTLIM a
      let k := { k with judge := none }
      match refd, k.prev with
      | true, some (tg, n) => { (k.decline k.ns c.m.scan.groups.cycle) with tgt := tg, ns := n, prev := none }
      | _, _ => { k with prev := none }
    else k
  -- a run whose first target was refused (R193)
  let k : Car := if k.kind = 0 ∧ 6 ≤ k.step ∧ k.stopping = true ∧ k.ns ≠ 63 then { (k.decline k.ns c.m.scan.groups.cycle) with ns := 63 } else k
  let (c, k) := match k.query with
    | some (j, w) => if w.ready c.ip.f && c.ip.b F.MG_QRES_VALID a then c.answer mch j k else (c, k)
    | none => (c, k)
  let all := k.calls ||| k.up ||| k.dn
  let idle := k.step == 0 && k.want.isNone
  let (c, k) := match k.atL with
    | some j => if idle && bit all j && k.inSvc then c.serveHere mch j k else (c, k)
    | none => (c, k)
  let away (j : Nat) : Bool := !(idle && k.atL == some j)
  let all := k.calls ||| k.up ||| k.dn
  let moving := k.step == 5 && k.kind == 0 && !k.stopping
  let anyAhead := (candidate t all p (fun j => aheadOf t k.dir p j && away j)).isSome
  let k := if idle && !anyAhead then { k with dir := 0 } else k
  let cand :=
    if idle then candidate t all p (fun j => away j && (k.dir == 0 || aheadOf t k.dir p j))
    else if moving then
      candidate t all p (fun j => aheadOf t k.dir p j && decide ((landPos t j - p).natAbs < (k.tgt - p).natAbs))
    else none
  let k := match cand with
    | some j => if idle && k.dir == 0 then { k with dir := if p < landPos t j then 1 else 2 } else k
    | none => k
  let (c, k) := match cand with
    | some j =>
      if k.query.isNone ∧ k.inSvc ∧ c.ip.b F.MG_STAT_REFD a then
        match c.await with
        | some w => (c.place64 .MG_QPOS_LO a (landPos t j), { k with query := some (j, w) })
        | none => (c, k)
      else (c, k)
    | none => (c, k)
  ({ c with m := c.m.setCar mch k }).out 0 k.ns

/-- LIFT_STOPS (R272): evaluate instance `inst` of this type. -/
def execLiftStops (inst : Nat) (s : State) : Host.Outcome State Fault Refusal :=
  .next { s with m := s.m.evalOne 0x3B inst blkLiftStops }

/-! ### LIFT_DOOR -/

/-- What a door works with: machine, side, axis, first parameter cell, learned travel in counts. -/
structure DoorP where
  mch : Nat
  side : Nat
  a : Nat
  p : Nat
  trav : Int

/-- The open target in Q47.16 (R198). -/
def BCtx.openTgt (c : BCtx) (o : DoorP) : Int := (o.trav - c.par o.p 0) * 65536

/-- The door may leave CLOSED (R198, R199, R274): the car at rest with `INPOS`, SFZONE, the landing's side bit, its travel,
no inspection mode. DEDUCED: a car that has not arrived at a landing by a run, but stands in the zone of one, is at the
nearest landing. -/
def BCtx.mayOpen (c : BCtx) (o : DoorP) : Bool :=
  let x := c.m.mach o.mch
  let k := c.m.lcar o.mch
  let t := c.land o.mch
  let j := match k.atL with
    | some j => j
    | none => nearestLand t (c.ip.qi .MG_POS_LO x.car)
  !c.ip.b F.MG_STAT_MOVING x.car && c.ip.b F.MG_STAT_INPOS x.car && c.permits x.sfZone && bit (landFlags t j) o.side &&
  o.trav != 0 && !c.insp

/-- Write a door target. -/
def BCtx.doorTo (c : BCtx) (o : DoorP) (d : Door) (v : Int) : BCtx × Door :=
  (c.target o.a v (tgtBits + hitBits), { d with judge := c.await, et := 0, force := none })

/-- Enter OPENING. -/
def BCtx.doorOpen (c : BCtx) (o : DoorP) (d : Door) : BCtx × Door :=
  let (c, d) := c.doorTo o d (c.openTgt o)
  (c, { d with st := 1, openReq := false })

/-- The configured `ECAP` back and the buzzer off (R201). -/
def BCtx.nudgeEnd (c : BCtx) (o : DoorP) (d : Door) : BCtx × Door :=
  match d.ecap with
  | some e => ((c.place (R.MG_GOV.idx o.a 0) (c.pend (R.MG_GOV.idx o.a 0) % 65536 + 65536 * e)).termOut o.mch (c.par o.p 10) false,
               { d with ecap := none })
  | none => (c, d)

/-- Enter CLOSED (R199). -/
def BCtx.doorShut (c : BCtx) (o : DoorP) (d : Door) : BCtx × Door :=
  c.nudgeEnd o { d with st := 0, et := 0, lockWait := true, force := none, judge := none }

/-- The axis rests at a target that it has in force; a target that was refused is written again. -/
def BCtx.doorAt (c : BCtx) (o : DoorP) (d : Door) (v : Int) : BCtx × Door × Bool :=
  if !settled d.judge c.ip.f then (c, d, false)
  else if c.ip.qi .MG_TGT_LO o.a ≠ v then
    let (c, d) := c.doorTo o d v
    (c, d, false)
  else (c, d, c.ip.b F.MG_STAT_INPOS o.a)

/-- The force condition of R200 and its time. -/
def BCtx.doorForce (c : BCtx) (o : DoorP) (d : Door) : Door × Bool :=
  match (c.m.mach o.mch).dslot o.side with
  | none => ({ d with force := none }, false)
  | some sl =>
    let spd := (smGet cellDefault c.ip.cells (0x0641 + 2 * c.ip.g F.MG_FB_PORT o.a)).1.toInt
    if c.ip.b F.LP_STAT_CLAMP sl ∧ (spd.natAbs : Int) < c.par o.p 3 then
      match d.force with
      | some n =>
        let n := n + c.dt.toNat
        ({ d with force := some n }, decide (c.parN o.p 4 ≤ n))
      | none => ({ d with force := some 0 }, false)
    else ({ d with force := none }, false)

/-- A call for the landing at which the car stands, in its direction (R200). -/
def BCtx.callHere (c : BCtx) (o : DoorP) : Bool :=
  let k := c.m.lcar o.mch
  match k.atL with
  | some j => bit k.calls j || (bit k.up j && k.dir != 2) || (bit k.dn j && k.dir != 1)
  | none => false

/-- CLOSING and NUDGING: the sources of R200, and arrival. -/
def BCtx.doorClosing (c : BCtx) (o : DoorP) (d : Door) : BCtx × Door :=
  let nudge := d.st == 4
  let (d, force) := c.doorForce o d
  let stall := c.ip.b F.MG_STAT_STALL o.a && c.ip.g F.MG_CFG_TYPE o.a == 2
  let ferr := c.ip.b F.MG_STAT_FERR o.a
  let live := settled d.judge c.ip.f
  let above := decide (c.par o.p 1 * 65536 < c.ip.qi .MG_POS_LO o.a)
  let reopen := c.hasTerm o.mch (c.par o.p 9) && c.fb o.mch (c.par o.p 9) true
  let hit := force || (live && (stall || ferr))
  if (!nudge && (reopen || c.callHere o)) || (hit && above) then
    let (c, d) := c.doorOpen o d
    (c, { d with revs := d.revs + 1 })
  else if hit then
    let c := if stall || ferr then c.place (R.MG_STAT.idx o.a 0) hitBits else c
    c.doorShut o d
  else
    let (c, d, there) := c.doorAt o d 0
    if there then c.doorShut o d else (c, d)

/-- The door starts to close: NUDGING after NREV reversals (R198, R201). -/
def BCtx.doorClose (c : BCtx) (o : DoorP) (d : Door) : BCtx × Door :=
  let (c, d) := c.doorTo o d 0
  if c.parN o.p 5 ≤ d.revs then
    let g := c.pend (R.MG_GOV.idx o.a 0)
    ((c.place (R.MG_GOV.idx o.a 0) (g % 65536 + 65536 * wrap 16 (c.par o.p 6))).termOut o.mch (c.par o.p 10) true,
     { d with st := 4, ecap := some (g / 65536) })
  else (c, { d with st := 3 })

/-- The door's FAULT: the car goes out of service and an event is raised (R199, R202). -/
def BCtx.doorFault (c : BCtx) (o : DoorP) (d : Door) (low : Nat) : BCtx × Door :=
  let c := c.ev low o.mch d.st
  let (c, k) := c.outOf o.mch (c.m.lcar o.mch)
  ({ c with m := c.m.setCar o.mch k }, { d with st := 6, learn := 0, judge := none, toFault := false })

/-! ### Learning (R202, R203) -/

/-- VLEARN in Q8.8 counts per frame. -/
def BCtx.vref (c : BCtx) (o : DoorP) : Nat := wrap 16 (rndDiv (c.par o.p 11 * c.m.L * 256) 400000000)

/-- Step 1: a step axis starts a reference run towards the closed stop, a servo axis runs there with little room. -/
def BCtx.learnBegin (c : BCtx) (o : DoorP) (d : Door) (full : Bool) : BCtx × Door :=
  let d := { d with st := 5, learn := 1, full := full, judge := c.await, force := none }
  if c.ip.g F.MG_CFG_TYPE o.a = 2 then
    ((((c.place (R.MG_STAT.idx o.a 0) 0x100).place64 .MG_REFPOS_LO o.a 0).place (R.MG_REFCFG.idx o.a 0)
        (c.pend (R.MG_REFCFG.idx o.a 0) % 65536 + 65536 * c.vref o)).refCtl o.a 0 1, d)
  else
    let far := if o.trav = 0 then -(2 ^ 31) else -o.trav - c.par o.p 1
    let ferr := c.ip.w (R.MG_FERRLIM.idx o.a 0)
    (((c.place64 .MG_VMAX_LO o.a (c.par o.p 11 * 65536)).place (R.MG_FERRLIM.idx o.a 0) (ferr / 8)).target o.a
        (far * 65536) (tgtBits + hitBits + 0x100),
     { d with vsave := some (c.ip.qi .MG_VMAX_LO o.a), fsave := some ferr })

/-- The configured `MG_VMAX` and `FERRLIM` back. -/
def BCtx.learnRestore (c : BCtx) (o : DoorP) (d : Door) : BCtx × Door :=
  let c := match d.vsave with
    | some v => c.place64 .MG_VMAX_LO o.a v
    | none => c
  let c := match d.fsave with
    | some v => c.place (R.MG_FERRLIM.idx o.a 0) v
    | none => c
  (c, { d with vsave := none, fsave := none })

/-- Write a learned travel to the entry of the machine table in force and on the Key (R202). -/
def Mach.storeTravel (m : Mach) (mch side : Nat) (v : Int) : Mach :=
  let x := m.mach mch
  let m := { m with scan := { m.scan with machs := updAt m.scan.machs mch { x with dtrav := updAt x.dtrav side v } } }
  match m.genInForce 2 with
  | none => m
  | some tab =>
    let e := sliceB tab (64 * mch) 60
    let e := e.take (52 + 4 * side) ++ leBytes 4 (wrap 32 v) ++ e.drop (56 + 4 * side)
    m.genRewrite 2 (tab.take (64 * mch) ++ e ++ leBytes 4 (crc32c e) ++ tab.drop (64 * mch + 64))

/-- The new travel is judged; the door then closes to 0 (steps 4 and 5). -/
def BCtx.learnJudge (c : BCtx) (o : DoorP) (d : Door) (new : Int) : BCtx × Door :=
  let (c, d) := c.learnRestore o d
  if o.trav = 0 ∨ ((o.trav - new).natAbs * 256 : Nat) ≤ (c.par o.p 12 * new : Int) then
    let c := { c with m := c.m.storeTravel o.mch o.side new }
    let (c, d) := c.doorTo o d 0
    (c, { d with learn := 5 })
  else c.doorFault o d 3

/-- One scan of LEARNING. -/
def BCtx.learnStep (c : BCtx) (o : DoorP) (d : Door) : BCtx × Door :=
  let step := c.ip.g F.MG_CFG_TYPE o.a == 2
  let ferr := c.ip.b F.MG_STAT_FERR o.a
  let rest := !c.ip.b F.MG_STAT_MOVING o.a
  let lostZone := d.full && !c.permits (c.m.mach o.mch).sfZone
  let abandon := c.ip.b F.MG_STAT_REFFAIL o.a || (c.ip.b F.MG_STAT_QSTOPACT o.a && !ferr) || lostZone
  if !settled d.judge c.ip.f then (c, d)
  else if abandon then
    let (c, d) := c.learnRestore o d
    c.doorFault o d 3
  else
    match d.learn with
    | 1 =>
      if step then
        if c.ip.b F.MG_STAT_REFBUSY o.a then (c, d)
        else if d.full then (c.refCtl o.a 1 0, { d with learn := 3, judge := c.await, refDone := true })
        else (c, { d with learn := 5, refDone := true })
      else if ferr ∧ rest then
        (((c.place (R.MG_STAT.idx o.a 0) hitBits).place64 .MG_REFPOS_LO o.a 0).refCtl o.a 0 0, { d with learn := 2, judge := c.await })
      else if c.ip.b F.MG_STAT_INPOS o.a then
        let (c, d) := c.learnRestore o d
        c.doorFault o d 3
      else (c, d)
    | 2 =>
      if d.full then
        (c.target o.a (min (2 ^ 47) (c.ip.qi .MG_SMAX_LO o.a)) (tgtBits + hitBits),
         { d with learn := 3, judge := c.await, refDone := true })
      else
        let (c, d) := c.learnRestore o d
        let (c, d) := c.doorTo o d 0
        (c, { d with learn := 5, refDone := true })
    | 3 =>
      if step then
        if c.ip.b F.MG_STAT_REFBUSY o.a then (c, d) else c.learnJudge o d (rnd (c.ip.qi .MG_CAPPOS_LO o.a) 16)
      else if ferr ∧ rest then c.learnJudge o d (rnd (c.ip.qi .MG_FBPOS_LO o.a) 16)
      else if c.ip.b F.MG_STAT_INPOS o.a then
        let (c, d) := c.learnRestore o d
        c.doorFault o d 3
      else (c, d)
    | _ =>
      let (c, d, there) := c.doorAt o d 0
      if there then c.doorShut o { d with learn := 0 } else (c, d)

/-- One scan of a door (R198 to R203). -/
def BCtx.doorScan (c : BCtx) (o : DoorP) (d : Door) (open_ close learn : Bool) : BCtx × Door :=
  let carRest := !c.ip.b F.MG_STAT_MOVING (c.m.mach o.mch).car
  if d.st = 5 then c.learnStep o { d with openReq := d.openReq || open_ }
  else if d.st = 6 then (c, { d with openReq := d.openReq || open_ })
  else if (d.st = 0 ∨ d.st = 2) ∧ learn ∧ !d.learnPrev ∧ carRest ∧ !c.ip.b F.MG_STAT_MOVING o.a then c.learnBegin o d true
  else
    match d.st with
    | 0 =>
      if !d.refDone ∧ o.trav ≠ 0 ∧ carRest ∧ (c.m.lcar o.mch).step = 0 then c.learnBegin o d false
      else
        let ok := c.permits (c.m.mach o.mch).sfChain
        let d := if d.lockWait && ok then { d with lockWait := false, attempts := 0 } else d
        let late := d.lockWait && decide (c.parN o.p 7 ≤ d.et)
        if (d.openReq ∨ open_ ∨ late) ∧ c.mayOpen o then
          let d := if late then { d with attempts := d.attempts + 1, toFault := decide (c.parN o.p 8 ≤ d.attempts) } else d
          let (c, d) := c.doorOpen o { d with lockWait := false }
          (c.tally (136 + 2 * o.mch + o.side), d)
        else (c, { d with openReq := d.openReq || open_ })
    | 1 =>
      let (c, d, there) := c.doorAt o d (c.openTgt o)
      if !there then (c, d)
      else
        let (c, d) := c.nudgeEnd o d
        if d.toFault then c.doorFault o d 2 else (c, { d with st := 2, et := 0 })
    | 2 => if close ∨ c.parN o.p 2 ≤ d.et then c.doorClose o d else (c, d)
    | _ => c.doorClosing o { d with openReq := d.openReq || open_ }

/-- LIFT_DOOR. -/
def blkLiftDoor (c : BCtx) : BCtx :=
  let mch := wrap 3 (c.x 0)
  let side := wrap 1 (c.x 1)
  let x := c.m.mach mch
  match x.door side with
  | none => c
  | some a =>
    let d := c.m.ldoor mch side
    let d := { d with et := d.et + c.dt.toNat, judge := d.judge.map (fun w => w.see c.m.scan.applied) }
    let o : DoorP := { mch := mch, side := side, a := a, p := opIdx (nth c.b.ops 2 0), trav := x.travel side }
    let learn := c.t 5
    let (c, d) := c.doorScan o d (c.t 3) (c.t 4) learn
    let d := { d with learnPrev := learn }
    (({ c with m := c.m.setDoor mch side d }).out 0 d.st).out 1 d.revs

/-- LIFT_DOOR (R272): evaluate instance `inst` of this type. -/
def execLiftDoor (inst : Nat) (s : State) : Host.Outcome State Fault Refusal :=
  .next { s with m := s.m.evalOne 0x3C inst blkLiftDoor }

/-! ### LIFT_GROUP -/

/-- LIFT_GROUP: hall call buttons are registered at this module (R210); the outputs are the registered calls. -/
def blkLiftGroup (c : BCtx) : BCtx :=
  let g := c.m.scan.groups
  let g := { g with hup := (g.hup ||| (wrap 32 (c.x 1) + 2 ^ 32 * wrap 32 (c.x 2))) % 2 ^ 63,
                    hdn := (g.hdn ||| (wrap 32 (c.x 3) + 2 ^ 32 * wrap 32 (c.x 4))) % 2 ^ 63 }
  let c := { c with m := { c.m with scan := { c.m.scan with groups := g } } }
  (((c.out 0 (s32 g.hup)).out 1 (s32 (g.hup / 2 ^ 32))).out 2 (s32 g.hdn)).out 3 (s32 (g.hdn / 2 ^ 32))

/-- LIFT_GROUP (R272): evaluate instance `inst` of this type. -/
def execLiftGroup (inst : Nat) (s : State) : Host.Outcome State Fault Refusal :=
  .next { s with m := s.m.evalOne 0x3D inst blkLiftGroup }

/-! ### ESC_RUN -/

/-- ESC_RUN: the drive axis runs by keeping its target ahead (R207, R208). Its sequence waits on the escalator's feedback
terminals (assumption 42); its waits have the defaults of R189, since ESC_RUN has no parameter for them. -/
def blkEscRun (c : BCtx) : BCtx :=
  let mch := wrap 3 (c.x 0)
  let x := c.m.mach mch
  let a := x.car
  let lead := c.par (opIdx (nth c.b.ops 1 0)) 0 * 65536
  let run := c.t 2
  let dir := if c.t 3 then 2 else 1
  let sg : Int := if dir = 1 then 1 else -1
  let v := c.x 4 * 65536
  let k := c.tickCar (c.m.lcar mch)
  let q : SeqP := { mch := mch, a := a, mainFb := (Config.escTerminal mch 0 % 96 : Nat), brkFb := (Config.escTerminal mch 1 % 96 : Nat) }
  let p := c.ip.qi .MG_POS_LO a
  let rest := !c.ip.b F.MG_STAT_MOVING a
  let edge := run && !k.svcPrev
  let k := { k with fault := k.fault && !edge, svcPrev := run }
  let c := if k.vset = some v ∨ (k.vset.isNone ∧ c.ip.qi .MG_VMAX_LO a = v) then c else c.place64 .MG_VMAX_LO a v
  let k := { k with vset := some v }
  let (c, k) :=
    if k.step = 0 then
      if edge ∧ rest ∧ !k.fault ∧ c.permits x.sfChain then
        let (c, k) := c.begin_ q k 3 (p + lead * sg)
        (c, { k with dir := dir })
      else (c, { k with dir := 0 })
    else if k.step = 3 then c.seqStep q { k with tgt := p + lead * (if k.dir = 1 then 1 else -1) }
    else if k.step = 5 ∧ !k.stopping then
      let s : Int := if k.dir = 1 then 1 else -1
      if !run then (c.ctl a true 0, { k with stopping := true })
      else if c.ip.b F.MG_STAT_INPOS a ∧ settled k.judge c.ip.f then
        let (c, k) := c.seqStep q k
        (c.ev 5 mch 5, k)
      else if settled k.judge c.ip.f ∧ 2 * (k.tgt - p).natAbs < lead.natAbs then
        (c.target a (k.tgt + lead * s) tgtBits, { k with tgt := k.tgt + lead * s, judge := c.await })
      else (c, k)
    else c.seqStep q k
  let st := b2n (k.step != 0) + 2 * b2n rest + 4 * b2n k.fault
  ({ c with m := c.m.setCar mch k }).out 0 st

/-- ESC_RUN (R272): evaluate instance `inst` of this type. -/
def execEscRun (inst : Nat) (s : State) : Host.Outcome State Fault Refusal :=
  .next { s with m := s.m.evalOne 0x3E inst blkEscRun }

/-! ### LIFT_INSP and SF_DIVERSE -/

/-- LIFT_INSP: inspection runs (R274), with the sequence and feedback of the machine's LIFT_CAR. -/
def blkLiftInsp (c : BCtx) : BCtx :=
  let mch := wrap 3 (c.x 0)
  let x := c.m.mach mch
  let a := x.car
  let vinsp := c.par (opIdx (nth c.b.ops 1 0)) 0 * 65536
  let up := c.t 2
  let dn := c.t 3
  let on := c.insp
  let k := c.m.lcar mch
  let rest := !c.ip.b F.MG_STAT_MOVING a
  let q := c.seqOf mch (c.im.carPar mch)
  let mine := k.kind == 2 && k.step != 0
  let (c, k) :=
    if mine then
      let go := on && (if k.inspDir = 1 then up && !dn else dn && !up)
      if !go ∧ !k.stopping ∧ k.step ≤ 5 then
        let c := c.ctl a true 0
        if 4 ≤ k.step then (c, { k with stopping := true, step := 5 })
        else if k.step = 3 then c.brakeOff q { k with stopping := true }
        else c.mainOff q { k with stopping := true }
      else c.seqStep q k
    else if on ∧ up ≠ dn ∧ rest ∧ k.step = 0 then
      let (c, k) := c.begin_ q k 2 (c.ip.qi (if up then .MG_SMAX_LO else .MG_SMIN_LO) a)
      (c.place64 .MG_VMAX_LO a vinsp,
       { k with vsave := some (c.ip.qi .MG_VMAX_LO a), inspDir := if up then 1 else 2 })
    else (c, k)
  let st := b2n on + 2 * b2n (k.kind == 2 && k.step != 0 && !rest)
  ({ c with m := c.m.setCar mch k }).out 0 st

/-- LIFT_INSP (R272): evaluate instance `inst` of this type. -/
def execLiftInsp (inst : Nat) (s : State) : Host.Outcome State Fault Refusal :=
  .next { s with m := s.m.evalOne 0x3F inst blkLiftInsp }

/-- SF_DIVERSE (R273): the three diverse cells of a monitor channel from a capture not used before. -/
def blkSfDiverse (c : BCtx) : BCtx :=
  let mch := wrap 3 (c.x 0)
  let ch := wrap 3 (c.x 1)
  let has := c.im.hasCar mch
  let p := c.im.carPar mch
  let ofs := if has then c.par p 0 else 0
  let lim := if has then c.parN p 1 else 80
  match c.shaft mch ofs with
  | none => c
  | some (ps, age) =>
    let s := c.ip.f - age
    let last := c.m.scan.divs.find? (fun e => e.1 == c.k)
    let fresh := match last with
      | some e => e.2.1 != s
      | none => true
    if lim < age ∨ !fresh then c
    else
      let pc := rnd (c.x 2 * ps) 16
      let d := c.m.g F.SF_MON_CFG_DCELL ch
      let v := match last with
        | some e => satQ (tdivI ((pc - e.2.2) * 65536) ((s : Int) - e.2.1))
        | none => 0
      let c := ((c.ap d (s32 (s % 32768 * 65536))).ap (d + 1) (s32 (wrap 16 pc * 65536))).ap (d + 2) v
      { c with m := { c.m with scan := { c.m.scan with
          divs := (c.m.scan.divs.filter (fun e => e.1 != c.k)) ++ [(c.k, s, pc)] } } }

/-- SF_DIVERSE (R272): evaluate instance `inst` of this type. -/
def execSfDiverse (inst : Nat) (s : State) : Host.Outcome State Fault Refusal :=
  .next { s with m := s.m.evalOne 0x40 inst blkSfDiverse }

end Sys2Proof.Machine
end

