-- ==== Sys2Proof/Machine/Group.lean ====
section
/-! DEFINITION. Group dispatch (spec/09_lift_primitives.md, R209 to R211) and the lift blocks' waits that end at a moment:
one command for each, which evaluates the block concerned when its condition holds on the present input image. -/

namespace Sys2Proof.Machine

open Sys2Proof

/-- The machines of the module that belong to its group, in machine-number order (R210). -/
def Mach.groupCars (m : Mach) : List Nat := (upTo 8).filter (fun i => (m.mach i).lift && (m.mach i).group != 0)

/-- The lifts that the module's assignment runs over (R211): those of its group, or, on an ungrouped module, its own. -/
def Mach.dispatchCars (m : Mach) : List Nat :=
  if m.groupCars.isEmpty then (upTo 8).filter (fun i => (m.mach i).lift) else m.groupCars

/-- The group table of the assignment: the module's, or, on an ungrouped module, one of its own lifts with the landings of their
tables (R211, assumption 43). -/
def Mach.dispatchTable (m : Mach) : Group :=
  let g := m.scan.groups
  if !m.groupCars.isEmpty then g
  else
    { g with kt := Config.ungrouped 0 % 256, ks := Config.ungrouped 1 % 256, full := Config.ungrouped 2 % 256,
             declT := Config.ungrouped 3 % 256,
             members := m.dispatchCars.map (fun i => { addr := m.addr, mach := i, serves := servesOf (m.landings (m.mach i)) }) }

/-- Bits set in a mask of 64. -/
def popcount (v : Nat) : Nat := (setIdx 64 v).length

/-- The car word of a machine (R210), its load in percent given. -/
def Mach.carWord (m : Mach) (i load : Nat) : List Byte :=
  let k := m.lcar i
  let open_ := (m.mach i).sides.any (fun s => (m.ldoor i s).st == 1 || (m.ldoor i s).st == 2)
  let st := if !k.inSvc then 2 else if open_ then 1 else 0
  let decl := match k.decl with
    | some (j, d, _) => j % 64 + 64 * d + 128
    | none => 0
  [Byte.of (k.pl % 64 + 64 * k.dir), Byte.of (k.ns % 64 + 64 * st), Byte.of (min 255 load),
   Byte.of (min 255 (popcount (k.calls ||| k.up ||| k.dn))), Byte.of decl, 0]

/-- The group record of the module (R210). -/
def Mach.groupRecord (m : Mach) (cycle : Nat) (loads : List Nat) : List Byte :=
  let g := m.scan.groups
  let cars := m.dispatchCars
  let b := leBytes 2 g.group ++ leBytes 1 cycle ++ leBytes 1 cars.length ++ leBytes 4 g.crc ++ leBytes 8 g.hup ++
    leBytes 8 g.hdn ++ ((upTo cars.length).map (fun n => m.carWord (nth cars n 0) (nth loads n 0))).flatten
  sliceB b 0 48

/-- A member car as the dispatcher sees it: its word, the machine, and what it serves. -/
structure Cand where
  mem : Member
  w : List Byte

/-- The latest record of a module's address, no more than ABSENT cycles old (R211). -/
def Group.latest (g : Group) (own addr cycle : Nat) : Option (List Byte) :=
  if addr = own then some g.own
  else (g.recs.find? (fun r => r.1 == addr && decide (cycle ≤ r.2.1 + g.absentC))).map (fun r => r.2.2)

/-- The member cars with a record, in table order. -/
def Group.cands (g : Group) (own cycle : Nat) : List Cand :=
  (upTo g.members.length).filterMap (fun n =>
    let e := nth g.members n {}
    let i := ((g.members.take n).filter (fun x => x.addr == e.addr)).length
    (g.latest own e.addr cycle).map (fun r => { mem := e, w := sliceB r (24 + 6 * i) 6 }))

/-- |a − b| of landings. -/
def dist (a b : Nat) : Nat := (a - b) + (b - a)

/-- A car's cost for a hall call (R211); none where it is excluded. `d` is 1 for up, 2 for down. -/
def Cand.cost (c : Cand) (g : Group) (h d : Nat) : Option Nat :=
  let b0 := fieldAt c.w 0 1
  let b1 := fieldAt c.w 1 1
  let pl := b0 % 64
  let dir := b0 / 64
  let ns := b1 % 64
  let st := b1 / 64
  let b4 := fieldAt c.w 4 1
  let declined := bit b4 7 && b4 % 64 == h && b2n (bit b4 6) + 1 == d
  if st = 2 ∨ !bit c.mem.serves h ∨ g.full ≤ fieldAt c.w 2 1 ∨ declined then none
  else
    let t :=
      if dir = 0 then dist h pl
      else if d = dir ∧ (if dir = 1 then decide (pl < h) else decide (h < pl)) then dist h pl
      else dist ns pl + dist ns h
    some (if ns = h then 0 else g.kt * t + g.ks * fieldAt c.w 3 1)

/-- The car that a hall call is assigned to: the first of least cost. -/
def Group.best (g : Group) (cs : List Cand) (h d : Nat) : Option Cand :=
  (cs.foldl (fun (b : Option (Cand × Nat)) c =>
    match c.cost g h d, b with
    | none, _ => b
    | some k, none => some (c, k)
    | some k, some (_, kb) => if k < kb then some (c, k) else b) none).map (fun x => x.1)

/-- GROUP_ASSIGNMENT (R210, R211): at the end of a TDMA cycle the own record is published, served hall calls are cleared,
and the calls are assigned; `loads` are the loads of the module's cars in percent. -/
def Mach.groupAssign (m : Mach) (cycle : Nat) (loads : List Nat) : Mach :=
  let g := m.dispatchTable
  let own := m.addr
  let cars := m.dispatchCars
  let m := each cars m (fun m i =>
    let k := m.lcar i
    match k.decl with
    | some (_, _, c) =>
      if c + g.declT ≤ cycle then
        m.setCar i { k with decl := k.declq.head?.map (fun (x : Nat × Nat) => (x.1, x.2, cycle)), declq := k.declq.drop 1 }
      else m
    | none => m)
  let g : Group := { g with cycle := cycle, own := m.groupRecord cycle loads }
  let cs := g.cands own cycle
  let served := cs.foldl (fun a c => if fieldAt c.w 1 1 / 64 = 1 then setBit a (fieldAt c.w 0 1 % 64) true else a) 0
  let g := { g with hup := g.hup - (g.hup &&& served), hdn := g.hdn - (g.hdn &&& served) }
  let recs := [own :: (g.members.map (fun e => e.addr)).filter (fun a => a != own)].flatten
  let calls (o : Nat) : Nat := recs.foldl (fun a ad =>
    if ad = own then a ||| (if o = 8 then g.hup else g.hdn)
    else match g.latest own ad cycle with
      | some r => a ||| fieldAt r o 8
      | none => a) 0
  let up := calls 8
  let dn := calls 16
  let give (m : Mach) (h d : Nat) : Mach :=
    match g.best cs h d with
    | some c =>
      if c.mem.addr = own then
        let k := m.lcar c.mem.mach
        m.setCar c.mem.mach (if d = 1 then { k with up := setBit k.up h true } else { k with dn := setBit k.dn h true })
      else m
    | none => m
  let m : Mach := { m with scan := { m.scan with groups := { m.scan.groups with cycle := g.cycle, own := g.own, hup := g.hup, hdn := g.hdn } } }
  let m := each cars m (fun m i => m.setCar i { m.lcar i with up := 0, dn := 0 })
  each (upTo 63) m (fun m h =>
    let m := if bit up h then give m h 1 else m
    if bit dn h then give m h 2 else m)

/-- GROUP_ASSIGNMENT (R211). -/
def execGroupAssignment (cycle : Nat) (loads : List Nat) (s : State) : Host.Outcome State Fault Refusal :=
  .next { s with m := s.m.groupAssign cycle loads }

/-! ### Waits that end -/

/-- The instance of a lift block of a machine and side, with its Δ on the present input image and its first parameter cell. -/
def Mach.liftInst (m : Mach) (typ mch : Nat) (side : Option Nat) : Option (Nat × Nat × Nat) :=
  match m.scan.img, m.scan.inp with
  | some im, some ip =>
    ((upTo im.blks.length).find? (fun i =>
      let b := nth im.blks i {}
      b.typ == typ && im.constOf (nth b.ops 0 0) == mch &&
      (match side with
       | none => true
       | some s => im.constOf (nth b.ops 1 0) == s))).map (fun i =>
      let st := smGet (fun _ => ({} : BSt)) m.scan.bst i
      (i, (if st.seen then ip.f - st.fprev else 0), opIdx (nth (nth im.blks i {}).ops (if side.isSome then 2 else 1) 0)))
  | _, _ => none

/-- A parameter cell as a count of frames. -/
def Mach.parAt (m : Mach) (p i : Nat) : Nat := (m.word (0x8000 + p + i)).toInt.toNat

/-- Evaluate a machine's LIFT_CAR if a condition on its car, Δ and parameters holds. -/
def Mach.carWhen (m : Mach) (mch : Nat) (ok : Car → Nat → Nat → Bool) : Mach :=
  match m.liftInst 0x3A mch none with
  | some (i, dt, p) => if ok (m.lcar mch) dt p then m.evalOne 0x3A i blkLiftCar else m
  | none => m

/-- Evaluate a door's LIFT_DOOR if a condition on the door, Δ and parameters holds. -/
def Mach.doorWhen (m : Mach) (mch side : Nat) (ok : Door → Nat → Nat → Bool) : Mach :=
  match m.liftInst 0x3C mch (some side) with
  | some (i, dt, p) => if ok (m.ldoor mch side) dt p then m.evalOne 0x3C i blkLiftDoor else m
  | none => m

/-- LIFT_WAIT_TIMEOUT (R193, R194): a feedback wait reaches its limit. -/
def execLiftWaitTimeout (mch : Nat) (s : State) : Host.Outcome State Fault Refusal :=
  .next { s with m := s.m.carWhen mch (fun k dt p =>
    ((k.step == 1 || k.step == 9) && decide (s.m.parAt p 12 ≤ k.et + dt)) ||
    ((k.step == 3 || k.step == 7) && decide (s.m.parAt p 14 ≤ k.et + dt))) }

/-- RELEVEL_LIMIT (R195): more than RLMAX re-levels would fall within 2,400,000 frames. -/
def execRelevelLimit (mch : Nat) (s : State) : Host.Outcome State Fault Refusal :=
  .next { s with m := s.m.carWhen mch (fun k _ p =>
    k.step == 0 && decide (s.m.parAt p 7 ≤ (k.relevs.filter (fun f =>
      match s.m.scan.inp with
      | some ip => decide (ip.f < f + 2400000)
      | none => false)).length)) }

/-- SHAFT_SOURCE_LOST (R192): the shaft source has been unusable for 4·SHAGE frames while the car moves. -/
def execShaftSourceLost (mch : Nat) (s : State) : Host.Outcome State Fault Refusal :=
  .next { s with m := s.m.carWhen mch (fun k dt p => decide (0 < k.unus) && decide (4 * s.m.parAt p 1 ≤ k.unus + dt)) }

/-- DOOR_DWELL_EXPIRY (R198): the door has been OPEN for DWELL frames. -/
def execDoorDwellExpiry (mch side : Nat) (s : State) : Host.Outcome State Fault Refusal :=
  .next { s with m := s.m.doorWhen mch side (fun d dt p => d.st == 2 && decide (s.m.parAt p 2 ≤ d.et + dt)) }

/-- DOOR_LOCK_TIMEOUT (R199): SFCHAIN does not permit TLOCK frames after CLOSED. -/
def execDoorLockTimeout (mch side : Nat) (s : State) : Host.Outcome State Fault Refusal :=
  .next { s with m := s.m.doorWhen mch side (fun d dt p => d.st == 0 && d.lockWait && decide (s.m.parAt p 7 ≤ d.et + dt)) }

/-- DOOR_FORCE_TIMEOUT (R200): the force condition has lasted OBSN frames. -/
def execDoorForceTimeout (mch side : Nat) (s : State) : Host.Outcome State Fault Refusal :=
  .next { s with m := s.m.doorWhen mch side (fun d dt p =>
    match d.force with
    | some n => decide (s.m.parAt p 4 ≤ n + dt)
    | none => false) }

end Sys2Proof.Machine
end

