-- ==== Sys2Proof/Machine/Packet.lean ====
section
/-! DEFINITION. Command packets (spec/17_zenxon_link.md, R379 to R388; R30 to R32): layouts, sessions and roles, the checks
of a request that is executed, and its reply. -/

namespace Sys2Proof.Machine

open Sys2Proof

/-! ### Status codes (R384) -/

def OK : Nat := 0x0
def UNKNOWN : Nat := 0x1
def ROLE : Nat := 0x2
def LENGTH : Nat := 0x3
def RANGE : Nat := 0x4
def WRONG_STATE : Nat := 0x5
def BUSY : Nat := 0x6
def MEMFAULT : Nat := 0x7
def HALLMARK : Nat := 0x8
def CONFIG : Nat := 0x9
def KEYREF : Nat := 0xA
def LOCKOUT : Nat := 0xB
def NOFIELD : Nat := 0xC
def SIGNATURE : Nat := 0xD
def CHECK : Nat := 0xE
def LOST : Nat := 0xF

/-- What an operation answers: the machine, the status, the reply data. -/
abbrev Ans := Mach × Nat × List Byte

/-- A refusal: nothing has changed. -/
def Mach.refuse (m : Mach) (st : Nat) : Ans := (m, st, [])

/-- An answer without data. -/
def Mach.ok (m : Mach) : Ans := (m, OK, [])

/-- An answer with data. -/
def Mach.okData (m : Mach) (d : List Byte) : Ans := (m, OK, d)

/-! ### Layouts (R379) -/

/-- The bytes of a reply: its request's SEQ and OPC, DST and SRC exchanged. -/
def replyBytes (own : Nat) (r : Reply) (cached : Bool) : List Byte :=
  let b := leBytes 2 0xA5C3 ++ leBytes 2 r.data.length ++ leBytes 2 r.src ++ leBytes 2 own ++ leBytes 2 r.seq ++
    leBytes 1 r.op ++ leBytes 1 (1 + 4 * b2n cached) ++ leBytes 2 r.status ++ r.data
  b ++ leBytes 4 (crc32c b)

/-- SYNC, LEN and CRC of a request hold (R380 step 1). -/
def reqOk (b : List Byte) : Bool :=
  let n := fieldAt b 2 2
  fieldAt b 0 2 == 0xA5C3 && decide (n ≤ 4032) && b.length == n + 16 && fieldAt b (n + 12) 4 == crc32c (b.take (n + 12))

/-- The request that bytes hold. -/
def reqOf (b : List Byte) : Pkt :=
  { src := fieldAt b 6 2, seq := fieldAt b 8 2, op := fieldAt b 10 1, payload := sliceB b 12 (fieldAt b 2 2) }

/-! ### Sessions and roles (R30 to R32, R387) -/

/-- The session of a source, by its entry. -/
def Mach.session (m : Mach) (src : Nat) : Option Nat :=
  (upTo 32).find? (fun j => m.b F.ZL_SESS_VALID j && m.g F.ZL_SESS_SRC j == src)

/-- The role of a source: 0 none, 1 observer, 2 maintainer, 3 commissioner. -/
def Mach.roleOf (m : Mach) (src : Nat) : Nat :=
  match m.session src with
  | some j => m.g F.ZL_SESS_ROLE j + 1
  | none => if m.b F.DEV_ROLE_STAT_OBS_SET then 0 else 1

/-- A session ends: its event (R387). -/
def Mach.endSession (m : Mach) (j : Nat) : Mach :=
  (m.sw .ZL_SESS 0 j).hraise 0x100A 0x30 (m.g F.ZL_SESS_SRC j) (m.g F.ZL_SESS_ROLE j)

/-- A packet from a source keeps its session (R387). -/
def Mach.touch (m : Mach) (src : Nat) : Mach :=
  match m.session src with
  | some j => m.s F.ZL_SESS_IDLE 0 j
  | none => m

/-! ### Replies (R374, R382) -/

/-- The reply of an accepted request is ready. -/
def Mach.answer (m : Mach) (src seq op status : Nat) (data : List Byte) : Mach :=
  let f (a : Waiting) : Waiting :=
    if a.reply.isNone && a.pkt.src == src && a.pkt.seq == seq && a.pkt.op == op then
      { a with reply := some { src := src, seq := seq, op := op, status := status, data := data } } else a
  { m with link := { m.link with accepted := m.link.accepted.map f } }

/-- A request is accepted: its reply will leave in this order. -/
def Mach.accept (m : Mach) (p : Pkt) : Mach := { m with link := { m.link with accepted := m.link.accepted ++ [{ pkt := p }] } }

/-- A request can cross the barrier: some lane is in service (R384 NOFIELD, R389). -/
def Mach.fieldReach (m : Mach) : Bool := m.g F.DEV_BAR_STAT_INSERV != 0

/-- Steps 6 to 10 of R380: the role, LENGTH and RANGE, then the state (NOFIELD before any other status of the state), then
the execution. -/
def Mach.runRole (m : Mach) (p : Pkt) (need : Nat) (field : Bool) (f : Mach → Pkt → Ans) : Ans :=
  if p.role < need then m.refuse ROLE
  else
    let a := f m p
    if field && !m.fieldReach && a.2.1 != LENGTH && a.2.1 != RANGE && a.2.1 != ROLE then m.refuse NOFIELD else a

/-- A request accepted and executed now with the role of its source (R380 steps 6 to 10): `need` is the least role, `field`
whether it needs the field domain. Its reply is ready at once; a request that needs the field domain while no frame ticks crosses the
barrier and waits for the first end of latch (R23). -/
def Mach.runOp (m : Mach) (op src seq : Nat) (payload : List Byte) (need : Nat) (field : Bool) (f : Mach → Pkt → Ans) : Mach :=
  if !m.hostUp then m
  else
    let p : Pkt := { src := src, seq := seq, op := op, role := m.roleOf src, payload := payload }
    let m := (m.touch src).accept p
    if field && need ≤ p.role && m.fieldReach && !m.ticking then m.newMsg true tCMD (ceilDiv payload.length 32) (.cmd p)
    else
      let (m, st, d) := m.runRole p need field f
      m.answer src seq op st d

/-- Bytes of a payload as a number. -/
def Pkt.n (p : Pkt) (o k : Nat) : Nat := fieldAt p.payload o k

/-- LEN of a payload. -/
def Pkt.len (p : Pkt) : Nat := p.payload.length

end Sys2Proof.Machine
end

