-- ==== Sys2Proof/Machine/Scan.lean ====
section
/-! DEFINITION. Scans (spec/12_scan_programs.md, R257 to R263, R275 to R279; R37): the input image, parameter batches, the
evaluation of every block, what a commit point takes, and the program opcodes. -/

namespace Sys2Proof.Machine

open Sys2Proof

/-- The function of each block TYPE (R269, R272). -/
def blockFn (typ : Nat) : BCtx → BCtx :=
  match typ with
  | 0x01 => blkAnd | 0x02 => blkOr | 0x03 => blkXor | 0x04 => blkNot | 0x05 => blkSr | 0x06 => blkRs
  | 0x07 => blkRTrig | 0x08 => blkFTrig | 0x09 => blkTp | 0x0A => blkTon | 0x0B => blkTof | 0x0C => blkCtu
  | 0x0D => blkCtd | 0x0E => blkCtud | 0x0F => blkGt | 0x10 => blkGe | 0x11 => blkEq | 0x12 => blkNe
  | 0x13 => blkLe | 0x14 => blkLt | 0x15 => blkAdd | 0x16 => blkSub | 0x17 => blkMul | 0x18 => blkDiv
  | 0x19 => blkMod | 0x1A => blkAbs | 0x1B => blkNeg | 0x1C => blkMin | 0x1D => blkMax | 0x1E => blkLimit
  | 0x1F => blkSel | 0x20 => blkMux | 0x21 => blkMove | 0x22 => blkQadd | 0x23 => blkQsub | 0x24 => blkQmul
  | 0x25 => blkQdiv | 0x26 => blkQscale | 0x27 => blkDintToQ | 0x28 => blkQToDint | 0x29 => blkHyst | 0x2A => blkLag
  | 0x2B => blkRamp | 0x2C => blkBlink | 0x2D => blkPack | 0x2E => blkUnpack | 0x2F => blkRdReg | 0x30 => blkWrReg
  | 0x31 => blkWrReg64 | 0x32 => blkEventBlock | 0x33 => blkMarkBlock | 0x34 => blkDmaCopy | 0x35 => blkCbRx
  | 0x36 => blkCbTx | 0x37 => blkStnStat | 0x38 => blkFrameBlock | 0x39 => blkRtc | 0x3A => blkLiftCar
  | 0x3B => blkLiftStops | 0x3C => blkLiftDoor | 0x3D => blkLiftGroup | 0x3E => blkEscRun | 0x3F => blkLiftInsp
  | 0x40 => blkSfDiverse
  | _ => id

/-! ### The input image (R258) -/

/-- The registers of the input image beside terminals and safety: the axes and slots of the machines. -/
def Mach.imageIdx (m : Mach) : List Nat :=
  let ms := m.scan.machs.filter (fun x => x.typ != 0)
  (ms.map (fun x =>
    ((upTo x.naxes).map (fun o => List.range' (R.MG_CFG.idx (x.axis o) 0) 0x3C)).flatten ++
    (upTo x.nslots).map (fun o => R.LP_STAT.idx (x.slot o) 0))).flatten

/-- The shaft source of a machine: its capture if it is valid, else what was known before (R190). -/
def Mach.shaftNow (m : Mach) (torn : List (Nat × Nat)) (x : Machn) (old : Option (Int × Nat)) : Mach × Option (Int × Nat) :=
  if x.typ = 0 then (m, none)
  else if x.shSrc < 8 then
    (m, if m.b F.ADC_EP_STAT_VALID x.shSrc && !m.b F.ADC_EP_STAT_OLD x.shSrc then
        some (m.gi F.ADC_EP_POS x.shSrc, m.frame) else old)
  else if 16 ≤ x.shSrc ∧ x.shSrc < 20 then
    let (m, r) := m.readNew (x.shSrc - 16) x.shBuf 4 (torn.contains (x.shSrc - 16, x.shBuf))
    (m, match r with
        | some d => some (sgn 32 (fieldAt d 0 4), m.frame)
        | none => old)
  else (m, none)

/-- The input image of this end of latch (R258); `insp` is the SP's inspection word. -/
def Mach.latchImage (m : Mach) (insp : Nat) (torn : List (Nat × Nat)) : Mach :=
  match m.scan.img with
  | none => m
  | some im =>
    let old := match m.scan.inp with
      | some p => p.shaft
      | none => []
    let (m, sh) := (upTo 8).foldl (fun (acc : Mach × List (Option (Int × Nat))) i =>
      let (m, v) := acc.1.shaftNow torn (acc.1.mach i) (nth old i none)
      (m, acc.2 ++ [v])) (m, [])
    let idx := (upTo 3).map (fun k => R.TRM_IN.idx k 0) ++ (upTo 3).map (fun k => R.TRM_FSUM.idx k 0) ++
      [R.SF_STAT.idx 0 0, R.SF_PERMIT.idx 0 0, R.SF_DEGRADED.idx 0 0, R.SF_FAILED.idx 0 0] ++ m.imageIdx
    let reg := each idx [] (fun (l : List (Nat × Word)) i => smPut (fun _ => (0 : Word)) l i (m.view i))
    let doors := ((upTo 32).filter (fun a => m.b F.MG_FB_FBEN a)).map (fun a => 0x0641 + 2 * m.g F.MG_FB_PORT a)
    let cells := each (im.cells ++ doors) [] (fun (l : List (Nat × Word × Bool)) n => smPut cellDefault l n (m.cell n))
    let ip : InImg :=
      { f := m.frame, reg := reg, cells := cells, stn := (upTo im.stns.length).map m.stnImage, insp := insp, shaft := sh }
    { m with scan := { m.scan with inp := some ip } }

/-! ### Scans -/

/-- A scan that has lasted longer than SCANMAX frames fails the active AP (R262). -/
def Mach.scanLate (m : Mach) : Mach :=
  match m.scan.cur, m.scan.img, m.activeAp with
  | some o, some im, some e =>
    if o.t0 + im.scanMax * m.L < min o.t1 m.now then
      if m.dx.faults.contains (e, 2) then m else { m with dx := { m.dx with faults := m.dx.faults ++ [(e, 2)] } }
    else m
  | _, _, _ => m

/-- The scan running has ended by FCLK cycle `now`: its output image and write list wait for a commit point. -/
def Mach.settleScan (m : Mach) : Mach :=
  let m := m.scanLate
  match m.scan.cur with
  | some o =>
    if o.t1 ≤ m.now then
      { m with scan := { m.scan with cur := none, done := m.scan.done ++ [o], completed := m.scan.completed + 1 } }
    else m
  | none => m

/-- The applied value of a parameter cell (R275). -/
def Mach.setPar (m : Mach) (c : Nat) (v : Int) : Mach := m.setWord (0x8000 + c) (Word.of (wrap 32 v))

/-- The applied values in declaration order (R419). -/
def Mach.parVals (m : Mach) (im : Image) : List Int := im.params.map (fun d => (m.word (0x8000 + d.cell)).toInt)

/-- One batch is applied at the boundary before the scan of frame f (R277). -/
def applyBatch (f : Nat) (m : Mach) (b : Batch) : Mach :=
  let m := each b.entries m (fun m e => m.setPar e.1 e.2)
  let m := m.raise 0x0C00 m.apSrc b.ticket (f % 2 ^ 32)
  { m with scan := { m.scan with lastTicket := b.ticket, lastApp := f } }

/-- Step 2 of a scan (R257, R277): every pending batch in acceptance order, then the parameter table on the Key. -/
def Mach.applyBatches (m : Mach) (im : Image) (f : Nat) : Mach :=
  let (due, rest) := (m.scan.batches.filter (fun b => decide (b.frame ≤ f)), m.scan.batches.filter (fun b => decide (f < b.frame)))
  if due.isEmpty then m
  else
    let m := each due { m with scan := { m.scan with batches := rest } } (applyBatch f)
    m.parWrite im.imgid (m.parVals im)

/-- Step 4 of a scan: every block instance once, in the order of the block table. -/
def Mach.runBlocks (m : Mach) (im : Image) (ip : InImg) : Mach :=
  (im.blks.foldl (fun (acc : Mach × Nat) b => (acc.1.evalBlk im ip acc.2 b (blockFn b.typ), acc.2 + 1)) (m, 0)).1

/-- A scan may start: a side is active, an image and an input image are there, no scan runs, the write queue has room
for 16,384 words (R260), and no synchronous station holds it back (R282). -/
def Mach.scanMay (m : Mach) : Bool :=
  m.activeAp.isSome && m.scan.img.isSome && m.scan.inp.isSome && m.scan.cur.isNone &&
  decide ((m.scan.done.foldl (fun a o => a + o.wl.length) 0) ≤ 16384) && m.stnIds.all m.stnReady && m.ticking

/-- Values of a list keyed by index under their new indices, as a state map names them. -/
def mapKeys {α : Type} (mp : List (Nat × Nat × Nat)) (kind : Nat) (l : List (Nat × α)) : List (Nat × α) :=
  (mp.filter (fun e => e.1 == kind)).filterMap (fun e => (l.find? (fun p => p.1 == e.2.1)).map (fun p => (e.2.2, p.2)))

/-- Put the entries of a list into a map in ascending order of key, the first of equal keys. -/
def sortKeys {α : Type} (l : List (Nat × α)) : List (Nat × α) := l.foldr (fun p a => smIns (smDel a p.1) p.1 p.2) []

/-- The scan boundary of an update activation (R406): machine and group tables change, and where the image changes the state
passes as the state map names it; a parameter cell declared in both images with one type keeps a value inside the new range; each
pending batch is discarded with its event (R277). -/
def Mach.scanSwap (m : Mach) : Mach :=
  if !m.upd.newScan then m
  else
    let u := m.upd
    let m : Mach := { m with upd := { u with newScan := false, img := none, machs := [], grp := {}, map := [] } }
    match u.img, m.scan.img with
    | some im, some old =>
      let g := { u.grp with hup := m.scan.groups.hup, hdn := m.scan.groups.hdn, recs := m.scan.groups.recs,
                            own := m.scan.groups.own, cycle := m.scan.groups.cycle }
      let m : Mach := { m with scan := { m.scan with machs := u.machs, groups := g } }
      if im.raw = old.raw then m
      else
        let mp := Config.stateMap u.map
        let k := m.scan
        let stns := (upTo im.stns.length).map (fun i =>
          if nth im.stns i {} = nth old.stns i {} ∧ i < old.stns.length then nth k.stns i {} else ({ mode := 1 } : Stn))
        let vals := im.params.map (fun d =>
          let was := (m.word (0x8000 + d.cell)).toInt
          if old.params.any (fun q => q.cell == d.cell && q.typ == d.typ) ∧ d.lo ≤ was ∧ was ≤ d.hi then was else d.init)
        let m : Mach := { m with scan := { k with img := some im, vars := sortKeys (mapKeys mp 0 k.vars), bst := sortKeys (mapKeys mp 1 k.bst),
                                                  ap := [], term := 0, stnOut := [], batches := [], stns := stns,
                                                  divs := mapKeys mp 1 k.divs } }
        let m := each old.params m (fun m d => m.setPar d.cell 0)
        let m := each (im.params.zip vals) m (fun m p => m.setPar p.1.cell p.2)
        each k.batches m (fun m b => m.raise 0x0C01 m.apSrc b.ticket ((k.inp.map (fun ip => ip.f)).getD m.frame % 2 ^ 32))
    | _, _ => m

/-- A scan of `dur` cycles that starts now (R257). -/
def Mach.scanRun (m : Mach) (dur : Nat) (torn : List (Nat × Nat)) : Mach :=
  let m := m.settleScan
  if !m.scanMay then m
  else
    let m := m.scanSwap
    match m.scan.img, m.scan.inp with
    | some im, some ip =>
      let f := ip.f
      let per := match m.scan.lastF with
        | some l => f - l
        | none => 0
      let m := each m.stnIds m (stnBoundary f)
      let m := { m with scan := { m.scan with num := m.scan.num + 1, lastF := some f, period := per,
                                              longest := max m.scan.longest per, wl := [], torn := torn } }
      let m := m.applyBatches im f
      let m := m.runBlocks im ip
      let k := m.scan
      let o : ScanOut :=
        { num := k.num, f := f, term := k.term, ap := k.ap, stn := k.stnOut, wl := k.wl, t0 := m.now, t1 := m.now + dur }
      { m with scan := { k with torn := [], wl := [], cur := some o } }
    | _, _ => m

/-- SCAN (R257): at cycle c of the frame a scan starts whose execution takes `dur` cycles; `torn` are the buffers
whose live reads are torn (R315). -/
def execScan (c dur : Nat) (torn : List (Nat × Nat)) (s : State) : Host.Outcome State Fault Refusal :=
  .next { s with m := (s.m.at c).scanRun dur torn }

/-- SCAN_TOO_LONG (R262). -/
def execScanTooLong (c : Nat) (s : State) : Host.Outcome State Fault Refusal :=
  .next { s with m := (s.m.at c).scanLate }

/-! ### The commit point (R37, R259, R281) -/

/-- The terminal bits, AP cells and station words of an image are taken. -/
def Mach.takeImage (m : Mach) (o : ScanOut) : Mach :=
  let m := trmTake m o.term
  let m := each (upTo 256) m (fun m i => m.putFresh (0x0700 + i) (smGet (fun _ => (0 : Int)) o.ap i) true)
  each m.stnIds m (stnOutput (o.num % 256) o.stn)

/-- What the commit point takes: the write lists of the scans completed since the last one, in order, and the newest
image; without one, the previous image again. The write lists are answered for their application. -/
def Mach.scanCommit (m : Mach) : Mach × List (Nat × Word) × Bool :=
  let m := m.settleScan
  let wl := (m.scan.done.map (fun o => o.wl)).flatten
  match m.scan.done.getLast? with
  | some o =>
    let m := { m with scan := { m.scan with done := [], shown := some o, taken := m.scan.taken + 1, applied := (o.num, m.frame) } }
    (m.takeImage o, wl, true)
  | none =>
    match m.scan.shown with
    | some o => (m.takeImage o, [], false)
    | none => (m, [], false)

/-! ### The program opcodes (R279) -/

/-- PRG_STATUS: 44 bytes. -/
def opPrgStatus (m : Mach) (p : Pkt) : Ans :=
  if p.len ≠ 0 then m.refuse LENGTH
  else
    let k := m.scan
    let mask (f : Stn → Bool) : Nat := (upTo 64).foldl (fun a i => if m.stnIds.contains i && f (m.stn i) then a + 2 ^ i else a) 0
    let st := match k.img with
      | none => 0
      | some _ => if m.activeAp.isSome && m.st != stHELD then 1 else 2
    m.okData (leBytes 4 ((k.img.map (fun i => i.imgid)).getD 0) ++ leBytes 1 st ++ leBytes 1 0 ++ leBytes 4 k.num ++
      leBytes 2 (min 65535 k.period) ++ leBytes 2 (min 65535 k.longest) ++ leBytes 2 k.lastTicket ++ leBytes 1 k.batches.length ++
      leBytes 1 0 ++ leBytes 8 k.lastApp ++ leBytes 8 (mask (fun x => x.absent)) ++ leBytes 8 (mask (fun x => x.sync)) ++ leBytes 2 0)

/-- IMG_READ: bytes of the image in force. -/
def opImgRead (m : Mach) (p : Pkt) : Ans :=
  let o := p.n 0 4
  let n := p.n 4 2
  if p.len ≠ 6 ∨ n = 0 ∨ 4000 < n then m.refuse LENGTH
  else
    match m.scan.img with
    | none => m.refuse WRONG_STATE
    | some im => if im.raw.length < o + n then m.refuse LENGTH else m.okData (sliceB im.raw o n)

/-- The entries of a batch: cell and value. -/
def batchOf (b : List Byte) (n : Nat) : List (Nat × Int) :=
  (upTo n).map (fun i => (fieldAt b (8 * i) 2, sgn 32 (fieldAt b (8 * i + 4) 4)))

/-- A batch names an undeclared cell, a value outside MIN to MAX, or a cell twice (R276). -/
def batchRange (im : Image) (es : List (Nat × Int)) : Bool :=
  !(es.all (fun e => im.params.any (fun d => d.cell == e.1 && decide (d.lo ≤ e.2) && decide (e.2 ≤ d.hi)))) ||
  !(noDup (es.map (fun e => e.1)))

/-- The ticket after another (R276). -/
def nextTicket (t : Nat) : Nat := if 65535 ≤ t then 1 else t + 1

/-- The frames of a fail-over in which commands of control are refused (R291). -/
def Mach.inGap (m : Mach) : Bool :=
  match m.dx.gapFrame with
  | some n => m.frame == n || m.frame == n + 1
  | none => false

/-- Accept a batch, or refuse it as a whole with the first status that holds (R276, R291). -/
def Mach.batch (m : Mach) (imgid : Option Nat) (es : List (Nat × Int)) : Ans :=
  match m.scan.img with
  | none => m.refuse (if 256 < es.length then LENGTH else if es.isEmpty then WRONG_STATE else RANGE)
  | some im =>
    if 256 < es.length then m.refuse LENGTH
    else if batchRange im es then m.refuse RANGE
    else if imgid.getD im.imgid ≠ im.imgid then m.refuse WRONG_STATE
    else if m.inGap ∨ m.upd.newScan ∨ (m.upd.go ∧ m.frame < m.q .UPD_FRAME_LO) ∨ 4 ≤ m.scan.batches.length then m.refuse BUSY
    else
      let t := nextTicket m.scan.ticket
      let b : Batch := { ticket := t, frame := m.frame, entries := es }
      let m := { m with scan := { m.scan with ticket := t, batches := m.scan.batches ++ [b] } }
      m.okData (leBytes 2 t)

/-- PARAM_BATCH. -/
def opParamBatch (m : Mach) (p : Pkt) : Ans :=
  let n := p.n 4 2
  if p.len < 8 ∨ 256 < n ∨ p.len ≠ 8 + 8 * n then m.refuse LENGTH
  else
    let b := p.payload.drop 8
    if p.n 6 2 ≠ 0 ∨ (upTo n).any (fun i => fieldAt b (8 * i + 2) 2 != 0) then m.refuse RANGE
    else m.batch (some (p.n 0 4)) (batchOf b n)

/-- PARAM_READ: values from a first cell. -/
def opParamRead (m : Mach) (p : Pkt) : Ans :=
  let c := p.n 0 2
  let n := p.n 2 2
  if p.len ≠ 4 ∨ n = 0 ∨ 1000 < n ∨ 32768 < c + n then m.refuse LENGTH
  else m.okData ((upTo n).map (fun i => leBytes 4 (m.word (0x8000 + c + i)).toNat)).flatten

/-- STN_TEST: TEST of the stations of a mask at the next scan boundary, or its end. -/
def opStnTest (m : Mach) (p : Pkt) : Ans :=
  if p.len ≠ 12 then m.refuse LENGTH
  else
    let d := p.n 8 4
    let ids := m.stnIds.filter (fun k => bit (p.n 0 8) k)
    (each ids m (fun m k => if d = 0 then m.stnTestEnd k else m.setStn k { m.stn k with testReq := some d })).ok

/-- IMG_PUT: bytes join the staged image. -/
def opImgPut (m : Mach) (p : Pkt) : Ans :=
  let n := p.len - 4
  if p.len < 5 ∨ 4000 < n ∨ 524288 < p.n 0 4 + n then m.refuse LENGTH
  else
    ({ m with scan := { m.scan with staged := cellsStore m.scan.staged (p.n 0 4) (p.payload.drop 4) } }).ok

/-- PRG_STATUS (R279). -/
def execPrgStatus (src seq : Nat) (payload : List Byte) (s : State) : Host.Outcome State Fault Refusal :=
  .next { s with m := s.m.runOp 0x20 src seq payload 1 true opPrgStatus }

/-- IMG_READ (R279). -/
def execImgRead (src seq : Nat) (payload : List Byte) (s : State) : Host.Outcome State Fault Refusal :=
  .next { s with m := s.m.runOp 0x21 src seq payload 1 true opImgRead }

/-- PARAM_BATCH (R276, R279). -/
def execParamBatch (src seq : Nat) (payload : List Byte) (s : State) : Host.Outcome State Fault Refusal :=
  .next { s with m := s.m.runOp 0x22 src seq payload 2 true opParamBatch }

/-- PARAM_READ (R279). -/
def execParamRead (src seq : Nat) (payload : List Byte) (s : State) : Host.Outcome State Fault Refusal :=
  .next { s with m := s.m.runOp 0x23 src seq payload 1 true opParamRead }

/-- STN_TEST (R279, R282). -/
def execStnTest (src seq : Nat) (payload : List Byte) (s : State) : Host.Outcome State Fault Refusal :=
  .next { s with m := s.m.runOp 0x24 src seq payload 2 true opStnTest }

/-- IMG_PUT (R279). -/
def execImgPut (src seq : Nat) (payload : List Byte) (s : State) : Host.Outcome State Fault Refusal :=
  .next { s with m := s.m.runOp 0x25 src seq payload 2 false opImgPut }

end Sys2Proof.Machine
end

