-- ==== Sys2Proof/Machine/Duplex.lean ====
section
/-! DEFINITION. Duplex control (spec/13_duplex_and_spares.md, R285 to R298) and HELD (spec/19_start_and_power.md, R427). -/

namespace Sys2Proof.Machine

open Sys2Proof

/-! ### Sides (R285) -/

/-- The state of a side. -/
def Mach.side (m : Mach) (x : Nat) : Nat := if x = 0 then m.g F.DX_STAT_STATEA else m.g F.DX_STAT_STATEB

/-- Set it. Its engine runs firmware in service while it is ACTIVE, STANDBY or SYNCING. -/
def Mach.setSide (m : Mach) (x st : Nat) : Mach :=
  let m := if x = 0 then m.s F.DX_STAT_STATEA st else m.s F.DX_STAT_STATEB st
  m.setb F.DEV_ENG_RUN_RUN x (st == 1 || st == 2 || st == 3)

/-- The side that is not active, while one is. -/
def Mach.otherSide (m : Mach) : Option Nat := m.activeAp.map (fun a => 1 - a)

/-- The counts of the last 86,400 s (`DX_SIDE`). -/
def Mach.showSides (m : Mach) : Mach :=
  let m := { m with dx := { m.dx with takeBacks := recent m.now m.dx.takeBacks, restarts := recent m.now m.dx.restarts } }
  each [0, 1] m (fun m x =>
    (m.s F.DX_SIDE_TB24 (min 15 (countOf m.dx.takeBacks x)) x).s F.DX_SIDE_RST24 (min 255 (countOf m.dx.restarts x)) x)

/-- The count of R295 starts again. -/
def Mach.tbReset (m : Mach) : Mach := (m.s F.DX_TBWAIT_FRAMES 0).sb F.DX_STAT_TBPEND false

/-- A side is retired: recorded in flash, never restarted (R297). -/
def Mach.retireSide (m : Mach) (x : Nat) : Mach :=
  let m := (m.setSide x 5).raise 0x0D12 x x (m.g F.SPR_LOG_KIND)
  { m with dx := { m.dx with retired := if m.dx.retired.contains x then m.dx.retired else m.dx.retired ++ [x] } }

/-- A warm restart of engine e is counted and raised (R425, R434, `PWR_ERST`); n: its restarts within 86,400 s. -/
def Mach.restartCounted (m : Mach) (e n : Nat) : Mach :=
  (m.inc F.PWR_ERST_TOTAL 0xFFFF e).raise 0x1205 e e n

/-- A side that met a fault restarts, or is retired (R291, R297). -/
def Mach.sideRestart (m : Mach) (x : Nat) : Mach :=
  let m := (m.setBitW F.DEV_ENG_FAULT_FAULT x).showSides
  if 3 ≤ countOf m.dx.takeBacks x then m.retireSide x
  else
    let m := { m with dx := { m.dx with restarts := m.dx.restarts ++ [(x, m.now)], transfer := false } }.showSides
    let m := m.restartCounted x (countOf m.dx.restarts x)
    if m.g F.DX_CFG_RSTMAX ≤ countOf m.dx.restarts x then m.retireSide x else (m.setSide x 4).tbReset

/-- The starting of a transfer: the standby is SYNCING (R288, R289). -/
def Mach.syncStart (m : Mach) (x : Nat) : Mach :=
  { (m.setSide x 3).tbReset with dx := { m.dx with transfer := true } }

/-! ### Giving up control (R291 to R294) -/

/-- The active side gives up for a fault at the commit point of this frame: the other side takes over, or HELD is due. -/
def Mach.giveUp (m : Mach) (x cause : Nat) : Mach :=
  let m := ((m.s F.DX_SIDE_CAUSE cause x).inc F.DX_SIDE_GIVEUP 0xFFFF x)
  let m := m.raise (0x0D00 + cause) x x (m.g F.SPR_LOG_KIND)
  let ready := m.side (1 - x) == 2
  let m := (m.sideRestart x).tbReset
  let m := { m with dx := { m.dx with switch := false, change := none }, upd := { m.upd with since := m.now } }
  if ready then
    let m := ((m.setSide (1 - x) 1).s F.DX_STAT_ACTIVE (1 - x)).sb F.DX_STAT_GAP true
    let m := ((m.inc F.DX_STAT_FOCNT 0xFFFF).sq .DX_LASTFO_LO m.frame).count 222 1
    { m with dx := { m.dx with change := some (1 - x, 0), gapFrame := some m.frame } }
  else { m with dx := { m.dx with held := some x } }

/-- Every fault found is acted on at the commit point (R291); the answer tells whether the active side gave up. -/
def Mach.giveUps (m : Mach) : Mach × Bool :=
  let fs := m.dx.faults
  let m := { m with dx := { m.dx with faults := [] } }
  fs.foldl (fun (acc : Mach × Bool) f =>
    let m := acc.1
    if m.activeAp = some f.1 ∧ !acc.2 ∧ m.dx.held.isNone then (m.giveUp f.1 f.2, true)
    else if (m.side f.1 = 2 ∨ m.side f.1 = 3) ∧ f.2 ≤ 5 then (m.sideRestart f.1, acc.2)
    else acc) (m, false)

/-- A fault of a side found now (R291). -/
def Mach.sideFault (m : Mach) (x cause : Nat) : Mach :=
  if m.dx.faults.contains (x, cause) then m else { m with dx := { m.dx with faults := m.dx.faults ++ [(x, cause)] } }

/-- Outstanding queries of LIFT_STOPS are discarded (R197). -/
def Mach.dropQueries (m : Mach) : Mach :=
  each (upTo 8) m (fun m i => if (m.lcar i).query.isSome then m.setCar i { m.lcar i with query := none } else m)

/-- The tick after a give-up: the new side takes over (R292). `dur` is what it still needs for the scan it runs. -/
def Mach.failOver (m : Mach) (dur : Nat) : Mach :=
  match m.dx.change with
  | some (_, 0) =>
    let m := { m with dx := { m.dx with change := none } }
    let m := (m.stnAll 3).dropQueries
    match m.scan.cur with
    | some o => { m with scan := { m.scan with cur := some { o with t0 := m.now, t1 := m.now + dur } } }
    | none => m
  | _ => m

/-! ### Take-back and switch-over (R295, R296) -/

/-- The conditions of a take-back to the home side. -/
def Mach.takeBackDue (m : Mach) (num : Nat) : Bool :=
  let h := m.g F.DX_CFG_HOME
  m.b F.DX_CFG_TBEN && m.otherSide == some h && m.side h == 2 && decide (1000 ≤ m.g F.DX_TBWAIT_FRAMES) &&
  decide (countOf m.dx.takeBacks h < 3) && m.stnIds.all (fun k => !(m.stn k).sync) &&
  m.g F.UPD_STAT_STATE != 5 && m.g F.UPD_STAT_STATE != 6 && decide (num ≤ m.dx.synced)

/-- A commit point that has taken the image of scan `num`: a switch-over or take-back due there (R295, R296). -/
def Mach.changeDue (m : Mach) (num : Nat) : Mach :=
  match m.otherSide with
  | none => m
  | some x =>
    if m.dx.change.isSome ∨ m.side x ≠ 2 then m
    else if m.dx.switch ∧ num ≤ m.dx.synced then { m with dx := { m.dx with change := some (x, 2), switch := false } }
    else if m.takeBackDue num then { m with dx := { m.dx with change := some (x, 1), switch := false } }
    else m

/-- The tick that makes a take-back or switch-over: no gap arises (R295). -/
def Mach.changeSide (m : Mach) : Mach :=
  match m.dx.change with
  | some (x, k) =>
    if k = 0 ∨ m.side x ≠ 2 then m
    else
      let y := 1 - x
      let m := { m with dx := { m.dx with change := none, synced := m.scan.applied.1 } }
      let m := (((m.setSide x 1).setSide y 2).s F.DX_STAT_ACTIVE x).tbReset
      let m := ((m.s F.DX_SIDE_CAUSE 6 y).inc F.DX_SIDE_GIVEUP 0xFFFF y).raise 0x0D06 y y (m.g F.SPR_LOG_KIND)
      if k = 1 then
        let m := ({ m with dx := { m.dx with takeBacks := m.dx.takeBacks ++ [(x, m.now)] } }).showSides
        (m.count 223 1).raise 0x0D10 x x (m.g F.SPR_LOG_KIND)
      else m.raise 0x0D11 x x (m.g F.SPR_LOG_KIND)
  | none => m

/-- `DX_TBWAIT` and `TBPEND` at a tick (R295). -/
def Mach.tbCount (m : Mach) : Mach :=
  let h := m.g F.DX_CFG_HOME
  if m.otherSide = some h ∧ m.side h = 2 then
    (m.s F.DX_TBWAIT_FRAMES (satInc 0xFFFF (m.g F.DX_TBWAIT_FRAMES))).sb F.DX_STAT_TBPEND (m.b F.DX_CFG_TBEN)
  else m.tbReset

/-! ### Mirroring (R286 to R289) -/

/-- A scan of the standby is not synchronised, or a record is missing (R288). -/
def Mach.mismatch (m : Mach) : Mach :=
  match m.otherSide with
  | none => m
  | some x =>
    if m.side x = 2 ∨ m.side x = 3 then
      ((m.inc F.DX_SYNC_MISMATCH 0xFFFF).raise 0x0D13 x x (m.g F.SPR_LOG_KIND)).syncStart x
    else m

/-- The standby follows a mirror record: it has completed scan `num` (0: none), equal to the active side's or not (R288). -/
def Mach.mirrorRecord (m : Mach) (num : Nat) (same : Bool) : Mach :=
  match m.otherSide with
  | none => m
  | some x =>
    if num = 0 ∨ !(m.side x = 2 ∨ m.side x = 3) then m
    else if !same then m.mismatch
    else if m.dx.transfer then m
    else
      let m := { (m.s F.DX_SYNC_SCAN (num % 2 ^ 16)) with dx := { m.dx with synced := num } }
      if m.side x = 3 then (m.setSide x 2).s F.DX_TBWAIT_FRAMES 0 else m

/-! ### HELD (R294, R427) -/

/-- The program starts again with block states 0 (R263, R427): variables, blocks, cells and lift memories at 0, the parameter
table of the Key. -/
def Mach.scanBegin (m : Mach) : Mach :=
  match m.scan.img with
  | none => m
  | some im =>
    let k := m.scan
    let m := { m with scan := { k with vars := [], ap := [], term := 0, stnOut := [], bst := [], inp := none, wl := [], placed := 0,
                                       torn := [], lastF := none, period := 0, cur := none, done := [], shown := none,
                                       cars := [], doors := [], divs := [] } }
    let (vals, bad) := m.parRead im.imgid im.params
    let m := each (im.params.zip vals) m (fun m p => m.setPar p.1.cell p.2)
    each bad m (fun m i => m.raise 0x0C06 m.apSrc i 0)

/-- Groups owned by the AP follow the failure of their owner (R120 rule 3, R294). -/
def Mach.apGroups (m : Mach) (fail : Bool) : Mach :=
  each (upTo 12) m (fun m g =>
    if m.g F.PWM_GRP_CFG_OWNER g = 0 then m.setGrp g { m.grp g with ownerFail := fail } else m)

/-- The tick of entry into HELD: no side is active and every axis quick-stops (R294, R427). -/
def Mach.heldEntry (m : Mach) : Mach :=
  match m.dx.held with
  | none => m
  | some x =>
    let m := { m with dx := { m.dx with held := none, change := none, switch := false },
                      pow := { m.pow with heldAt := some m.frame, released := false } }
    let m := ((m.s F.DX_STAT_ACTIVE 3).sb F.DX_STAT_GAP false).s F.DEV_STATE_STATE stHELD
    let m := { m with scan := { m.scan with cur := none, done := [] } }
    let m := (m.apGroups true).raise 0x1203 x x (m.frame % 2 ^ 32)
    each (upTo 32) m (fun m a => if m.axisType a ≠ 0 then m.sb F.MG_CTL_QSTOP true a else m)

/-- In HELD the AP cells of the image become 0 once every axis rests or HELDT has passed (R427). -/
def Mach.heldRelease (m : Mach) : Mach :=
  match m.pow.heldAt with
  | none => m
  | some f =>
    let rest := (upTo 32).all (fun a => m.axisType a == 0 || !m.b F.MG_STAT_MOVING a)
    if m.st = stHELD ∧ m.activeAp.isNone ∧ !m.pow.released ∧ (rest ∨ f + 16 * m.g F.PWR_CFG_HELDT ≤ m.frame) then
      let m := { m with pow := { m.pow with released := true } }
      let m := each (upTo 256) m (fun m i => m.putFresh (0x0700 + i) 0 true)
      match m.scan.shown with
      | some o => { m with scan := { m.scan with shown := some { o with ap := [] } } }
      | none => m
    else m

/-- A side completes its restart in HELD: it becomes ACTIVE with no synchronisation (R427). -/
def Mach.heldEnd (m : Mach) (x : Nat) : Mach :=
  let m := (m.setSide x 1).s F.DX_STAT_ACTIVE x
  let m := { m with pow := { m.pow with heldAt := none }, dx := { m.dx with synced := 0 } }
  let shown := m.scan.shown
  let m := m.scanBegin
  let m := { m with scan := { m.scan with shown := shown } }
  ((m.stnAll 1).apGroups false).raise 0x1204 x x (m.frame % 2 ^ 32)

/-- A side completes its restart, with or without passing its self-test (R291, R297, R427). -/
def Mach.sideDone (m : Mach) (x : Nat) (ok : Bool) : Mach :=
  if m.side x ≠ 4 then m
  else if !ok then m.retireSide x
  else if m.st = stHELD ∧ m.activeAp.isNone then m.heldEnd x
  else m.syncStart x

/-! ### Commands -/

/-- MIRROR_RECORD (R286): what the standby has completed since the last record. -/
def execMirrorRecord (num : Nat) (same : Bool) (s : State) : Host.Outcome State Fault Refusal :=
  .next { s with m := s.m.mirrorRecord num same }

/-- SCAN_MISMATCH (R288). -/
def execScanMismatch (s : State) : Host.Outcome State Fault Refusal := .next { s with m := s.m.mismatch }

/-- STATE_TRANSFER_COMPLETE (R289). -/
def execStateTransferComplete (s : State) : Host.Outcome State Fault Refusal :=
  .next { s with m := { s.m with dx := { s.m.dx with transfer := false } } }

/-- AP_GIVE_UP (R291): a fault of causes 1 to 5 is found on side x; the side gives up at the next commit point. -/
def execApGiveUp (x cause : Nat) (s : State) : Host.Outcome State Fault Refusal :=
  .next { s with m := if x < 2 ∧ 1 ≤ cause ∧ cause ≤ 5 ∧ s.m.ticking then s.m.sideFault x cause else s.m }

/-- FAIL_OVER (R292): the tick after a give-up. -/
def execFailOver (dur : Nat) (s : State) : Host.Outcome State Fault Refusal := .next { s with m := s.m.failOver dur }

/-- HELD_ENTRY (R294). -/
def execHeldEntry (s : State) : Host.Outcome State Fault Refusal := .next { s with m := s.m.heldEntry }

/-- HELD_CELLS_RELEASE (R427). -/
def execHeldCellsRelease (s : State) : Host.Outcome State Fault Refusal := .next { s with m := s.m.heldRelease }

/-- HELD_END (R427): side x completes its restart. -/
def execHeldEnd (x : Nat) (s : State) : Host.Outcome State Fault Refusal :=
  .next { s with m := if x < 2 ∧ s.m.st = stHELD ∧ s.m.activeAp.isNone then s.m.sideDone x true else s.m }

/-- TAKE_BACK (R295): the tick after the commit point that found its conditions. -/
def execTakeBack (s : State) : Host.Outcome State Fault Refusal := .next { s with m := s.m.changeSide }

/-- DX_STATUS: 28 bytes. -/
def opDxStatus (m : Mach) (p : Pkt) : Ans :=
  if p.len ≠ 0 then m.refuse LENGTH
  else m.okData (([R.DX_STAT.idx 0 0, R.DX_SIDE.idx 0 0, R.DX_SIDE.idx 1 0, R.DX_SYNC.idx 0 0, R.DX_TBWAIT.idx 0 0].map
    (fun i => leBytes 4 (m.view i).toNat)).flatten ++ leBytes 8 (m.q .DX_LASTFO_LO))

/-- An update is ARMED or being completed: DX_SWITCH, SPR_GRAFT and SPR_RELEASE are refused (R401). -/
def Mach.updArmed (m : Mach) : Bool := m.g F.UPD_STAT_STATE == 5 || m.upd.go

/-- DX_SWITCH (R296, R298, R401). -/
def opDxSwitch (m : Mach) (p : Pkt) : Ans :=
  if p.len ≠ 0 then m.refuse LENGTH
  else if m.inGap then m.refuse BUSY
  else if m.updArmed ∨ m.dx.switch ∨ m.dx.change.isSome ∨ (m.otherSide.map m.side) ≠ some 2 then m.refuse WRONG_STATE
  else ({ m with dx := { m.dx with switch := true } }).ok

/-- DX_RESTORE (R297). -/
def opDxRestore (m : Mach) (p : Pkt) : Ans :=
  let x := p.n 0 1
  if p.len ≠ 1 then m.refuse LENGTH
  else if 1 < x then m.refuse RANGE
  else if m.side x ≠ 5 then m.refuse WRONG_STATE
  else
    let f (l : List (Nat × Nat)) : List (Nat × Nat) := l.filter (fun e => e.1 != x)
    ({ m with dx := { m.dx with takeBacks := f m.dx.takeBacks, restarts := f m.dx.restarts,
                                retired := m.dx.retired.filter (fun y => y != x) } }.setSide x 4).showSides.ok

/-- DX_STATUS (R305). -/
def execDxStatus (src seq : Nat) (payload : List Byte) (s : State) : Host.Outcome State Fault Refusal :=
  .next { s with m := s.m.runOp 0x70 src seq payload 1 true opDxStatus }

/-- DX_SWITCH (R296). -/
def execDxSwitch (src seq : Nat) (payload : List Byte) (s : State) : Host.Outcome State Fault Refusal :=
  .next { s with m := s.m.runOp 0x71 src seq payload 2 true opDxSwitch }

/-- DX_RESTORE (R297). -/
def execDxRestore (src seq : Nat) (payload : List Byte) (s : State) : Host.Outcome State Fault Refusal :=
  .next { s with m := s.m.runOp 0x72 src seq payload 2 true opDxRestore }

end Sys2Proof.Machine
end

