-- ==== Sys2Proof/Machine/FieldRules.lean ====
section
/-! DEFINITION. The values that a register field does not store (the Meaning columns of the register tables; R135, R156,
R446), and the refusals of a configuration set that chapters 03, 05 and 06 state (R59, R96, R109, R116). -/

namespace Sys2Proof.Machine

open Sys2Proof

/-- A value lies in a range, both ends included. -/
def within (lo hi v : Nat) : Bool := decide (lo ≤ v) && decide (v ≤ hi)

/-- A field of a word. -/
def fld (f : Fd) (w : Word) : Nat := getBits w f.hi f.lo

/-- Two fields are the same field of one register. -/
def Fd.same (a b : Fd) : Bool := decide (a.reg = b.reg) && a.lo == b.lo

/-- Ranges of the fields of the DEV, FRM and MEM blocks. -/
def storesBase (m : Mach) (f : Fd) (v : Nat) : Bool :=
  if f.same F.FRM_LEN_LEN then within 5000 400000 v
  else if f.same F.FRM_LOCK_OFS_OFS then decide (v < m.L)
  else if f.same F.FRM_OVR_CFG_WIN then within 2 255 v
  else if f.same F.FRM_OVR_CFG_CONSEC then within 2 8 v
  else if f.same F.MEM_ARB_CFG_TMO then within 256 65535 v
  else if f.same F.MEM_ARB_CFG_FAIR then within 2 16 v
  else if f.same F.MEM_ECC_CFG_CE_GRAFT then v != 0
  else if f.same F.MEM_MPU_SEL_REQ then v != 19 && decide (v ≤ 51)
  else if f.same F.MEM_DMA_CTL_TRIG then decide (v ≤ 1)
  else true

/-- Ranges of the fields of the TRM and ADC blocks; `i` is the instance. -/
def storesField (f : Fd) (i v : Nat) : Bool :=
  if f.same F.TRM_CHK_CFG_SETTLE then v != 0
  else if f.same F.TRM_GRP_CFG_WDOG then v != 0
  else if f.same F.TRM_CFG_SAFE then decide (v ≤ 2)
  else if f.same F.TRM_CFG_MODE then decide (v ≤ 3)
  else if f.same F.ADC_REF_CFG_SETTLE then v != 0
  else if f.same F.ADC_ANNEAL_CFG_DWELL then decide (4096 ≤ v)
  else if f.same F.ADC_ANNEAL_CFG_TOL then v != 0
  else if f.same F.ADC_ROLE_CFG_EDGE then v != 0
  else if f.same F.ADC_ROLE_CFG_GROUP then decide (v ≤ 11)
  else if f.same F.ADC_ROLE_CFG_PAIR then v == 0 || i % 2 == 0
  else if f.same F.ADC_ROLE_CFG_TRIG then decide (v ≤ 2)
  else if f.same F.ADC_CH_CFG_REF then decide (v ≤ 2) && (v == 0 || decide (i < 48))
  else if f.same F.ADC_CH_CFG_RANGE then decide (v ≤ 2) && (v == 0 || decide (i < 48))
  else if f.same F.ADC_EP_CFG_MODE then decide (v ≤ 4)
  else if f.same F.ADC_EP_SSI_MONO then v != 0
  else if f.same F.ADC_EP_SSI_CLKDIV then within 99 1999 v
  else if f.same F.ADC_EP_SSI_BITS then within 8 32 v
  else true

/-- Ranges of the fields of the PWM and LP blocks; `w` is the word that a write would leave. -/
def storesDrive (m : Mach) (f : Fd) (i v : Nat) (w : Word) : Bool :=
  if f.same F.PWM_ANNEAL_CFG_DWELL then decide (512 ≤ v)
  else if f.same F.PWM_GRP_CFG_OWNER then decide (v ≤ 2)
  else if f.same F.PWM_GRP_CFG_LOAD then v != 0
  else if f.same F.PWM_GRP_CFG_SAFE then decide (v ≤ 1)
  else if f.same F.PWM_GRP_PHASE_PHASE then decide (v ≤ 1999999)
  else if f.same F.LP_CFG_PH then decide (v < 2 ^ fld F.LP_CFG_DIV w)
  else if f.same F.LP_CFG_STOPY then decide (v ≤ 1)
  else if f.same F.LP_CFG_TYPE then decide (v ≤ 3)
  else if f.same F.LP_VEC_GROUP then v == 0 || (m.slotType i == 2 && decide (v ≤ 11))
  else if f.same F.LP_VEC_ADV then v == 0 || (m.slotType i == 2 && decide (v ≤ 48))
  else if decide (f.reg = .LP_VEC) then v == 0 || m.slotType i == 2
  else true

/-- Ranges of the fields of the MG block. -/
def storesMotion (f : Fd) (v : Nat) (w : Word) : Bool :=
  if f.same F.MG_CFG_GOVDIR then v != 0
  else if f.same F.MG_CFG_TYPE then decide (v ≤ 2)
  else if f.same F.MG_GOV_ECAP then decide (v ≤ 10000)
  else if f.same F.MG_GOV_FCAP then decide (v ≤ 1500)
  else if f.same F.MG_MASS_MASS then v != 0
  else if f.same F.MG_MASS_FUNIT then v != 0
  else if f.same F.MG_STEP_CFG_GROUP then decide (v ≤ 11)
  else if f.same F.MG_STEP_I_IMIN then decide (v ≤ fld F.MG_STEP_I_IMAX w)
  else if f.same F.MG_STEP_LD_LDLO then decide (v ≤ fld F.MG_STEP_LD_LDHI w)
  else if f.same F.MG_STALL_STALLN then within 2 255 v
  else true

/-- Ranges of the fields of the SF, DX, SPR and PWR blocks. -/
def storesSafety (f : Fd) (v : Nat) (w : Word) : Bool :=
  if f.same F.SF_DEG_CFG_TIME then within 5 600 v
  else if f.same F.SF_TP_CFG_TPW then within 2 8 v
  else if f.same F.SF_SI_CFG_TP then decide (v ≤ 4)
  else if f.same F.SF_SO_CFG_EDMT then v != 0
  else if f.same F.SF_MON_CFG_DIVT then within 5 1000 v
  else if f.same F.SF_MON_TOL_PTOL then within 1 32767 v
  else if f.same F.DX_CFG_RSTMAX then v != 0
  else if f.same F.SPR_WEAR_CFG_GRAFT then decide (fld F.SPR_WEAR_CFG_WARN w ≤ v)
  else if f.same F.SPR_FLASH_CFG_ERASEMAX then within 1000 100000 v
  else if f.same F.PWR_CFG_HELDT then v != 0
  else if f.same F.PWR_CFG_ERSTMAX then v != 0
  else true

/-- Ranges of the fields of the CB block and of the host blocks. -/
def storesHost (f : Fd) (v : Nat) (w : Word) : Bool :=
  if decide (f.reg = .CB_NBT) then !nbtBad w
  else if f.same F.CB_TT_CFG_COLF then v != 0
  else if decide (f.reg = .CB_COL) then decide (v ≤ 2)
  else if f.same F.EV_CFG_RATE then within 1 60 v
  else if f.same F.EV_CURSOR_CURSOR then decide (v ≤ 24575)
  else if f.same F.LG_CFG_WARN then within 1 365 v
  else if f.same F.ZL_CFG_SESSTMO then within 10 3600 v
  else true

/-- Field `f` of instance `i` stores the value `v` when the written word would be `w` (R446). -/
def Mach.stores (m : Mach) (f : Fd) (i v : Nat) (w : Word) : Bool :=
  storesBase m f v && storesField f i v && storesDrive m f i v w && storesMotion f v w && storesSafety f v w && storesHost f v w

/-! ### Refusals of a configuration set -/

/-- `MEM_ARB_CFG.TMO` exceeds WL of every bank (R59). -/
def Mach.memRefused (m : Mach) : Bool := (upTo 4).any (fun b => decide (m.g F.MEM_ARB_CFG_TMO ≤ (m.bounds b).2))

/-- FCLK cycles that the rest of a descriptor needs at WL per burst; `fuel` accesses. -/
def Mach.moveCycles (m : Mach) : Nat → Dma → Nat
  | 0, _ => 0
  | fuel + 1, d =>
    if d.len ≤ d.pos then 0
    else
      let r := d.burst 0 0
      (if (memOff r.addr).isSome then (m.bounds (bankOf r.addr)).2 else 0) + m.moveCycles fuel (d.did r.len r.write (List.replicate r.len 0))

/-- FCLK cycles that a descriptor list needs at WL per burst: each descriptor's fetch, then its bursts; `fuel` descriptors. -/
def Mach.listCycles (m : Mach) : Nat → Nat → Nat
  | 0, _ => 0
  | fuel + 1, addr =>
    let b := m.mem.bytes (addr - 0x20000000) 16
    let d : Dma := { src := fieldAt b 0 4, dst := fieldAt b 4 4, len := fieldAt b 8 2, ctl := fieldAt b 10 2, next := fieldAt b 12 4 }
    (m.bounds (bankOf addr)).2 +
      (if d.refused then 0 else m.moveCycles (2 * d.len) d + (if bit d.ctl 4 then m.listCycles fuel d.next else 0))

/-- A frame-triggered descriptor list cannot complete within one frame at WL per burst (R59). -/
def Mach.dmaRefused (m : Mach) : Bool :=
  (upTo 32).any (fun ch => m.g F.MEM_DMA_CTL_TRIG ch == 1 && decide (m.L < m.listCycles 1024 (m.g F.MEM_DMA_DESC_DESC ch * 8)))

/-- The channels enabled in the mask of role k. -/
def Mach.maskOf (m : Mach) (k : Nat) : List Nat :=
  (upTo 56).filter (fun ch => if ch < 32 then bit (m.w .ADC_MASK_LO k).toNat ch else bit (m.w .ADC_MASK_HI k).toNat (ch - 32))

/-- Cycles of a scan of role k (R93, R94). -/
def Mach.roleCycles (m : Mach) (k : Nat) : Nat :=
  if m.b F.ADC_ROLE_CFG_PAIR k then 80 * (m.g F.ADC_ROLE_CFG_BURST k + 1) + 40 else 80 * (m.maskOf k).length

/-- The cycle of the last frame-offset trigger of a frame of L cycles (R93). -/
def lastStart (len ofs per : Nat) : Nat := if per = 0 ∨ len ≤ ofs then ofs else ofs + (len - 1 - ofs) / per * per

/-- One role of a configuration set breaks R96. -/
def Mach.roleBad (m : Mach) (k : Nat) : Bool :=
  let trig := m.g F.ADC_ROLE_CFG_TRIG k
  let d := m.roleCycles k
  let ofs := 8 * m.g F.ADC_ROLE_TRG_OFS k
  let per := 8 * m.g F.ADC_ROLE_TRG_PER k
  let g := m.g F.ADC_ROLE_CFG_GROUP k
  let top := m.g F.PWM_GRP_TOP_TOP g
  (m.b F.ADC_ROLE_CFG_PAIR k &&
    (k == 14 || !((m.maskOf k).length == 1 && (m.maskOf k).all (fun ch => decide (ch < 48))) ||
     m.g F.ADC_ROLE_CFG_TRIG (k + 1) != 0 || !(m.maskOf (k + 1)).isEmpty)) ||
  (k == 15 && (trig == 2 || (trig == 1 && (decide (ofs < 1160) || decide (m.L < lastStart m.L ofs per + d))))) ||
  (trig == 1 && (decide (m.L ≤ ofs) || (per != 0 && decide (per < d)))) ||
  (trig == 2 && (top == 0 || decide ((if m.g F.ADC_ROLE_CFG_EDGE k = 3 then top else 2 * top) < d)))

/-- The analogue tables of a configuration set are refused (R96, R109). -/
def Mach.adcRefused (m : Mach) : Bool :=
  (upTo 16).any m.roleBad ||
  (upTo 48).any (fun ch => decide (1 < ((upTo 16).filter (fun k => (m.maskOf k).contains ch)).length) ||
    (m.g F.ADC_CH_CFG_REF ch == 1 && !m.b F.ADC_REF_CFG_EXT_EN) || (m.g F.ADC_CH_CFG_REF ch == 2 && !m.b F.ADC_REF_CFG_AVS_EN)) ||
  (upTo 8).any (fun p => m.g F.ADC_EP_CFG_MODE p == 3 &&
    decide ((m.g F.ADC_EP_SSI_EVERY p + 1) * m.L <
      (m.g F.ADC_EP_SSI_BITS p + b2n (m.b F.ADC_EP_SSI_ERRBIT p) + 1) * 2 * (m.g F.ADC_EP_SSI_CLKDIV p + 1) + 400 * m.g F.ADC_EP_SSI_MONO p))

/-- The slots and axes that name a group (R116). -/
def Mach.groupUsers (m : Mach) (g : Nat) : List Nat × List Nat :=
  ((upTo 256).filter (fun s => m.slotType s == 2 && m.g F.LP_VEC_GROUP s == g),
   (upTo 32).filter (fun a => m.axisType a == 2 && m.g F.MG_STEP_CFG_GROUP a == g))

/-- One PWM group of a configuration set breaks R116. -/
def Mach.grpBad (m : Mach) (g : Nat) : Bool :=
  let top := m.g F.PWM_GRP_TOP_TOP g
  let (ss, as) := m.groupUsers g
  let own := m.g F.PWM_GRP_CFG_OWNER g
  if top = 0 then
    own != 0 || !ss.isEmpty || !as.isEmpty || (upTo 16).any (fun k => m.g F.ADC_ROLE_CFG_TRIG k == 2 && m.g F.ADC_ROLE_CFG_GROUP k == g)
  else
    m.topBad g top || decide (2 * top ≤ m.g F.PWM_GRP_PHASE_PHASE g) || decide (1 < ss.length + as.length) ||
    (match own with
     | 0 => !ss.isEmpty || !as.isEmpty
     | 1 => ss.isEmpty
     | _ => as.isEmpty)

/-- The PWM tables of a configuration set are refused (R116). -/
def Mach.pwmRefused (m : Mach) : Bool := (upTo 12).any m.grpBad

end Sys2Proof.Machine
end

