-- ==== Sys2Proof/Machine/Encoders.lean ====
section
/-! DEFINITION. Encoder ports (spec/05_analogue.md, R107 to R109; spec/07_loops.md, R127): counted edges, captures,
faults, SSI readings and the DPOS and SPD cells. -/

namespace Sys2Proof.Machine

open Sys2Proof

/-- Port p's memory beside its registers. -/
def Mach.port (m : Mach) (p : Nat) : Ep := nth m.ep p {}

/-- Replace it. -/
def Mach.setPort (m : Mach) (p : Nat) (x : Ep) : Mach := { m with ep := setNth {} 8 m.ep p x }

/-- `ADC_EP_CFG[p].MODE` (R107). -/
def Mach.epMode (m : Mach) (p : Nat) : Nat := m.g F.ADC_EP_CFG_MODE p

/-- A counted change in a port's counting direction: INV reverses it (R107). -/
def Mach.epDelta (m : Mach) (p : Nat) (d : Int) : Int := if m.b F.ADC_EP_CFG_INV p then -d else d

/-- An edge at the present cycle (R107): the count changes by delta, a Z edge captures the count. An edge at or before
cycle 960 of the latch phase belongs to this frame's capture, a later one to the next. -/
def Mach.edge (m : Mach) (p : Nat) (delta : Int) (z : Bool) : Mach :=
  let md := m.epMode p
  if 8 ≤ p ∨ md = 0 ∨ md = 3 ∨ 5 ≤ md then m
  else
    let x := m.port p
    let d := m.epDelta p delta
    let here := decide (m.phase = .latch) && decide (m.cyc ≤ 960)
    let cnt := wrap 32 ((x.cnt : Int) + d)
    let sub := subAt m.L m.cyc
    let x := { x with cnt := cnt, cap := if here then cnt else x.cap, spCap := if here then wrap 32 ((x.spCap : Int) + d) else x.spCap }
    let x := if delta = 0 then x
      else if here then { x with capEdge := some (sub, false) } else { x with edge := some sub }
    let m := m.setPort p x
    if z && m.b F.ADC_EP_CFG_ZCAP p then (m.s F.ADC_EP_IDX cnt p).setBitW F.ADC_EP_STAT_ZSEEN 0 p else m

/-- Gray code to binary (R107). -/
def grayDecode : Nat → Nat → Nat
  | 0, g => g
  | k + 1, g => grayDecode k (g ^^^ (g >>> (2 ^ k)))

/-- The position of an SSI reading (R107): right-aligned, Gray decoded, negated modulo 2^BITS with INV. -/
def Mach.ssiValue (m : Mach) (p raw : Nat) : Nat :=
  let n := m.g F.ADC_EP_SSI_BITS p
  let v := raw % 2 ^ n
  let v := if m.b F.ADC_EP_SSI_GRAY p then grayDecode 5 v % 2 ^ n else v
  if m.b F.ADC_EP_CFG_INV p then (2 ^ n - v) % 2 ^ n else v

/-- Frame f is one in which port p reads (R109). -/
def Mach.ssiFrame (m : Mach) (p f : Nat) : Bool := f % (m.g F.ADC_EP_SSI_EVERY p + 1) == 0

/-- The fault bit b (2 LINE, 3 ILLEGAL, 4 AMPERR, 5 SSIERR) applies in a mode (R108). -/
def faultApplies (mode b : Nat) : Bool :=
  if b = 2 then decide (1 ≤ mode) && decide (mode ≤ 4)
  else if b = 3 then mode == 1 else if b = 4 then mode == 2 else if b = 5 then mode == 3 else false

/-- The field of a fault bit. -/
def epFault (b : Nat) : Fd :=
  if b = 2 then F.ADC_EP_STAT_LINE else if b = 3 then F.ADC_EP_STAT_ILLEGAL
  else if b = 4 then F.ADC_EP_STAT_AMPERR else F.ADC_EP_STAT_SSIERR

/-- A fault condition of port p begins or ends (R108): LINE and AMPERR last, ILLEGAL and SSIERR are of the moment. The SP's
copy of the next capture shows a condition that stands (R230). -/
def Mach.epCond (m : Mach) (p b : Nat) (on : Bool) : Mach :=
  if 8 ≤ p ∨ !faultApplies (m.epMode p) b then m
  else
    let x := m.port p
    m.setPort p { x with cond := setBit x.cond b on, hit := if on then setBit x.hit b true else x.hit }

/-- The fault bits of port p are set at an end of latch for the conditions met since the last one; a change from 0 to 1 raises
code 0x0530 + p (R107, R108). -/
def Mach.epFaults (m : Mach) (p : Nat) : Mach :=
  let x := m.port p
  let c := x.hit ||| (x.cond &&& 0x14)
  each ([2, 3, 4, 5].filter (fun b => bit c b)) (m.setPort p { x with hit := 0 }) (fun m b =>
    m.setRaise (epFault b) p 0 (0x0530 + p) 0x20 p (openArg (0x0530 + p) 1))

/-- An SSI reading ends (R108, R109): in a frame in which the port reads, at or before cycle 960, it is this frame's
new value; before the tick it waits for the next frame. -/
def Mach.ssiRead (m : Mach) (p raw : Nat) (err : Bool) : Mach :=
  if 8 ≤ p ∨ m.epMode p ≠ 3 then m
  else if err then m.epCond p 5 true
  else
    let v := m.ssiValue p raw
    let x := m.port p
    if m.phase = .latch ∧ m.cyc ≤ 960 ∧ m.ssiFrame p m.frame then
      m.setPort p { x with cnt := v, cap := v, spCap := v, capOld := false, ssi := none }
    else m.setPort p { x with ssi := some v }

/-- The capture of port p in the latch phase (R107, R109); the SP takes its own copy, which `sp` may override. -/
def capturePort (sp : List (Nat × Nat)) (m : Mach) (p : Nat) : Mach :=
  let x := m.port p
  let md := m.epMode p
  let x :=
    if md = 3 then
      match x.ssi with
      | some v =>
        if m.ssiFrame p m.frame then { x with cnt := v, cap := v, capOld := false, ssi := none }
        else { x with capOld := true }
      | none => { x with capOld := true }
    else { x with cap := x.cnt, capEdge := x.edge.map (fun s => (s, true)), edge := none, capOld := false }
  let own := ((sp.find? (fun q => q.1 == p)).map (·.2)).getD x.cap
  m.setPort p { x with spCap := own }

/-- The captures at cycle 960, and AMP, which is 0 but in mode 2. -/
def epTick (m : Mach) (amp : List Nat) (sp : List (Nat × Nat)) : Mach :=
  let m := each (upTo 8) m (capturePort sp)
  each (upTo 8) m (fun m p => m.s F.ADC_EP_STAT_AMP (if m.epMode p = 2 then nth amp p 0 else 0) p)

/-- The signed difference of two captures (R127): wrapped counts, modulo 2^BITS in mode 3. -/
def Mach.posDiff (m : Mach) (p a b : Nat) : Int :=
  if m.epMode p = 3 then sgn (m.g F.ADC_EP_SSI_BITS p) (wrap (m.g F.ADC_EP_SSI_BITS p) ((a : Int) - b))
  else sgn 32 (wrap 32 ((a : Int) - b))

/-- DPOS in Q15.16 at a capture (R127). -/
def Mach.dposAt (m : Mach) (p : Nat) (x : Ep) : Int :=
  if m.epMode p = 3 then
    (if x.capOld then x.dpos
     else match x.newPos with
      | some q => clampI (-32767 * 65536) (32767 * 65536) (rndDiv (m.posDiff p x.cap q * 65536) (m.g F.ADC_EP_SSI_EVERY p + 1 : Nat))
      | none => 0)
  else match x.prev with
    | some q => clampI (-32767) 32767 (m.posDiff p x.cap q) * 65536
    | none => 0

/-- The edge time of a capture in FCLK cycles (R127). -/
def Mach.edgeTime (m : Mach) (e : Nat × Bool) : Nat :=
  (if e.2 then m.frame - 1 else m.frame) * m.L + e.1 * 2 ^ pdivOf m.L

/-- SPD in Q15.16 at a capture, and the latest capture that counted an edge (R127). Modes 2 and 3 use DPOS. -/
def Mach.spdAt (m : Mach) (p : Nat) (x : Ep) (dpos : Int) : Int × List (Nat × Nat × Nat) :=
  if m.epMode p = 2 ∨ m.epMode p = 3 then (dpos, [])
  else
    let last := x.hist.head?.filter (fun h => decide (m.frame ≤ h.1 + 64))
    match x.capEdge with
    | some e =>
      let t := m.edgeTime e
      let v := match last with
        | some h => if t = h.2.2 then 0 else satQ (rndDiv (m.posDiff p x.cap h.2.1 * m.L * 65536) ((t : Int) - h.2.2))
        | none => 0
      (v, [(m.frame, x.cap, t)])
    | none =>
      match last with
      | some h =>
        if h.1 + 64 ≤ m.frame then (0, x.hist)
        else
          let lim := rndDiv (m.L * 65536 : Nat) ((m.frame * m.L + 960 : Nat) - (h.2.2 : Int))
          let mag := min (x.spd.natAbs : Int) (lim.natAbs : Int)
          (if x.spd < 0 then -mag else mag, x.hist)
      | none => (0, x.hist)

/-- Port p at the end of latch: registers, VALID, which returns at the first capture after all four fault bits are
clear, and its two cells (R107, R108, R127). -/
def portPublish (m : Mach) (p : Nat) : Mach :=
  if m.epMode p = 0 then (m.cellValid (0x0640 + 2 * p) false).cellValid (0x0641 + 2 * p) false
  else
    let m := m.epFaults p
    let x := m.port p
    let md := m.epMode p
    let m := m.s F.ADC_EP_POS x.cap p
    let m := m.sb F.ADC_EP_STAT_VALID (getBits (m.w .ADC_EP_STAT p) 5 2 == 0) p
    let m := m.sb F.ADC_EP_STAT_OLD (md == 3 && x.capOld) p
    let m := match x.capEdge with
      | some e => ((m.sb F.ADC_EP_EDGE_NONE false p).sb F.ADC_EP_EDGE_PREV e.2 p).s F.ADC_EP_EDGE_SUB e.1 p
      | none => ((m.sb F.ADC_EP_EDGE_NONE true p).sb F.ADC_EP_EDGE_PREV false p).s F.ADC_EP_EDGE_SUB 0 p
    let d := m.dposAt p x
    let (v, h) := m.spdAt p x d
    let m := m.setPort p { x with dpos := d, spd := v, hist := h, prev := some x.cap, capEdge := none,
                                   newPos := if md = 3 ∧ !x.capOld then some x.cap else x.newPos }
    (m.putCell (0x0640 + 2 * p) d (m.b F.ADC_EP_STAT_VALID p)).putCell (0x0641 + 2 * p) v (m.b F.ADC_EP_STAT_VALID p)

/-- The encoder cells at each end of latch (R107, R127). -/
def epPublish (m : Mach) : Mach := each (upTo 8) m portPublish

/-- ENCODER_EDGE (R107): port p's count changes by delta at cycle c, or a Z edge comes, by a level that has lasted w cycles; an edge
shorter than FILT cycles is ignored (R110). -/
def execEncoderEdge (p : Nat) (c : Pulse) (delta : Int) (z : Bool) (s : State) : Host.Outcome State Fault Refusal :=
  .next { s with m := if s.m.g F.ADC_EP_CFG_FILT p ≤ c.len then (s.m.at c.at_).edge p delta z else s.m }

/-- ENCODER_FAULT (R108): the condition of fault bit b of port p begins or ends. -/
def execEncoderFault (p b c : Nat) (on : Bool) (s : State) : Host.Outcome State Fault Refusal :=
  .next { s with m := (s.m.at c).epCond p b on }

/-- SSI_READ (R109): a transaction of port p ends at cycle c with its data, or with a fault. -/
def execSsiRead (p c raw : Nat) (err : Bool) (s : State) : Host.Outcome State Fault Refusal :=
  .next { s with m := (s.m.at c).ssiRead p raw err }

end Sys2Proof.Machine
end

