-- ==== Sys2Proof/Machine/Sp.lean ====
section
/-! DEFINITION. The safety processor and its functions (spec/10_safety.md, R212 to R241; R255 for the permit of inspection mode):
inputs and test pulses, output pairs and their tests, monitor channels, the function table, degraded mode and rearm. -/

namespace Sys2Proof.Machine

open Sys2Proof

/-! ### Access -/

/-- Monitor channel c. -/
def Mach.mon (m : Mach) (c : Nat) : Mon := nth m.sp.mons c {}

/-- Replace it. -/
def Mach.setMon (m : Mach) (c : Nat) (x : Mon) : Mach := { m with sp := { m.sp with mons := setNth {} 8 m.sp.mons c x } }

/-- Function f's memory. -/
def Mach.fn (m : Mach) (f : Nat) : FnS := nth m.sp.fns f {}

/-- Replace it. -/
def Mach.setFn (m : Mach) (f : Nat) (x : FnS) : Mach := { m with sp := { m.sp with fns := setNth {} 32 m.sp.fns f x } }

/-- Pair k's memory. -/
def Mach.pair (m : Mach) (k : Nat) : PairS := nth m.sp.pairs k {}

/-- Replace it. -/
def Mach.setPair (m : Mach) (k : Nat) (x : PairS) : Mach := { m with sp := { m.sp with pairs := setNth {} 8 m.sp.pairs k x } }

/-- The permit of inspection mode counts for pair k: it is in PAIRS (R255). -/
def Mach.inspPair (m : Mach) (k : Nat) : Bool :=
  match m.sp.insp with
  | some i => bit i.pairs k
  | none => false

/-- Pair k counts as enabled (R241, R255). -/
def Mach.pairOn (m : Mach) (k : Nat) : Bool := m.b F.SF_SO_CFG_EN k || m.inspPair k

/-- Feedback monitoring of pair k: EDMEN, input, time in µs (R225, R255). -/
def Mach.edmOf (m : Mach) (k : Nat) : Bool × Nat × Nat :=
  match m.sp.insp with
  | some i =>
    if bit i.pairs k then (bit (nth i.edm k 0) 7, nth i.edm k 0 % 16, i.edmt * 10000)
    else (m.b F.SF_SO_CFG_EDMEN k, m.g F.SF_SO_CFG_EDMSI k, m.g F.SF_SO_CFG_EDMT k * 10000)
  | none => (m.b F.SF_SO_CFG_EDMEN k, m.g F.SF_SO_CFG_EDMSI k, m.g F.SF_SO_CFG_EDMT k * 10000)

/-- The feedback input of pair k as the SP reads it: filtered, or the raw sample for an inspection pair. -/
def Mach.edmIn (m : Mach) (k : Nat) : Bool :=
  let si := (m.edmOf k).2.1
  if m.inspPair k then bit m.sp.raw si else m.gb F.SF_SI_STATE_FILT si

/-- Frames of a pulse round (R220, R254). -/
def Mach.tpn (m : Mach) : Nat := if m.sp.insp.isSome then 400 else m.g F.SF_TP_CFG_TPN

/-- Input i is a feedback input of the inspection record in use: it is read without test pulses (R255). -/
def Mach.inspFb (m : Mach) (i : Nat) : Bool :=
  match m.sp.insp with
  | some x => (upTo 8).any (fun k => bit x.pairs k && bit (nth x.edm k 0) 7 && nth x.edm k 0 % 16 == i)
  | none => false

/-- The test-pulse source of an input; 4: none (R221, R254, R255). -/
def Mach.tpOf (m : Mach) (i : Nat) : Nat :=
  if m.sp.insp.isSome ∧ 12 ≤ i then i - 12
  else if m.inspFb i then 4
  else if m.b F.SF_SI_CFG_EN i then m.g F.SF_SI_CFG_TP i else 4

/-- The source whose pulse falls in frame n, if any (R220). -/
def Mach.pulseSource (m : Mach) (n : Nat) : Option Nat :=
  let t := m.tpn
  if t = 0 then none else (upTo 4).find? (fun k => n % t == k * (t / 4))

/-! ### Causes and functions (R236, R237) -/

/-- The terms of function f with OPC not 0: primitive, A, B, PARAM. -/
def Mach.termsOf (m : Mach) (f : Nat) : List (Nat × Nat × Nat × Nat) :=
  (upTo 4).filterMap (fun j =>
    let o := m.g F.SF_TERM_A_OPC f j
    if o = 0 then none else some (o, m.g F.SF_TERM_A_A f j, m.g F.SF_TERM_A_B f j, m.g F.SF_TERM_B f j))

/-- A term names channel c. -/
def Mach.namesCh (m : Mach) (f c : Nat) : Bool :=
  (m.termsOf f).any (fun t => decide (5 ≤ t.1) && decide (t.1 ≤ 8) && t.2.1 == c)

/-- A term names input i. -/
def Mach.namesIn (m : Mach) (f i : Nat) : Bool :=
  (m.termsOf f).any (fun t => ((t.1 == 1 || t.1 == 9) && t.2.1 == i) || ((t.1 == 2 || t.1 == 3) && (t.2.1 == i || t.2.2.1 == i)))

/-- The enabled functions. -/
def Mach.fnsOn (m : Mach) : List Nat := (upTo 32).filter (fun f => m.b F.SF_FN_CFG_EN f)

/-- Fault bits of a function's status, the argument of its events (R348). -/
def Mach.fnArg (m : Mach) (f : Nat) : Nat := (m.w .SF_FN_STAT f).toNat &&& 0x60F00000

/-- Fault bits of a pair's status. -/
def Mach.pairArg (m : Mach) (k : Nat) : Nat := (m.w .SF_SO_STAT k).toNat &&& 0x0FE00000

/-- Function f becomes FAILED with a cause; the first cause stays (R230, R231, R236, R237). -/
def Mach.fnFail (m : Mach) (f cause behind : Nat) : Mach :=
  if m.b F.SF_FN_STAT_FAILED f then m
  else
    let m := (m.sb F.SF_FN_STAT_FAILED true f).s F.SF_FN_STAT_CAUSE cause f
    let m := (((m.sb F.SF_FN_STAT_DEG false f).sb F.SF_FN_STAT_CAPACT false f).s F.SF_FN_STAT_DEGLEFT 0 f).sb F.SF_FN_STAT_PERMIT false f
    let m := (m.setb F.SF_FAILED f true).setb F.SF_DEGRADED f false
    let m := (m.setb F.SF_PERMIT f false).setFn f { m.fn f with behind := behind }
    m.raise (0x0A00 + cause) 2 f (m.fnArg f)

/-- Every function becomes FAILED with a cause that only a power-up ends (R216, R227). -/
def Mach.allFail (m : Mach) (cause : Nat) : Mach :=
  each (upTo 32) m (fun m f =>
    if m.b F.SF_FN_STAT_FAILED f then
      (if m.g F.SF_FN_STAT_CAUSE f < 14 then (m.s F.SF_FN_STAT_CAUSE cause f).raise (0x0A00 + cause) 2 f (m.fnArg f) else m)
    else m.fnFail f cause 0)

/-- DEGLEFT (R237): TIME less the accumulated time, in whole seconds rounded down. -/
def Mach.degLeft (m : Mach) (f : Nat) : Nat := (m.g F.SF_DEG_CFG_TIME * 1000000 - (m.fn f).acc) / 1000000

/-- Function f enters degraded mode with a cause, or FAILED with cause 13 (R236). -/
def Mach.fnDegrade (m : Mach) (f cause : Nat) : Mach :=
  if m.b F.SF_FN_STAT_FAILED f ∨ m.b F.SF_FN_STAT_DEG f then m
  else if !m.b F.SF_FN_DEG_DEGOK f then m.fnFail f 13 cause
  else
    let m := (m.sb F.SF_FN_STAT_DEG true f).s F.SF_FN_STAT_CAUSE cause f
    let m := ((m.setb F.SF_DEGRADED f true).sb F.SF_FN_STAT_CAPACT false f).s F.SF_FN_STAT_DEGLEFT (m.degLeft f) f
    m.raise (0x0A00 + cause) 2 f (m.fnArg f)

/-- The degraded causes in force for function f, lowest code first (R236). -/
def Mach.causes (m : Mach) (f : Nat) : List Nat :=
  let drives (k : Nat) : Bool := m.b F.SF_SO_CFG_EN k && m.g F.SF_SO_CFG_FN k == f
  (if (upTo 8).any (fun k => drives k && (m.b F.SF_SO_STAT_HSOPEN k || m.b F.SF_SO_STAT_LSOPEN k)) then [1] else []) ++
  (if (upTo 8).any (fun c => bit m.sp.c2 c && m.namesCh f c) then [2] else []) ++
  (if (upTo 16).any (fun i => m.tpOf i < 4 && bit m.sp.c3 (m.tpOf i) && m.namesIn f i) then [3] else []) ++
  (if m.sp.c4 then [4] else []) ++
  (if (upTo 8).any (fun k => drives k && bit m.sp.c5 k) then [5] else [])

/-- Degraded mode of every enabled function follows its causes (R236, R237). -/
def Mach.degradeAll (m : Mach) : Mach :=
  each m.fnsOn m (fun m f =>
    match m.causes f with
    | [] =>
      if m.b F.SF_FN_STAT_DEG f then
        let m := ((m.sb F.SF_FN_STAT_DEG false f).sb F.SF_FN_STAT_CAPACT false f).s F.SF_FN_STAT_CAUSE 0 f
        ((m.s F.SF_FN_STAT_DEGLEFT 0 f).setb F.SF_DEGRADED f false).setFn f { m.fn f with outAt := m.sp.t }
      else m
    | c :: _ => m.fnDegrade f c)

/-- Degraded time of µs `dt` (R237): DEGLEFT, and cause 12 when it reaches TIME. -/
def Mach.degTime (m : Mach) (f dt : Nat) : Mach :=
  let x := m.fn f
  let lim := m.g F.SF_DEG_CFG_TIME * 1000000
  if m.b F.SF_FN_STAT_DEG f then
    let acc := x.acc + dt
    let m := m.setFn f { x with acc := acc }
    if lim ≤ acc then m.fnFail f 12 (m.g F.SF_FN_STAT_CAUSE f)
    else m.s F.SF_FN_STAT_DEGLEFT (m.degLeft f) f
  else if 0 < x.acc ∧ x.outAt + 3600000000 ≤ m.sp.t ∧ !m.b F.SF_FN_STAT_FAILED f then m.setFn f { x with acc := 0 }
  else m

/-! ### Pairs (R224 to R228) -/

/-- A pair becomes SAFE: its event (codes 0x0A10 + k). -/
def Mach.pairSafe (m : Mach) (k : Nat) : Mach :=
  if m.g F.SF_SO_STAT_STATE k = 2 then m else (m.s F.SF_SO_STAT_STATE 2 k).raise (0x0A10 + k) 2 k (m.pairArg k)

/-- One pair's command by the first rule of R224 that applies: closed or open; and whether rules 1 to 6 give open. -/
def Mach.pairRule (m : Mach) (k : Nat) : Bool × Bool :=
  let insp := m.inspPair k
  let f := m.g F.SF_SO_CFG_FN k
  let early :=
    m.st == stPOWER_FAIL || m.sp.fault || m.b F.SF_STAT_SSWOPEN || m.g F.SF_SO_STAT_STATE k == 2 || !m.pairOn k ||
    (if insp then
      (match m.sp.insp with
       | some i => !i.permit || bit i.need (2 * k) || bit i.need (2 * k + 1)
       | none => true)
     else
      m.sp.insp.isSome || !m.b F.SF_STAT_RUN || !m.b F.SF_STAT_FIRSTOK || !m.gb F.SF_PERMIT f ||
      (m.b F.SF_FN_CFG_REQEN f &&
        (let c := m.cell (0x0700 + m.g F.SF_FN_CFG_REQCELL f)
         !c.2 || decide (c.1.toInt < 0x8000))))
  let edm := (m.edmOf k).1 && !(m.pair k).cmd && !m.edmIn k
  (!(early || m.b F.SF_SO_STAT_OVL k || edm), early)

/-- The command of pair k takes effect (R224): switching counts, the feedback check, and the end of a test in progress. -/
def Mach.command (m : Mach) (k : Nat) (on : Bool) : Mach :=
  let x := m.pair k
  let m := if m.g F.SF_SO_STAT_STATE k = 2 then m else m.s F.SF_SO_STAT_STATE (b2n on) k
  if x.cmd = on then m
  else
    let m := if on then (m.count (96 + 2 * k) 1).count (97 + 2 * k) 1 else m
    let m := m.setPair k { x with cmd := on, fresh := true, dev := [0, 0, 0, 0],
                                  edm := if (m.edmOf k).1 then some m.sp.t else none }
    match m.sp.test with
    | some (q, _, _) =>
      if q = k then
        { (m.inc F.SF_ASSAY_ABANDON 255) with sp := { m.sp with test := none, incomplete := true } }
      else m
    | none => m

/-- Summary bits of `SF_STAT`. -/
def Mach.spSummary (m : Mach) : Mach :=
  let m := (m.sb F.SF_STAT_DEGANY (m.g F.SF_DEGRADED != 0)).sb F.SF_STAT_FAILANY (m.g F.SF_FAILED != 0)
  m.sb F.SF_STAT_SPFAULT ((upTo 32).any (fun f => decide (14 ≤ m.g F.SF_FN_STAT_CAUSE f)))

/-- The supply switch opens for good; every pair opens and becomes SAFE (R227, R228). -/
def Mach.supplyOpen (m : Mach) : Mach :=
  let m := { (m.sb F.SF_STAT_SSWOPEN true) with sp := { m.sp with tripped := true } }
  each (upTo 8) m (fun m k => (m.command k false).pairSafe k)

/-- SP internal fault (R216, R228): every switch and the supply switch open at once, the SP stops. An edit session and
inspection mode end at the next end of latch (R249, R256). -/
def Mach.spFault (m : Mach) : Mach :=
  if m.sp.fault then m
  else
    let m := { m with sp := { m.sp with fault := true, test := none, cmds := List.replicate 8 false } }
    let m := m.supplyOpen
    let m := ((m.setBitW F.DEV_ENG_FAULT_FAULT 2).setb F.DEV_ENG_RUN_RUN 2 false).sb F.SF_STAT_RUN false
    (m.allFail 14).spSummary

/-- A switch finding of R226 and its result under R227. -/
def Mach.finding (m : Mach) (k : Nat) (f : Fd) : Mach :=
  let m := m.sb f true k
  if f = F.SF_SO_STAT_HSCLOSE ∨ f = F.SF_SO_STAT_LSCLOSE then
    let x := m.pair k
    (m.setPair k { x with found := setBit x.found (if f = F.SF_SO_STAT_HSCLOSE then 0 else 1) true }).pairSafe k
  else if m.b F.SF_SO_STAT_HSOPEN k ∧ m.b F.SF_SO_STAT_LSOPEN k then m.supplyOpen.allFail 15
  else m

/-- The pair commands at a tick (R224): as the SP staged them, or held if its work did not count (R40, R217); rules 1 to 3
act at the tick itself. After two commit points without a right token every switch opens and the SP fails (R217). -/
def spTick (m : Mach) : Mach :=
  let m := each (upTo 8) m (fun m k =>
    let early := m.st == stPOWER_FAIL || m.sp.fault || m.b F.SF_STAT_SSWOPEN || m.g F.SF_SO_STAT_STATE k == 2
    let m := m.command k (nth m.sp.cmds k false && !early && !m.b F.SF_SO_STAT_OVL k)
    if m.b F.SF_SO_STAT_OVL k && (m.pairRule k).2 then m.sb F.SF_SO_STAT_OVL false k else m)
  if 2 ≤ m.sp.miss then m.spFault else m

/-- The commands that the SP stages for the next tick. -/
def spStage (m : Mach) : Mach := { m with sp := { m.sp with cmds := (upTo 8).map (fun k => (m.pairRule k).1) } }

/-- PAIR_OVERLOAD_TRIP (R223, R224): both switches open in hardware; a third trip within 10 s makes the pair SAFE. -/
def Mach.overload (m : Mach) (k : Nat) : Mach :=
  let x := m.pair k
  let recent := x.ovl.filter (fun t => decide (m.sp.t < t + 10000000)) ++ [m.sp.t]
  let m := m.setPair k { x with ovl := recent }
  let m := (m.sb F.SF_SO_STAT_OVL true k).s F.SF_SO_STAT_OVLCNT (min 15 recent.length) k
  let m := m.command k false
  if 3 ≤ recent.length then m.pairSafe k else m

/-- SOS measured (R223, R228): the supply switch closes at power-up as soon as SOSOK is 1. -/
def Mach.sosSeen (m : Mach) (mv : Nat) : Mach :=
  let ok := decide (16000 ≤ mv)
  let m := (m.s F.SF_STAT_SOSV (min 65535 mv)).sb F.SF_STAT_SOSOK ok
  let m := if ok then m else { m with sp := { m.sp with incomplete := true, sosLow := true } }
  if ok && !m.sp.tripped then m.sb F.SF_STAT_SSWOPEN false else m

/-! ### What the latch phase samples (R218) -/

/-- The SP's latch at cycle 960: inputs, node comparators, SOS. -/
def spLatch (m : Mach) (si hs ls sos : Nat) : Mach :=
  let m := { m with sp := { m.sp with prev := m.sp.raw, raw := si % 65536, hs := hs, ls := ls } }
  let m := each (upTo 8) m (fun m k => (m.sb F.SF_SO_STAT_HSN (bit hs k) k).sb F.SF_SO_STAT_LSN (bit ls k) k)
  m.sosSeen sos

/-! ### Inputs (R221, R222) -/

/-- One input at a pulse of source k: the check of R221, and cross-wiring. `b` is the sample before the pulse: an input that read
0 is not checked. A pulse after which the input stays at 0 is neither passed nor failed. -/
def pulseInput (k b : Nat) (m : Mach) (i : Nat) : Mach :=
  let tp := m.tpOf i
  let dip := bit m.sp.dips i
  let fails := nth m.sp.tpFail i 0
  let set (m : Mach) (f p : Nat) : Mach := { m with sp := { m.sp with tpFail := setNth 0 16 m.sp.tpFail i f, tpPass := setNth 0 16 m.sp.tpPass i p } }
  if tp ≥ 4 ∨ !bit b i then m
  else if tp ≠ k ∧ !dip then m
  else
    let off := bit m.sp.tpOff k
    let good := tp == k && dip && bit m.sp.raw i && !off
    if good then set m 0 (nth m.sp.tpPass i 0 + 1)
    else if tp = k ∧ dip ∧ !off then set m fails 0
    else
      let m := set m (fails + 1) 0
      if 2 ≤ fails + 1 ∧ !m.gb F.SF_SI_FAULT_FAULT i then
        let m := m.setb F.SF_SI_FAULT_FAULT i true
        m.raise (0x0A30 + i) 2 i (m.g F.SF_SI_FAULT_FAULT)
      else m

/-- Inputs of a frame: the pulse of the last frame is judged, then the filtered values are formed (R222). -/
def spInputs (m : Mach) : Mach :=
  let m := match m.sp.pulse with
    | some (k, b) => each (upTo 16) m (pulseInput k b)
    | none => m
  let m := { m with sp := { m.sp with pulse := none, dips := 0 } }
  let old := m.g F.SF_SI_STATE_FILT
  let f (i : Nat) : Bool :=
    let fl := if m.sp.insp.isSome ∧ 12 ≤ i then false else m.b F.SF_SI_CFG_FILT i
    let r := bit m.sp.raw i
    if m.gb F.SF_SI_FAULT_FAULT i then false
    else if fl then (if r == bit m.sp.prev i then r else bit old i) else r
  (m.s F.SF_SI_STATE_RAW m.sp.raw).s F.SF_SI_STATE_FILT ((upTo 16).foldl (fun a i => if f i then a + 2 ^ i else a) 0)

/-! ### Monitor channels (R230, R231) -/

/-- The signed difference of two captures of a port, modulo 2^32 or 2^BITS. -/
def Mach.capDiff (m : Mach) (p a b : Nat) : Int :=
  let w := if m.g F.ADC_EP_CFG_MODE p = 3 then m.g F.ADC_EP_SSI_BITS p else 32
  sgn w (wrap w ((a : Int) - b))

/-- A port's copy shows a condition of `LINE`, `ILLEGAL`, `AMPERR` or `SSIERR`. -/
def Mach.encBad (m : Mach) (p : Nat) : Bool := (nth m.ep p {}).cond != 0

/-- Counts per second from counts per N frames in Q47.16. -/
def perSecond (m : Mach) (dp : Int) (n : Nat) : Int := rndDiv (dp * 400000000) ((n * m.L : Nat) : Int)

/-- The positions of the last 100 ms with the present one (R230): time and position at each change, newest first, down to the one
that held 100 ms ago. -/
def pastOf (t : Nat) (p : Int) (l : List (Nat × Int)) : List (Nat × Int) :=
  let l := match l with
    | (s, q) :: r => if q = p then (s, q) :: r else (t, p) :: (s, q) :: r
    | [] => [(t, p)]
  let young (e : Nat × Int) : Bool := decide (t < e.1 + 100000)
  l.takeWhile young ++ (l.dropWhile young).take 1

/-- `STILLF` (R230): p has changed by less than 1 count over the last 100 ms. -/
def stillNow (t : Nat) (p : Int) (l : List (Nat × Int)) : Bool :=
  match l.find? (fun e => decide (e.1 + 100000 ≤ t)) with
  | some e => decide ((p - e.2).natAbs < 65536)
  | none => false

/-- One channel follows its port (R230). -/
def monStep (m : Mach) (c : Nat) : Mach :=
  if !m.b F.SF_MON_CFG_EN c then m
  else
    let x := m.mon c
    let port := m.g F.SF_MON_CFG_SPORT c
    let cap := (nth m.ep port {}).spCap
    let d := match x.cap with
      | some o => m.capDiff port cap o
      | none => 0
    let p := x.p + rnd (m.gi F.SF_MON_K c * d) 12
    let n := m.g F.SF_MON_CFG_NAVG c + 1
    let p0 := (nth x.hist (n - 1) (0, 0, 0, false)).2.1
    let dp := if n ≤ x.hist.length then p - p0 else 0
    let vf := rndDiv dp n
    let v := perSecond m dp n
    let past := pastOf m.sp.t p x.past
    let still := stillNow m.sp.t p past
    let enc := m.encBad port
    let run := if enc then x.encRun + 1 else 0
    let m := m.setMon c { x with p := p, v := v, cap := some cap, past := past, encRun := run,
                                 hist := ((m.frame, p, vf, still) :: x.hist).take 256, seenEnc := x.seenEnc || decide (2 ≤ run),
                                 cleanEnc := x.cleanEnc && decide (run < 2) }
    let m := ((m.si F.SF_MON_SPD (satS 32 (rnd v 16)) c).s F.SF_MON_POS (wrap 32 (p / 65536)) c).sb F.SF_MON_STAT_STILLF still c
    if 2 ≤ run then
      each m.fnsOn (m.sb F.SF_MON_STAT_ENCERR true c) (fun m f => if m.namesCh f c then m.fnFail f 9 0 else m)
    else m

/-- A comparison of R231 with frame m of the channel's history. -/
def monCompare (m : Mach) (c : Nat) (h : Nat × Int × Int × Bool) (pos spd : Int) : Mach :=
  let x := m.mon c
  let raw := sgn 32 (wrap 32 (h.2.1 - pos))
  let ofs := if h.2.2.2 then raw else x.ofs
  let dp := if h.2.2.2 then 0 else sgn 32 (wrap 32 (h.2.1 - pos - x.ofs))
  let dv := h.2.2.1 - spd
  let vt := m.g F.SF_MON_TOL_VTOL c * 16 * 65536 * m.L
  let agree := decide (dv.natAbs * 400000000 ≤ vt) && decide (dp.natAbs ≤ m.g F.SF_MON_TOL_PTOL c * 65536)
  let bad := if agree then 0 else x.bad + 1
  let m := m.setMon c { x with ofs := ofs, bad := bad, seenBad := x.seenBad || !agree, seenAgree := x.seenAgree || agree,
                                cleanDiv := x.cleanDiv && decide (bad < 3) }
  let m := (m.si F.SF_MON_DIFF_DV (satS 16 (rndDiv (dv * 400000000) ((m.L * 16 * 65536 : Nat) : Int))) c).si F.SF_MON_DIFF_DP
    (satS 16 (rnd dp 16)) c
  if agree then (m.sb F.SF_MON_STAT_DIVLOST false c).sb F.SF_MON_STAT_AGREED true c
  else if 3 ≤ bad then
    each m.fnsOn (m.sb F.SF_MON_STAT_DIVFAIL true c) (fun m f => if m.namesCh f c then m.fnFail f 8 0 else m)
  else m

/-- DIVLOST (R231): no new stamp for DIVT ms. The present assay cycle no longer counts as one of agreement (R236). -/
def Mach.divLost (m : Mach) (c : Nat) : Mach :=
  let m := m.setMon c { m.mon c with seenBad := true }
  { (m.sb F.SF_MON_STAT_DIVLOST true c) with sp := { m.sp with c2 := setBit m.sp.c2 c true } }

/-- The time without a new stamp has reached DIVT. -/
def Mach.divDue (m : Mach) (c : Nat) : Bool :=
  m.b F.SF_MON_CFG_EN c && !m.b F.SF_MON_STAT_DIVLOST c && decide ((m.mon c).newAt + m.g F.SF_MON_CFG_DIVT c * 1000 ≤ m.sp.t)

/-- The diverse cells of one channel at an end of latch (R231). -/
def monDiverse (m : Mach) (c : Nat) : Mach :=
  if !m.b F.SF_MON_CFG_EN c then m
  else
    let d := 0x0700 + m.g F.SF_MON_CFG_DCELL c
    let (w, ok) := m.cell d
    let s := (w.toInt / 65536 % 32768).toNat
    let x := m.mon c
    if ok ∧ x.stamp ≠ some s then
      let m := (m.setMon c { x with stamp := some s, newAt := m.sp.t }).s F.SF_MON_STAT_AGE 0 c
      match x.hist.find? (fun h => decide (h.1 < m.frame) && decide (m.frame - h.1 ≤ 255) && h.1 % 32768 == s) with
      | some h => monCompare m c h (m.cellI (d + 1)) (m.cellI (d + 2))
      | none => m
    else
      let m := m.inc F.SF_MON_STAT_AGE 65535 c
      if m.divDue c then m.divLost c else m

/-! ### The function table (R232, R233) -/

/-- The filtered value of input i. -/
def Mach.inp (m : Mach) (i : Nat) : Bool := if i < 16 then m.gb F.SF_SI_STATE_FILT i else false

/-- Two-channel inputs: equal-channel (IN2E) or antivalent (IN2A) with a discrepancy time in µs. -/
def twoChan (now lim : Nat) (a b : Bool) (st : TermS) : Bool × TermS :=
  let differ := a != b
  let since := if differ then some (st.since.getD now) else none
  let late := match since with
    | some t => decide (t + lim < now)
    | none => false
  let bad := if !a && !b then false else st.bad || late
  (a && b && !bad, { st with since := since, bad := bad })

/-- One term of function f, the others' results apart: true, and its memory. -/
def Mach.fterm (m : Mach) (t : Nat × Nat × Nat × Nat) (st : TermS) : Bool × TermS :=
  let (o, a, b, par) := t
  let dead (c : Nat) : Bool := m.b F.SF_MON_STAT_ENCERR c || m.b F.SF_MON_STAT_DIVFAIL c
  let permit (f : Nat) : Bool := m.gb F.SF_PERMIT f
  let x := m.mon a
  match o with
  | 1 => (m.inp a, st)
  | 2 => twoChan m.sp.t (par * 1000) (m.inp a) (m.inp b) st
  | 3 => twoChan m.sp.t (par * 1000) (m.inp a) (!m.inp b) st
  | 4 => (permit a, st)
  | 5 => (!dead a && decide (x.v.natAbs ≤ par * 65536), st)
  | 6 => (!dead a && (permit b || decide (x.v.natAbs ≤ par * 65536)), st)
  | 7 =>
    if permit b then (!dead a, { st with p0 := none, bad := false })
    else
      let p0 := st.p0.getD x.p
      let bad := st.bad || decide (par * 65536 < (x.p - p0).natAbs)
      (!dead a && !bad, { st with p0 := some p0, bad := bad })
  | 8 => (m.b F.SF_MON_STAT_AGREED a && !dead a, st)
  | 9 => (st.on, st)
  | 10 =>
    match (m.fn a).perm with
    | some s => (permit a && decide (s + par * 1000 ≤ m.sp.t), st)
    | none => (false, st)
  | _ => (false, st)

/-- RESET after the other terms are known (R233): a press of 50 ms to 5 s released while they are all true. -/
def Mach.resetTerm (m : Mach) (a : Nat) (others : Bool) (st : TermS) : TermS :=
  let v := m.inp a
  match st.press with
  | none => { st with press := if v then some m.sp.t else none, on := st.on && others }
  | some s =>
    if v then { st with on := st.on && others }
    else
      let ok := decide (s + 50000 ≤ m.sp.t) && decide (m.sp.t ≤ s + 5000000)
      { st with press := none, on := (st.on || ok) && others }

/-- Function f is evaluated (R232). -/
def evalFn (m : Mach) (f : Nat) : Mach :=
  let idx := (upTo 4).filter (fun j => m.g F.SF_TERM_A_OPC f j != 0)
  let tm (j : Nat) : Nat × Nat × Nat × Nat :=
    (m.g F.SF_TERM_A_OPC f j, m.g F.SF_TERM_A_A f j, m.g F.SF_TERM_A_B f j, m.g F.SF_TERM_B f j)
  let x := m.fn f
  let res := idx.map (fun j => (j, m.fterm (tm j) (nth x.terms j {})))
  let fin := res.map (fun (r : Nat × Bool × TermS) =>
    if (tm r.1).1 = 9 then
      let others := res.all (fun (q : Nat × Bool × TermS) => q.1 == r.1 || q.2.1)
      let st := m.resetTerm (tm r.1).2.1 others r.2.2
      (r.1, st.on, st)
    else r)
  let c := if m.b F.SF_FN_CFG_MODE f then fin.any (fun r => r.2.1) else fin.all (fun r => r.2.1)
  let vc := (m.mon (m.g F.SF_FN_DEG_CAPCH f)).v.natAbs
  let within := decide (vc ≤ m.g F.SF_FN_DEG_VCAP f * 65536)
  let deg := m.b F.SF_FN_STAT_DEG f
  let cap := deg && (m.b F.SF_FN_STAT_CAPACT f || within)
  let p := c && (!cap || within) && !m.b F.SF_FN_STAT_FAILED f && m.b F.SF_STAT_RUN
  let m := m.setFn f { x with terms := fin.foldl (fun l r => updAt l r.1 r.2.2) x.terms,
                              perm := if p then some (x.perm.getD m.sp.t) else none }
  let m := m.s F.SF_FN_STAT_TERMS (fin.foldl (fun a r => if r.2.1 then a + 2 ^ r.1 else a) 0) f
  ((m.sb F.SF_FN_STAT_CAPACT cap f).sb F.SF_FN_STAT_PERMIT p f).setb F.SF_PERMIT f p

/-! ### Pairs in a frame (R225, R226) -/

/-- Feedback monitoring of pair k (R225). -/
def edmStep (m : Mach) (k : Nat) : Mach :=
  let (en, _, lim) := m.edmOf k
  let x := m.pair k
  match x.edm with
  | none => m
  | some t =>
    if !en ∨ !m.pairOn k then m.setPair k { x with edm := none }
    else if m.edmIn k = !x.cmd then m.setPair k { x with edm := none }
    else if t + lim ≤ m.sp.t then
      let m := m.setPair k { x with edm := none, found := setBit x.found 2 true }
      let m := m.sb F.SF_SO_STAT_EDMF true k
      if m.g F.SF_SO_STAT_STATE k = 2 then m.raise (0x0A10 + k) 2 k (m.pairArg k) else m.pairSafe k
    else m

/-- The time of a command change is taken at the end of latch after its tick (R226). -/
def pairTime (m : Mach) (k : Nat) : Mach :=
  let x := m.pair k
  if x.fresh then m.setPair k { x with fresh := false, changed := m.sp.t } else m

/-- The node checks outside pulses (R226, R227). The end of latch lies 1,200 cycles (3 µs) after the tick, a sample 240 cycles before
it: a sample is within 1 ms of the tick where its end of latch is at most 997 µs after that of the tick's frame. -/
def nodeStep (m : Mach) (k : Nat) : Mach :=
  let x := m.pair k
  let under : Bool := match m.sp.test with
    | some (q, _, _) => q == k
    | none => false
  if !m.pairOn k || !m.b F.SF_STAT_SOSOK || under || decide (m.sp.t ≤ x.changed + 997) || m.sp.fault || m.b F.SF_STAT_SSWOPEN then
    m.setPair k { x with dev := [0, 0, 0, 0] }
  else
    let hs := bit m.sp.hs k
    let ls := bit m.sp.ls k
    let hits := [x.cmd && !hs && !m.b F.SF_SO_STAT_OVL k, x.cmd && ls, !x.cmd && hs && ls, !x.cmd && hs && !ls]
    let dev := (upTo 4).map (fun i => if nth hits i false then nth x.dev i 0 + 1 else 0)
    let m := m.setPair k { x with dev := dev }
    let m := if nth dev 0 0 = 2 then m.finding k F.SF_SO_STAT_HSCLOSE else m
    let m := if nth dev 1 0 = 2 then m.finding k F.SF_SO_STAT_LSCLOSE else m
    let m := if nth dev 2 0 = 2 then m.finding k F.SF_SO_STAT_HSOPEN else m
    if nth dev 3 0 = 2 then m.supplyOpen.allFail 15 else m

/-! ### The inspection permit (R255) -/

/-- The permit of inspection mode in a frame. -/
def inspStep (m : Mach) : Mach :=
  match m.sp.insp with
  | none => m
  | some i =>
    let cap := (nth m.ep i.port {}).spCap
    let d := match i.cap with
      | some o => m.capDiff i.port cap o
      | none => 0
    let p := (nth i.pos 0 0) + d
    let pos := (p :: i.pos).take 9
    let v := if 9 ≤ pos.length then perSecond m ((p - nth pos 8 0) * 65536) 8 else 0
    let run := if m.encBad i.port then i.encRun + 1 else 0
    let (h, hold) := twoChan m.sp.t 500000 (m.inp 14) (m.inp 15) i.hold
    let fast := decide (i.vins * 65536 < v.natAbs)
    let past := (i.past && (m.inp 14 || m.inp 15)) || fast
    let ok := m.inp 12 && m.inp 13 && h && !past && decide (run < 2)
    { m with sp := { m.sp with insp := some { i with pos := pos, cap := some cap, encRun := run, hold := hold, past := past, permit := ok } } }

/-! ### The frame of the SP (R218) -/

/-- `SF_STAT.RUN` (R240, R249): the set is CONFIRMED, no edit session is open, the SP runs. -/
def Mach.spRunBit (m : Mach) : Mach :=
  let run := m.b F.DEV_STATE_HALLMARK_OK && m.sp.edit.isNone && !m.sp.fault
  let m := m.sb F.SF_STAT_RUN run
  if run then m
  else (each (upTo 32) m (fun m f => m.sb F.SF_FN_STAT_PERMIT false f)).s F.SF_PERMIT 0

/-- While no function is evaluated, none permits: continuous times start anew (DELAY), and a STILL term takes p0 at the first such
sample (R233, R240). -/
def Mach.fnsIdle (m : Mach) : Mach :=
  each m.fnsOn m (fun m f =>
    let x := m.fn f
    let st (j : Nat) : TermS :=
      let t := nth x.terms j {}
      if m.g F.SF_TERM_A_OPC f j = 7 then { t with p0 := some (t.p0.getD (m.mon (m.g F.SF_TERM_A_A f j)).p) } else t
    m.setFn f { x with perm := none, terms := (upTo 4).map st })

/-- The SP's work from the end of latch: inputs, channels, comparisons, functions, pairs (R218); `t` is its time in µs. -/
def spFrame (m : Mach) (t : Nat) : Mach :=
  if m.sp.fault ∨ !m.engRuns 2 then m
  else
    let dt := t - m.sp.t
    let m := { m with sp := { m.sp with t := max t m.sp.t } }
    let m := match m.spCopies with
      | some (a, b) => m.spRead a b
      | none => m
    let m := spInputs (each (upTo 8) m pairTime)
    let m := each (upTo 8) m monStep
    let m := each (upTo 8) m monDiverse
    let m := m.spRunBit
    let m := each m.fnsOn m (fun m f => m.degTime f dt)
    let m := inspStep m.degradeAll
    let m := if m.b F.SF_STAT_RUN then each m.fnsOn m evalFn else m.fnsIdle
    let m := each (upTo 8) m edmStep
    let m := each (upTo 8) m nodeStep
    let m := each (upTo 8) m (fun m k =>
      m.s F.SF_SO_STAT_OVLCNT (min 15 ((m.pair k).ovl.filter (fun s => decide (m.sp.t < s + 10000000))).length) k)
    let clear (x : Ep) : Ep := { x with cond := setBit (setBit x.cond 3 false) 5 false }
    let m := ({ m with ep := m.ep.map clear }).spSummary
    match m.spCopies with
    | some (a, b) => m.spWrite a b
    | none => m

/-- The alive token at a commit point (R217): missing once, the previous commands hold; twice, all switches open at the following
tick. DEDUCED: an SP that overruns has written no commands, so its token counts as missing; R41 fails the SP after two
overruns in a row, which is the same. -/
def spToken (m : Mach) (ok : Bool) : Mach :=
  if m.sp.fault then m
  else if ok then spStage { m with sp := { m.sp with miss := 0 } }
  else
    let n := m.sp.miss + 1
    { m with sp := { m.sp with miss := n, cmds := if 2 ≤ n then List.replicate 8 false else m.sp.cmds } }

/-- W0 of the SP's two copy banks, the larger (R218). -/
def Mach.spW0 (m : Mach) : Nat :=
  match m.spCopies with
  | some (a, b) => max (m.bounds (bankOf a)).1 (m.bounds (bankOf b)).1
  | none => 0

/-- The SP's budget in cycles (R218). -/
def Mach.spBudget (m : Mach) : Nat :=
  1000 + m.fnsOn.foldl (fun a f => a + 40 + 25 * (m.termsOf f).length) 0 +
  150 * ((upTo 8).filter (fun c => m.b F.SF_MON_CFG_EN c)).length + 40 * ((upTo 8).filter (fun k => m.b F.SF_SO_CFG_EN k)).length +
  12 * (m.spW0 + 4)

/-- `FRM_BUD[2]` of the set in force (R38). -/
def Mach.spBudgetShown (m : Mach) : Mach := m.putBudget 2 true m.spBudget

/-! ### The assay (R226, R235, R236) -/

/-- An assay cycle ends: causes that were absent throughout a complete one end (R236); a switch that completed no test in two cycles
with `SOSOK` 1 is missed, whether or not the cycles were complete (R227). -/
def Mach.cycleEnd (m : Mach) : Mach :=
  let s := m.sp
  let m := each (upTo 8) m (fun m c =>
    let x := m.mon c
    let clean := !s.incomplete && !x.seenBad && x.seenAgree && !m.b F.SF_MON_STAT_DIVLOST c
    m.setMon c { x with cleanDiv := clean, cleanEnc := !s.incomplete && !x.seenEnc, seenBad := false, seenAgree := false, seenEnc := false })
  let c2 := (upTo 8).foldl (fun a c => if (m.mon c).cleanDiv then setBit a c false else a) s.c2
  let c3 := if s.incomplete then s.c3 else s.c3 - (s.c3 &&& (15 - s.seen3 % 16))
  let miss (k : Nat) : Bool := m.pairOn k && !s.sosLow && ((m.pair k).done ||| (m.pair k).doneLast) % 4 != 3
  let m := each (upTo 8) m (fun m k =>
    let x := m.pair k
    let hit := miss k
    let m := m.setPair k { x with done := 0, doneLast := if s.sosLow then 3 else x.done }
    if hit then { (m.sb F.SF_SO_STAT_MISS true k) with sp := { m.sp with c5 := setBit m.sp.c5 k true, seen5 := setBit m.sp.seen5 k true } } else m)
  let c4 := s.c4 && (s.seen4 || s.incomplete)
  let m := m.s F.SF_TP_CFG_TPFAULT c3
  let m := m.sb F.SF_STAT_CLKWARN c4
  let m := if s.incomplete then m else (m.inc F.SF_ASSAY_CYCLES 65535).sb F.SF_STAT_FIRSTOK true
  { m with sp := { m.sp with c2 := c2, c3 := c3, c4 := c4, seen3 := 0, seen4 := false,
                             quiet5 := 255 - (m.sp.seen5 ||| m.sp.c5) % 256, seen5 := m.sp.c5, incomplete := false,
                             sosLow := !m.b F.SF_STAT_SOSOK } }

/-- Bytes of the set's copy A compared in a slot with the image in use (R248). -/
def Mach.keyCompare (m : Mach) (slot : Nat) (readable : Bool) : Mach :=
  if m.sp.setState ≠ 3 ∨ m.sp.keyWrite.isSome then m
  else
    let diff := !readable || m.keyBytes (0x70000 + 56 * slot) 56 != sliceB m.sp.image (56 * slot) 56
    let now := (if slot = 0 then false else m.sp.keyNow) || diff
    let m := { m with sp := { m.sp with keyNow := now } }
    if slot = 31 then
      let run := if now then m.sp.keyRun + 1 else 0
      let on := decide (2 ≤ run)
      let m := if on && !m.sp.keyDiff then m.raise 0x0B02 2 (fieldAt m.sp.image 8 4) (fieldAt m.sp.image 0x600 4) else m
      { m with sp := { m.sp with keyRun := run, keyDiff := on || (m.sp.keyDiff && now) } }
    else m

/-- ASSAY_SLOT (R226, R235): the next slot begins; a test of the last one without a readback leaves the cycle incomplete. Its RAM and flash tests and whether the Key could be read are given. -/
def Mach.assaySlot (m : Mach) (ramOk flashOk keyOk : Bool) : Mach :=
  if m.sp.fault then m
  else if !(ramOk && flashOk) then m.spFault
  else
    let s := match m.sp.slot with
      | none => 0
      | some s => (s + 1) % 32
    let m := if m.sp.test.isSome then { m with sp := { m.sp with incomplete := true } } else m
    let m := if s ≠ 0 then m
      else if m.sp.slot.isSome then m.cycleEnd
      else { m with sp := { m.sp with incomplete := false, sosLow := !m.b F.SF_STAT_SOSOK } }
    let m := { (m.s F.SF_ASSAY_SLOT s) with sp := { m.sp with slot := some s, test := none } }
    let m := m.keyCompare s keyOk
    let k := s % 16 / 2
    if !m.pairOn k then m
    else if !m.b F.SF_STAT_SOSOK ∨ m.b F.SF_STAT_SSWOPEN then { m with sp := { m.sp with incomplete := true } }
    else { m with sp := { m.sp with test := some (k, s % 2, (m.pair k).cmd) } }

/-- SWITCH_TEST_READBACK (R226, R227): the nodes 290 µs into the pulse. -/
def Mach.readback (m : Mach) (hs ls : Bool) : Mach :=
  match m.sp.test with
  | none => m
  | some (k, sw, on) =>
    let m := { m with sp := { m.sp with test := none } }
    if m.sp.fault ∨ !m.b F.SF_STAT_SOSOK then { m with sp := { m.sp with incomplete := true } }
    else
      let m := m.count (96 + 2 * k + sw) 1
      let x := m.pair k
      let m := m.setPair k { x with done := setBit x.done sw true, found := setBit x.found sw false }
      let m := match m.sp.insp with
        | some i => { m with sp := { m.sp with insp := some { i with need := setBit i.need (2 * k + sw) false } } }
        | none => m
      let x := m.pair k
      let m := if (x.done ||| x.doneLast) % 4 = 3 then
          { (m.sb F.SF_SO_STAT_MISS false k) with sp := { m.sp with c5 := setBit m.sp.c5 k false } } else m
      if on then
        (if sw = 0 then (if hs then m.finding k F.SF_SO_STAT_HSOPEN else m)
         else (if ls then m else m.finding k F.SF_SO_STAT_LSOPEN))
      else if sw = 0 then
        let m := if hs then m else m.finding k F.SF_SO_STAT_HSCLOSE
        if !ls then m.finding k F.SF_SO_STAT_LSOPEN else m
      else
        let m := if ls then m.finding k F.SF_SO_STAT_LSCLOSE else m
        if hs then m.finding k F.SF_SO_STAT_HSOPEN else m

/-- CLOCK_WINDOW (R215, R236): `n` reference cycles were counted in 4,000,000 FCLK cycles. -/
def Mach.clockWindow (m : Mach) (n : Nat) : Mach :=
  if m.sp.fault then m
  else
    let d : Int := (n : Int) - 160000
    let m := m.si F.SF_CLK_DEV (satS 16 (rndDiv (d * 5) 8))
    if 1600 < d.natAbs then m.spFault
    else if 800 < d.natAbs then { (m.sb F.SF_STAT_CLKWARN true) with sp := { m.sp with c4 := true, seen4 := true } }
    else if 640 < d.natAbs then { m with sp := { m.sp with seen4 := true } }
    else m

/-- TEST_PULSE (R220, R221): the source whose pulse falls in this frame goes low; `low` says that its output did. -/
def Mach.testPulse (m : Mach) (low : Bool) : Mach :=
  match m.pulseSource m.frame with
  | none => m
  | some k =>
    let m := { m with sp := { m.sp with pulse := some (k, m.sp.raw), dips := 0 } }
    if low then m
    else
      let m := m.setb F.SF_TP_CFG_TPFAULT k true
      { m with sp := { m.sp with c3 := setBit m.sp.c3 k true, seen3 := setBit m.sp.seen3 k true } }

/-! ### Rearm (R238) -/

/-- A FAILED function may be rearmed. -/
def Mach.fnRearms (m : Mach) (f : Nat) : Bool :=
  let chOk (b : Fd) : Bool := (upTo 8).all (fun c => !(m.namesCh f c) || !m.b b c)
  match m.g F.SF_FN_STAT_CAUSE f with
  | 8 => chOk F.SF_MON_STAT_DIVFAIL
  | 9 => chOk F.SF_MON_STAT_ENCERR
  | 12 | 13 =>
    let cs := m.causes f
    !(cs.contains (m.fn f).behind) && !(cs.contains 1) &&
    ((m.fn f).behind != 5 || (upTo 8).all (fun k => !(m.g F.SF_SO_CFG_FN k == f) || bit m.sp.quiet5 k))
  | _ => false

/-- Something is FAILED, SAFE or an input fault: a rearm clears or refuses it (R238). -/
def Mach.rearmable (m : Mach) : Bool :=
  (upTo 32).any (fun f => m.b F.SF_FN_STAT_FAILED f) || (upTo 8).any (fun k => m.g F.SF_SO_STAT_STATE k == 2) ||
  m.g F.SF_SI_FAULT_FAULT != 0

/-- REARM (R238): what is eligible is cleared; each item cleared or refused raises its event, and a rearm that finds none raises one. -/
def Mach.rearm (m : Mach) : Mach :=
  if m.sp.fault then m.raise 0x0A21 2 (openArg 0x0A21 0) (openArg 0x0A21 1)
  else
    let m := if m.rearmable then m else m.raise 0x0A20 2 (openArg 0x0A20 0) (openArg 0x0A20 1)
    let m := each (upTo 8) m (fun m c =>
      let x := m.mon c
      let m := if m.b F.SF_MON_STAT_DIVFAIL c && x.cleanDiv then
          ((m.sb F.SF_MON_STAT_DIVFAIL false c).sb F.SF_MON_STAT_AGREED false c).setMon c { x with bad := 0 } else m
      if m.b F.SF_MON_STAT_ENCERR c && x.cleanEnc then m.sb F.SF_MON_STAT_ENCERR false c else m)
    let m := each (upTo 32) m (fun m f =>
      if !m.b F.SF_FN_STAT_FAILED f then m
      else if m.fnRearms f then
        let m := ((m.sb F.SF_FN_STAT_FAILED false f).s F.SF_FN_STAT_CAUSE 0 f).setb F.SF_FAILED f false
        (m.setFn f { m.fn f with behind := 0, outAt := m.sp.t }).raise 0x0A20 2 f (m.fnArg f)
      else m.raise 0x0A21 2 f (m.fnArg f))
    let m := each (upTo 8) m (fun m k =>
      let x := m.pair k
      if m.g F.SF_SO_STAT_STATE k ≠ 2 then m
      else
        let found := setBit x.found 2 ((m.edmOf k).1 && !m.edmIn k)
        if found % 8 = 0 ∧ !m.b F.SF_STAT_SSWOPEN then
          let m := ((m.sb F.SF_SO_STAT_HSCLOSE false k).sb F.SF_SO_STAT_LSCLOSE false k).sb F.SF_SO_STAT_EDMF false k
          let m := ((m.s F.SF_SO_STAT_STATE 0 k).s F.SF_SO_STAT_OVLCNT 0 k).setPair k { x with ovl := [], found := 0 }
          m.raise 0x0A20 2 k (m.pairArg k)
        else m.raise 0x0A21 2 k (m.pairArg k))
    let m := each (upTo 16) m (fun m i =>
      if !m.gb F.SF_SI_FAULT_FAULT i then m
      else if 2 ≤ nth m.sp.tpPass i 0 then
        (m.setb F.SF_SI_FAULT_FAULT i false).raise 0x0A20 2 i (m.g F.SF_SI_FAULT_FAULT)
      else m.raise 0x0A21 2 i (m.g F.SF_SI_FAULT_FAULT))
    m.spSummary

/-- A rearm that has been written is done at the end of latch (R238). -/
def Mach.rearmDue (m : Mach) : Mach := if m.b F.SF_CTL_REARM then (m.sb F.SF_CTL_REARM false).rearm else m

/-! ### Commands -/

/-- TEST_PULSE (R220): at cycle 1,200 of this frame. -/
def execTestPulse (low : Bool) (s : State) : Host.Outcome State Fault Refusal :=
  .next { s with m := s.m.testPulse low }

/-- SI_DIP (R219): a low of 1 µs or longer on SIi. -/
def execSiDip (i : Nat) (s : State) : Host.Outcome State Fault Refusal :=
  .next { s with m := if i < 16 then { s.m with sp := { s.m.sp with dips := setBit s.m.sp.dips i true } } else s.m }

/-- ASSAY_SLOT (R235). -/
def execAssaySlot (ramOk flashOk keyOk : Bool) (s : State) : Host.Outcome State Fault Refusal :=
  .next { s with m := s.m.assaySlot ramOk flashOk keyOk }

/-- SWITCH_TEST_READBACK (R226): levels of SOkH and SOkL. Degraded mode begins at the next end of latch. -/
def execSwitchTestReadback (hs ls : Bool) (s : State) : Host.Outcome State Fault Refusal :=
  .next { s with m := (s.m.readback hs ls).spSummary }

/-- CLOCK_WINDOW (R215). -/
def execClockWindow (n : Nat) (s : State) : Host.Outcome State Fault Refusal :=
  .next { s with m := (s.m.clockWindow n).spSummary }

/-- SP_INTERNAL_FAULT (R216), at once. -/
def execSpInternalFault (s : State) : Host.Outcome State Fault Refusal :=
  .next { s with m := s.m.spFault }

/-- PAIR_OVERLOAD_TRIP (R224): pair k has been in current limit for 150 to 180 µs while closed. -/
def execPairOverloadTrip (k : Nat) (s : State) : Host.Outcome State Fault Refusal :=
  .next { s with m := if (s.m.pair k).cmd then s.m.overload k else s.m }

/-- EDM_TIMEOUT (R225): pair k's feedback has not followed within EDMT. -/
def execEdmTimeout (k : Nat) (s : State) : Host.Outcome State Fault Refusal :=
  .next { s with m := edmStep s.m k }

/-- SOS_OK (R228): SOS is measured at `mv` millivolts. -/
def execSosOk (mv : Nat) (s : State) : Host.Outcome State Fault Refusal :=
  .next { s with m := s.m.sosSeen mv }

/-- DIVERSE_TIMEOUT (R231). -/
def execDiverseTimeout (c : Nat) (s : State) : Host.Outcome State Fault Refusal :=
  .next { s with m := if s.m.divDue c then (s.m.divLost c).degradeAll.spSummary else s.m }

/-- DEGRADED_TIME_EXPIRY (R237): function f's degraded time has reached TIME. -/
def execDegradedTimeExpiry (f : Nat) (s : State) : Host.Outcome State Fault Refusal :=
  .next { s with m := (s.m.degTime f 0).spSummary }

/-- DEGRADED_TIMER_RESET (R237): 3,600 s outside degraded mode. -/
def execDegradedTimerReset (f : Nat) (s : State) : Host.Outcome State Fault Refusal :=
  .next { s with m := if s.m.b F.SF_FN_STAT_DEG f then s.m else s.m.degTime f 0 }

/-- TEST_PULSE_SOURCE_SHUTOFF (R459): source k has been in current limit for 100 ms. -/
def execTestPulseSourceShutoff (k : Nat) (s : State) : Host.Outcome State Fault Refusal :=
  .next { s with m := if k < 4 then { s.m with sp := { s.m.sp with tpOff := setBit s.m.sp.tpOff k true } } else s.m }

end Sys2Proof.Machine
end

