-- ==== Sys2Proof/Machine/Hallmark.lean ====
section
/-! DEFINITION. The safety parameter set, its Hallmark, editing, confirming and inspection mode (spec/11_hallmark.md, R242 to
R256; R234, R237 at power-up). -/

namespace Sys2Proof.Machine

open Sys2Proof

/-! ### The set (R242 to R245) -/

/-- The SF registers of BODY in order (R243). -/
def bodyIdx : List Nat :=
  [R.SF_DEG_CFG.idx 0 0, R.SF_TP_CFG.idx 0 0] ++ (upTo 16).map (fun i => R.SF_SI_CFG.idx i 0) ++
  (upTo 8).map (fun k => R.SF_SO_CFG.idx k 0) ++
  ((upTo 8).map (fun c => [R.SF_MON_CFG.idx c 0, R.SF_MON_K.idx c 0, R.SF_MON_TOL.idx c 0])).flatten ++
  ((upTo 32).map (fun f =>
    [R.SF_FN_CFG.idx f 0] ++ ((upTo 4).map (fun j => [R.SF_TERM_A.idx f j, R.SF_TERM_B.idx f j])).flatten ++
    [R.SF_FN_DEG.idx f 0])).flatten

/-- Copy A or B passes its CRC. -/
def setCrcOk (b : List Byte) : Bool := fieldAt b 0x6FC 4 == crc32c (b.take 0x6FC)

/-- A copy on the Key: 2,048 bytes. -/
def Mach.setCopy (m : Mach) (i : Nat) : List Byte := m.keyBytes (0x70000 + 0x800 * i) 2048

/-- The digest that the SP computes (R242). -/
def setDigest (b : List Byte) : List Byte := sha256 (b.take 0x600)

/-- The Hallmark: bytes 0 to 7 of DIGEST (R244). -/
def setHallmark (b : List Byte) : Nat := fieldAt b 0x600 8

/-- REV. -/
def setRev (b : List Byte) : Nat := fieldAt b 8 4

/-- Arguments of the events of group 0x0B: REV and Hallmark bytes 0 to 3 (R348). -/
def Mach.setEvent (m : Mach) (low : Nat) : Mach := m.raise (0x0B00 + low) 2 (setRev m.sp.image) (fieldAt m.sp.image 0x600 4)

/-- The writable bits of an SF register of BODY. -/
def rwsMask (r : R) : Nat :=
  r.flds.foldl (fun a f => if f.acc = .RWS then a ||| (2 ^ (f.hi + 1) - 2 ^ f.lo) else a) 0

/-- The writable bits of the register at an index of BODY. -/
def bodyMask (i : Nat) : Nat :=
  match regAt i with
  | some (r, _, _) => rwsMask r
  | none => 0

/-- The machine as it would be with BODY's registers; RO fields keep their values. -/
def Mach.withBody (m : Mach) (b : List Byte) : Mach :=
  ((bodyIdx.foldl (fun (acc : Mach × Nat) i =>
    let k := bodyMask i
    (acc.1.setWord i (Word.of (((acc.1.word i).toNat &&& (2 ^ 32 - 1 - k)) + (fieldAt b (0x20 + 4 * acc.2) 4 &&& k))), acc.2 + 1)) (m, 0))).1

/-- BODY holds a bit that no writable field has: RO and reserved fields are stored as 0 (R243). -/
def bodyBitsBad (b : List Byte) : Bool :=
  (upTo 370).any (fun n => fieldAt b (0x20 + 4 * n) 4 != (fieldAt b (0x20 + 4 * n) 4 &&& bodyMask (nth bodyIdx n 0)))

/-- A field of BODY holds a value that its register does not store (R234). -/
def Mach.bodyValueBad (m : Mach) : Bool :=
  decide (m.g F.SF_DEG_CFG_TIME < 5) || decide (600 < m.g F.SF_DEG_CFG_TIME) ||
  decide (m.g F.SF_TP_CFG_TPW < 2) || decide (8 < m.g F.SF_TP_CFG_TPW) ||
  (upTo 16).any (fun i => decide (4 < m.g F.SF_SI_CFG_TP i)) ||
  (upTo 8).any (fun k => m.g F.SF_SO_CFG_EDMT k == 0) ||
  (upTo 8).any (fun c => decide (m.g F.SF_MON_CFG_DIVT c < 5) || decide (1000 < m.g F.SF_MON_CFG_DIVT c) ||
    m.g F.SF_MON_TOL_PTOL c == 0 || decide (32767 < m.g F.SF_MON_TOL_PTOL c))

/-- A term of an enabled function is refused (R234). -/
def Mach.termBad (m : Mach) (f : Nat) (t : Nat × Nat × Nat × Nat) : Bool :=
  let (o, a, b, par) := t
  let inBad (i : Nat) : Bool := decide (15 < i) || !m.b F.SF_SI_CFG_EN i
  let chBad (c : Nat) : Bool := decide (7 < c) || !m.b F.SF_MON_CFG_EN c
  let fnBad (g : Nat) : Bool := decide (f ≤ g) || !m.b F.SF_FN_CFG_EN g
  match o with
  | 1 | 9 => inBad a
  | 2 | 3 => inBad a || inBad b || par == 0 || decide (1000 < par)
  | 4 => fnBad a
  | 5 => chBad a
  | 6 | 7 => chBad a || fnBad b
  | 8 => chBad a
  | 10 => fnBad a || par == 0 || decide (10000 < par)
  | _ => true

/-- The SP refuses the SF registers under R234. -/
def Mach.setBad (m : Mach) : Bool :=
  m.bodyValueBad ||
  m.fnsOn.any (fun f => (m.termsOf f).isEmpty || (m.termsOf f).any (m.termBad f) ||
    (m.b F.SF_FN_DEG_DEGOK f && !m.b F.SF_MON_CFG_EN (m.g F.SF_FN_DEG_CAPCH f))) ||
  (upTo 8).any (fun c => m.b F.SF_MON_CFG_EN c &&
    (m.g F.ADC_EP_CFG_MODE (m.g F.SF_MON_CFG_SPORT c) == 0 || decide (253 < m.g F.SF_MON_CFG_DCELL c))) ||
  (upTo 8).any (fun k => m.b F.SF_SO_CFG_EN k &&
    (!m.b F.SF_FN_CFG_EN (m.g F.SF_SO_CFG_FN k) ||
     (m.b F.SF_SO_CFG_EDMEN k && !m.b F.SF_SI_CFG_EN (m.g F.SF_SO_CFG_EDMSI k)))) ||
  m.scan.machs.any (fun x => x.typ != 0 &&
    [x.sfChain, x.sfZone, x.sfRun, x.sfBrk].any (fun f => decide (31 < f) || !m.b F.SF_FN_CFG_EN f)) ||
  decide (m.g F.SF_TP_CFG_TPN < 40) || decide (4000 < m.g F.SF_TP_CFG_TPN) || m.g F.SF_TP_CFG_TPN % 4 != 0 ||
  decide (m.W < m.spBudget)

/-- The state of a copy that passes its CRC (R246): 1 INVALID, 2 UNCONFIRMED, 3 CONFIRMED. -/
def Mach.judgeSet (m : Mach) (b inst : List Byte) : Nat :=
  if fieldAt b 0 4 ≠ 0x53504653 ∨ fieldAt b 4 2 ≠ 1 ∨ fieldAt b 6 2 ≠ 1480 ∨ sliceB b 0xC 8 ≠ inst ∨
      sliceB b 0x600 32 ≠ setDigest b ∨ bodyBitsBad b ∨ (m.withBody b).setBad then 1
  else if fieldAt b 0x620 8 ≠ setHallmark b ∨ fieldAt b 0x628 4 ≠ setRev b then 2
  else 3

/-- The installation identity on the Key. -/
def Mach.instId (m : Mach) : List Byte := m.keyBytes 8 8

/-- The SF registers of BODY at their reset values. -/
def Mach.clearBody (m : Mach) : Mach := m.resetRegs (fun i => bodyIdx.contains i)

/-- The set is read from the Key and judged (R246, R247); at power-up a recorded cause-1 switch makes its functions FAILED
with cause 12 (R237). -/
def Mach.readSet (m : Mach) (power : Bool) : Mach :=
  let a := m.setCopy 0
  let b := m.setCopy 1
  let okA := setCrcOk a
  let okB := setCrcOk b
  if !okA ∧ !okB then
    { (m.clearBody.sb F.DEV_STATE_HALLMARK_OK false) with sp := { m.sp with setState := 0, image := [] } }
  else
    let use := if okA then a else b
    let other := if okA then b else a
    let mend := !(if okA then okB else okA) || use.take 0x6FC != other.take 0x6FC
    let st := m.judgeSet use m.instId
    let m := if 2 ≤ st then m.withBody use else m.clearBody
    let m := { (m.sb F.DEV_STATE_HALLMARK_OK (st == 3)) with sp := { m.sp with setState := st, image := use, keyRun := 0, keyNow := false } }
    let m := if mend then (m.keyStore (if okA then 0x70800 else 0x70000) use).setEvent 0 else m
    let ser := fieldAt use 0x634 8
    let m := if st = 3 ∧ ser ≠ m.q .DEV_SERIAL_LO then m.raise 0x0B01 2 (ser % 2 ^ 32) (ser / 2 ^ 32) else m
    if power then
      each m.fnsOn m (fun m f => if (m.causes f).contains 1 then m.fnFail f 12 1 else m)
    else m

/-! ### Key writes by the SP -/

/-- A Key write starts: `BUSY` until it completes (R249). DESIGN CHOICE: one that starts while another runs follows it, and both end
at one completion. -/
def Mach.keyBegin (m : Mach) (ws : List (Nat × List Byte)) : Mach :=
  { m with sp := { m.sp with keyWrite := some (m.sp.keyWrite.getD [] ++ ws) } }

/-- KEY_WRITE_COMPLETE (R249): the bytes stand on the Key. -/
def Mach.keyDone (m : Mach) : Mach :=
  match m.sp.keyWrite with
  | some ws => each ws { m with sp := { m.sp with keyWrite := none } } (fun m w => m.keyStore w.1 w.2)
  | none => m

/-- KEY_WRITE_COMPLETE. -/
def execKeyWriteComplete (s : State) : Host.Outcome State Fault Refusal := .next { s with m := s.m.keyDone }

/-- A set with a new REV, commit time and no confirmation, from the SF registers (R249). -/
def Mach.newSet (m : Mach) : List Byte :=
  let body := (bodyIdx.map (fun i => leBytes 4 ((m.word i).toNat &&& bodyMask i))).flatten
  let h := leBytes 4 0x53504653 ++ leBytes 2 1 ++ leBytes 2 1480 ++ leBytes 4 (setRev m.sp.image + 1) ++ m.instId ++
    leBytes 8 m.led.cal ++ leBytes 4 0 ++ body ++ leBytes 24 0
  let b := h ++ sha256 h ++ leBytes 64 0 ++ leBytes 156 0
  b ++ leBytes 4 (crc32c b) ++ leBytes 256 0

/-- The set with a confirmation record (R245). -/
def Mach.confirmed (m : Mach) (src mask : Nat) (who : List Byte) : List Byte :=
  let s := m.sp.image
  let conf := leBytes 8 (setHallmark s) ++ leBytes 4 (setRev s) ++ leBytes 8 m.led.cal ++ leBytes 8 (m.q .DEV_SERIAL_LO) ++
    leBytes 2 (src % 1024) ++ leBytes 2 0 ++ who ++ leBytes 4 mask ++ leBytes 12 0
  let b := s.take 0x620 ++ conf ++ sliceB s 0x660 156
  b ++ leBytes 4 (crc32c b) ++ sliceB s 0x700 256

/-! ### Editing and confirming (R249 to R252) -/

/-- Every enabled pair is OFF or SAFE. -/
def Mach.pairsOff (m : Mach) : Bool := (upTo 8).all (fun k => !m.pairOn k || m.g F.SF_SO_STAT_STATE k != 1)

/-- The edit session's owner. -/
def Mach.editBy (m : Mach) (src : Nat) : Bool :=
  match m.sp.edit with
  | some (s, _) => s == src
  | none => false

/-- A command of the edit owner keeps the session for 600 s (R249). -/
def Mach.editTouch (m : Mach) (src : Nat) : Mach :=
  if m.editBy src then { m with sp := { m.sp with edit := some (src, m.sp.t) } } else m

/-- The edit session closes without a commit: the registers are reloaded from the Key (R249). -/
def Mach.editClose (m : Mach) : Mach :=
  if m.sp.edit.isNone then m else (({ m with sp := { m.sp with edit := none } }).readSet false).setEvent 7

/-- An opcode of group 0x6x that only a module with a commissioner key accepts (R32, R251), and that no second source sends
while an edit is open. -/
def Mach.spRefused (m : Mach) (src : Nat) (ownerOnly : Bool) : Option Nat :=
  if !m.b F.DEV_ROLE_STAT_COM_SET then some ROLE
  else if (m.sp.edit.isSome && !m.editBy src) || (ownerOnly && m.sp.edit.isNone) then some WRONG_STATE
  else none

/-- EDIT_OPEN (R249, R252). -/
def opEditOpen (m : Mach) (p : Pkt) : Ans :=
  if !m.b F.DEV_ROLE_STAT_COM_SET then m.refuse ROLE
  else if p.len ≠ 0 then m.refuse LENGTH
  else if m.sp.edit.isSome ∨ m.sp.insp.isSome ∨ !m.pairsOff ∨ m.sp.fault then m.refuse WRONG_STATE
  else (({ m with sp := { m.sp with edit := some (p.src, m.sp.t) } }).spRunBit.setEvent 4).ok

/-- A word of BODY is written to its register: a field whose value is not stored keeps its own (R4, R251). -/
def Mach.bodyStore (m : Mach) (idx : Nat) (v : Word) : Mach :=
  match regAt idx with
  | some (r, i, _) =>
    let put (w : Word) (f : Fd) : Word := if f.acc = .RWS ∧ m.stores f i (fld f v) v then setBits w f.hi f.lo (fld f v) else w
    m.setWord idx (r.flds.foldl put (m.word idx))
  | none => m

/-- SET_LOAD: bytes of BODY into the SF registers. -/
def opSetLoad (m : Mach) (p : Pkt) : Ans :=
  let o := p.n 0 2
  let n := p.len - 2
  if !m.b F.DEV_ROLE_STAT_COM_SET then m.refuse ROLE
  else if p.len < 3 ∨ 1480 < n ∨ n % 4 ≠ 0 ∨ o % 4 ≠ 0 ∨ 1480 < o + n then m.refuse LENGTH
  else
    match m.spRefused p.src true with
    | some st => m.refuse st
    | none =>
      let ws := (upTo (n / 4)).map (fun i => (nth bodyIdx (o / 4 + i) 0, fieldAt p.payload (2 + 4 * i) 4))
      (each ws (m.editTouch p.src) (fun m w => m.bodyStore w.1 (Word.of w.2))).ok

/-- EDIT_COMMIT: a new set, unconfirmed. -/
def opEditCommit (m : Mach) (p : Pkt) : Ans :=
  if !m.b F.DEV_ROLE_STAT_COM_SET then m.refuse ROLE
  else if p.len ≠ 0 then m.refuse LENGTH
  else
    match m.spRefused p.src true with
    | some st => m.refuse st
    | none =>
      if m.setBad then m.refuse CONFIG
      else
        let b := m.newSet
        let m := { (m.sb F.DEV_STATE_HALLMARK_OK false) with sp := { m.sp with edit := none, setState := 2, image := b } }
        ((((m.keyBegin [(0x70000, b), (0x70800, b)]).spRunBit).setEvent 5).spBudgetShown).ok

/-- EDIT_ABORT. -/
def opEditAbort (m : Mach) (p : Pkt) : Ans :=
  if !m.b F.DEV_ROLE_STAT_COM_SET then m.refuse ROLE
  else if p.len ≠ 0 then m.refuse LENGTH
  else
    match m.spRefused p.src true with
    | some st => m.refuse st
    | none => m.editClose.ok

/-- CONFIRM (R249, R250). -/
def opConfirm (m : Mach) (p : Pkt) : Ans :=
  let on := (m.fnsOn).foldl (fun a f => a + 2 ^ f) 0
  let no (st : Nat) : Ans := (m.setEvent 3, st, [])
  if !m.b F.DEV_ROLE_STAT_COM_SET then m.refuse ROLE
  else if p.len ≠ 32 then m.refuse LENGTH
  else if !m.fieldReach then m.refuse NOFIELD
  else if m.sp.setState ≠ 2 ∨ m.sp.edit.isSome ∨ m.sp.insp.isSome ∨ m.sp.keyWrite.isSome ∨ m.sp.fault then no WRONG_STATE
  else if sliceB p.payload 0 8 ≠ sliceB m.sp.image 0x600 8 then no HALLMARK
  else if p.n 8 4 ≠ setRev m.sp.image ∨ on &&& p.n 28 4 ≠ on then no RANGE
  else
    let b := m.confirmed p.src (p.n 28 4) (sliceB p.payload 12 16)
    let m := { (m.sb F.DEV_STATE_HALLMARK_OK true) with sp := { m.sp with setState := 3, image := b, keyRun := 0, keyNow := false, keyDiff := false } }
    ((m.keyBegin [(0x70000, b), (0x70800, b)]).setEvent 6).ok

/-- SET_READ: bytes of a copy on the Key. -/
def opSetRead (m : Mach) (p : Pkt) : Ans :=
  let n := p.n 3 2
  if p.len ≠ 5 ∨ n = 0 ∨ 2048 < n ∨ 2048 < p.n 1 2 + n then m.refuse LENGTH
  else if 1 < p.n 0 1 then m.refuse RANGE
  else m.okData (sliceB (m.setCopy (p.n 0 1)) (p.n 1 2) n)

/-- SF_STATUS: 48 bytes. -/
def opSfStatus (m : Mach) (p : Pkt) : Ans :=
  if p.len ≠ 0 then m.refuse LENGTH
  else
    let s := m.sp
    let key := if setCrcOk (m.setCopy 0) then m.setCopy 0 else if setCrcOk (m.setCopy 1) then m.setCopy 1 else []
    let left := match s.insp with
      | some i => (i.tmax * 1000000 - (s.t - i.start)) / 1000000
      | none => 0
    let inForce := if 2 ≤ s.setState then s.image else []
    m.okData (leBytes 1 s.setState ++
      leBytes 1 (b2n s.keyWrite.isSome + 2 * b2n s.edit.isSome + 4 * b2n s.insp.isSome + 8 * b2n s.keyDiff) ++
      leBytes 2 ((s.edit.map (fun e => e.1)).getD 0) ++ leBytes 4 (setRev inForce) ++ sliceB inForce 0x600 8 ++
      leBytes 4 (setRev key) ++ sliceB key 0x600 8 ++ sliceB inForce 0x62C 8 ++ sliceB inForce 0x634 8 ++ leBytes 2 left ++ leBytes 2 0)

/-! ### Inspection mode (R253 to R256) -/

/-- The inspection record in use: the first copy with a correct CRC. -/
def Mach.inspRecord (m : Mach) : List Byte :=
  let a := m.keyBytes 0x71000 32
  if fieldAt a 0x1C 4 = crc32c (a.take 0x1C) then a else m.keyBytes 0x71020 32

/-- An inspection record is valid (R253). -/
def inspValid (b : List Byte) : Bool :=
  b.length == 32 && fieldAt b 0 1 == 1 && fieldAt b 0x1C 4 == crc32c (b.take 0x1C) && fieldAt b 3 1 == 0 && fieldAt b 0xB 1 == 0 &&
  fieldAt b 0x14 8 == 0 && decide (fieldAt b 2 1 ≤ 7) && fieldAt b 4 4 != 0 && fieldAt b 8 2 != 0 && decide (fieldAt b 8 2 ≤ 3600) &&
  fieldAt b 1 1 != 0 &&
  (upTo 8).all (fun k =>
    let e := fieldAt b (0xC + k) 1
    e / 16 % 8 == 0 && (!bit e 7 || (fieldAt b 0xA 1 != 0 && decide (e % 16 ≤ 11))))

/-- Inspection mode ends (R256): every pair is open at the following tick, and its event. -/
def Mach.inspEnd (m : Mach) : Mach :=
  if m.sp.insp.isNone then m
  else (({ m with sp := { m.sp with insp := none, cmds := List.replicate 8 false } }).setEvent 9)

/-- Inspection mode has outlived TMAX, or its last INSPECT_KEEP by 2 s (R256). -/
def Mach.inspLate (m : Mach) : Bool :=
  match m.sp.insp with
  | some i => decide (i.start + i.tmax * 1000000 ≤ m.sp.t) || decide (i.keep + 2000000 ≤ m.sp.t)
  | none => false

/-- INSPECT_ON (R254). -/
def opInspectOn (m : Mach) (p : Pkt) : Ans :=
  let b := m.inspRecord
  if !m.b F.DEV_ROLE_STAT_COM_SET then m.refuse ROLE
  else if p.len ≠ 0 then m.refuse LENGTH
  else if m.sp.setState = 3 ∨ m.sp.edit.isSome ∨ m.sp.insp.isSome ∨ !inspValid b ∨
      m.g F.ADC_EP_CFG_MODE (fieldAt b 2 1) = 0 ∨ !m.b F.SF_STAT_FIRSTOK ∨ m.sp.fault then m.refuse WRONG_STATE
  else
    let pairs := fieldAt b 1 1
    let off := (upTo 8).foldl (fun a k => if bit pairs k && !m.b F.SF_SO_CFG_EN k then a + 2 ^ k else a) 0
    let need := (upTo 8).foldl (fun a k => if bit off k then a + 3 * 4 ^ k else a) 0
    let i : Insp := { pairs := pairs, port := fieldAt b 2 1, vins := fieldAt b 4 4, tmax := fieldAt b 8 2, edmt := fieldAt b 0xA 1,
                      edm := (upTo 8).map (fun k => fieldAt b (0xC + k) 1), src := p.src, start := m.sp.t, keep := m.sp.t,
                      need := need }
    (({ m with sp := { m.sp with insp := some i } }).setEvent 8).ok

/-- INSPECT_KEEP, from the owner. -/
def opInspectKeep (m : Mach) (p : Pkt) : Ans :=
  if !m.b F.DEV_ROLE_STAT_COM_SET then m.refuse ROLE
  else if p.len ≠ 0 then m.refuse LENGTH
  else
    match m.sp.insp with
    | some i => if i.src = p.src then ({ m with sp := { m.sp with insp := some { i with keep := m.sp.t } } }).ok else m.refuse WRONG_STATE
    | none => m.refuse WRONG_STATE

/-- INSPECT_OFF. -/
def opInspectOff (m : Mach) (p : Pkt) : Ans :=
  if !m.b F.DEV_ROLE_STAT_COM_SET then m.refuse ROLE
  else if p.len ≠ 0 then m.refuse LENGTH
  else if m.sp.insp.isNone ∨ (m.sp.edit.isSome ∧ !m.editBy p.src) then m.refuse WRONG_STATE
  else m.inspEnd.ok

/-- INSPECT_CFG: the record is written to the Key. -/
def opInspectCfg (m : Mach) (p : Pkt) : Ans :=
  if !m.b F.DEV_ROLE_STAT_COM_SET then m.refuse ROLE
  else if p.len ≠ 32 then m.refuse LENGTH
  else if !inspValid p.payload then m.refuse RANGE
  else if m.sp.insp.isSome ∨ (m.sp.edit.isSome ∧ !m.editBy p.src) then m.refuse WRONG_STATE
  else (m.keyBegin [(0x71000, p.payload), (0x71020, p.payload)]).ok

/-- The word that the input image carries for inspection mode (R258). -/
def Mach.inspWord (m : Mach) : Nat :=
  match m.sp.insp with
  | some i => 1 + 256 * (i.pairs % 256)
  | none => 0

/-- Time limits of edit sessions and inspection mode at an end of latch, and an SP internal fault, which ends both (R249, R256). -/
def Mach.spTimeouts (m : Mach) : Mach :=
  let m := match m.sp.edit with
    | some (_, t) => if t + 600000000 ≤ m.sp.t ∨ m.sp.fault then m.editClose else m
    | none => m
  if m.inspLate ∨ m.sp.fault then m.inspEnd else m

/-- A commissioner session of a source ends: its edit session and its inspection mode end (R249, R256). -/
def Mach.spSessionEnd (m : Mach) (src : Nat) : Mach :=
  let m := if m.editBy src then m.editClose else m
  match m.sp.insp with
  | some i => if i.src = src then m.inspEnd else m
  | none => m

/-- EDIT_SESSION_TIMEOUT (R249): 600 s without a command of the edit owner. -/
def execEditSessionTimeout (s : State) : Host.Outcome State Fault Refusal :=
  .next { s with m := match s.m.sp.edit with
    | some (_, t) => if t + 600000000 ≤ s.m.sp.t then s.m.editClose else s.m
    | none => s.m }

/-- INSPECTION_TIMEOUT (R256). -/
def execInspectionTimeout (s : State) : Host.Outcome State Fault Refusal :=
  .next { s with m := if s.m.inspLate then s.m.inspEnd else s.m }

/-- SF_STATUS (R251). -/
def execSfStatus (src seq : Nat) (payload : List Byte) (s : State) : Host.Outcome State Fault Refusal :=
  .next { s with m := s.m.runOp 0x60 src seq payload 1 true opSfStatus }

/-- EDIT_OPEN (R249). -/
def execEditOpen (src seq : Nat) (payload : List Byte) (s : State) : Host.Outcome State Fault Refusal :=
  .next { s with m := s.m.runOp 0x61 src seq payload 3 true opEditOpen }

/-- SET_LOAD (R251). -/
def execSetLoad (src seq : Nat) (payload : List Byte) (s : State) : Host.Outcome State Fault Refusal :=
  .next { s with m := s.m.runOp 0x62 src seq payload 3 true opSetLoad }

/-- EDIT_COMMIT (R249). -/
def execEditCommit (src seq : Nat) (payload : List Byte) (s : State) : Host.Outcome State Fault Refusal :=
  .next { s with m := s.m.runOp 0x63 src seq payload 3 true opEditCommit }

/-- EDIT_ABORT (R249). -/
def execEditAbort (src seq : Nat) (payload : List Byte) (s : State) : Host.Outcome State Fault Refusal :=
  .next { s with m := s.m.runOp 0x64 src seq payload 3 true opEditAbort }

/-- CONFIRM (R250). -/
def execConfirm (src seq : Nat) (payload : List Byte) (s : State) : Host.Outcome State Fault Refusal :=
  .next { s with m := s.m.runOp 0x65 src seq payload 3 true opConfirm }

/-- SET_READ (R251). -/
def execSetRead (src seq : Nat) (payload : List Byte) (s : State) : Host.Outcome State Fault Refusal :=
  .next { s with m := s.m.runOp 0x66 src seq payload 1 true opSetRead }

/-- INSPECT_ON (R254). -/
def execInspectOn (src seq : Nat) (payload : List Byte) (s : State) : Host.Outcome State Fault Refusal :=
  .next { s with m := s.m.runOp 0x67 src seq payload 3 true opInspectOn }

/-- INSPECT_KEEP (R256). -/
def execInspectKeep (src seq : Nat) (payload : List Byte) (s : State) : Host.Outcome State Fault Refusal :=
  .next { s with m := s.m.runOp 0x68 src seq payload 3 true opInspectKeep }

/-- INSPECT_OFF (R256). -/
def execInspectOff (src seq : Nat) (payload : List Byte) (s : State) : Host.Outcome State Fault Refusal :=
  .next { s with m := s.m.runOp 0x69 src seq payload 3 true opInspectOff }

/-- INSPECT_CFG (R253). -/
def execInspectCfg (src seq : Nat) (payload : List Byte) (s : State) : Host.Outcome State Fault Refusal :=
  .next { s with m := s.m.runOp 0x6A src seq payload 3 true opInspectCfg }

end Sys2Proof.Machine
end

