-- ==== Sys2Proof/Machine/LogLedger.lean ====
section
/-! DEFINITION. The event log, the life ledger and the calendar (spec/16_event_log_and_ledger.md). -/

namespace Sys2Proof.Machine

open Sys2Proof

/-! ### Events and increments that cross the barrier (R349, R356) -/

/-- HX writes the events of an EVT message in order and adds its increments to the ledger; what says that a journal was
applied is HX's own event (R430, R474). -/
def Mach.evtArrive (m : Mach) (evs : List Ev) (incs : List (Nat × Nat)) : Mach :=
  let m := each evs m (fun m e => if e.code = 0x1201 then m.hraise 0x1201 0x30 e.arg0 e.arg1 else m.logRec (m.recOf e 0))
  { m with led := incs.foldl (fun l p => l.add p.1 p.2) m.led }

/-- The first EVT message under way, if any, and the messages without it. -/
def takeEvt : List BarMsg → Option (List Ev × List (Nat × Nat)) × List BarMsg
  | [] => (none, [])
  | x :: l =>
    match x.body with
    | .evt evs incs => (some (evs, incs), l)
    | _ => let (r, l) := takeEvt l
           (r, x :: l)

/-- A whole EVT message arrives: the oldest under way, else what waits in the field domain. -/
def Mach.evtMessage (m : Mach) : Mach :=
  if !m.hostUp || m.g F.DEV_BAR_STAT_INSERV == 0 then m
  else match takeEvt m.bar.msgs with
    | (some (evs, incs), l) => ({ m with bar := { m.bar with msgs := l } }).evtArrive evs incs
    | (none, _) => ({ m with bar := { m.bar with evq := [], incs := [] } }).evtArrive m.bar.evq m.bar.incs

/-- EVT_MESSAGE (R349, R356). -/
def execEvtMessage (s : State) : Host.Outcome State Fault Refusal :=
  .next { s with m := s.m.evtMessage }

/-- EVENT_RECORD (R350 to R352): HX writes one event. -/
def execEventRecord (code src arg0 arg1 frame sub : Nat) (s : State) : Host.Outcome State Fault Refusal :=
  .next { s with m :=
    if s.m.hostUp then s.m.logRec (s.m.recOf { code := code % 2 ^ 16, src := src % 2 ^ 8, arg0 := arg0, arg1 := arg1,
                                               frame := frame % 2 ^ 64, sub := sub % 2 ^ 32 } 0) else s.m }

/-! ### The opcodes of R363 -/

/-- EV_STATUS. -/
def opEvStatus (m : Mach) (p : Pkt) : Ans :=
  if p.len ≠ 0 then m.refuse LENGTH
  else m.okData (leBytes 4 m.log.recs.length ++ leBytes 4 (m.g F.EV_LOST) ++ leBytes 4 (m.g F.EV_LOSTP) ++
    leBytes 1 (m.g F.EV_STAT_FULL + 2 * m.g F.EV_STAT_FULLP) ++ leBytes 1 (m.g F.EV_CFG_RATE) ++ leBytes 2 0)

/-- EV_READ. -/
def opEvRead (m : Mach) (p : Pkt) : Ans :=
  if p.len ≠ 8 ∨ p.n 4 2 = 0 ∨ 120 < p.n 4 2 then m.refuse LENGTH
  else if p.n 6 2 ≠ 0 then m.refuse RANGE
  else
    let rs := (m.log.recs.drop (p.n 0 4)).take (p.n 4 2)
    m.okData (leBytes 2 rs.length ++ leBytes 2 0 ++ (rs.map Rec.bytes).flatten)

/-- The log holds a privileged record (R354). -/
def Log.anyPriv (l : Log) : Bool := l.recs.any (fun r => privileged r.code)

/-- The log is cleared: its counts, the rate intervals, and record 0 (R351, R354). -/
def Mach.logClear (m : Mach) : Mach :=
  let n := m.log.recs.length
  let lost := m.g F.EV_LOST
  let m := (((m.s F.EV_LOST 0).s F.EV_LOSTP 0).sb F.EV_STAT_FULL false).sb F.EV_STAT_FULLP false
  ({ m with log := { m.log with recs := [], privLast := [], lossRec := false } }).hraise 0x0001 0x30 n lost

/-- EV_CLEAR (R354). -/
def opEvClear (m : Mach) (p : Pkt) : Ans :=
  if m.log.anyPriv ∧ p.role < 3 then m.refuse ROLE
  else if p.len ≠ 4 then m.refuse LENGTH
  else if p.n 0 4 ≠ m.log.recs.length then m.refuse WRONG_STATE
  else m.logClear.ok

/-- LG_STATUS. -/
def opLgStatus (m : Mach) (p : Pkt) : Ans :=
  if p.len ≠ 0 then m.refuse LENGTH
  else m.okData (leBytes 4 (m.view (R.LG_STAT.idx 0 0)).toNat ++ leBytes 8 m.led.cal ++ leBytes 8 m.led.insp ++
    leBytes 4 (m.g F.LG_MIRROR) ++ leBytes 4 (m.w .LG_CFG).toNat)

/-- LG_READ. -/
def opLgRead (m : Mach) (p : Pkt) : Ans :=
  let a := p.n 0 2
  let n := p.n 2 2
  if p.len ≠ 4 ∨ n = 0 ∨ 256 < n ∨ 256 < a + n then m.refuse LENGTH
  else m.okData ((upTo n).map (fun j => leBytes 8 (m.led.counter (a + j)))).flatten

/-- CAL_SET (R360): the calendar steps, it is valid, and the mirror is written. -/
def opCalSet (m : Mach) (p : Pkt) : Ans :=
  if p.len ≠ 8 then m.refuse LENGTH
  else if p.n 0 8 = 0 then m.refuse RANGE
  else
    let old := m.led.cal
    ({ m with led := { m.led with cal := p.n 0 8, calValid := true, due := true } }.hraise 0x0003 0x30 old (p.n 0 8)).okData
      (leBytes 8 old)

/-- INSP_SET (R361): the date is set or removed, which clears both bits at once, and the mirror is written. -/
def opInspSet (m : Mach) (p : Pkt) : Ans :=
  if p.len ≠ 8 then m.refuse LENGTH
  else
    let old := m.led.insp
    let m := if p.n 0 8 = old then m else (m.sb F.LG_STAT_DUE false).sb F.LG_STAT_OVERDUE false
    ({ m with led := { m.led with insp := p.n 0 8, due := true } }.hraise 0x0004 0x30 old (p.n 0 8)).okData (leBytes 8 old)

/-- EV_STATUS (R363). -/
def execEvStatus (src seq : Nat) (payload : List Byte) (s : State) : Host.Outcome State Fault Refusal :=
  .next { s with m := s.m.runOp 0x30 src seq payload 1 false opEvStatus }

/-- EV_READ (R363). -/
def execEvRead (src seq : Nat) (payload : List Byte) (s : State) : Host.Outcome State Fault Refusal :=
  .next { s with m := s.m.runOp 0x31 src seq payload 1 false opEvRead }

/-- EV_CLEAR (R354). -/
def execEvClear (src seq : Nat) (payload : List Byte) (s : State) : Host.Outcome State Fault Refusal :=
  .next { s with m := s.m.runOp 0x32 src seq payload 2 false opEvClear }

/-- LG_STATUS (R363). -/
def execLgStatus (src seq : Nat) (payload : List Byte) (s : State) : Host.Outcome State Fault Refusal :=
  .next { s with m := s.m.runOp 0x80 src seq payload 1 false opLgStatus }

/-- LG_READ (R363). -/
def execLgRead (src seq : Nat) (payload : List Byte) (s : State) : Host.Outcome State Fault Refusal :=
  .next { s with m := s.m.runOp 0x81 src seq payload 1 false opLgRead }

/-- CAL_SET (R360). -/
def execCalSet (src seq : Nat) (payload : List Byte) (s : State) : Host.Outcome State Fault Refusal :=
  .next { s with m := s.m.runOp 0x82 src seq payload 2 false opCalSet }

/-- INSP_SET (R361). -/
def execInspSet (src seq : Nat) (payload : List Byte) (s : State) : Host.Outcome State Fault Refusal :=
  .next { s with m := s.m.runOp 0x83 src seq payload 3 false opInspSet }

/-! ### The calendar second (R355, R360, R361, R387) -/

/-- A bit of `LG_STAT` follows its condition; it raises its code when it becomes 1 (R361). -/
def Mach.inspBit (m : Mach) (f : Fd) (code : Nat) (now : Bool) : Mach :=
  let was := m.b f
  let m := m.sb f now
  if now && !was then m.hraise code 0x30 (openArg code 0) (openArg code 1) else m

/-- DUE and OVERDUE at this second (R361). -/
def Mach.inspCheck (m : Mach) : Mach :=
  let set := m.led.insp != 0
  let m := m.inspBit F.LG_STAT_DUE 0x0005 (set && decide (m.led.insp ≤ m.led.cal + 86400 * m.g F.LG_CFG_WARN))
  m.inspBit F.LG_STAT_OVERDUE 0x0006 (set && decide (m.led.insp ≤ m.led.cal))

/-- The time counters that field units keep (R355). -/
def Mach.fieldSeconds (m : Mach) : Mach :=
  if m.st = stRESET then m
  else
    let m := m.count 152 1
    let m := each (upTo 8) m (fun m i =>
      if (m.mach i).typ ≠ 0 ∧ m.b F.MG_STAT_MOVING (m.mach i).car then m.count (153 + i) 1 else m)
    let m := each (upTo 18) m (fun m e => if m.engRuns e then m.count (162 + e) 1 else m)
    each (upTo 17) m (fun m x =>
      if m.g F.ADC_SLICE_STAT_STATE x = 0 ∨ m.g F.ADC_SLICE_STAT_STATE x = 2 then m.count (181 + x) 1 else m)

/-- The time counters of the host domain (R355): HV is present in every state but off, and HX runs firmware in service. -/
def Mach.hostSeconds (m : Mach) : Mach :=
  let l := if m.pow.hst = 0 then m.led else m.led.add 161 1
  { m with led := if m.hostUp then l.add 180 1 else l }

/-- A second passes for the sessions: those without a packet for SESSTMO seconds end (R387). The owner's edit session and
inspection mode end as R249 and R256 state. -/
def Mach.sessionSecond (m : Mach) : Mach :=
  each (upTo 32) m (fun m j => if m.b F.ZL_SESS_VALID j then m.s F.ZL_SESS_IDLE (min 8191 (m.g F.ZL_SESS_IDLE j + 1)) j else m)

/-- One second of the ledger clock. -/
def Mach.calSecond (m : Mach) : Mach :=
  let m := { m with led := { m.led with cal := (m.led.cal + 1) % 2 ^ 64 }, log := { m.log with sec := m.log.sec + 1 } }
  let m := m.fieldSeconds.hostSeconds
  if !m.hostUp then m
  else
    let l := m.led
    let m := { m with led := { l with mirrSince := min 65535 (l.mirrSince + 1), mirrT := (l.mirrT + 1) % 600,
                                      due := l.due || l.mirrT == 599 } }
    m.inspCheck.sessionSecond

/-- CALENDAR_SECOND (R361, R355). -/
def execCalendarSecond (s : State) : Host.Outcome State Fault Refusal :=
  .next { s with m := s.m.calSecond }

/-- CELL_LOW (R362). -/
def execCellLow (s : State) : Host.Outcome State Fault Refusal :=
  .next { s with m :=
    if s.m.led.cellLow then s.m else { s.m with led := { s.m.led with cellLow := true } }.hraise 0x0008 0x31 (openArg 8 0) (openArg 8 1) }

/-! ### The Key mirror (R357, R358) -/

/-- The base of a mirror copy. -/
def mirrBase (i : Nat) : Nat := if i = 0 then 0x72000 else 0x73000

/-- A mirror copy is valid: its marker, FORMAT and CRC. -/
def mirrValid (b : List Byte) : Bool :=
  fieldAt b 0 4 == 0x524D474C && fieldAt b 4 2 == 1 && fieldAt b 0x8FC 4 == crc32c (b.take 0x8FC)

/-- The bytes of a mirror copy of the Key. -/
def Mach.mirrCopy (m : Mach) (i : Nat) : List Byte := m.keyBytes (mirrBase i) 0x900

/-- The copy in force: the valid one with the higher SEQ (R357). -/
def Mach.mirrInForce (m : Mach) : Option (List Byte) :=
  let a := m.mirrCopy 0
  let b := m.mirrCopy 1
  if mirrValid a then (if mirrValid b && decide (fieldAt a 8 4 < fieldAt b 8 4) then some b else some a)
  else if mirrValid b then some b else none

/-- The copy that the next write replaces: one that fails its CRC, else the one with the lower SEQ (R357). -/
def Mach.mirrTarget (m : Mach) : Nat :=
  let a := m.mirrCopy 0
  let b := m.mirrCopy 1
  if !mirrValid a then 0 else if !mirrValid b then 1 else if fieldAt a 8 4 ≤ fieldAt b 8 4 then 0 else 1

/-- The 2,304 bytes of a mirror image (R357). -/
def Mach.mirrImage (m : Mach) (seq : Nat) : List Byte :=
  let b := leBytes 4 0x524D474C ++ leBytes 2 1 ++ leBytes 2 0 ++ leBytes 4 seq ++ leBytes 8 (m.q .DEV_SERIAL_LO) ++
    leBytes 8 m.led.cal ++ leBytes 8 m.led.insp ++ List.replicate 28 (0 : Byte) ++
    ((upTo 256).map (fun i => leBytes 8 (m.led.counter i))).flatten ++
    ((upTo 36).map (fun p => leBytes 2 (lookN m.led.wear p))).flatten ++ List.replicate 116 (0 : Byte)
  b ++ leBytes 4 (crc32c b)

/-- HX writes a mirror that is due (R357, R358): it waits while the safety parameter set is being written; it is not confirmed
while the Key interface cannot be reached or answers with a failure. -/
def Mach.mirrWrite (m : Mach) (ok : Bool) : Mach :=
  if !m.hostUp || !m.led.due || m.sp.keyWrite.isSome then m
  else if !ok || m.g F.DEV_BAR_STAT_INSERV == 0 || m.st == stRESET || !m.b F.DEV_STATE_KEY_OK then
    { m with led := { m.led with due := false, mirrBusy := true } }
  else
    let seq := ((m.mirrInForce.map (fun b => fieldAt b 8 4)).getD 0 + 1) % 2 ^ 32
    let m := (m.keyStore (mirrBase m.mirrTarget) (m.mirrImage seq)).s F.LG_MIRROR seq
    { m with led := { m.led with due := false, mirrBusy := false, mirrSince := 0 } }

/-- LEDGER_MIRROR_WRITE (R358): `ok` is what the Key interface answers. -/
def execLedgerMirrorWrite (ok : Bool) (s : State) : Host.Outcome State Fault Refusal :=
  .next { s with m := s.m.mirrWrite ok }

/-- MIRROR_WRITE_TIMEOUT (R358): a write that failed, or was not confirmed within 1 s. -/
def execMirrorWriteTimeout (s : State) : Host.Outcome State Fault Refusal :=
  .next { s with m :=
    if s.m.led.mirrBusy then
      ({ s.m with led := { s.m.led with mirrBusy := false } }.sb F.LG_STAT_MIRRERR true).hraise 0x0007 0x30 (openArg 7 0) (openArg 7 1)
    else s.m }

/-! ### Power-up of the host domain (R359, R360) -/

/-- Life counters that belong to the installation (R355). -/
def installation (i : Nat) : Bool := (decide (112 ≤ i) && decide (i ≤ 151)) || (decide (153 ≤ i) && decide (i ≤ 160))

/-- HX restores the ledger from the mirror in force (R359). -/
def Mach.mirrRestore (m : Mach) : Mach :=
  match m.mirrInForce with
  | none => m
  | some b =>
    let same := fieldAt b 0xC 8 == m.q .DEV_SERIAL_LO
    let vc (i : Nat) : Nat := fieldAt b (0x40 + 8 * i) 8
    let cs := (upTo 224).filter (fun i => (installation i || same) && decide (m.led.counter i < vc i))
    let ws := if same then (upTo 36).filter (fun p => decide (lookN m.led.wear p < fieldAt b (0x840 + 2 * p) 2)) else []
    let date := fieldAt b 0x1C 8
    let l := { m.led with cnt := cs.foldl (fun l i => putN l i (vc i)) m.led.cnt,
                          wear := ws.foldl (fun l p => putN l p (fieldAt b (0x840 + 2 * p) 2)) m.led.wear,
                          insp := if date = 0 then m.led.insp else date }
    let took := !cs.isEmpty || !ws.isEmpty || (date != 0)
    ({ m with led := l }.s F.LG_MIRROR (fieldAt b 8 4)).sb F.LG_STAT_RESTORED took

end Sys2Proof.Machine
end

