-- ==== Sys2Proof/Machine/Streams.lean ====
section
/-! DEFINITION. Signal streams (spec/15_signal_streams.md, R328 to R346). -/

namespace Sys2Proof.Machine

open Sys2Proof

/-- Stream s. -/
def Mach.strm (m : Mach) (s : Nat) : Stream := nth m.aq.s s {}

/-- Replace it. -/
def Mach.setStrm (m : Mach) (s : Nat) (x : Stream) : Mach := { m with aq := { m.aq with s := setNth {} 4 m.aq.s s x } }

/-- Trigger t. -/
def Mach.trg (m : Mach) (t : Nat) : Trigger := nth m.aq.t t {}

/-- Replace it. -/
def Mach.setTrg (m : Mach) (t : Nat) (x : Trigger) : Mach := { m with aq := { m.aq with t := setNth {} 8 m.aq.t t x } }

/-! ### Sources and records (R328 to R330) -/

/-- The source is due in a frame. -/
def Mach.srcDue (m : Mach) (s n i : Nat) : Bool := n % 2 ^ m.g F.AQ_SRC_DLOG s i == m.g F.AQ_SRCPH_PH s i

/-- The sources of a stream that are due in a frame. -/
def Mach.dueSrcs (m : Mach) (s n : Nat) : List Nat := (upTo (m.g F.AQ_STM_CFG_NSRC s)).filter (m.srcDue s n)

/-- Bytes of a source's sample. -/
def Mach.srcLen (m : Mach) (s i : Nat) : Nat := if m.g F.AQ_SRC_SAMP s i = 31 then 4 else 2

/-- Length of the record of stream s in frame n. -/
def Mach.recLen (m : Mach) (s n : Nat) : Nat := (m.dueSrcs s n).foldl (fun a i => a + m.srcLen s i) 0

/-- A sample (R329). -/
def sampleOf (samp : Nat) (v : Int) : List Byte :=
  if samp = 31 then leBytes 4 (wrap 32 v) else leBytes 2 (wrap 16 (satS 16 (v / 2 ^ samp)))

/-- The record of stream s in this frame: cells as published, registers as AQ reads them at the end of latch, with its latches (R8). -/
def Mach.recordOf (m : Mach) (s : Nat) : Mach × List Byte :=
  (m.dueSrcs s m.frame).foldl (fun (x : Mach × List Byte) i =>
    let id := m.g F.AQ_SRC_ID s i
    let p := if m.g F.AQ_SRC_KIND s i = 1 then x.1.regRead (.eng 17) id else (x.1, (m.cell id).1)
    (p.1, x.2 ++ sampleOf (m.g F.AQ_SRC_SAMP s i) p.2.toInt)) (m, [])

/-! ### Ingots (R331, R332) -/

/-- A mark's table entry. -/
def markBytes (k : SMark) : List Byte := leBytes 4 k.frame ++ leBytes 2 k.sub ++ leBytes 1 k.kind ++ leBytes 1 k.arg

/-- The 320 bytes of an ingot (R331). -/
def Ingot.bytes (g : Ingot) : List Byte :=
  let flags := g.stream % 4 + 4 * b2n g.gap + 16 * b2n g.last + 32 * b2n g.defer
  let b := leBytes 2 0x4749 ++ leBytes 1 1 ++ leBytes 1 flags ++ leBytes 4 g.seq ++ leBytes 8 g.f0 ++ leBytes 2 g.nf ++
    leBytes 2 g.cfgid ++ leBytes 2 g.data.length ++ leBytes 1 g.marks.length ++ leBytes 1 0 ++
    leBytes 4 (min 0xFFFFFFFF g.lost) ++ (g.marks.map markBytes).flatten ++
    List.replicate (8 * (4 - g.marks.length)) (0 : Byte) ++ g.data ++ List.replicate (256 - g.data.length) (0 : Byte)
  b ++ leBytes 4 (crc32c b)

/-- A fill ingot (R331). -/
def fillIngot (seq cfgid : Nat) : List Byte :=
  let b := leBytes 2 0x4749 ++ leBytes 1 1 ++ leBytes 1 8 ++ leBytes 4 seq ++ leBytes 8 0 ++ leBytes 2 0 ++ leBytes 2 cfgid ++
    List.replicate 296 (0 : Byte)
  b ++ leBytes 4 (crc32c b)

/-- The next ingot of a stream opens at frame `f0`: marks that wait go into its table first (R335), what was lost
before it is stated (R342). -/
def Stream.opened (x : Stream) (s f0 cfgid : Nat) : Ingot :=
  { stream := s, f0 := f0, cfgid := cfgid, lost := x.lost, gap := x.gap, defer := !x.wait.isEmpty, marks := x.wait.take 4 }

/-- The open ingot of stream s, opened now if there is none. -/
def Mach.openIngot (m : Mach) (s f0 : Nat) : Mach :=
  let x := m.strm s
  match x.cur with
  | some _ => m
  | none =>
    let g := x.opened s f0 (m.g F.AQ_STAT_CFGID)
    let x := { x with cur := some g, wait := x.wait.drop 4, gap := false, lost := 0 }
    (m.setStrm s x).s F.AQ_STM_STAT_MWAIT x.wait.length s

/-- The events of an ingot's START, GAP and END marks (R348). -/
def Mach.markEvents (m : Mach) (g : Ingot) : Mach :=
  each g.marks m (fun m k =>
    if k.kind = 5 then m.raise 0x0F02 17 g.stream g.seq
    else if k.kind = 4 then m.raise 0x0F03 17 g.stream g.seq
    else if k.kind = 6 then m.raise 0x0F04 17 g.stream g.seq
    else m)

/-- The open ingot of stream s closes: it takes its SEQ and waits for the commit point (R332). -/
def Mach.closeIngot (m : Mach) (s : Nat) : Mach :=
  let x := m.strm s
  match x.cur with
  | none => m
  | some g =>
    let g := { g with seq := m.aq.seq }
    let m := m.setStrm s { x with cur := none }
    let m := (m.s F.AQ_SEQ g.seq).markEvents g
    { m with aq := { m.aq with seq := (m.aq.seq + 1) % 2 ^ 32, closed := m.aq.closed ++ [g] } }

/-- An ingot holds the record of a frame. -/
def Ingot.holds (g : Ingot) (n : Nat) : Bool := decide (g.f0 ≤ n) && decide (n < g.f0 + g.nf)

/-- A mark waits for the table of the stream's next ingot; at most 16 do (R335). -/
def Mach.waitMark (m : Mach) (s : Nat) (k : SMark) : Mach :=
  let x := m.strm s
  if 16 ≤ x.wait.length then m.inc F.AQ_STM_STAT_MDROP 0xFF s
  else (m.setStrm s { x with wait := x.wait ++ [k] }).s F.AQ_STM_STAT_MWAIT (x.wait.length + 1) s

/-- A mark goes into the table of the open ingot, or waits (R335). -/
def Mach.markOpen (m : Mach) (s : Nat) (k : SMark) : Mach :=
  let x := m.strm s
  match x.cur with
  | some g =>
    if g.marks.length < 4 ∧ x.wait.isEmpty then m.setStrm s { x with cur := some { g with marks := g.marks ++ [k] } }
    else m.waitMark s k
  | none => m.waitMark s k

/-- A mark of stream s at frame n goes into the ingot that holds that frame's record, or waits (R335). -/
def Mach.mark (m : Mach) (s n kind arg : Nat) : Mach :=
  let k : SMark := { frame := n % 2 ^ 32, kind := kind, arg := arg }
  match (m.strm s).cur with
  | some g => if g.holds n then m.markOpen s k else m.waitMark s k
  | none =>
    if m.aq.closed.any (fun g => g.stream == s && g.holds n && decide (g.marks.length < 4)) then
      { m with aq := { m.aq with closed := m.aq.closed.map (fun g =>
          if g.stream == s && g.holds n then { g with marks := g.marks ++ [k] } else g) } }
    else m.waitMark s k

/-- Streams that are active. -/
def Mach.actStrms (m : Mach) : List Nat := (upTo 4).filter (fun s => (m.strm s).act)

/-- `AQ_STAT.ACTIVE`. -/
def Mach.showAct (m : Mach) : Mach := m.s F.AQ_STAT_ACTIVE (m.actStrms.foldl (fun a s => a + 2 ^ s) 0)

/-- Frames lost are counted (R342, `AQ_STM_STAT`). -/
def Mach.countLost (m : Mach) (s k : Nat) : Mach :=
  m.s F.AQ_STM_STAT_LOST (min 0xFFFF (m.g F.AQ_STM_STAT_LOST s + k)) s

/-- A GAP mark of stream s at frame n (R342). -/
def Mach.gapMark (m : Mach) (s n cause : Nat) : Mach :=
  (m.setBitW F.AQ_STAT_GAPANY).markOpen s { frame := n % 2 ^ 32, kind := 4, arg := cause }

/-- `k` frames of stream s from frame n on are lost, for a cause (R342): the GAP mark stands at the first lost frame, and the next ingot
starts after them with GAP 1 and the frames lost before it. -/
def Mach.lose (m : Mach) (s n k cause : Nat) : Mach :=
  let m := m.countLost s k
  let x := m.strm s
  match x.cur with
  | some g =>
    if g.nf = 0 then
      let m := m.setStrm s { x with cur := some { g with gap := true, lost := g.lost + k, f0 := n + k } }
      if g.gap then m else m.gapMark s n cause
    else
      let m := m.setStrm s { x with gap := true, lost := x.lost + k }
      if x.gap then m else m.gapMark s n cause
  | none =>
    let m := m.setStrm s { x with gap := true, lost := x.lost + k }
    if x.gap then m else m.gapMark s n cause

/-- The open ingot of stream s closes, and with it the stream: marks that still wait go into ingots without records after it, and the
last of them has LAST 1 (R334, R335; DEDUCED, assumption 48). -/
def Mach.endIngots (m : Mach) (s n : Nat) : Nat → Mach
  | 0 => m
  | k + 1 =>
    let m := m.openIngot s (n + 1)
    let x := m.strm s
    match x.cur with
    | some g =>
      let m := (m.setStrm s { x with cur := some { g with last := x.wait.isEmpty } }).closeIngot s
      if x.wait.isEmpty then m else m.endIngots s n k
    | none => m

/-- The last ingot of a stream whose last frame is n closes with the END mark (R332, R334). -/
def Mach.lastIngot (m : Mach) (n : Nat) (s : Nat) : Mach :=
  let m := ((m.openIngot s (n + 1)).markOpen s { frame := n % 2 ^ 32, kind := 6 }).endIngots s n 6
  m.setStrm s { m.strm s with ended := true }

/-- A stream whose last frame is n has ended. -/
def Mach.endStrm (m : Mach) (n : Nat) (s : Nat) : Mach :=
  let x := m.strm s
  if !x.act then m
  else
    let m := if x.ended then m else m.lastIngot n s
    ((m.setStrm s ({} : Stream)).s F.AQ_STM_STAT_MWAIT 0 s).showAct

/-! ### Triggers (R333, R334) -/

/-- A mark of a trigger goes into every active stream whose TRGMASK includes it. -/
def Mach.trgMark (m : Mach) (t n kind : Nat) : Mach :=
  let m := (m.inc F.AQ_TRG_STAT_COUNT 0xFFFF t).setTrg t { m.trg t with since := n }
  each m.actStrms m (fun m s => if m.gb F.AQ_STM_CFG_TRGMASK t s then m.mark s n kind t else m)

/-- A forced mark of trigger t is due in frame n (R334). -/
def Mach.forcedDue (m : Mach) (t n : Nat) : Bool :=
  m.b F.AQ_TRG_CFG_AUTO t && m.g F.AQ_TRG_CFG_COND t != 0 && decide ((m.trg t).since + 16 * m.g F.AQ_TRG_TIM_TMO t ≤ n)

/-- Trigger t at the end of latch of frame n: what fires, and its armed state; the answer tells a TRIGGER mark. -/
def Mach.trgStep (m : Mach) (t n : Nat) : Mach × Bool :=
  let cond := m.g F.AQ_TRG_CFG_COND t
  if cond = 0 then (m, false)
  else
    let c := m.cell (m.g F.AQ_TRG_CFG_CELL t)
    let v := c.1.toInt
    let lvl := (m.w .AQ_TRG_LVL t).toInt
    let hys := (m.w .AQ_TRG_HYS t).toInt
    let x := m.trg t
    let fire := x.seen && (if cond = 4 then x.low && !c.2
      else (x.low && (cond == 1 || cond == 3) && decide (lvl < v)) || (x.high && (cond == 2 || cond == 3) && decide (v < lvl)))
    let low := (x.low && !fire) || (if cond = 4 then c.2 else (cond == 1 || cond == 3) && decide (v < lvl - hys))
    let high := (x.high && !fire) || ((cond == 2 || cond == 3) && decide (lvl + hys < v))
    let hold := match x.last with
      | some f => decide (n ≤ f + m.g F.AQ_TRG_TIM_HOLD t)
      | none => false
    let x := { x with seen := true, low := low, high := high, last := if fire && !hold then some n else x.last }
    ((m.setTrg t x).sb F.AQ_TRG_STAT_ARMED (low || high) t, fire && !hold)

/-- The triggers of frame n: TRIGGER marks by ascending number, then FORCED marks (R334, R335). -/
def Mach.triggersFrame (m : Mach) (n : Nat) : Mach :=
  let (m, fired) := (upTo 8).foldl (fun (acc : Mach × List Nat) t =>
    let (m, f) := acc.1.trgStep t n
    (m, if f then acc.2 ++ [t] else acc.2)) (m, [])
  let forced := (upTo 8).filter (fun t => !fired.contains t && m.forcedDue t n)
  let m := each fired m (fun m t => m.trgMark t n 1)
  each forced m (fun m t => m.trgMark t n 2)

/-! ### Configurations (R336, R337, R343, R344) -/

/-- The offsets of a configuration image: streams, sources, triggers. -/
def cfgNs (b : List Byte) : Nat := fieldAt b 8 1
def cfgNt (b : List Byte) : Nat := fieldAt b 9 1
def cfgStm (b : List Byte) (s : Nat) : Nat := fieldAt b (16 + 4 * s) 4
def cfgNsrc (b : List Byte) (s : Nat) : Nat := cfgStm b s % 128
def cfgSrcAt (b : List Byte) (s i : Nat) : Nat :=
  16 + 4 * cfgNs b + 8 * ((upTo s).foldl (fun a j => a + cfgNsrc b j) 0 + i)
def cfgTrgAt (b : List Byte) (t : Nat) : Nat := cfgSrcAt b (cfgNs b) 0 + 16 * t

/-- CRC, header and length of a configuration image hold. -/
def cfgFormOk (b : List Byte) : Bool :=
  fieldAt b 0 4 == 0x434D5453 && fieldAt b 4 2 == 1 && fieldAt b 6 2 != 0 && decide (cfgNs b ≤ 4) && decide (cfgNt b ≤ 8) &&
  fieldAt b 12 4 == 0 && fieldAt b 10 2 == b.length && cfgTrgAt b (cfgNt b) + 4 == b.length &&
  fieldAt b (b.length - 4) 4 == crc32c (b.take (b.length - 4))

/-- A field value of the image is not stored, a cell is undefined, or a source or mask is refused (R343). -/
def cfgValuesBad (b : List Byte) : Bool :=
  (upTo (cfgNs b)).any (fun s =>
    let w := cfgStm b s
    decide (w / 65536 < 16) || decide (w % 128 = 0) || decide (64 < w % 128) || decide (2 ^ cfgNt b ≤ w / 256 % 256) ||
    (upTo (cfgNsrc b s)).any (fun i =>
      let a := fieldAt b (cfgSrcAt b s i) 4
      let ph := fieldAt b (cfgSrcAt b s i + 4) 4 % 1024
      let kind := a / 2 ^ 12 % 4
      let dlog := a / 256 % 16
      let samp := a % 32
      let id := a / 65536
      decide (1 < kind) || decide (10 < dlog) || (decide (16 < samp) && samp != 31) || decide (2 ^ dlog ≤ ph) ||
      (kind == 0 && !cellDefined id) || (kind == 1 && (decide (0x8000 ≤ id) || isHostIdx id)))) ||
  (upTo (cfgNt b)).any (fun t =>
    let c := fieldAt b (cfgTrgAt b t) 4
    decide (4 < c / 256 % 8) || bit (fieldAt b (cfgTrgAt b t + 8) 4) 31 || (c / 256 % 8 != 0 && !cellDefined (c / 65536)) ||
    (bit c 11 && fieldAt b (cfgTrgAt b t + 12) 4 / 65536 == 0))

/-- The configuration registers take an image's values (R344). -/
def Mach.cfgStore (m : Mach) (b : List Byte) : Mach :=
  let m := m.resetRegs (fun i => decide (0x4020 ≤ i) && decide (i ≤ 0x431F))
  let m := m.s F.AQ_STAT_CFGID (fieldAt b 6 2)
  let m := each (upTo (cfgNs b)) m (fun m s =>
    let m := m.sw .AQ_STM_CFG (Word.of (cfgStm b s)) s
    each (upTo (cfgNsrc b s)) m (fun m i =>
      let a := fieldAt b (cfgSrcAt b s i) 4
      (m.sw .AQ_SRC (Word.of (a / 2 ^ 16 * 2 ^ 16 + a / 256 % 64 * 256 + a % 32)) s i).sw .AQ_SRCPH
        (Word.of (fieldAt b (cfgSrcAt b s i + 4) 4 % 1024)) s i))
  each (upTo (cfgNt b)) m (fun m t =>
    let o := cfgTrgAt b t
    let c := fieldAt b o 4
    (((m.sw .AQ_TRG_CFG (Word.of (c / 2 ^ 16 * 2 ^ 16 + c / 256 % 16 * 256)) t).sw .AQ_TRG_LVL (Word.of (fieldAt b (o + 4) 4)) t).sw
      .AQ_TRG_HYS (Word.of (fieldAt b (o + 8) 4)) t).sw .AQ_TRG_TIM (Word.of (fieldAt b (o + 12) 4)) t)

/-- Streams configured. -/
def Mach.cfgStrms (m : Mach) : List Nat := (upTo 4).filter (fun s => m.b F.AQ_STM_CFG_EN s)

/-- The frames, counted from a start at a multiple of 1,024, in which the ingots of stream s close (R332, R336). -/
def Mach.closings (m : Mach) (s : Nat) : Nat → Nat → Nat → Nat → List Nat
  | 0, _, _, _ => []
  | k + 1, n, used, nf =>
    let used := used + m.recLen s n
    let nf := nf + 1
    if 256 < used + m.recLen s (n + 1) ∨ m.g F.AQ_STM_CFG_AGE s ≤ nf then n :: m.closings s k (n + 1) 0 0
    else m.closings s k (n + 1) used nf

/-- H, E, SE of R336. -/
def Mach.winH (m : Mach) : Nat :=
  m.cfgStrms.foldl (fun a s => (upTo (m.g F.AQ_STM_CFG_NSRC s)).foldl (fun a i => max a (2 ^ m.g F.AQ_SRC_DLOG s i)) a) 1
def Mach.winE (m : Mach) : Nat := max 1 (ceilDiv 1600000 (m.winH * m.L)) * m.winH
def Mach.winSE (m : Mach) : Nat := m.winE * m.L / 100000

/-- NE: the ingots closed in E frames. -/
def Mach.winNE (m : Mach) : Nat := (m.cfgStrms.map (fun s => (m.closings s m.winE 0 0 0).length)).sum

/-- Closed ingots of the 2E frames exceed the TDMA cycles of some interval by more than 64: the running excess over every
later start, from the closings in ascending order. -/
def burstBad (len : Nat) (cl : List Nat) : Bool :=
  (upTo cl.length).any (fun i => (upTo (cl.length - i)).any (fun d =>
    let a := nth cl i 0
    let b := nth cl (i + d) 0
    decide (64 + (b + 1 - a) * len / 100000 < d + 1)))

/-- The closings of all streams within 2E frames, ascending. -/
def Mach.allClosings (m : Mach) : List Nat :=
  let ls := m.cfgStrms.map (fun s => m.closings s (2 * m.winE) 0 0 0)
  (upTo (2 * m.winE)).flatMap (fun n => List.replicate ((ls.filter (fun l => l.contains n)).length) n)

/-- Bank of the field queue, and AQ's budget (R337): the queue's place is internal, its bank is 0 (assumption 11). -/
def Mach.aqBudget (m : Mach) : Nat :=
  let ns := upTo m.winH
  let dmax := ns.foldl (fun a n => max a ((m.cfgStrms.map (fun s => (m.dueSrcs s n).length)).sum)) 0
  let rmax := ns.foldl (fun a n => max a ((m.cfgStrms.map (fun s => m.recLen s n)).sum)) 0
  let nt := ((upTo 8).filter (fun t => m.g F.AQ_TRG_CFG_COND t != 0)).length
  200 + 10 * dmax + 40 * nt + (ceilDiv rmax 128 + 1) * ((m.bounds 0).2 + 16)

/-- The configuration in the registers breaks R336 or R337. -/
def Mach.aqRefused (m : Mach) : Bool :=
  m.cfgStrms.any (fun s => (upTo m.winH).any (fun n => decide (256 < m.recLen s n))) ||
  decide (m.winSE - 1 < m.winNE) || (m.winSE == 0 && m.winNE != 0) || burstBad m.L m.allClosings || decide (m.W < m.aqBudget)

/-- An image is refused under R343. -/
def Mach.cfgRefused (m : Mach) (b : List Byte) : Bool :=
  !cfgFormOk b || cfgValuesBad b || (m.cfgStore b).aqRefused

/-- `AQ_WIN` and AQ's budget of the configuration in the registers (R337, R38). -/
def Mach.showWin (m : Mach) : Mach :=
  ((m.s F.AQ_WIN_SLOTS (m.winSE - 1)).s F.AQ_WIN_INGOTS m.winNE).sw .FRM_BUD
    (if m.cfgStrms.isEmpty then 0 else Word.of (2 ^ 31 + m.aqBudget)) 17

/-- The streams in force end and those of a new image start, at the end of latch of frame n (R344). -/
def Mach.aqActivate (m : Mach) (b : List Byte) (n : Nat) : Mach :=
  let m := each (upTo 4) m (fun m s => m.endStrm (n - 1) s)
  let m := m.cfgStore b
  let m := m.sb F.AQ_STAT_PEND false
  let m := { m with aq := { m.aq with cfg := b, pend := none, t := List.replicate 8 ({ since := n } : Trigger) } }
  let m := m.showWin
  let m := each m.cfgStrms m (fun m s =>
    let m := m.setStrm s { act := true }
    let m := m.openIngot s n
    let x := m.strm s
    match x.cur with
    | some g => m.setStrm s { x with cur := some { g with marks := [{ frame := n % 2 ^ 32, kind := 5 }] } }
    | none => m)
  m.showAct

/-- STREAM_ACTIVATION: a pending configuration whose frame has come, before AQ's frame work. -/
def Mach.aqDue (m : Mach) : Mach :=
  match m.aq.pend with
  | some (b, a) => if a ≤ m.frame ∧ m.ticking then m.aqActivate b m.frame else m
  | none => m

/-! ### AQ's frame (R330) -/

/-- The record of frame n joins the open ingot of stream s. -/
def Mach.strmRecord (m : Mach) (n s : Nat) : Mach :=
  let (m, r) := m.recordOf s
  let m := m.openIngot s n
  let x := m.strm s
  match x.cur with
  | some g => m.setStrm s { x with cur := some { g with nf := g.nf + 1, data := g.data ++ r } }
  | none => m

/-- The open ingot closes where R332 says so. -/
def Mach.strmClose (m : Mach) (n s : Nat) : Mach :=
  match (m.strm s).cur with
  | some g =>
    if 256 < g.data.length + m.recLen s (n + 1) ∨ m.g F.AQ_STM_CFG_AGE s ≤ n - g.f0 + 1 then m.closeIngot s else m
  | none => m

/-- Operator marks written since AQ's last frame work (R334). -/
def Mach.operatorsFrame (m : Mach) : Mach :=
  let ops := m.aq.ops
  each ops { m with aq := { m.aq with ops := [] } } (fun m n => each m.actStrms m (fun m s => m.mark s n 3 0))

/-- The next frame activates another configuration (R344). -/
def Mach.aqEnding (m : Mach) (n : Nat) : Bool :=
  match m.aq.pend with
  | some (_, a) => a == n + 1
  | none => false

/-- AQ_FRAME (R330): records, triggers and marks, closings. -/
def aqFrame (m : Mach) : Mach :=
  if !m.engRuns 17 then m
  else
    let n := m.frame
    let m := each m.actStrms m (fun m s => m.strmRecord n s)
    let m := (m.triggersFrame n).operatorsFrame
    each m.actStrms m (fun m s => if m.aqEnding n then m.lastIngot n s else m.strmClose n s)

/-- The frame of an AQ that overran, or whose access failed, is lost (its operator marks go into the next ingots): the streams stand as at the start of the frame, their open
ingots close after frame n − 1 (R342 causes 1 and 2). -/
def Mach.aqLost (m : Mach) (cause : Nat) : Mach :=
  let n := m.frame
  let m := each m.actStrms m (fun m s =>
    let m := match (m.strm s).cur with
      | some g => if g.nf = 0 then m else m.closeIngot s
      | none => m
    let m := m.lose s n 1 cause
    each m.aq.ops m (fun m f => m.waitMark s { frame := f % 2 ^ 32, kind := 3 }))
  { m with aq := { m.aq with ops := [] } }

/-- An ingot finds the field queue full (R338, R342 cause 3): what it held and the loss it stated are stated by the stream's next ingot,
with the GAP mark it carried if it had one. -/
def Mach.discard (m : Mach) (g : Ingot) : Mach :=
  let m := m.setBitW F.AQ_STAT_QFULL
  if g.last then m.countLost g.stream g.nf
  else
    let was := (m.strm g.stream).gap
    let m := (m.countLost g.stream g.nf).setBitW F.AQ_STAT_GAPANY
    let x := m.strm g.stream
    let m := m.setStrm g.stream { x with gap := true, lost := x.lost + g.lost + g.nf }
    if was then m
    else m.waitMark g.stream ((g.marks.find? (fun k => k.kind == 4)).getD { frame := g.f0 % 2 ^ 32, kind := 4, arg := 3 })

/-- The ingots closed in this frame enter the field queue at the commit point (R332, R338). -/
def aqCommit (m : Mach) : Mach :=
  let gs := m.aq.closed
  let m := { m with aq := { m.aq with closed := [] } }
  let m := each gs m (fun m g =>
    if 64 ≤ m.aq.queue.length then m.discard g
    else { m with aq := { m.aq with queue := m.aq.queue ++ [g.bytes] } })
  let d := m.aq.queue.length
  if gs.isEmpty then m else (m.s F.AQ_QUEUE_DEPTH d).s F.AQ_QUEUE_PEAK (max d (m.g F.AQ_QUEUE_PEAK))

/-- AQ fails (R342 cause 4): every open ingot closes with a GAP and an END mark, and the streams end. -/
def Mach.aqFails (m : Mach) : Mach :=
  let n := m.frame
  let m := each m.actStrms m (fun m s =>
    let m := if (m.strm s).ended then m else (m.openIngot s (n + 1)).gapMark s n 4
    m.endStrm n s)
  { (m.sb F.AQ_STAT_PEND false) with aq := { m.aq with pend := none, ops := [] } }

/-- AQ's registers after its warm restart (R6): flags, windows and counts are back at their reset values. The configuration in force and
the ingots of the field queue remain, and SEQ continues (R425, R338). -/
def Mach.aqReset (m : Mach) : Mach :=
  let m := ((m.sb F.AQ_STAT_QFULL false).sb F.AQ_STAT_GAPANY false).s F.AQ_STAT_ACTIVE 0
  let m := (m.s F.AQ_QUEUE_PEAK 0).sw .AQ_WIN 0
  let m := each (upTo 4) m (fun m s => m.sw .AQ_STM_STAT 0 s)
  let m := each (upTo 8) m (fun m t => m.sw .AQ_TRG_STAT 0 t)
  m.dropLatches (.eng 17)

/-- AQ's restart has completed: the configuration in force starts again (R425). -/
def Mach.aqRestart (m : Mach) : Mach :=
  let m := m.aqReset
  if m.aq.cfg.isEmpty then m
  else { (m.sb F.AQ_STAT_PEND true) with aq := { m.aq with pend := some (m.aq.cfg, (m.frame + 16 + 1023) / 1024 * 1024) } }

/-- An operator mark in every active stream, at this frame (R334); one written before AQ's frame work waits for it, so that it goes into
the ingot that holds this frame's record. -/
def Mach.operatorMarks (m : Mach) : Mach :=
  if m.phase == .latch && m.engRuns 17 then { m with aq := { m.aq with ops := m.aq.ops ++ [m.frame] } }
  else each m.actStrms m (fun m s => m.mark s m.frame 3 0)

/-- An operator mark (R27, R28): in the event log and in every active stream. -/
def Mach.operatorMark (m : Mach) : Mach := (m.raise markCode 0x20 (openArg markCode 0) (openArg markCode 1)).operatorMarks

/-- `AQ_CTL.CLRCNT` (R346). -/
def Mach.aqClear (m : Mach) : Mach :=
  let m := each (upTo 4) m (fun m s => (m.s F.AQ_STM_STAT_LOST 0 s).s F.AQ_STM_STAT_MDROP 0 s)
  (each (upTo 8) m (fun m t => m.s F.AQ_TRG_STAT_COUNT 0 t)).s F.AQ_QUEUE_PEAK 0

/-! ### The host side (R339, R340, R345) -/

/-- Capacity of the history. -/
def histMax : Nat := 1677721

/-- SEQ of an ingot's bytes. -/
def ingotSeq (b : List Byte) : Nat := fieldAt b 4 4

/-- The notices of an arriving ingot's START, GAP and END marks to the subscribers of its stream (R345, R374). -/
def Mach.notices (m : Mach) (b : List Byte) : Mach :=
  let s := fieldAt b 3 1 % 4
  each (upTo (min 4 (fieldAt b 22 1))) m (fun m i =>
    let o := 28 + 8 * i
    let kind := fieldAt b (o + 6) 1
    if kind = 4 ∨ kind = 5 ∨ kind = 6 then
      each (m.aq.subs.filter (fun p => bit p.2 s)) m (fun m p =>
        let q := leBytes 2 0xA5C3 ++ leBytes 2 12 ++ leBytes 2 p.1 ++ leBytes 2 m.hxAddr ++ leBytes 2 m.link.unsolSeq ++
          leBytes 1 0x41 ++ leBytes 1 3 ++ leBytes 2 0 ++ leBytes 1 s ++ leBytes 1 kind ++ leBytes 1 (fieldAt b (o + 7) 1) ++
          leBytes 1 0 ++ leBytes 4 (ingotSeq b) ++ leBytes 4 (fieldAt b o 4)
        { m with link := { m.link with unsol := m.link.unsol ++ [q ++ leBytes 4 (crc32c q)],
                                       unsolSeq := (m.link.unsolSeq + 1) % 65536 } })
    else m)

/-- An ingot arrives at HX (R339): it is checked, held in the history and queued; a full live queue displaces its oldest. -/
def Mach.ingotArrive (m : Mach) (b : List Byte) : Mach :=
  if !m.hostUp || b.length != 320 || fieldAt b 316 4 != crc32c (b.take 316) then m
  else
    let q := m.aq
    let hist := q.hist ++ [b]
    let hist := if histMax < hist.length then hist.drop 1 else hist
    let m := match q.live with
      | o :: rest =>
        if 64 ≤ q.live.length then
          { m with aq := { q with hist := hist, live := rest ++ [b], displaced := q.displaced + 1 } }.hraise 0x0F00 0x30
            (fieldAt o 3 1 % 4) (ingotSeq o)
        else { m with aq := { q with hist := hist, live := q.live ++ [b] } }
      | [] => { m with aq := { q with hist := hist, live := [b] } }
    m.notices b

/-- The barrier port takes the oldest ingot of the field queue (R338). -/
def Mach.queuePop (m : Mach) : Mach × Option (List Byte) :=
  match m.aq.queue with
  | [] => (m, none)
  | b :: rest => ({ m with aq := { m.aq with queue := rest } }.s F.AQ_QUEUE_DEPTH rest.length, some b)

/-- The STM message whose turn it is arrives: the oldest under way, else the oldest ingot of the field queue. -/
def takeStm : List BarMsg → Option (List Byte) × List BarMsg
  | [] => (none, [])
  | x :: l =>
    match x.body with
    | .stm b => (some b, l)
    | _ => let (r, l) := takeStm l
           (r, x :: l)

/-- INGOT_ARRIVAL (R339). -/
def execIngotArrival (s : State) : Host.Outcome State Fault Refusal :=
  .next { s with m :=
    let m := s.m
    if !m.hostUp || m.g F.DEV_BAR_STAT_INSERV == 0 then m
    else match takeStm m.bar.msgs with
      | (some b, l) => { m with bar := { m.bar with msgs := l } }.ingotArrive b
      | (none, _) => match m.queuePop with
        | (m, some b) => m.ingotArrive b
        | (m, none) => m }

/-- FORCED_MARK (R334): trigger t has placed no mark for TMO·16 frames. -/
def execForcedMark (t : Nat) (s : State) : Host.Outcome State Fault Refusal :=
  .next { s with m :=
    if t < 8 ∧ s.m.engRuns 17 ∧ s.m.phase ≠ .latch ∧ s.m.forcedDue t s.m.frame then s.m.trgMark t s.m.frame 2 else s.m }

/-- STREAM_ACTIVATION (R344). -/
def execStreamActivation (s : State) : Host.Outcome State Fault Refusal :=
  .next { s with m := if s.m.engRuns 17 then s.m.aqDue else s.m }

/-- STM_STATUS: 48 bytes. -/
def opStmStatus (m : Mach) (p : Pkt) : Ans :=
  if p.len ≠ 0 then m.refuse LENGTH
  else
    let q := m.aq
    let ends : Nat × Nat := match q.hist.head?, q.hist.getLast? with
      | some a, some b => (ingotSeq a, ingotSeq b)
      | _, _ => (0, 0)
    m.okData (leBytes 2 (m.g F.AQ_STAT_CFGID) ++ leBytes 2 ((q.pend.map (fun x => fieldAt x.1 6 2)).getD 0) ++
      leBytes 1 (m.g F.AQ_STAT_ACTIVE) ++ leBytes 1 0 ++ leBytes 2 q.live.length ++ leBytes 4 q.sent ++ leBytes 4 ends.1 ++
      leBytes 4 ends.2 ++ leBytes 4 q.displaced ++ leBytes 4 q.abandoned ++ leBytes 4 q.fills ++ leBytes 1 q.subs.length ++
      leBytes 3 0 ++ leBytes 4 histMax ++ leBytes 2 (m.g F.AQ_WIN_INGOTS) ++ leBytes 2 (m.g F.AQ_WIN_SLOTS) ++ leBytes 4 0)

/-- STM_SUBSCRIBE. -/
def opStmSubscribe (m : Mach) (p : Pkt) : Ans :=
  let mask := p.n 0 1
  if p.len ≠ 2 then m.refuse LENGTH
  else if p.n 1 1 ≠ 0 ∨ 15 < mask then m.refuse RANGE
  else
    let rest := m.aq.subs.filter (fun e => e.1 != p.src)
    if mask = 0 then ({ m with aq := { m.aq with subs := rest } }).ok
    else if 16 ≤ rest.length then m.refuse BUSY
    else ({ m with aq := { m.aq with subs := rest ++ [(p.src, mask)] } }).ok

/-- STM_LOAD (R344): judged at the end of latch; an accepted image is written to the Key and activates at frame A. -/
def opStmLoad (m : Mach) (p : Pkt) : Ans :=
  if p.len < 20 then m.refuse LENGTH
  else if m.aq.pend.isSome then m.refuse WRONG_STATE
  else if m.cfgRefused p.payload then m.refuse CONFIG
  else
    let a := ((m.frame + 16) / 1024 + 1) * 1024
    let m := { (m.sb F.AQ_STAT_PEND true) with aq := { m.aq with pend := some (p.payload, a) } }
    (m.genRewrite 5 p.payload).okData (leBytes 8 a)

/-- STM_STOP. -/
def opStmStop (m : Mach) (p : Pkt) : Ans :=
  if p.len ≠ 2 then m.refuse LENGTH
  else if p.n 1 1 ≠ 0 ∨ 15 < p.n 0 1 then m.refuse RANGE
  else (each ((upTo 4).filter (fun s => bit (p.n 0 1) s)) m (fun m s => m.endStrm (m.frame - 1) s)).ok

/-- STM_FETCH. -/
def opStmFetch (m : Mach) (p : Pkt) : Ans :=
  let a := p.n 0 4
  let n := p.n 4 1
  if p.len ≠ 8 ∨ n = 0 ∨ 12 < n then m.refuse LENGTH
  else if p.n 5 3 ≠ 0 then m.refuse RANGE
  else
    let gs := (upTo n).filterMap (fun j => m.aq.hist.find? (fun b => ingotSeq b == (a + j) % 2 ^ 32))
    m.okData (leBytes 1 gs.length ++ leBytes 3 0 ++ gs.flatten)

/-- STM_STATUS (R345). -/
def execStmStatus (src seq : Nat) (payload : List Byte) (s : State) : Host.Outcome State Fault Refusal :=
  .next { s with m := s.m.runOp 0x40 src seq payload 1 true opStmStatus }

/-- STM_SUBSCRIBE (R345). -/
def execStmSubscribe (src seq : Nat) (payload : List Byte) (s : State) : Host.Outcome State Fault Refusal :=
  .next { s with m := s.m.runOp 0x41 src seq payload 1 false opStmSubscribe }

/-- STM_LOAD (R344). -/
def execStmLoad (src seq : Nat) (payload : List Byte) (s : State) : Host.Outcome State Fault Refusal :=
  .next { s with m := s.m.runOp 0x42 src seq payload 2 true opStmLoad }

/-- STM_STOP (R344). -/
def execStmStop (src seq : Nat) (payload : List Byte) (s : State) : Host.Outcome State Fault Refusal :=
  .next { s with m := s.m.runOp 0x43 src seq payload 2 true opStmStop }

/-- STM_FETCH (R340). -/
def execStmFetch (src seq : Nat) (payload : List Byte) (s : State) : Host.Outcome State Fault Refusal :=
  .next { s with m := s.m.runOp 0x44 src seq payload 1 false opStmFetch }

end Sys2Proof.Machine
end

