-- ==== Sys2Proof/Machine/Spares.lean ====
section
/-! DEFINITION. Spares and wear (spec/13_duplex_and_spares.md, R299 to R307), failure actions of engines (R41), warm restarts
(spec/19_start_and_power.md, R425) and barrier lanes leaving service (R22). -/

namespace Sys2Proof.Machine

open Sys2Proof

/-! ### Parts (R307) -/

/-- The engine of a part: LE0 to LE8, MG0 to MG4. -/
def partEng (p : Nat) : Nat := p + 3

/-- The spare of an engine: LE8 or MG4. -/
def spareOf (e : Nat) : Nat := if e ≤ 11 then 11 else 16

/-- State of the spare e (11 or 16) and the engine it serves, as `SPR_STAT` shows them. -/
def Mach.sprSt (m : Mach) (e : Nat) : Nat := if e = 11 then m.g F.SPR_STAT_LE8ST else m.g F.SPR_STAT_MG4ST
def Mach.sprFor (m : Mach) (e : Nat) : Nat := if e = 11 then m.g F.SPR_STAT_LE8FOR else m.g F.SPR_STAT_MG4FOR

/-- Set them: `k` is the index within the class, 0xF for none. -/
def Mach.setSpr (m : Mach) (e st k : Nat) : Mach :=
  if e = 11 then (m.s F.SPR_STAT_LE8ST st).s F.SPR_STAT_LE8FOR k else (m.s F.SPR_STAT_MG4ST st).s F.SPR_STAT_MG4FOR k

/-- Index of an engine within its class. -/
def classIdx (e : Nat) : Nat := if e ≤ 11 then e - 3 else e - 12

/-- STATE and FOR of a part. -/
def Mach.setPart (m : Mach) (p st for_ : Nat) : Mach := (m.s F.SPR_PART_STATE st p).s F.SPR_PART_FOR for_ p

/-- The spare of engine e's class is in state spare and healthy (R300). -/
def Mach.spareFree (m : Mach) (e : Nat) : Bool :=
  let x := spareOf e
  m.sprSt x == 0 && m.engRuns x && !m.gb F.DEV_ENG_FAULT_FAULT x && !(m.upd.go && m.upd.inplace.any (fun p => p.2 == x))

/-- The spare stands in for engine e from frame `f` on (R16, R300, R301). It starts with no latches and no held words (R8). -/
def Mach.standIn (m : Mach) (e kind f : Nat) : Mach :=
  let x := spareOf e
  let m := m.dropLatches (.eng x)
  let m := (m.setSpr x 2 (classIdx e)).setPart (x - 3) 2 (e - 3)
  let m := (m.setPart (e - 3) 3 (x - 3)).sw .FRM_BUD (m.w .FRM_BUD e) x
  m.sprLog (x - 3) kind e f false

/-- The spare of engine e returns to state spare (R301). -/
def Mach.standDown (m : Mach) (e kind : Nat) : Mach :=
  let x := spareOf e
  let m := (m.setSpr x 0 0xF).setPart (x - 3) 1 0x3F
  let m := (m.setPart (e - 3) 0 0x3F).sw .FRM_BUD 0 x
  m.sprLog (x - 3) kind e m.frame true

/-! ### Warm restarts (R425) -/

/-- An engine is retired. -/
def Mach.retireEng (m : Mach) (e : Nat) : Mach :=
  let m := if e = 11 ∨ e = 16 then m.setSpr e 3 (m.sprFor e) else m
  let m := if 3 ≤ e ∧ e ≤ 16 then m.s F.SPR_PART_STATE 4 (e - 3) else m
  { m.setb F.DEV_ENG_RUN_RUN e false with
      pow := { m.pow with retired := if m.pow.retired.contains e then m.pow.retired else m.pow.retired ++ [e],
                          restarting := m.pow.restarting.filter (fun x => x != e) } }

/-- A stopped engine begins a warm restart, or is retired when its restarts reach ERSTMAX. -/
def Mach.restartBegin (m : Mach) (e : Nat) : Mach :=
  let rs := recent m.now m.pow.restarts ++ [(e, m.now)]
  let n := countOf rs e
  let m := { m with pow := { m.pow with restarts := rs } }
  let m := m.restartCounted e n
  if m.g F.PWR_CFG_ERSTMAX ≤ n then (m.raise 0x1206 e e n).retireEng e
  else { m with pow := { m.pow with restarting := m.pow.restarting ++ [e] } }

/-- The slots of loop engine k resume as at a first running frame; its groups leave their safe state (R139, R425). -/
def Mach.loopResume (m : Mach) (k : Nat) : Mach :=
  each ((upTo 32).map (fun i => 32 * k + i)) m (fun m s =>
    if m.slotType s = 0 then m
    else
      let m := m.setSlot s { m.slot s with first := true }
      if m.slotType s = 2 then
        let g := m.g F.LP_VEC_GROUP s
        m.setGrp g { m.grp g with ownerFail := false }
      else m)

/-- The axes of motion generator k resume as at EN going to 1 (R178, R425). -/
def Mach.axesResume (m : Mach) (k : Nat) : Mach :=
  each ((upTo 8).map (fun i => 8 * k + i)) m (fun m a =>
    if m.axisType a = 0 then m
    else
      let m := m.setAxis a { m.axis a with run := false }
      if m.axisType a = 2 then
        let g := m.g F.MG_STEP_CFG_GROUP a
        m.setGrp g { m.grp g with ownerFail := false }
      else m)

/-- An engine's slots or axes resume after its restart, where no spare stands in. -/
def Mach.resume (m : Mach) (e : Nat) : Mach :=
  if e = 17 then m.aqRestart
  else if 3 ≤ e ∧ e ≤ 10 then (if m.sprSt 11 = 2 ∧ m.sprFor 11 = e - 3 then m else m.loopResume (e - 3))
  else if 12 ≤ e ∧ e ≤ 15 then (if m.sprSt 16 = 2 ∧ m.sprFor 16 = e - 12 then m else m.axesResume (e - 12))
  else if e = 11 ∧ m.sprSt 11 = 2 then m.loopResume (m.sprFor 11)
  else if e = 16 ∧ m.sprSt 16 = 2 then m.axesResume (m.sprFor 16)
  else m

/-- A warm restart completes (R425): with its self-test passed the engine is available, otherwise it is retired. -/
def Mach.restartDone (m : Mach) (e : Nat) (ok : Bool) : Mach :=
  if e ≤ 1 then m.sideDone e ok
  else if e = 18 then (if m.pow.hst = 3 then { ((m.setb F.DEV_ENG_RUN_RUN 18 true).sb F.DEV_CTL_HOST_RST false) with pow := { m.pow with hst := 2 } } else m)
  else if !m.pow.restarting.contains e then m
  else if !ok then m.retireEng e
  else
    let m := { m with pow := { m.pow with restarting := m.pow.restarting.filter (fun x => x != e) } }
    (m.setb F.DEV_ENG_RUN_RUN e true).resume e

/-! ### Failure actions (R41, R299, R300) -/

/-- An LE or MG that has failed: the free spare is grafted, or the engine stops; then its warm restart begins. -/
def Mach.lemgFails (m : Mach) (e : Nat) : Mach :=
  let m := m.setb F.DEV_ENG_RUN_RUN e false
  let m :=
    if e = 11 then (if m.sprSt 11 = 2 then loopStop m (m.sprFor 11) else m)
    else if e = 16 then (if m.sprSt 16 = 2 then motionStop m (m.sprFor 16) else m)
    else if m.spareFree e then m.standIn e 0 (m.frame + 1)
    else if m.sprSt (spareOf e) = 2 ∧ m.sprFor (spareOf e) = classIdx e then m
    else if e ≤ 10 then loopStop m (e - 3) else motionStop m (e - 12)
  m.restartBegin e

/-- The failure action of engine e. -/
def Mach.failAction (m : Mach) (e : Nat) : Mach :=
  let m := { m with upd := { m.upd with since := m.now } }
  if e ≤ 1 then m.sideFault e 1
  else if e = 2 then m.spFault
  else if e ≤ 16 then m.lemgFails e
  else if e = 17 then ((m.aqFails).setb F.DEV_ENG_RUN_RUN 17 false).restartBegin 17
  else m

/-- The failure actions due at a commit point, in ascending engine number (R41, R300). -/
def Mach.failActions (m : Mach) : Mach :=
  let es := (upTo 18).filter (fun e => m.failing.contains e)
  each es { m with failing := [] } Mach.failAction

/-- FAILURE_BY_OVERRUN (R41): engine e's counts have reached a limit. -/
def execFailureByOverrun (e : Nat) (s : State) : Host.Outcome State Fault Refusal :=
  .next { s with m :=
    let m := s.m
    if 18 ≤ e ∨ !m.ticking then m
    else
      let m := if m.failing.contains e ∨ !m.frameBound e then m
        else if m.consecLimit e ≤ m.g F.FRM_OVR_RUN e ∨ m.g F.FRM_OVR_CFG_WIN ≤ m.winCount e then m.failCheck e else m
      if m.failing.contains e then
        ({ m with failing := m.failing.filter (fun x => x != e) }.failAction e).giveUps.1
      else m }

/-- ENGINE_CORE_FAULT (R299): an LE or MG in service fails its core self-test; the failure action follows at the commit point
at which R41 acts (R300). -/
def execEngineCoreFault (e : Nat) (s : State) : Host.Outcome State Fault Refusal :=
  .next { s with m := if 3 ≤ e ∧ e ≤ 16 ∧ s.m.engRuns e ∧ s.m.ticking then s.m.engineFails e else s.m }

/-- ENGINE_RESTART_COMPLETE (R425): `ok` is the result of the self-test. -/
def execEngineRestartComplete (e : Nat) (ok : Bool) (s : State) : Host.Outcome State Fault Refusal :=
  .next { s with m := s.m.restartDone e ok }

/-! ### Planned grafts and releases (R301) -/

/-- A state record of which both copies hold a double-bit error. -/
def Mach.recordBad (m : Mach) (a b len : Nat) : Bool :=
  let dbl (x : Nat) : Bool := (upTo (len / 8)).any (fun i => m.mem.mark (m.mem.phys (x - 0x20000000 + 8 * i) / 8) == 2)
  dbl a && dbl b

/-- The spare's checks of engine e's pages in use and state records hold (R145, R148, R301). -/
def Mach.graftChecks (m : Mach) (e : Nat) : Bool :=
  if e ≤ 10 then
    ((upTo 32).map (fun i => 32 * (e - 3) + i)).all (fun s => m.slotType s == 0 ||
      (pageOk (m.pageBytes s (m.g F.LP_STAT_SELACT s)) (m.slotType s == 2) &&
       !m.recordBad (m.recordAddr s 0).1 (m.recordAddr s 0).2 64))
  else
    ((upTo 8).map (fun i => 8 * (e - 12) + i)).all (fun a => m.axisType a == 0 ||
      !m.recordBad (m.axRecAddr a 0).1 (m.axRecAddr a 0).2 128)

/-- Engine e is in service and its spare can be grafted for it. -/
def Mach.graftable (m : Mach) (e : Nat) : Bool :=
  m.engRuns e && m.g F.SPR_PART_STATE (e - 3) == 0 && m.spareFree e

/-- A graft is planned for frame G. -/
def Mach.planGraft (m : Mach) (e g kind : Nat) : Mach :=
  let p : Plan := { e := e, g := g, kind := kind }
  { m.setSpr (spareOf e) 1 (classIdx e) with spr := { m.spr with plans := m.spr.plans ++ [p] } }

/-- The plans whose frame has come (R301). -/
def Mach.plansDue (m : Mach) : Mach :=
  let due := m.spr.plans.filter (fun p => decide (p.g ≤ m.frame))
  each due { m with spr := { m.spr with plans := m.spr.plans.filter (fun p => decide (m.frame < p.g)) } } (fun m p =>
    if p.release then
      (if m.sprSt (spareOf p.e) = 2 ∧ m.sprFor (spareOf p.e) = classIdx p.e ∧ m.engRuns p.e then m.standDown p.e p.kind else m)
    else if m.sprSt (spareOf p.e) = 1 ∧ m.sprFor (spareOf p.e) = classIdx p.e then m.standIn p.e p.kind m.frame
    else m)

/-- PLANNED_GRAFT (R301). -/
def execPlannedGraft (s : State) : Host.Outcome State Fault Refusal :=
  .next { s with m := if s.m.ticking then s.m.plansDue else s.m }

/-! ### Barrier lanes (R22) -/

/-- Lane l is in service. -/
def Mach.laneOn (m : Mach) (l : Nat) : Bool := m.gb F.DEV_BAR_STAT_INSERV l

/-- Lane 4 is healthy and not in service. -/
def Mach.laneSpare (m : Mach) : Bool := !m.laneOn 4 && nth m.bar.healthy 4 true && m.g F.DEV_BAR_STAT_SPARE_FOR == 7

/-- Lane l leaves service; lane 4 will be grafted if it can (R22). -/
def Mach.laneOut (m : Mach) (l : Nat) (failed : Bool) : Mach :=
  if 5 ≤ l ∨ !m.laneOn l then
    (if l < 5 ∧ failed then { m with bar := { m.bar with healthy := setNth true 5 m.bar.healthy l false } } else m)
  else
    let m := ((m.setb F.DEV_BAR_STAT_INSERV l false).setBitW F.DEV_BAR_STAT_FAILED l).raise (0x0110 + l) 0x20 l (openArg (0x0110 + l) 1)
    let m := { m with bar := { m.bar with healthy := if failed then setNth true 5 m.bar.healthy l false else m.bar.healthy,
                                          errAt := m.bar.errAt.filter (fun e => e.1 != l),
                                          symRun := setNth 0 5 m.bar.symRun l 0 } }
    if l < 4 ∧ m.laneSpare ∧ m.bar.graftPend.isNone then { m with bar := { m.bar with graftPend := some (l, m.bar.cycle) } } else m

/-- Lane 4 takes the position of a lane that has left service (R22). -/
def Mach.laneGraft (m : Mach) (kind : Nat) : Mach :=
  match m.bar.graftPend with
  | none => m
  | some (l, _) =>
    let m := { m with bar := { m.bar with graftPend := none } }
    if !m.laneSpare then m
    else
      let m := ((m.setb F.DEV_BAR_STAT_INSERV 4 true).s F.DEV_BAR_STAT_SPARE_FOR l).raise (0x0118 + l) 0x20 l (openArg (0x0118 + l) 1)
      let m := (m.setPart 35 2 (31 + l)).setPart (31 + l) 3 35
      m.sprLog 35 kind 0x20 m.frame false

/-- LANE_OUT_OF_SERVICE (R22). -/
def execLaneOutOfService (l : Nat) (s : State) : Host.Outcome State Fault Refusal :=
  .next { s with m := if s.m.bar.running then s.m.laneOut l true else s.m }

/-- LANE_GRAFT (R22): within 100 barrier cycles of the failure. -/
def execLaneGraft (s : State) : Host.Outcome State Fault Refusal := .next { s with m := s.m.laneGraft 0 }

/-! ### Wear (R302, R303) -/

/-- 2^(k/10) in units of 2^-64, k = 0 to 9. -/
def pow10ths : List Nat :=
  [18446744073709551616, 19770730768400532066, 21189744572521466218, 22710605910750957083, 24340624733262758998,
   26087635650665564424, 27960035590699075257, 29966824157681538847, 32117646888694579732, 34422841614414192858]

/-- WEAR of one hour in service at die temperature T, in units of 2^-64 (R302). -/
def wearHour (t : Int) : Nat :=
  let n := (t - 55).toNat
  nth pow10ths (n % 10) 0 * 2 ^ (n / 10) * 65536 / 219000

/-- The part's spare is free for a graft (R303). -/
def Mach.spareReady (m : Mach) (p : Nat) : Bool :=
  if p ≤ 7 ∨ (9 ≤ p ∧ p ≤ 12) then m.graftable (partEng p)
  else if 14 ≤ p ∧ p ≤ 30 then m.g F.ADC_SLICE_STAT_STATE (p - 14) == 0 && decide (m.spareSlice < 17) && m.adc.worn.isEmpty
  else if 31 ≤ p ∧ p ≤ 34 then m.laneOn (p - 31) && m.laneSpare && m.bar.graftPend.isNone
  else false

/-- The graft of part p for wear or on command (R299), at frame G for an engine. -/
def Mach.graftPart (m : Mach) (p g kind : Nat) : Mach :=
  if p ≤ 13 then m.planGraft (partEng p) g kind
  else if p ≤ 30 then { m with adc := { m.adc with worn := m.adc.worn ++ [(p - 14, kind)] } }
  else
    let l := p - 31
    let m := m.laneOut l false
    { m with bar := { m.bar with graftPend := some (l, m.bar.cycle) } }.laneGraft kind

/-- SOURCE of an event of a part (R474). -/
def partSrc (p : Nat) : Nat := if p ≤ 13 then p + 3 else 0x20

/-- WEAR of part p grows by k units; thresholds are judged (R302, R303). -/
def Mach.addWear (m : Mach) (p k : Nat) : Mach :=
  if k = 0 ∨ 36 ≤ p then m
  else
    let old := m.g F.SPR_PART_WEAR p
    let w := min 0xFFFF (old + k)
    let m := m.s F.SPR_PART_WEAR w p
    let m := { m with led := { m.led with wear := putN m.led.wear p w } }
    let warn := m.g F.SPR_WEAR_CFG_WARN
    let lim := m.g F.SPR_WEAR_CFG_GRAFT
    let m := if old < warn ∧ warn ≤ w then m.raise 0x0D22 (partSrc p) p 1 else m
    if w < lim ∨ m.spr.worn.contains p ∨ !(m.g F.SPR_PART_STATE p == 0 || m.g F.SPR_PART_STATE p == 2) then m
    else if m.spareReady p then
      (if p ≤ 13 ∧ !m.graftChecks (partEng p) then m.raise 0x0D23 (partSrc p) p 1
       else { m with spr := { m.spr with worn := m.spr.worn ++ [p] } }.graftPart p (m.frame + 16) 1)
    else if old < lim ∨ lookN m.spr.again p ≤ w then
      { m.raise 0x0D22 (partSrc p) p 1 with spr := { m.spr with again := putN m.spr.again p (w + 256) } }
    else m

/-- Each hour of service (R302); `ecc` lists engines whose local memory has had a corrected error since the last hour. -/
def Mach.wearUpdate (m : Mach) (ecc : List Nat) : Mach :=
  let h := wearHour (m.gi F.PWR_STAT_TEMP)
  let m := each (upTo 36) m (fun m p =>
    let st := m.g F.SPR_PART_STATE p
    let d := if st = 0 ∨ st = 2 then h else if st = 1 then h / 4 else 0
    let f := lookN m.spr.frac p + d
    { m with spr := { m.spr with frac := putN m.spr.frac p (f % 2 ^ 64) } }.addWear p (f / 2 ^ 64))
  each ecc m (fun m e => if 3 ≤ e ∧ e ≤ 16 then m.addWear (e - 3) 256 else m)

/-- WEAR_UPDATE (R302). -/
def execWearUpdate (ecc : List Nat) (s : State) : Host.Outcome State Fault Refusal :=
  .next { s with m := if s.m.st = stRESET then s.m else s.m.wearUpdate ecc }

/-! ### Flash blocks (R304) -/

/-- A block of field code flash is grafted onto a free spare block; its remap holds across power-up. -/
def Mach.flashGraft (m : Mach) (block : Nat) : Mach :=
  let free := m.g F.SPR_STAT_FLASHFREE
  if 512 ≤ block ∨ free = 0 then m
  else
    let sp := 32 - free
    let bs := (m.spr.blocks.filter (fun p => p.1 != block)) ++ [(block, sp)]
    { m.s F.SPR_STAT_FLASHFREE (free - 1) with spr := { m.spr with blocks := bs, erase := putN m.spr.erase block 0 } }

/-- An erase of a block: a block whose count reaches ERASEMAX is grafted. -/
def Mach.flashErase (m : Mach) (block : Nat) : Mach :=
  let n := lookN m.spr.erase block + 1
  let m := { m with spr := { m.spr with erase := putN m.spr.erase block n } }
  if m.g F.SPR_FLASH_CFG_ERASEMAX ≤ n then m.flashGraft block else m

/-- FLASH_BLOCK_GRAFT (R304): the block has reached ERASEMAX, or an erase or program of it failed verification. -/
def execFlashBlockGraft (block : Nat) (s : State) : Host.Outcome State Fault Refusal :=
  .next { s with m := s.m.flashGraft block }

/-! ### Commands (R305) -/

/-- SPR_STATUS. -/
def opSprStatus (m : Mach) (p : Pkt) : Ans :=
  let a := p.n 0 1
  let n := p.n 1 1
  if p.len ≠ 2 ∨ n = 0 ∨ 36 < n ∨ 36 < a + n then m.refuse LENGTH
  else m.okData (leBytes 4 (m.w .SPR_STAT).toNat ++ ((upTo n).map (fun j => leBytes 4 (m.w .SPR_PART (a + j)).toNat)).flatten)

/-- Part numbers of a class of SPR_GRAFT (R307). -/
def classHas (cls idx : Nat) : Bool :=
  if cls = 0 then decide (idx ≤ 13)
  else if cls = 1 then decide (14 ≤ idx) && decide (idx ≤ 30)
  else if cls = 2 then decide (31 ≤ idx) && decide (idx ≤ 35)
  else cls == 3 && decide (idx < 8192)

/-- SPR_GRAFT (R301, R305). -/
def opSprGraft (m : Mach) (p : Pkt) : Ans :=
  let cls := p.n 0 1
  let idx := p.n 2 2
  let g := if p.n 4 8 = 0 then m.frame + 16 else p.n 4 8
  if p.len ≠ 12 then m.refuse LENGTH
  else if p.n 1 1 ≠ 0 ∨ !classHas cls idx ∨ (cls = 0 ∧ g < m.frame + 16) then m.refuse RANGE
  else if m.inGap then m.refuse BUSY
  else if m.updArmed then m.refuse WRONG_STATE
  else if cls = 3 then
    (if m.mem.copying idx ∨ m.mem.remap.any (fun r => r.1 == idx) ∨ m.g F.MEM_BANK_STAT_SPARE_FREE (idx / 2048) = 0 ∨
        (m.mem.freeSpare (idx / 2048)).isNone then m.refuse WRONG_STATE
     else (m.rowGraft idx).ok)
  else if !m.spareReady idx ∨ (cls = 0 ∧ !m.graftChecks (partEng idx)) then m.refuse WRONG_STATE
  else (m.graftPart idx g 2).ok

/-- SPR_RELEASE (R301); the part is the engine given back (DESIGN CHOICE, assumption 45). -/
def opSprRelease (m : Mach) (p : Pkt) : Ans :=
  let idx := p.n 0 1
  let e := partEng idx
  let g := p.n 2 8
  if p.len ≠ 10 then m.refuse LENGTH
  else if p.n 1 1 ≠ 0 ∨ 36 ≤ idx ∨ g < m.frame + 16 then m.refuse RANGE
  else if m.inGap then m.refuse BUSY
  else if m.updArmed ∨ 13 < idx ∨ idx = 8 ∨ idx = 13 ∨ !(m.sprSt (spareOf e) == 2 && m.sprFor (spareOf e) == classIdx e) ∨ !m.engRuns e ∨
      m.spr.plans.any (fun q => q.e == e) then m.refuse WRONG_STATE
  else ({ m with spr := { m.spr with plans := m.spr.plans ++ [({ e := e, g := g, kind := 2, release := true } : Plan)] } }).ok

/-- SPR_STATUS (R305). -/
def execSprStatus (src seq : Nat) (payload : List Byte) (s : State) : Host.Outcome State Fault Refusal :=
  .next { s with m := s.m.runOp 0x73 src seq payload 1 true opSprStatus }

/-- SPR_GRAFT (R301). -/
def execSprGraft (src seq : Nat) (payload : List Byte) (s : State) : Host.Outcome State Fault Refusal :=
  .next { s with m := s.m.runOp 0x74 src seq payload 2 true opSprGraft }

/-- SPR_RELEASE (R301). -/
def execSprRelease (src seq : Nat) (payload : List Byte) (s : State) : Host.Outcome State Fault Refusal :=
  .next { s with m := s.m.runOp 0x75 src seq payload 2 true opSprRelease }

end Sys2Proof.Machine
end

