-- ==== Sys2Proof/Machine/Start.lean ====
section
/-! DEFINITION. Powering up the field domain (spec/19_start_and_power.md, R416 to R424, R475): the Key read, slot and
generation chosen, registers and tables loaded, units started before the first tick. -/

namespace Sys2Proof.Machine

open Sys2Proof

/-! ### What a power-up keeps (R6, R417) -/

/-- Registers that keep what field code flash records: `SPR_STAT`, `SPR_PART`, the unit's identity. -/
def flashIdx (idx : Nat) : Bool :=
  idx == 0x2E00 || (decide (0x2E40 ≤ idx) && decide (idx < 0x2E64)) || decide (idx ≤ 2)

/-- Put back the fields that flash records in registers of other units: free spare rows, switches that cannot open, retired
delay lines and slices. -/
def Mach.flashFields (m old : Mach) : Mach :=
  let m := each (upTo 4) m (fun m b => m.s F.MEM_BANK_STAT_SPARE_FREE (old.mem.spareRows b) b)
  let m := each (upTo 8) m (fun m k =>
    (m.sb F.SF_SO_STAT_HSOPEN (old.b F.SF_SO_STAT_HSOPEN k) k).sb F.SF_SO_STAT_LSOPEN (old.b F.SF_SO_STAT_LSOPEN k) k)
  let m := each (upTo 17) m (fun m x => if old.g F.ADC_SLICE_STAT_STATE x = 3 then m.s F.ADC_SLICE_STAT_STATE 3 x else m)
  each (upTo 12) m (fun m g => each (upTo 9) m (fun m i =>
    if old.g F.PWM_DL_STAT_STATE g i = 3 then m.s F.PWM_DL_STAT_STATE 3 g i else m))

/-- Requests whose CMD the field domain has lost are answered with LOST (R21). -/
def Mach.cmdsLost (m : Mach) : Mach :=
  each m.bar.msgs m (fun m x => match x.body with
    | .cmd p => m.answer p.src p.seq p.op LOST []
    | _ => m)

/-- What a reset of the field domain does to the requests under way: those not applied are answered with LOST, those whose reply is
lost are forgotten (R21). -/
def Mach.reqsLost (m : Mach) : Mach :=
  let m := m.cmdsLost
  { m with link := { m.link with accepted := m.link.accepted.filter (fun a => a.reply.isSome) } }

/-- The field domain in RESET: what flash, Key, ledger, log and the host domain hold stays, everything else is at its reset
value (R6, R50). -/
def Mach.fieldReset (m : Mach) : Mach :=
  let a : Aq := { live := m.aq.live, hist := m.aq.hist, sent := m.aq.sent, displaced := m.aq.displaced,
                  abandoned := m.aq.abandoned, fills := m.aq.fills, subs := m.aq.subs }
  let sp : Spare := { frac := m.spr.frac, worn := m.spr.worn, again := m.spr.again, blocks := m.spr.blocks, erase := m.spr.erase }
  let pw : Pow := { hst := m.pow.hst, hostId := m.pow.hostId, hostSlot := m.pow.hostSlot, hostRegs := m.pow.hostRegs,
                    used := m.pow.used, retired := m.pow.retired }
  let up : Upd := { m.upd with inplace := [], go := false, newScan := false, img := none, machs := [], grp := {}, map := [], since := 0 }
  let r : Mach :=
    { reg := m.reg.filter (fun p => isHostIdx p.1 || flashIdx p.1), free := m.free, log := m.log, led := m.led, key := m.key,
      link := m.reqsLost.link, roleFails := m.roleFails, lockouts := m.lockouts, spr := sp, pow := pw, upd := up, aq := a,
      dx := { retired := m.dx.retired }, mem := { remap := m.mem.remap, dead := m.mem.dead }, bar := { hostTim := m.bar.hostTim } }
  let r := r.flashFields m
  let r := each [11, 16] r (fun r e => if r.sprSt e = 1 then r.setSpr e 0 0xF else r)
  let r := each (upTo 5) r (fun r l => r.setPart (31 + l) (if l = 4 then 1 else 0) 0x3F)
  each (upTo 36) r (fun r p => r.s F.SPR_PART_WEAR (lookN r.led.wear p) p)

/-! ### Slots (R410, R420) -/

/-- State of a slot in `UPD_BOOT`: 0 EMPTY, 1 PROVEN, 2 TRIAL, 3 FAILED. -/
def Mach.slotState (m : Mach) (s : Nat) : Nat := if s = 0 then m.g F.UPD_BOOT_ASTATE else m.g F.UPD_BOOT_BSTATE

/-- Set it. -/
def Mach.setSlotState (m : Mach) (s v : Nat) : Mach := if s = 0 then m.s F.UPD_BOOT_ASTATE v else m.s F.UPD_BOOT_BSTATE v

/-- What flash records of a slot. -/
def Mach.slotInfo (m : Mach) (s : Nat) : SlotInfo := nth m.upd.slots s {}

/-- A TRIAL slot fails: it is FAILED and the other slot boots (R410). -/
def Mach.trialFails (m : Mach) (s : Nat) : Mach :=
  ((m.setSlotState s 3).sb F.UPD_BOOT_FELLBACK true).hraise 0x1108 0x30 s (m.slotInfo (1 - s)).manid

/-- BOOT chooses a slot (R410, R420): none where none can boot. -/
def Mach.chooseSlot (m : Mach) : Mach × Option Nat :=
  let s := m.upd.named
  let st := m.slotState s
  let good := (m.slotInfo s).good
  if (st = 1 ∨ st = 2) ∧ good then (m, some s)
  else
    let m := if st = 2 then m.trialFails s else m
    if m.slotState (1 - s) = 1 ∧ (m.slotInfo (1 - s)).good then (m.sb F.UPD_BOOT_FELLBACK true, some (1 - s))
    else (m.raise 0x120A 0x20 (m.w .UPD_BOOT).toNat 0, none)

/-! ### The register section (R475) -/

/-- The bits of a register that a section may set: its RW and RWS fields. -/
def cfgMask (r : R) : Nat :=
  r.flds.foldl (fun a f => if f.acc = .RWS ∨ f.acc = .RW then a ||| (2 ^ (f.hi + 1) - 2 ^ f.lo) else a) 0

/-- The entries of a register section: index and value. -/
def regEntries (b : List Byte) : List (Nat × Nat) :=
  (upTo (b.length / 8)).map (fun i => (fieldAt b (8 * i) 2, fieldAt b (8 * i + 4) 4))

/-- The section is in strictly ascending index with its reserved bytes 0 (R421). -/
def regsRise (b : List Byte) : Bool :=
  let es := regEntries b
  b.length % 8 == 0 && (upTo es.length).all (fun i => fieldAt b (8 * i + 2) 2 == 0) &&
  (es.zip (es.drop 1)).all (fun p => decide (p.1.1 < p.2.1))

/-- An index that a section may not name: reserved, undefined, read-only in every field, or of the MPU window. -/
def regNameBad (idx : Nat) : Bool :=
  (decide (0x220 ≤ idx) && decide (idx ≤ 0x25F)) ||
  (match regAt idx with
   | none => true
   | some (r, _, _) => cfgMask r == 0)

/-- Take one entry: the configuration fields of the register replace their reset values. -/
def Mach.takeEntry (m : Mach) (e : Nat × Nat) : Mach :=
  match regAt e.1 with
  | none => m
  | some (r, _, _) =>
    let k := cfgMask r
    m.setWord e.1 (Word.of (maskOff (m.word e.1).toNat k + (e.2 &&& k)))

/-- Registers whose values the section decides, apart from those that other sources set: the SF block, the MPU window, the AQ
block and the parameter cells. -/
def sectionOwns (r : R) : Bool :=
  cfgMask r != 0 && !(decide (0x2800 ≤ r.base) && decide (r.base < 0x2C00)) && !(decide (0x220 ≤ r.base) && decide (r.base < 0x260)) &&
  decide (r.base < 0x8000)

/-- Some register holds a value, given or by omission, that its field does not store. -/
def Mach.regsBad (m : Mach) : Bool :=
  (R.all.filter sectionOwns).any (fun r =>
    let (n1, _, n2, _) := r.dims
    (upTo n1).any (fun i => (upTo n2).any (fun j =>
      let w := m.word (r.idx i j)
      r.flds.any (fun f => decide (f.acc = .RW ∨ f.acc = .RWS) && !m.stores f i (fld f w) w))))

/-! ### Loading a generation (R417 step 4, R421, R475) -/

/-- The sections of a type. -/
def sectsOf (b : List Byte) (typ : Nat) : List (List Byte) :=
  ((genSects b).filter (fun s => s.typ == typ)).map (fun s => sliceB b s.off s.len)

/-- Enable the MPU regions of one requester (R65, R419). -/
def Mach.takeMpu (m : Mach) (b : List Byte) : Mach :=
  let req := fieldAt b 0 1
  each (upTo 16) m (fun m k =>
    let lim := fieldAt b (8 + 8 * k) 4
    let g : Region := { base := fieldAt b (4 + 8 * k) 4 / 256, lim := lim / 256, w := bit lim 2, rd := bit lim 1, en := bit lim 0 }
    { m with mem := { m.mem with mpu := smPut (fun _ => ({} : Region)) m.mem.mpu (16 * req + k) g } })

/-- A frame-memory image lies in frame memory. -/
def imageFits (b : List Byte) : Bool :=
  decide (4 ≤ b.length) && decide (0x20000000 ≤ fieldAt b 0 4) && decide (fieldAt b 0 4 + (b.length - 4) ≤ 0x20200000)

/-- Write a frame-memory image. -/
def Mach.takeMemImage (m : Mach) (b : List Byte) : Mach :=
  { m with mem := m.mem.store (fieldAt b 0 4 - 0x20000000) (b.drop 4) }

/-- The role keys of section 7: what is set (R30). -/
def Mach.showRoleKeys (m : Mach) (b : List Byte) : Mach :=
  ((m.sb F.DEV_ROLE_STAT_OBS_SET (fieldAt b 0 8 != 0)).sb F.DEV_ROLE_STAT_MNT_SET (fieldAt b 8 8 != 0)).sb
    F.DEV_ROLE_STAT_COM_SET (fieldAt b 16 8 != 0)

/-- The registers of the section, the host blocks apart. -/
def Mach.takeRegs (m : Mach) (b : List Byte) : Mach :=
  each ((regEntries b).filter (fun e => !isHostIdx e.1)) m Mach.takeEntry

/-- Machine units of a machine table (R1). -/
def unitsOf (xs : List Machn) : Nat := (xs.map (fun x => if x.typ = 0 then 0 else if x.lift then 2 else 1)).sum

/-- The tables of a loaded configuration are refused (R1, R38). -/
def Mach.tablesRefused (m : Mach) (tab grp stm : List Byte) : Bool :=
  !apFits m.W 0 || m.spCopies.isNone || m.loopsRefused || m.motionRefused || m.pwmRefused || m.adcRefused || m.memRefused || m.dmaRefused ||
  (upTo 4).any m.busBad || m.machsRefused tab || decide (8 < unitsOf (machsOf tab)) || m.groupRefused m.addr grp tab ||
  (!stm.isEmpty && m.cfgRefused stm)

/-- The registers, MPU regions and frame-memory images of a generation in a field domain at its reset values. -/
def Mach.takeSections (m : Mach) (b : List Byte) : Mach :=
  let m := m.takeRegs ((genSect b 1).getD [])
  let m := each (sectsOf b 8) m Mach.takeMpu
  let m := each (sectsOf b 3) m Mach.takeMemImage
  let m := (m.showRoleKeys ((genSect b 7).getD []))
  let m := each (upTo 256) m (fun m s => m.s F.LP_STAT_SELACT (m.g F.LP_PAGE_SEL s) s)
  each (upTo 12) m (fun m g =>
    let t := m.g F.PWM_GRP_TOP_TOP g
    ((m.setGrp g { m.grp g with used := t != 0, active := { top := t } }).s F.PWM_GRP_ACT_TOP t g))

/-- A generation's configuration as the module judges it, with its image: none where it is refused (R38, R475). -/
def Mach.loadGen (m : Mach) (b : List Byte) : Option (Mach × Image) :=
  let regs := (genSect b 1).getD []
  let tab := (genSect b 2).getD []
  let grp := (genSect b 4).getD []
  let stm := (genSect b 5).getD []
  let names := regEntries regs
  if names.any (fun e => regNameBad e.1) || (sectsOf b 3).any (fun s => !imageFits s) || tab.length != 512 then none
  else
    let x := m.takeSections b
    let host := each (names.filter (fun e => isHostIdx e.1)) { x with reg := x.reg.filter (fun p => !isHostIdx p.1) } Mach.takeEntry
    if host.regsBad || x.tablesRefused tab grp stm then none
    else
      match x.acceptImage (machsOf tab) ((genSect b 6).getD []) with
      | none => none
      | some im => some (x, im)

/-- A generation qualifies for a slot's MANID (R421). -/
def genQualifies (b : List Byte) (manid : Nat) : Bool :=
  genOk b && regsRise ((genSect b 1).getD []) && fieldAt b 16 4 == manid

/-- The generation areas that qualify, the higher SEQ first, area 0 first at equal SEQ (R421). -/
def Mach.genOrder (m : Mach) (manid : Nat) : List Nat :=
  let a := m.genArea 0
  let b := m.genArea 1
  let qa := genQualifies a manid
  let qb := genQualifies b manid
  if qa && qb then (if fieldAt a 8 4 < fieldAt b 8 4 then [1, 0] else [0, 1])
  else if qa then [0] else if qb then [1] else []

/-- The generation taken, with its area (R421); its events. -/
def Mach.chooseGen (m : Mach) (manid : Nat) : Mach × Option (Nat × Mach × Image) :=
  let seq (a : Nat) : Nat := fieldAt (m.genArea a) 8 4
  match m.genOrder manid with
  | [] => (m.raise 0x1208 0x20 manid (openArg 0x1208 1), none)
  | a :: rest =>
    match m.loadGen (m.genArea a) with
    | some r => (m, some (a, r))
    | none =>
      match rest with
      | [] => (m.raise 0x1208 0x20 manid (seq a), none)
      | b :: _ =>
        match (m.raise 0x1209 0x20 manid (seq b)).loadGen (m.genArea b) with
        | some r => (m, some (b, r))
        | none => (m.raise 0x1208 0x20 manid (seq a), none)

/-! ### Units before the first tick -/

/-- Every slice has calibrated: corrections in LSB and in 0.01 %, by slice; roles go to the healthy ones (R102). -/
def Mach.startSlices (m : Mach) (cal : List (Int × Int)) : Mach :=
  let fails (c : Int × Int) : Bool := decide (64 < c.1.natAbs) || decide (50 < c.2.natAbs)
  let m := each (upTo 17) m (fun m x =>
    let c := nth cal x (0, 0)
    if m.g F.ADC_SLICE_STAT_STATE x = 3 then m
    else if fails c then m.retireSlice x
    else (m.si F.ADC_SLICE_STAT_OFS c.1 x).si F.ADC_SLICE_STAT_GAIN c.2 x)
  let ok := (upTo 17).filter (fun x => m.g F.ADC_SLICE_STAT_STATE x != 3)
  let roles := 15 :: upTo 15
  let m := each ok m (fun m x => m.setPart (14 + x) 0 0x3F)
  let m := each (roles.zip ok) m (fun m p => (m.s F.ADC_ROLE_STAT_SLICE p.2 p.1).s F.ADC_SLICE_STAT_ROLE p.1 p.2)
  let m := each (roles.drop ok.length) m (fun m k => (m.s F.ADC_ROLE_STAT_SLICE 0x1F k).raise 0x0523 0x20 k (openArg 0x0523 1))
  match ok.drop 16 with
  | x :: _ =>
    let m := (((m.s F.ADC_ANNEAL_STAT_SPARE x).s F.ADC_SLICE_STAT_STATE 1 x).setPart (14 + x) 1 0x3F).s F.ADC_ANNEAL_STAT_NEXTROLE 0
    if m.b F.ADC_ANNEAL_CFG_EN then m else m.annealStop
  | [] => m.noSpare

/-- The 32 tap delays in ps, to the nearest, of a line without deviation: one FCLK period in 32 steps (R114, R122). -/
def idealTaps : List Nat := (upTo 32).map (fun i => (625 * i + 4) / 8)

/-- The delay lines calibrate (R122): tables, retirements, the eight outputs and the spare of each group. A line that `cal` does not
list has no deviation. -/
def Mach.startLines (m : Mach) (cal : List LineCal) : Mach :=
  each (upTo 12) m (fun m g =>
    let m := each (upTo 9) m (fun m i =>
      if m.g F.PWM_DL_STAT_STATE g i = 3 then m
      else
        let c := (cal.find? (fun c => c.g == g && c.i == i)).getD { g := g, i := i, taps := idealTaps }
        let m := m.tapTable g i c.err c.taps
        if tapsOk c.taps then m else (m.s F.PWM_DL_STAT_STATE 3 g i).raise 0x0602 0x20 g i)
    let ok := (upTo 9).filter (fun i => m.g F.PWM_DL_STAT_STATE g i != 3)
    let m := each (upTo 9) m (fun m i => m.s F.PWM_DL_STAT_OUT 15 g i)
    let m := each ((upTo 8).zip ok) m (fun m p => (m.s F.PWM_DL_STAT_STATE 0 g p.2).s F.PWM_DL_STAT_OUT p.1 g p.2)
    match ok.drop 8 with
    | i :: _ =>
      let on := m.b F.PWM_ANNEAL_CFG_EN
      (m.s F.PWM_DL_STAT_STATE (if on then 2 else 1) g i).setGrp g { m.grp g with dlPhase := if on then 0 else 3 }
    | [] => ((m.sb F.PWM_STAT_NOSPARE true).raise 0x0603 0x20 g (openArg 0x0603 1)).setGrp g { m.grp g with dlPhase := 3 })

/-- `FRM_BUD` of every engine for the tables in force (R38, R48). -/
def Mach.showBudgets (m : Mach) : Mach :=
  let m := (m.putBudget 0 true Config.apCost).putBudget 1 true Config.apCost
  let m := m.spBudgetShown
  let m := each (upTo 8) m (fun m k => m.putBudget (3 + k) ((upTo 32).any (fun i => m.slotType (32 * k + i) != 0)) (m.loopBudget k))
  let m := each (upTo 4) m (fun m k => m.putBudget (12 + k) ((upTo 8).any (fun i => m.axisType (8 * k + i) != 0)) (m.motionBudget k))
  let stand (m : Mach) (x : Nat) : Mach :=
    if m.sprSt x = 2 then m.sw .FRM_BUD (m.w .FRM_BUD ((if x = 11 then 3 else 12) + m.sprFor x)) x else m
  stand (stand m 11) 16

/-- The engines that run firmware in service; the home side ACTIVE and the other SYNCING, unless RETIRED (R422). -/
def Mach.startEngines (m : Mach) : Mach :=
  let m := each ((upTo 17).drop 2) m (fun m e => m.setb F.DEV_ENG_RUN_RUN e (!m.pow.retired.contains e))
  let m := m.setb F.DEV_ENG_RUN_RUN 17 (!m.pow.retired.contains 17)
  let m := m.setb F.DEV_ENG_RUN_RUN 18 m.hostUp
  let h := m.g F.DX_CFG_HOME
  let gone (x : Nat) : Bool := m.dx.retired.contains x
  let m := each [0, 1] m (fun m x => if gone x then m.setSide x 5 else m)
  if gone 0 ∧ gone 1 then { m with dx := { m.dx with held := some h } }
  else
    let a := if gone h then 1 - h else h
    let m := (m.setSide a 1).s F.DX_STAT_ACTIVE a
    if gone (1 - a) then m else m.syncStart (1 - a)

/-- The program and its tables: image, machines, group, stations in START, parameter cells (R263, R277, R282). -/
def Mach.startProgram (m : Mach) (im : Image) (tab grp stm : List Byte) : Mach :=
  let g := groupOf grp
  let k : Scan := { img := some im, stns := im.stns.map (fun _ => ({} : Stn)), machs := machsOf tab,
                    groups := if grp.isEmpty then ({} : Group) else g, staged := m.scan.staged }
  let m := ({ m with scan := k }.scanBegin).stnAll 1
  if stm.isEmpty then m
  else { (m.sb F.AQ_STAT_PEND true) with aq := { m.aq with pend := some (stm, 0) } }

/-! ### The host domain's copy (R424, R475) -/

/-- The host's own registers of a register section take effect. -/
def Mach.hostTake (m : Mach) : Mach := each m.pow.hostRegs m (fun m p => m.takeEntry (p.1, p.2.toNat))

end Sys2Proof.Machine
end

