-- ==== Sys2Proof/Machine/Power.lean ====
section
/-! DEFINITION. Start-up, warm restart of the host domain, loss of power and the journal (spec/19_start_and_power.md,
R416 to R434), and the order of a frame's events (R443, R444). -/

namespace Sys2Proof.Machine

open Sys2Proof

/-! ### The order of events (R443, R444) -/

/-- The class of an event code. -/
def evClass (code : Nat) : Nat :=
  let g := code / 256
  if code = 0x120B ∨ code = 0x120C then 1
  else if g = 0x0A ∨ g = 0x0B then 2
  else if within 0x0100 0x0102 code ∨ within 0x0200 0x0232 code ∨ g = 0x0D ∨ within 0x1203 0x1206 code then 3
  else if g = 0x03 then 4
  else if within 4 8 g ∨ g = 0x0E then 5
  else if within 0x0110 0x0131 code ∨ within 0x0240 0x0241 code ∨ within 0x0C03 0x0C05 code ∨ g = 0x10 then 6
  else if g = 0x00 ∨ g = 0x0F then 7
  else 8

/-- The key by which the events of one frame are ordered: class, SOURCE, CODE. -/
def Ev.key (e : Ev) : Nat := evClass e.code * 2 ^ 24 + e.src % 2 ^ 8 * 2 ^ 16 + e.code % 2 ^ 16

/-- Event a stands before event b: an earlier frame, or the same frame and a smaller key. -/
def Ev.before (a b : Ev) : Bool := decide (a.frame < b.frame) || (a.frame == b.frame && decide (a.key < b.key))

/-- Put an event behind those that do not stand after it. -/
def evInsert (e : Ev) : List Ev → List Ev
  | [] => [e]
  | x :: l => if e.before x then e :: x :: l else x :: evInsert e l

/-- The events in the order in which they cross the barrier. -/
def evSort (l : List Ev) : List Ev := l.foldl (fun a e => evInsert e a) []

/-! ### The host domain's registers and what it loses (R340, R382, R387, R390, R392, R426) -/

/-- `ZL_TIMING` and `ZL_STAT.GROUP` (R373, R383). -/
def Mach.showTiming (m : Mach) : Mach :=
  let m := if m.scan.img.isSome then m.sb F.ZL_STAT_GROUP (!m.groupCars.isEmpty) else m
  let share := if m.b F.ZL_STAT_GROUP then 8 else 56
  let rdly := 1 + ceilDiv (5 * m.L + 240000) 500000 + ceilDiv 30 share
  ((m.s F.ZL_TIMING_SHARE share).s F.ZL_TIMING_RDLY rdly).s F.ZL_TIMING_HTMIN (rdly + 5)

/-- A session ends, and with it what a commissioner's session holds (R249, R256, R387). -/
def Mach.closeSession (m : Mach) (j : Nat) : Mach := (m.endSession j).spSessionEnd (m.g F.ZL_SESS_SRC j)

/-- What HX holds in its own memory is gone: sessions, replies, queues, the stream history, messages not yet wholly sent, and
its registers except those that the Key, the log, the ledger or flash gives. -/
def Mach.hostForget (m : Mach) : Mach :=
  let m := each (upTo 32) m (fun m j => if m.b F.ZL_SESS_VALID j then m.closeSession j else m)
  let group := m.b F.ZL_STAT_GROUP
  let m := m.resetRegs (fun i => i == 0x4404 || (decide (0x4801 ≤ i) && decide (i < 0x4A00)))
  let m := (m.sb F.ZL_STAT_GROUP group).showTiming
  let k := 64
  let (v, m) := m.draw
  { m with link := { fseq := v % 2 == 1 }, aq := { m.aq with live := [], hist := [], sent := 0, displaced := 0, abandoned := 0, fills := 0, subs := [] },
           bar := { m.bar with msgs := m.bar.msgs.filter (fun x => !x.toField || x.whole), slots := m.bar.slots.filter (fun x => !x.toField),
                               resend := m.bar.resend.filter (fun x => !x.toField) },
           latches := m.latches.filter (fun l => l.1 != k), held := m.held.filter (fun l => l.1 != k),
           upd := { m.upd with verify := false } }

/-- A warm restart of the host domain begins (R425, R426): trigger 0 command, 1 no response, 2 supply. -/
def Mach.hostRestart (m : Mach) (trig : Nat) : Mach :=
  if !m.hostUp then m
  else
    let m := (m.hraise 0x1207 0x30 trig 0).hostForget
    let rs := recent m.now m.pow.restarts ++ [(18, m.now)]
    let m := m.inc F.PWR_ERST_TOTAL 0xFFFF 18
    { m.setb F.DEV_ENG_RUN_RUN 18 false with pow := { m.pow with hst := 3, restarts := rs } }

/-- The ledger is restored from the mirror in force, once per power-up of the host domain, as soon as the field domain can read
the Key (R359, R360). -/
def Mach.ledgerRestore (m : Mach) : Mach :=
  if !m.pow.ledDue || !m.hostUp || m.st == stRESET || m.st == stPOWER_FAIL || !m.b F.DEV_STATE_KEY_OK then m
  else
    let c := if m.pow.calLost then (m.mirrInForce.map (fun b => fieldAt b 0x14 8)).getD 0 else 0
    let m := { m with pow := { m.pow with ledDue := false, calLost := false },
                      led := { m.led with cal := (m.led.cal + c) % 2 ^ 64 } }
    m.mirrRestore

/-- The field domain passes identity, boot slot and the host registers to HX (R424, R475): a different address makes it rejoin, a
different slot makes it restart. -/
def Mach.passHost (m : Mach) : Mach :=
  if !m.hostUp || m.pow.passed || m.st == stRESET || m.st == stPOWER_FAIL || !m.b F.DEV_STATE_KEY_OK then m
  else
    let id := m.keyBytes 0 64
    let old := fieldAt m.pow.hostId 6 2 % 1024
    let new := fieldAt id 6 2 % 1024
    let differs := !m.pow.hostId.isEmpty && old != new
    let slot := m.g F.DEV_FW_SLOT
    let regs := match m.genInForce 1 with
      | some b => (regEntries b).filter (fun e => isHostIdx e.1)
      | none => m.pow.hostRegs.map (fun p => (p.1, p.2.toNat))
    let m := { m with pow := { m.pow with passed := true, hostId := id, hostRegs := regs.map (fun e => (e.1, Word.of e.2)) } }
    let m := (each regs m Mach.takeEntry).showTiming
    let m := if differs then (m.sb F.ZL_STAT_JOINED false).hraise 0x120D 0x30 new old else m
    if m.pow.hostSlot = slot then m else { m with pow := { m.pow with hostSlot := slot } }.hostRestart 0

/-- An update that a loss of power met while it was loading, armed or completing: nothing is switched and the bundle is STAGED
(R412). -/
def Mach.updPower (m : Mach) : Mach :=
  let st := m.g F.UPD_STAT_STATE
  if st < 3 then m
  else
    let m := if st = 3 then (m.s F.UPD_ERR_CODE 13).s F.UPD_ERR_WHERE 0xFF else m
    let m := (((m.s F.UPD_STAT_STATE 2).sb F.UPD_STAT_INPLACE false).sb F.UPD_STAT_ROLLBACK false).sq .UPD_FRAME_LO 0
    { (m.s F.UPD_REQ_ENG 0).s F.UPD_READY_ENG 0 with upd := { m.upd with inplace := [], go := false, hx := false } }

/-! ### Powering up the field domain (R417) -/

/-- A journal copy that passes its CRC and marker. -/
def journalOk (b : List Byte) : Bool :=
  fieldAt b 0 4 == 0x524A4650 && fieldAt b 4 2 == 1 && decide (fieldAt b 7 1 ≤ 24) && decide (fieldAt b 0x1E 1 ≤ 8) &&
  fieldAt b 0x1FC 4 == crc32c (b.take 0x1FC)

/-- A copy of the journal. -/
def Mach.journalCopy (m : Mach) (i : Nat) : List Byte := m.keyBytes (if i = 0 then 0x6F000 else 0x6F200) 512

/-- The valid copy with the higher SEQ (R430). -/
def Mach.journalNow (m : Mach) : Option (List Byte) :=
  let a := m.journalCopy 0
  let b := m.journalCopy 1
  if journalOk a then (if journalOk b && decide (fieldAt a 8 4 < fieldAt b 8 4) then some b else some a)
  else if journalOk b then some b else none

/-- The journal is read: its increments and events wait for HX behind what says that it was applied, its last frame is shown,
and the copy is marked used (R430). -/
def Mach.journalApply (m : Mach) : Mach :=
  match m.journalNow with
  | none => m
  | some b =>
    let seq := fieldAt b 8 4
    if m.pow.used.contains seq then m
    else
      let last := fieldAt b 0x10 8
      let incs := (upTo (fieldAt b 7 1)).map (fun i => (fieldAt b (0x20 + 8 * i) 2, fieldAt b (0x24 + 8 * i) 4))
      let evs := (upTo (fieldAt b 0x1E 1)).map (fun k =>
        let r := Rec.ofBytes (sliceB b (0xE0 + 32 * k) 32)
        ({ code := r.code, src := r.src, arg0 := r.arg0, arg1 := r.arg1, frame := r.frame, sub := r.sub } : Ev))
      let m := (m.s F.PWR_CAUSE_CAUSE (fieldAt b 6 1 % 16)).sq .PWR_JFRAME_LO last
      let m := each incs m (fun m p => m.count p.1 p.2)
      let m := { m with bar := { m.bar with evq := m.bar.evq ++ evs }, pow := { m.pow with used := m.pow.used ++ [seq] } }
      m.raise 0x1201 0x20 (fieldAt b 6 1) (last % 2 ^ 32)

/-- FIELD_START before the first tick with generation `b` of an area, loaded as `x` with image `im` (R417 step 4). -/
def Mach.fieldStart (x : Mach) (area : Nat) (im : Image) (p : StartIn) : Mach :=
  let b := x.genArea area
  let m := { x with gen := some area, pow := { x.pow with startMs := p.ms } }
  let m := m.s F.DEV_STATE_STATE stFIELD_START
  let m := (m.startSlices p.slices).startLines p.lines
  let m := { m with adc := { m.adc with refRun := [min 255 p.refRun, 0, 0] } }
  let m := ({ m with scan := { m.scan with machs := machsOf ((genSect b 2).getD []) } } : Mach).readSet true
  let m := m.startProgram im ((genSect b 2).getD []) ((genSect b 4).getD []) ((genSect b 5).getD [])
  m.showBudgets.startEngines

/-- KEY_READ, BOOT and FIELD_START up to the first tick (R417, R420, R421); BOOT is kept where no identity, slot or generation can
be used; without a carrier no Key is read (R465). -/
def Mach.fieldBoot (m : Mach) (p : StartIn) : Mach :=
  let m := m.fieldReset
  let m := { m with bar := { m.bar with running := true } }
  let m := ((m.sb F.PWR_STAT_LFOK true).sb F.PWR_STAT_HOLDUP true).s F.DEV_STATE_STATE stBOOT
  let m := { m with upd := { m.upd with slots := (upTo 2).map (fun s =>
    { m.slotInfo s with good := (m.slotInfo s).good && !p.bad.contains s }) } }
  let m := m.updPower
  let (m, id) := if p.noKey then (m, none) else m.readIdentity
  match id with
  | none => m.sw .DEV_ADDR 0x3FF
  | some b =>
    let m := ((m.sw .DEV_ADDR (Word.of (fieldAt b 6 2 % 1024))).sb F.DEV_STATE_KEY_OK true).journalApply
    let (m, slot) := m.chooseSlot
    match slot with
    | none => m.passHost.ledgerRestore
    | some s =>
      let m := m.sw .DEV_FW (Word.of (s * 2 ^ 31 + (m.slotInfo s).ver % 2 ^ 24))
      match m.chooseGen (m.slotInfo s).manid with
      | (m, none) => m.passHost.ledgerRestore
      | (_, some (area, x, im)) => (x.fieldStart area im p).passHost.ledgerRestore

/-- LF_POWER_UP (R417): LF has been at or above 18.0 V for 10 ms and the supplies are ready. -/
def execLfPowerUp (p : StartIn) (s : State) : Host.Outcome State Fault Refusal :=
  .next { s with m := if s.m.st = stRESET then s.m.fieldBoot p else s.m }

/-- The field domain starts again from KEY_READ without a loss of power: events and increments not yet sent stay (R410, R420). -/
def Mach.fieldAgain (m : Mach) (p : StartIn) : Mach :=
  let r := m.fieldBoot p
  { r with bar := { r.bar with evq := m.bar.evq ++ r.bar.evq,
                               incs := m.bar.incs.foldl (fun l q => putN l q.1 (lookN l q.1 + q.2)) r.bar.incs } }

/-- RUNNING_TIMEOUT (R423, R410): 30 s after power-up RUNNING has not been reached. -/
def execRunningTimeout (p : StartIn) (s : State) : Host.Outcome State Fault Refusal :=
  .next { s with m :=
    let m := s.m
    if m.st ≠ stFIELD_START ∨ m.pow.late then m
    else
      let slot := m.g F.DEV_FW_SLOT
      let m : Mach := m.raise 0x1200 0x20 slot 0xFFFFFFFF
      let m := { m with pow := { m.pow with late := true } }
      if m.slotState slot = 2 then (m.trialFails slot).fieldAgain p else m }

/-- A TRIAL slot becomes PROVEN (R410). -/
def Mach.slotProven (m : Mach) (s : Nat) : Mach :=
  if m.slotState s = 2 then (m.setSlotState s 1).hraise 0x1109 0x30 s (m.slotInfo s).manid else m

/-- Every LE and MG with tables loaded is in service or stood in for. -/
def Mach.enginesServe (m : Mach) : Bool :=
  (upTo 8).all (fun k => !m.loopUsed k || m.engRuns (3 + k) || (m.sprSt 11 == 2 && m.sprFor 11 == k && m.engRuns 11)) &&
  (upTo 4).all (fun k => !m.motionUsed k || m.engRuns (12 + k) || (m.sprSt 16 == 2 && m.sprFor 16 == k && m.engRuns 16))

/-- RUNNING is entered at this commit point when its conditions hold (R423). -/
def Mach.runningEntry (m : Mach) : Mach :=
  if m.st ≠ stFIELD_START ∨ !m.trm.imageTaken ∨ !m.b F.SF_STAT_FIRSTOK ∨ !m.enginesServe then m
  else
    let ms := min 0xFFFF (m.pow.startMs + m.now / 400000)
    let slot := m.g F.DEV_FW_SLOT
    let m := ((m.s F.DEV_STATE_STATE stRUNNING).s F.PWR_CAUSE_RUNMS ms).raise 0x1200 0x20 slot ms
    m.slotProven slot

/-! ### The host domain's power (R424, R431) -/

/-- HV_POWER_UP (R424): the host domain boots with what it keeps. `cellLost` says that the ledger domain had lost its cell (R360). -/
def execHvPowerUp (cellLost : Bool) (s : State) : Host.Outcome State Fault Refusal :=
  .next { s with m :=
    let m := s.m
    if m.pow.hst ≠ 0 then m
    else
      let m := if cellLost then { m with led := {} } else m
      let m := { m with pow := { m.pow with hst := 2, passed := false, ledDue := true, calLost := cellLost || m.pow.calLost },
                        bar := { m.bar with hostTim := none }, led := { m.led with mirrSince := 0, mirrT := 0, mirrBusy := false },
                        roleFails := [], lockouts := [] }
      let m := m.resetRegs (fun i => i == 0x4400 || i == 0x4404 || i == 0x4500 || i == 0x4505 || (decide (0x4800 ≤ i) && decide (i < 0x4A00)))
      let m := (m.s F.DEV_ROLE_STAT_FAILS 0).hostTake.showTiming
      let m := if m.st = stRESET then m else m.setb F.DEV_ENG_RUN_RUN 18 true
      let m := if m.led.calValid then m else m.hraise 0x0009 0x31 (openArg 9 0) (openArg 9 1)
      m.passHost.ledgerRestore }

/-- HOST_POWER_LOSS (R431): the host domain stops; the field domain runs on. -/
def execHostPowerLoss (s : State) : Host.Outcome State Fault Refusal :=
  .next { s with m :=
    let m := s.m
    if m.pow.hst = 0 then m
    else
      let m : Mach := { m with pow := { m.pow with hst := 0, passed := false } }
      let m := m.hostForget
      let m : Mach := { (m.setb F.DEV_ENG_RUN_RUN 18 false).sb F.DEV_CTL_HOST_RST false with bar := { m.bar with hostTim := none }, led := { m.led with mirrBusy := false } }
      let st := m.g F.UPD_STAT_STATE
      if st = 1 then ((m.s F.UPD_STAT_STATE 0).sw .UPD_MANID 0).sw .UPD_PROG 0
      else if st ≤ 5 then m.updPower else m }

/-! ### Loss of power (R428 to R430) -/

/-- Every output opens (R428): the buses are left, PWM and terminals go off, the safety switches open. -/
def Mach.outputsOff (m : Mach) : Mach :=
  let m := busHalt m
  let m := each (upTo 12) m (fun m g => m.showGrp g)
  let m := each (upTo 96) m (fun m t =>
    if m.drv t then (m.setb F.TRM_DRV (t % 32) false (t / 32)).sb F.TRM_TSTAT_DRV false t else m)
  each (upTo 8) m (fun m k => (m.command k false).s F.SF_SO_STAT_STATE 0 k)

/-- POWER_FAIL is entered (R428, R432, R433): cause 1 LF, 2 supply supervisor. -/
def Mach.powerFail (m : Mach) (cause lf : Nat) : Mach :=
  let m := match m.pow.shut with
    | some q =>
      if q.1 = m.frame then { (m.sb F.PWR_STAT_SHUTOK false) with pow := { m.pow with shut := none } } else m
    | none => m
  let why := if m.b F.PWR_STAT_SHUTOK then 3 else cause
  let m := { m with pow := { m.pow with cause := why, entry := ((m.view (R.DEV_STATE.idx 0 0)).toNat, lf) }, sp := { m.sp with keyWrite := none } }
  (m.s F.DEV_STATE_STATE stPOWER_FAIL).outputsOff

/-- POWER_FAIL (R428): at cycle c, with LF in mV. -/
def execPowerFail (c cause lf : Nat) (s : State) : Host.Outcome State Fault Refusal :=
  .next { s with m :=
    if s.m.st = stRESET ∨ s.m.st = stPOWER_FAIL then s.m else (s.m.at c).powerFail (if cause = 2 then 2 else 1) (lf % 2 ^ 16) }

/-- Increments not yet sent: waiting, or in a message under way. -/
def Mach.incsPending (m : Mach) : List (Nat × Nat) :=
  m.bar.msgs.foldl (fun l x => match x.body with
    | .evt _ incs => incs.foldl (fun l p => putN l p.1 (lookN l p.1 + p.2)) l
    | _ => l) m.bar.incs

/-- Events not yet sent, in the order in which they would cross. -/
def Mach.evsPending (m : Mach) : List Ev :=
  (m.bar.msgs.map (fun x => match x.body with
    | .evt evs _ => evs
    | _ => [])).flatten ++ evSort m.bar.evq

/-- The 512 bytes of a journal record (R429). -/
def Mach.journalBytes (m : Mach) (cause seq devState lf : Nat) (evs : List Ev) : List Byte :=
  let all := m.incsPending.filter (fun p => p.2 != 0)
  let incs := all.take 24
  let evs := evs.take 8
  let b := leBytes 4 0x524A4650 ++ leBytes 2 1 ++ leBytes 1 (cause + (if 24 < all.length then 128 else 0)) ++ leBytes 1 incs.length ++
    leBytes 4 seq ++ leBytes 4 0 ++ leBytes 8 m.frame ++ leBytes 4 devState ++ leBytes 2 lf ++ leBytes 1 evs.length ++ leBytes 1 0 ++
    (incs.map (fun p => leBytes 2 p.1 ++ leBytes 2 0 ++ leBytes 4 p.2)).flatten ++ List.replicate (8 * (24 - incs.length)) (0 : Byte) ++
    (evs.map (fun e => Rec.bytes { m.recOf e 0 with cal := 0 })).flatten ++ List.replicate (32 * (8 - evs.length) + 28) (0 : Byte)
  b ++ leBytes 4 (crc32c b)

/-- A journal record is written to the copy with the lower SEQ (R429). -/
def Mach.journalWrite (m : Mach) (cause devState lf : Nat) (evs : List Ev) : Mach :=
  let sq (b : List Byte) : Nat := if journalOk b then fieldAt b 8 4 else 0
  let a := sq (m.journalCopy 0)
  let b := sq (m.journalCopy 1)
  m.keyStore (if a ≤ b then 0x6F000 else 0x6F200) (m.journalBytes cause ((max a b + 1) % 2 ^ 32) devState lf evs)

/-- JOURNAL_WRITE_COMPLETE (R428, R429). -/
def execJournalWriteComplete (s : State) : Host.Outcome State Fault Refusal :=
  .next { s with m :=
    let m := s.m
    if m.st ≠ stPOWER_FAIL ∨ m.pow.cause = 0 then m
    else { m.journalWrite m.pow.cause m.pow.entry.1 m.pow.entry.2 m.evsPending with pow := { m.pow with cause := 0 } } }

/-- POWER_RECOVERY (R430): LF has been back for 100 ms after the journal; the field domain enters RESET. -/
def execPowerRecovery (s : State) : Host.Outcome State Fault Refusal :=
  .next { s with m := if s.m.st = stPOWER_FAIL ∧ s.m.pow.cause = 0 then s.m.fieldReset else s.m }

/-! ### Orderly shutdown (R432) -/

/-- A write of SHUT: the mirror is due, a journal with CAUSE 3 is written. -/
def Mach.shutBegin (m : Mach) : Mach :=
  let m := { (m.sb F.PWR_CTL_SHUT true) with led := { m.led with due := true }, pow := { m.pow with shut := some (m.frame, m.now + 400000000) } }
  m.journalWrite 3 (m.view (R.DEV_STATE.idx 0 0)).toNat (m.g F.PWR_LF_LFV) []

/-- Every enabled pair is OFF or SAFE and every axis is at rest. -/
def Mach.allRest (m : Mach) : Bool :=
  (upTo 8).all (fun k => !m.pairOn k || m.g F.SF_SO_STAT_STATE k != 1) &&
  (upTo 32).all (fun a => m.axisType a == 0 || !m.b F.MG_STAT_MOVING a)

/-- SHUTOK at an end of latch: set within 1 s of the write, cleared when a pair closes or an axis moves. -/
def Mach.shutStep (m : Mach) : Mach :=
  match m.pow.shut with
  | none => m
  | some (_, d) =>
    if m.b F.PWR_STAT_SHUTOK then
      (if m.allRest then m else { (m.sb F.PWR_STAT_SHUTOK false) with pow := { m.pow with shut := none } })
    else if m.allRest ∧ m.now ≤ d then (m.sb F.PWR_STAT_SHUTOK true).sb F.PWR_CTL_SHUT false
    else if d < m.now then { (m.sb F.PWR_CTL_SHUT false) with pow := { m.pow with shut := none } }
    else m

end Sys2Proof.Machine
end

