-- ==== Sys2Proof/Machine/Barrier.lean ====
section
/-! DEFINITION. The barrier between the domains (spec/01_domains_and_engines.md, R18 to R24, R476): cells, messages, the allotment of a
barrier cycle, arrival at its end, resends and messages that are abandoned. -/

namespace Sys2Proof.Machine

open Sys2Proof

/-! ### Cells (R18, R19) -/

/-- A barrier cell (R18). -/
structure Cell where
  typ : Nat := 0
  first : Bool := false
  last : Bool := false
  resend : Nat := 0
  num : Nat := 0
  data : List Byte := []
deriving DecidableEq, Repr

/-- The 40 bytes of a cell: unused bytes of DATA are 0x00. -/
def Cell.bytes (c : Cell) : List Byte :=
  let b := leBytes 1 c.typ ++ leBytes 1 (128 * b2n c.first + 64 * b2n c.last + c.resend % 64) ++ leBytes 2 c.num ++
    sliceB c.data 0 32
  b ++ leBytes 4 (crc32c b)

/-- The cell that 40 bytes hold. -/
def Cell.ofBytes (b : List Byte) : Cell :=
  { typ := fieldAt b 0 1, first := bit (fieldAt b 1 1) 7, last := bit (fieldAt b 1 1) 6, resend := fieldAt b 1 1 % 64,
    num := fieldAt b 2 2, data := sliceB b 4 32 }

/-- The far side keeps the cell: its CRC holds and its TYPE is one of R19. -/
def cellGood (b : List Byte) : Bool :=
  b.length == 40 && decide (1 ≤ fieldAt b 0 1) && decide (fieldAt b 0 1 ≤ 6) && fieldAt b 36 4 == crc32c (b.take 36)

/-! ### Messages -/

/-- The events that may cross: those of a frame wait for its commit point, so that they cross in the order of R444. -/
def Mach.evReady (m : Mach) (e : Ev) : Bool :=
  !(m.ticking && (m.phase == .latch || m.phase == .window)) || e.frame != m.frame

/-- Events and increments that wait become an EVT message (R24, R349, R356). -/
def Mach.makeEvt (m : Mach) : Mach :=
  let go := m.bar.evq.filter m.evReady
  let incs := m.bar.incs.filter (fun p => p.2 != 0)
  if go.isEmpty && incs.isEmpty then m
  else
    let rest := m.bar.evq.filter (fun e => !m.evReady e)
    { m with bar := { m.bar with evq := rest, incs := [] } }.newMsg false tEVT
      (1 + Config.evtCells go.length incs.length) (.evt (evSort go) incs)

/-- The lanes in service. -/
def Mach.lanes (m : Mach) : List Nat := (upTo 5).filter m.laneOn

/-- Cells carry something: the field domain has left RESET, HX runs, and a lane is in service. -/
def Mach.barrierUp (m : Mach) : Bool := m.bar.running && m.hostUp && !m.lanes.isEmpty

/-- Two cells belong to one message. -/
def CellSlot.of (s : CellSlot) (x : BarMsg) : Bool := s.toField == x.toField && s.typ == x.typ && s.num == x.num

/-- The bytes that a message carries, where the spec gives their layout: a packet's payload, a reply's data, an ingot (R19, R338). -/
def Body.bytes : Body → Option (List Byte)
  | .cmd p => some p.payload
  | .rpl r => some r.data
  | .stm b => some b
  | .evt _ _ => none
  | .upd _ => none

/-- The cell that a place of this cycle carries (R18): fragment k holds bytes 32·k to 32·k + 31 of its message. DATA is empty here where
its layout is not given (assumption 10). -/
def Mach.cellOf (m : Mach) (s : CellSlot) : Cell :=
  let data := match (m.bar.msgs.find? (fun x => s.of x)).bind (fun x => x.body.bytes) with
    | some b => sliceB b (32 * s.frag) 32
    | none => []
  { typ := s.typ, first := s.frag == 0, last := s.last, resend := s.resend, num := s.num, data := data }

/-- An arriving cell is the one that a place of this cycle carries. -/
def Mach.carries (m : Mach) (s : CellSlot) (c : Cell) : Bool :=
  let x := m.cellOf s
  c.typ == x.typ && c.first == x.first && c.last == x.last && c.resend == x.resend && c.num == x.num &&
    (x.data.isEmpty || c.data == x.data)

/-- A message is gone, with its cells. -/
def Mach.dropMsg (m : Mach) (x : BarMsg) : Mach :=
  { m with bar := { m.bar with
      msgs := m.bar.msgs.filter (fun y => !(y.toField == x.toField && y.typ == x.typ && y.num == x.num)),
      slots := m.bar.slots.filter (fun s => !s.of x), resend := m.bar.resend.filter (fun s => !s.of x),
      cmds := if x.typ = tCMD then m.bar.cmds.filter (fun c => c.1 != x.num) else m.bar.cmds } }

/-- The request of a reply that is lost leaves the list of requests under way. -/
def Mach.forgetReq (m : Mach) (r : Reply) : Mach :=
  { m with link := { m.link with accepted := m.link.accepted.filter (fun a =>
      !(a.reply.isNone && a.pkt.src == r.src && a.pkt.seq == r.seq && a.pkt.op == r.op)) } }

/-- A message is abandoned (R21): a CMD is answered with LOST; the others raise an event with their number; what an EVT
message carried of increments waits again (R356), and its events too where the whole barrier is lost. -/
def Mach.abandon (m : Mach) (x : BarMsg) (lane : Nat) (whole : Bool) : Mach :=
  let m := m.dropMsg x
  match x.body with
  | .cmd p => m.answer p.src p.seq p.op LOST []
  | .rpl r => (m.forgetReq r).raise (0x0120 + tRPL) 0x20 lane x.num
  | .stm b =>
    { m with aq := { m.aq with abandoned := m.aq.abandoned + 1 } }.hraise 0x0F01 0x30 (fieldAt b 3 1 % 4) (ingotSeq b)
  | .evt evs incs =>
    let m := { m with bar := { m.bar with incs := incs.foldl (fun (l : List (Nat × Nat)) (p : Nat × Nat) => putN l p.1 (lookN l p.1 + p.2)) m.bar.incs } }
    if whole then { m with bar := { m.bar with evq := evs ++ m.bar.evq } } else m.raise (0x0120 + tEVT) 0x20 lane x.num
  | .upd _ => m.raise (0x0120 + tUPD) 0x20 lane x.num

/-! ### Arrival at the end of a cycle (R476) -/

/-- HX forms the reply: registers of the host domain are read now (R388). -/
def Mach.formed (m : Mach) (r : Reply) : Reply :=
  match m.link.accepted.find? (fun a => a.reply.isNone && a.pkt.src == r.src && a.pkt.seq == r.seq && a.pkt.op == r.op) with
  | none => r
  | some a =>
    let n := r.data.length / 4
    let idx := fun k => if r.op = 0x11 then fieldAt a.pkt.payload 0 2 + k else fieldAt a.pkt.payload (4 + 2 * k) 2
    if (r.op = 0x10 ∨ r.op = 0x11) ∧ r.status = OK then
      { r with data := ((upTo n).map (fun k =>
          if isHostIdx (idx k) then leBytes 4 (m.view (idx k)).toNat else sliceB r.data (4 * k) 4)).flatten }
    else r

/-- A whole message arrives. A CMD waits for the end of latch of the first frame that begins from now on (R23). -/
def Mach.deliver (m : Mach) (x : BarMsg) : Mach :=
  match x.body with
  | .cmd _ =>
    { m with bar := { m.bar with
        msgs := m.bar.msgs.map (fun y => if y.toField == x.toField && y.typ == x.typ && y.num == x.num then { y with whole := true } else y),
        cmds := m.bar.cmds ++ [(x.num, if m.ticking then m.frame + 1 else 0)] } }
  | .rpl r => let r := m.formed r
              (m.dropMsg x).answer r.src r.seq r.op r.status r.data
  | .stm b => (m.dropMsg x).ingotArrive b
  | .evt evs incs => (m.dropMsg x).evtArrive evs incs
  | .upd _ => m.dropMsg x

/-- A cell has arrived: it is no longer under way. -/
def arrived (msgs : List BarMsg) (s : CellSlot) : List BarMsg :=
  msgs.map (fun x => if s.of x then { x with flying := x.flying - 1 } else x)

/-- The end of a barrier cycle: the cells it carried undisturbed arrive, TIM cells are taken, whole messages are delivered. -/
def Mach.barEnd (m : Mach) : Mach :=
  let b := m.bar
  let time := b.slots.any (fun s => !s.toField && s.typ == tTIM)
  let volt := b.slots.any (fun s => s.toField && s.typ == tTIM)
  let m := { m with bar := { b with slots := [], msgs := b.slots.foldl arrived b.msgs,
                                    hostTim := if time && b.tim.isSome then b.tim else b.hostTim,
                                    fieldTim := if volt && b.bcn.isSome then b.bcn else b.fieldTim } }
  let m := match volt, b.hv with
    | true, some v => m.s F.PWR_HOST_HVV (min 65535 v)
    | _, _ => m
  each (m.bar.msgs.filter (fun x => !x.whole && x.unsent == 0 && x.flying == 0)) m Mach.deliver

/-! ### The allotment of a cycle (R20, R21) -/

/-- The next cell of a type in a direction, sent on a lane and position: a cell to send again, else one of the oldest message. A lost
cell of the reserved place goes there again, the others go where their type has its turn (R21). The barrier port takes an ingot of the
field queue when no STM message is left to send (R338). -/
def Mach.nextCell (m : Mach) (toField : Bool) (typ : Nat) (reserved : Bool) (p : Nat × Nat) : Option Mach :=
  let b := m.bar
  match b.resend.find? (fun s => s.toField == toField && s.typ == typ && s.reserved == reserved) with
  | some s =>
    some ({ m with bar := { b with resend := b.resend.erase s, slots := b.slots ++ [{ s with lane := p.1, pos := p.2 }] } }.inc
      F.DEV_BAR_ERR_RESENT 0xFFFF p.1)
  | none =>
    let m := if typ = tSTM ∧ !toField ∧ !b.msgs.any (fun x => x.typ == tSTM && x.unsent != 0) then
        (match m.queuePop with
         | (m, some g) => m.newMsg false tSTM 10 (.stm g)
         | (m, none) => m)
      else m
    match m.bar.msgs.find? (fun x => x.toField == toField && x.typ == typ && x.unsent != 0) with
    | none => none
    | some x =>
      let s : CellSlot := { toField := toField, lane := p.1, pos := p.2, typ := typ, num := x.num, frag := x.cells - x.unsent,
                            last := x.unsent == 1, reserved := reserved }
      some { m with bar := { m.bar with slots := m.bar.slots ++ [s],
                                        msgs := m.bar.msgs.map (fun y =>
                                          if s.of y then { y with unsent := y.unsent - 1, flying := y.flying + 1 } else y) } }

/-- Cells of a type take free places in order; the places that remain. -/
def Mach.place (m : Mach) (toField : Bool) (typ : Nat) : List (Nat × Nat) → Mach × List (Nat × Nat)
  | [] => (m, [])
  | p :: ps =>
    match m.nextCell toField typ false p with
    | none => (m, p :: ps)
    | some m1 => m1.place toField typ ps

/-- The twelve places of each lane in service, in order. -/
def Mach.places (m : Mach) : List (Nat × Nat) := (m.lanes.map (fun l => (upTo 12).map (fun k => (l, k)))).flatten

/-- The place reserved for TIM: the first of the lowest lane in service. -/
def Mach.timPlace (m : Mach) : Nat × Nat := (m.lanes.headD 0, 0)

/-- The place reserved for STM in the field-to-host direction: on the highest lane in service, apart from that of TIM. A lane has its
own number here: a grafted lane 4 is the highest, whichever lane it stands in for (assumption 36). -/
def Mach.stmPlace (m : Mach) : Nat × Nat :=
  let l := m.lanes.getLast?.getD 0
  (l, if l = m.lanes.headD 0 then 1 else 0)

/-- A TIM cell of this cycle, with a message number of its own. -/
def Mach.timCell (m : Mach) (toField : Bool) : Mach :=
  let p := m.timPlace
  let q := m.takeNum (if toField then 0 else tTIM)
  { q.1 with bar := { q.1.bar with slots := q.1.bar.slots ++ [({ toField := toField, lane := p.1, pos := p.2, typ := tTIM, num := q.2 } : CellSlot)] } }

/-- The cells of a cycle in both directions. -/
def Mach.allot (m : Mach) : Mach :=
  let t := m.timPlace
  let s := m.stmPlace
  let free := m.places.filter (fun p => p != t)
  let m := m.timCell false
  let m := (m.nextCell false tSTM true s).getD m
  let a := m.place false tEVT (free.filter (fun p => p != s))
  let b := a.1.place false tRPL a.2
  let m := (b.1.place false tSTM b.2).1
  let m := m.timCell true
  let c := m.place true tCMD free
  (c.1.place true tUPD c.2).1

/-- With no lane in service nothing can be sent again: what was under way is abandoned, commands are answered with LOST. -/
def Mach.barrierLost (m : Mach) : Mach :=
  each (m.bar.msgs.filter (fun x => !x.whole)) m (fun m x => m.abandon x 0 true)

/-- Lanes without symbol lock in the cycle that ends: after three in a row a lane leaves service (R22). -/
def Mach.symbolLock (m : Mach) (unlocked : List Nat) : Mach :=
  each (upTo 5) m (fun m l =>
    let n := if unlocked.contains l then nth m.bar.symRun l 0 + 1 else 0
    let m := { m with bar := { m.bar with symRun := setNth 0 5 m.bar.symRun l n } }
    if 3 ≤ n then m.laneOut l true else m)

/-- A barrier cycle ends and the next begins (R20, R24, R476): `hv` is HV in mV as HX measures it. -/
def Mach.barrierCycle (m : Mach) (unlocked : List Nat) (hv : Nat) : Mach :=
  let m := m.barEnd
  let m := { m with bar := { m.bar with cycle := m.bar.cycle + 1 } }
  let m := m.symbolLock unlocked
  let m := { m with bar := { m.bar with errAt := m.bar.errAt.filter (fun e => decide (m.bar.cycle < e.2 + 1000)) } }
  let m := match m.bar.graftPend with
    | some (_, c) => if c + 100 ≤ m.bar.cycle then m.laneGraft 0 else m
    | none => m
  if m.lanes.isEmpty then m.barrierLost
  else if !m.barrierUp then m
  else
    let m := { m with bar := { m.bar with tim := some (m.frame, stampWord m.L m.cyc), hv := some hv, bcn := m.link.bcn } }
    m.refreshMirror.makeEvt.allot

/-- BARRIER_CYCLE (R476): at cycle c of the frame a barrier cycle begins; lanes that had no symbol lock in the last one. -/
def execBarrierCycle (c : Nat) (unlocked : List Nat) (hv : Nat) (s : State) : Host.Outcome State Fault Refusal :=
  .next { s with m := if s.m.bar.running then (s.m.at c).barrierCycle unlocked hv else s.m }

/-! ### A cell (R18, R21, R22) -/

/-- A cell is discarded on a lane: counted; 16 within 1,000 cycles take the lane out of service. -/
def Mach.crcError (m : Mach) (l : Nat) : Mach :=
  let m := ((m.inc F.DEV_BAR_ERR_CRCERR 0xFFFF l).count (217 + l) 1).addWear (31 + l) 256
  let m := { m with bar := { m.bar with errAt := m.bar.errAt ++ [(l, m.bar.cycle)] } }
  if m.laneOn l && decide (16 ≤ (m.bar.errAt.filter (fun e => e.1 == l)).length) then m.laneOut l true else m

/-- The cell in a place is lost: it is sent again in the next cycle, at most twice; a TIM cell never (R21). -/
def Mach.cellLost (m : Mach) (s : CellSlot) : Mach :=
  let m := { m with bar := { m.bar with slots := m.bar.slots.erase s } }
  if s.typ = tTIM then m
  else if s.resend < 2 then { m with bar := { m.bar with resend := m.bar.resend ++ [{ s with resend := s.resend + 1 }] } }
  else match m.bar.msgs.find? (fun x => s.of x) with
    | some x => m.abandon x s.lane false
    | none => m

/-- The place of this cycle that a direction, lane and position name. -/
def Mach.slotAt (m : Mach) (toField : Bool) (lane pos : Nat) : Option CellSlot :=
  m.bar.slots.find? (fun s => s.toField == toField && s.lane == lane && s.pos == pos)

/-- A cell reaches the far side as 40 bytes. -/
def Mach.cellIn (m : Mach) (toField : Bool) (lane pos : Nat) (bytes : List Byte) : Mach :=
  if cellGood bytes then
    match m.bar.slots.find? (fun s => s.toField == toField && s.typ != tTIM && m.carries s (Cell.ofBytes bytes)) with
    | some s => { m with bar := { m.bar with slots := m.bar.slots.erase s, msgs := arrived m.bar.msgs s } }
    | none => m
  else
    let hit := m.slotAt toField lane pos
    let m := m.crcError lane
    match hit with
    | some s => m.cellLost s
    | none => m

/-- BARRIER_CELL (R18): the cell of a direction, lane and place arrives as these bytes. A lane out of service carries what this cycle
has put on it. -/
def execBarrierCell (toField : Bool) (lane pos : Nat) (bytes : List Byte) (s : State) : Host.Outcome State Fault Refusal :=
  .next { s with m :=
    if s.m.bar.running && (s.m.laneOn lane || (s.m.slotAt toField lane pos).isSome) then s.m.cellIn toField lane pos bytes else s.m }

end Sys2Proof.Machine
end

