-- ==== Sys2Proof/Machine/Update.lean ====
section
/-! DEFINITION. Replacing firmware in service (spec/18_update.md, R393 to R414): bundles, staging, verifying, loading,
activation, completion, trial slots and rollback. -/

namespace Sys2Proof.Machine

open Sys2Proof

/-! ### Bundles (R394 to R396) -/

/-- A part entry of a manifest. -/
structure UPart where
  typ : Nat := 0
  flags : Nat := 0
  sfmt : Nat := 0
  lo : Nat := 0
  hi : Nat := 0
  len : Nat := 0
  stage : Nat := 0
  mig : Nat := 0
  crc : Nat := 0
  hash : List Byte := []
deriving DecidableEq, Repr

/-- The staged bundle. -/
def Mach.bundle (m : Mach) : List Byte := cellsSlice m.upd.total 0 m.upd.flash

/-- Bytes of the staged bundle. -/
def Mach.staged_ (m : Mach) (o n : Nat) : List Byte := cellsSlice n o m.upd.flash

/-- The manifest without DIGEST and SIG. -/
def Mach.manifest (m : Mach) : List Byte := m.staged_ 0 (0x40 + 64 * fieldAt (m.staged_ 6 2) 0 2)

/-- The part entries. -/
def partsOf (b : List Byte) : List UPart :=
  (upTo (fieldAt b 6 2)).map (fun i =>
    let e := sliceB b (0x40 + 64 * i) 64
    { typ := fieldAt e 0 1, flags := fieldAt e 1 1, sfmt := fieldAt e 2 2, lo := fieldAt e 4 2, hi := fieldAt e 6 2, len := fieldAt e 8 4,
      stage := fieldAt e 12 4, mig := fieldAt e 16 4, crc := fieldAt e 20 4, hash := sliceB e 24 32 })

/-- The parts of the staged bundle. -/
def Mach.parts (m : Mach) : List UPart := partsOf m.manifest

/-- The part of a type. -/
def Mach.part (m : Mach) (t : Nat) : Option UPart := m.parts.find? (fun p => p.typ == t)

/-- A part whose data are those staged by IMG_PUT. -/
def UPart.fromImg (p : UPart) : Bool := bit p.flags 0

/-- The data of a part; FROMIMG data as they were verified. -/
def Mach.partData (m : Mach) (p : UPart) : List Byte := if p.fromImg then m.upd.imgData else m.staged_ p.stage p.len

/-- The data of the part of a type. -/
def Mach.dataOf (m : Mach) (t : Nat) : Option (List Byte) := (m.part t).map m.partData

/-- The bundle holds firmware. -/
def Mach.fullBundle (m : Mach) : Bool := m.parts.any (fun p => decide (p.typ ≤ 6))

/-- The slot not running. -/
def Mach.otherSlot (m : Mach) : Nat := 1 - m.g F.DEV_FW_SLOT

/-- The version of a manifest. -/
def versionOf (b : List Byte) (o : Nat) : Nat := fieldAt b o 1 * 65536 + fieldAt b (o + 1) 1 * 256 + fieldAt b (o + 2) 1

/-- The running version. -/
def Mach.runVer (m : Mach) : Nat := (m.w .DEV_FW).toNat % 2 ^ 24

/-! ### The generation after activation (R398 check 6, R408) -/

/-- The generation area that a rollback uses: tagged for the inactive slot (R411). -/
def Mach.rollbackArea (m : Mach) : Option Nat := (m.genOrder (m.slotInfo m.otherSlot).manid).head?

/-- The generation in force after activation, or none where it would exceed its area. -/
def Mach.nextGen (m : Mach) : Option (List Byte) :=
  if m.b F.UPD_STAT_ROLLBACK then m.rollbackArea.map m.genArea
  else
    let base := match m.dataOf 0x10 with
      | some d => d
      | none => (m.gen.map m.genArea).getD []
    let secs := (genSects base).map (fun s => (s.typ, sliceB base s.off s.len))
    let secs := match m.dataOf 0x11 with
      | some d => if secs.any (fun s => s.1 == 6) then secs.map (fun s => if s.1 == 6 then (6, d) else s) else secs ++ [(6, d)]
      | none => secs
    let seq := (m.gen.map (fun a => fieldAt (m.genArea a) 8 4)).getD 0 + 1
    let fw := if m.fullBundle then m.g F.UPD_MANID else (m.slotInfo (m.g F.DEV_FW_SLOT)).manid
    let g := genBuild (seq % 2 ^ 32) (m.g F.UPD_MANID) fw secs
    if 163840 < g.length then none else some g

/-- A generation as the firmware judges it in this module: the machine it loads and its image. -/
def Mach.judgeGen (m : Mach) (b : List Byte) : Option (Mach × Image) :=
  if !genOk b || !regsRise ((genSect b 1).getD []) then none
  else (m.fieldReset.sw .DEV_ADDR (m.w .DEV_ADDR)).loadGen b

/-- What is in force after activation, with the safety set that then holds. -/
def Mach.nextMach (m : Mach) : Option (Mach × Image) :=
  match m.nextGen with
  | none => none
  | some b =>
    match m.judgeGen b with
    | none => none
    | some (x, im) =>
      let x : Mach := { x with scan := { x.scan with machs := machsOf ((genSect b 2).getD []) } }
      match m.dataOf 0x13 with
      | some d => some (x.withBody d, im)
      | none => some (if m.sp.setState < 2 then x else x.withBody m.sp.image, im)

/-- Memory that the present configuration uses: its frame-memory images and the state records of its slots and axes. -/
def Mach.usedSpans (m : Mach) : List (Nat × Nat) :=
  ((m.gen.map (fun a => sectsOf (m.genArea a) 3)).getD []).map (fun s => (fieldAt s 0 4, s.length - 4)) ++
  (m.usedSlots.map m.slotSpans).flatten ++
  (((upTo 32).filter (fun a => m.axisType a != 0)).map (fun a => [((m.axRecAddr a 0).1, 128), ((m.axRecAddr a 0).2, 128)])).flatten

/-- A frame-memory image of the new configuration that differs from what stands there lies in memory the present one uses. -/
def Mach.imagesMeet (m : Mach) (b : List Byte) : Bool :=
  (sectsOf b 3).any (fun s =>
    let a := fieldAt s 0 4
    m.mem.bytes (a - 0x20000000) (s.length - 4) != s.drop 4 && m.usedSpans.any (spansMeet (a, s.length - 4)))

/-- A lift instance of the old image that the state map does not name (R406). -/
def Mach.mapOmits (m : Mach) (im : Image) : Bool :=
  match m.scan.img with
  | none => false
  | some old =>
    im.raw != old.raw &&
    (let mp := (Config.stateMap ((m.dataOf 0x12).getD [])).filter (fun e => e.1 == 1)
     (upTo old.blks.length).any (fun k =>
       [0x3A, 0x3B, 0x3C, 0x3E].contains (nth old.blks k {}).typ && !(mp.any (fun e => e.2.1 == k))))

/-! ### Verification (R398) -/

/-- The order of checks: status of `UPD_ERR` (code, where) of the first that fails. -/
def Mach.verifyFails (m : Mach) : Option (Nat × Nat) :=
  let b := m.manifest
  let ps := m.parts
  let u := m.upd
  let np := fieldAt b 6 2
  let staged := ps.filter (fun p => !p.fromImg)
  let badAt (f : UPart → Bool) : Option Nat := (upTo ps.length).find? (fun i => f (nth ps i {}))
  let span (p : UPart) : Nat × Nat := (p.stage, p.len)
  let ends := 0x40 + 64 * np + 96
  let dig := sha256 b
  let kid := fieldAt b 0x13 1
  let key := if kid < 4 then Config.releaseKey kid else sliceB ((m.genInForce 7).getD []) 24 32
  let count (t : Nat) : Nat := (ps.filter (fun p => p.typ == t)).length
  let fw := m.fullBundle
  let inst := fieldAt b 0x18 8
  let cfg := count 0x10 + count 0x11 + count 0x13
  if !((upTo (ceilDiv u.total 2048)).all u.blocks.contains) ∨ fieldAt b 0 4 ≠ 0x4E414D55 ∨ fieldAt b 4 2 ≠ 1 ∨ np = 0 ∨ 16 < np ∨
      fieldAt b 0x20 4 ≠ u.total ∨ fieldAt b 8 4 ≠ m.g F.UPD_MANID ∨ u.total < ends then some (1, 0xFF)
  else if (badAt (fun p => !p.fromImg && (p.stage % 2048 != 0 || decide (u.total < p.stage + p.len) || decide (p.stage < ends)))).isSome ∨
      (upTo staged.length).any (fun i => (upTo i).any (fun j => spansMeet (span (nth staged i {})) (span (nth staged j {})))) then some (1, 0xFF)
  else if m.staged_ b.length 32 ≠ dig ∨ 4 < kid ∨ (fw && kid == 4) ∨ !Config.ed25519Verify key dig (m.staged_ (b.length + 32) 64) then
    some (3, 0xFF)
  else
    match badAt (fun p => crc32c (m.partData p) != p.crc || sha256 (m.partData p) != p.hash || (m.partData p).length != p.len) with
    | some i => some (2, i)
    | none =>
      if fieldAt b 0x10 2 ≠ 0x64 ∨ m.g F.DEV_ID_ISSUE < fieldAt b 0x12 1 ∨ m.runVer < versionOf b 0x14 ∨
          (inst ≠ 0 ∧ sliceB b 0x18 8 ≠ m.instId) ∨ ps.any (fun p => decide (1 < count p.typ)) ∨
          ps.any (fun p => !([1, 2, 3, 4, 5, 6, 0x10, 0x11, 0x12, 0x13].contains p.typ)) ∨
          (fw && !([1, 2, 3, 4, 5, 6].all (fun t => count t == 1))) ∨
          (!fw && (cfg == 0 || versionOf b 0x0C != m.runVer)) then some (4, 0xFF)
      else
        let fmts := (m.slotInfo (m.g F.DEV_FW_SLOT)).fmts
        match badAt (fun p => decide (p.typ ≤ 6) && !within p.lo p.hi (nth fmts (p.typ - 1) 0)) with
        | some i => some (5, i)
        | none =>
          match m.nextGen, m.nextMach with
          | some g, some (x, im) =>
            let setBad := match m.dataOf 0x13 with
              | some d => d.length != 2048 || decide (x.judgeSet d m.instId < 2)
              | none => false
            if setBad || m.imagesMeet g || m.mapOmits im || decide (15352 < im.params.length) then some (6, 0xFF) else none
          | _, _ => some (6, 0xFF)

/-- `UPD_ERR`. -/
def Mach.updErr (m : Mach) (code whr : Nat) : Mach := (m.s F.UPD_ERR_CODE code).s F.UPD_ERR_WHERE whr

/-- `UPD_ERR` as an argument. -/
def Mach.errArg (m : Mach) : Nat := (m.w .UPD_ERR).toNat

/-- Verification ends (R398): STAGED, or refused with its reason. -/
def Mach.verifyEnd (m : Mach) : Mach :=
  let m : Mach := { m with upd := { m.upd with verify := false, imgData := match m.parts.find? (fun p => p.fromImg) with
    | some p => cellsSlice p.len 0 m.scan.staged
    | none => [] } }
  let b := m.manifest
  match m.verifyFails with
  | some (code, whr) => (m.updErr code whr).hraise 0x1101 0x30 (m.updErr code whr).errArg (m.g F.UPD_MANID)
  | none =>
    let m := (((m.s F.UPD_STAT_STATE 2).sb F.UPD_STAT_SAFETY (m.part 0x13).isSome).sb F.UPD_STAT_CFGONLY (!m.fullBundle)).s F.UPD_PROG m.upd.total
    let m := m.sw .UPD_VER (Word.of (fieldAt b 0x0F 1 * 2 ^ 24 + versionOf b 0x0C))
    m.hraise 0x1100 0x30 (m.g F.UPD_MANID) (versionOf b 0x0C)

/-- VERIFY_COMPLETE (R398). -/
def execVerifyComplete (s : State) : Host.Outcome State Fault Refusal :=
  .next { s with m := if s.m.hostUp ∧ s.m.upd.verify ∧ s.m.g F.UPD_STAT_STATE = 1 then s.m.verifyEnd else s.m }

/-! ### Loading (R399, R400) -/

/-- The part type that engine e runs. -/
def partTypeOf (e : Nat) : Nat := if e ≤ 1 then 1 else if e = 2 then 2 else if e ≤ 11 then 3 else if e ≤ 16 then 4 else if e = 17 then 5 else 6

/-- Engine e's shadow bank is retired. -/
def Mach.shadowBad (m : Mach) (e : Nat) : Bool := m.gb F.UPD_SHADOW_ENG e

/-- The engines loaded in place, each with the spare that will stand in; none where one of them cannot be (R400). -/
def Mach.inPlaces (m : Mach) : Option (List (Nat × Nat)) × Nat :=
  let es := (upTo 19).filter (fun e => m.shadowBad e && e != 11 && e != 16 && e != 2)
  let bad := es.find? (fun e =>
    !(within 3 10 e || within 12 15 e) || m.sprSt (spareOf e) != 0 || m.shadowBad (spareOf e) ||
    decide (1 < (es.filter (fun x => spareOf x == spareOf e && (within 3 10 x || within 12 15 x))).length))
  match bad with
  | some e => (none, e)
  | none => (some (es.map (fun e => (e, spareOf e))), 0xFF)

/-- A load fails: the state returns to STAGED. -/
def Mach.loadFails (m : Mach) (code whr : Nat) : Mach :=
  ((m.s F.UPD_STAT_STATE (if m.b F.UPD_STAT_ROLLBACK then 0 else 2)).sb F.UPD_STAT_ROLLBACK false).updErr code whr

/-- The inactive slot as it stands after loading the bundle. -/
def Mach.newSlot (m : Mach) : SlotInfo :=
  let f (t : Nat) : UPart := (m.part t).getD {}
  { manid := m.g F.UPD_MANID, ver := versionOf m.manifest 0x0C, good := true, sig := m.staged_ (m.manifest.length + 32) 64, fmts := [1, 2, 3, 4, 5, 6].map (fun t => (f t).sfmt),
    reads := [1, 2, 3, 4, 5, 6].map (fun t => ((f t).lo, (f t).hi)) }

/-- The frame-memory images of the new configuration are in their places (R399 step 4). -/
def Mach.loadImages (m : Mach) : Mach :=
  match m.nextGen with
  | some b => each (sectsOf b 3) m Mach.takeMemImage
  | none => m

/-- The state becomes LOADED. -/
def Mach.loaded (m : Mach) (ps : List (Nat × Nat)) : Mach :=
  let m : Mach := { (m.s F.UPD_STAT_STATE 4).sb F.UPD_STAT_INPLACE (!ps.isEmpty) with upd := { m.upd with inplace := ps } }
  let m := m.s F.UPD_PROG m.upd.total
  m.loadImages.hraise 0x1102 0x30 (m.g F.UPD_MANID) (m.g F.UPD_SHADOW_ENG)

/-! ### Readiness (R401 to R403) -/

/-- Engine e belongs to the required set (R402). -/
def Mach.inReq (m : Mach) (e : Nat) : Bool :=
  if e ≤ 1 then m.side e == 1 || m.side e == 2
  else if e = 18 then m.pow.hst == 2
  else
    !m.pow.retired.contains e && !m.pow.restarting.contains e &&
    !((e == 11 || e == 16) && (m.sprSt e == 3 || m.shadowBad e))

/-- The budget of engine e in the configuration after activation. -/
def Mach.budgetIn (m x : Mach) (e : Nat) : Nat :=
  let served := (m.upd.inplace.find? (fun p => p.2 == e)).map (fun p => classIdx p.1)
  if e = 2 then x.spBudget
  else if 3 ≤ e ∧ e ≤ 10 then (if x.loopUsed (e - 3) then x.loopBudget (e - 3) else 0)
  else if e = 11 then (match served with
    | some k => x.loopBudget k
    | none => 0)
  else if 12 ≤ e ∧ e ≤ 15 then (if x.motionUsed (e - 12) then x.motionBudget (e - 12) else 0)
  else if e = 16 then (match served with
    | some k => x.motionBudget k
    | none => 0)
  else 0

/-- AQ's budget in the configuration after activation. -/
def aqBudgetIn (x : Mach) (b : List Byte) : Nat :=
  match genSect b 5 with
  | some d => (x.cfgStore d).aqBudget
  | none => 0

/-- Engine e is ready (R402): its bank matches, its budget with MIGCOST fits W at the new L, and the SP's pairs are open where the
update carries safety parameters. -/
def Mach.engReady (m x : Mach) (b : List Byte) (e : Nat) : Bool :=
  let mig := if m.b F.UPD_STAT_ROLLBACK then 0 else ((m.part (partTypeOf e)).map (fun p => p.mig)).getD 0
  let bud := if e = 17 then aqBudgetIn x b else m.budgetIn x e
  (e == 18 || (if e ≤ 1 then apFits x.W mig else decide (bud + mig ≤ x.W))) && (e != 2 || !m.b F.UPD_STAT_SAFETY || m.pairsOff) &&
  (m.upd.inplace.all (fun p => p.1 != e || (m.sprSt p.2 == 0 && m.engRuns p.2)))

/-- The required set. -/
def Mach.reqNow (m : Mach) : Nat := ((upTo 19).filter m.inReq).foldl (fun a e => a + 2 ^ e) 0

/-- The required engines that are ready. -/
def Mach.readyNow (m : Mach) : Nat :=
  match m.nextGen, m.nextMach with
  | some b, some (x, _) => ((upTo 19).filter (fun e => m.inReq e && m.engReady x b e)).foldl (fun a e => a + 2 ^ e) 0
  | _, _ => 0

/-- The activation frame. -/
def Mach.updF (m : Mach) : Nat := m.q .UPD_FRAME_LO

/-- An activation is abandoned (R403): the state returns to LOADED. -/
def Mach.updAbandon (m : Mach) (code whr : Nat) : Mach :=
  let f := m.updF
  let m := ((m.updErr code whr).s F.UPD_STAT_STATE 4).sq .UPD_FRAME_LO 0
  let m := (m.s F.UPD_REQ_ENG 0).s F.UPD_READY_ENG 0
  m.hraise 0x1105 0x30 m.errArg (f % 2 ^ 32)

/-- The first engine of the required set that is not ready. -/
def Mach.missing (m : Mach) : Option Nat := (upTo 19).find? (fun e => m.gb F.UPD_REQ_ENG e && !m.gb F.UPD_READY_ENG e)

/-- READINESS_CHECK and ACTIVATION_GO (R403): the required set and readiness at a commit point while ARMED, judged at F − 16 and
at F − 1. -/
def Mach.readiness (m : Mach) : Mach :=
  if m.g F.UPD_STAT_STATE ≠ 5 then m
  else
    let f := m.updF
    let now := m.readyNow
    let m := m.s F.UPD_REQ_ENG m.reqNow
    let m := m.s F.UPD_READY_ENG (if m.frame + 16 ≤ f then now else m.g F.UPD_READY_ENG &&& now)
    if m.frame + 16 = f then (match m.missing with
      | some e => m.updAbandon 8 e
      | none => m)
    else if f ≤ m.frame + 1 then (match m.missing with
      | some e => m.updAbandon 9 e
      | none => { (m.s F.UPD_STAT_STATE 6) with upd := { m.upd with go := true, hx := true } })
    else m

/-- The state becomes ARMED for frame f (R401). -/
def Mach.arm (m : Mach) (f : Nat) : Mach :=
  let m := (m.s F.UPD_STAT_STATE 5).sq .UPD_FRAME_LO f
  let m := (m.s F.UPD_REQ_ENG m.reqNow).s F.UPD_READY_ENG m.readyNow
  m.hraise 0x1103 0x30 (m.g F.UPD_MANID) (f % 2 ^ 32)

/-- A rollback is armed for the frame that its command named; where its loading ended after the commit point of F − 16 its
readiness was not shown there, and it is abandoned (R403, R411). -/
def Mach.armRollback (m : Mach) : Mach :=
  let f := m.upd.want
  let m := m.arm f
  if f < m.frame + 16 ∨ (f = m.frame + 16 ∧ m.phase = .staging) then m.updAbandon 8 (((upTo 19).find? m.inReq).getD 0xFF) else m

/-- The images have crossed the barrier: their UPD message is done. -/
def Mach.imagesCrossed (m : Mach) : Mach :=
  { m with bar := { m.bar with msgs := m.bar.msgs.filter (fun x => x.typ != tUPD), slots := m.bar.slots.filter (fun s => s.typ != tUPD),
                               resend := m.bar.resend.filter (fun s => s.typ != tUPD) } }

/-- LOAD_COMPLETE (R399, R400, R411): `bad` are engines whose read-back failed twice, `flashOk` that every block could be written. Each block
of the slot counts an erase (R304). -/
def Mach.loadEnd (m : Mach) (bad : List Nat) (flashOk : Bool) : Mach :=
  let fw := m.fullBundle || m.b F.UPD_STAT_ROLLBACK
  let m := m.imagesCrossed
  let m := if fw then each (bad.filter (fun e => e < 19 && e != 2)) m (fun m e => m.setb F.UPD_SHADOW_ENG e true) else m
  let m := if fw && !m.b F.UPD_STAT_ROLLBACK then each (upTo 256) m (fun m k => m.flashErase (256 * m.otherSlot + k)) else m
  if fw ∧ !m.b F.UPD_STAT_ROLLBACK ∧ !flashOk then m.loadFails 7 0xFF
  else
    match (if fw then m.inPlaces else (some [], 0xFF)) with
    | (none, e) => m.loadFails 12 e
    | (some ps, _) =>
      if m.b F.UPD_STAT_ROLLBACK then (m.loaded ps).armRollback
      else
        let m : Mach := if fw then { m with upd := { m.upd with slots := setNth {} 2 m.upd.slots m.otherSlot m.newSlot } } else m
        m.loaded ps

/-- LOAD_COMPLETE. -/
def execLoadComplete (bad : List Nat) (flashOk : Bool) (s : State) : Host.Outcome State Fault Refusal :=
  .next { s with m := if s.m.hostUp ∧ s.m.g F.UPD_STAT_STATE = 3 then s.m.loadEnd bad flashOk else s.m }

/-- READINESS_CHECK (R403): the commit point of F − 16. -/
def execReadinessCheck (s : State) : Host.Outcome State Fault Refusal :=
  .next { s with m := if s.m.ticking ∧ s.m.frame + 16 = s.m.updF then s.m.readiness else s.m }

/-- ACTIVATION_GO (R403): the commit point of F − 1. -/
def execActivationGo (s : State) : Host.Outcome State Fault Refusal :=
  .next { s with m := if s.m.ticking ∧ s.m.frame + 1 = s.m.updF then s.m.readiness else s.m }

/-! ### Activation (R404, R405, R409) -/

/-- Registers whose RWS fields the configuration set gives: all but the SF block, the MPU window, the AQ block and the host blocks. -/
def cfgRegs : List R :=
  R.all.filter (fun r => rwsMask r != 0 && sectionOwns r && !isHostIdx r.base && !(decide (0x4000 ≤ r.base) && decide (r.base < 0x4400)))

/-- Every RWS value of a loaded machine takes effect. -/
def Mach.takeRws (m x : Mach) : Mach :=
  each cfgRegs m (fun m r =>
    let k := rwsMask r
    let (n1, _, n2, _) := r.dims
    each (upTo n1) m (fun m i => each (upTo n2) m (fun m j =>
      m.sw r (Word.of (maskOff (m.w r i j).toNat k + ((x.w r i j).toNat &&& k))) i j)))

/-- A safety parameter set takes effect as the set in force (R409). -/
def Mach.useSet (m : Mach) (b : List Byte) : Mach :=
  let st := m.judgeSet b m.instId
  let m := if 2 ≤ st then m.withBody b else m.clearBody
  let m : Mach := { (m.sb F.DEV_STATE_HALLMARK_OK (st == 3)) with sp := { m.sp with setState := st, image := b, keyRun := 0, keyNow := false } }
  m.spBudgetShown

/-- The streams of a new configuration set (R343, R344): they change at the end of latch of F, unless the set has those in force or those
that an STM_LOAD has made pending. A set without streams ends those in force. -/
def Mach.nextStreams (m : Mach) (b : List Byte) : Mach :=
  let d := (genSect b 5).getD []
  if d = m.aq.cfg ∧ m.aq.pend.isNone then (if d.isEmpty then m else m.showWin)
  else if m.aq.pend.map (fun p => p.1) = some d then m
  else { (m.sb F.AQ_STAT_PEND true) with aq := { m.aq with pend := some (d, m.frame) } }

/-- A register of a slot or an axis whose TYPE is 0. -/
def Mach.offReg (m : Mach) (idx : Nat) : Bool :=
  (decide (0x1000 ≤ idx) && decide (idx < 0x2000) && m.slotType ((idx - 0x1000) / 16) == 0) ||
  (decide (0x2000 ≤ idx) && decide (idx < 0x2800) && m.axisType ((idx - 0x2000) / 64) == 0)

/-- A cell of a slot or an axis whose TYPE is 0. -/
def Mach.offCell (m : Mach) (n : Nat) : Bool :=
  (decide (0x100 ≤ n) && decide (n < 0x500) && m.slotType ((n - 0x100) / 4) == 0) ||
  (decide (0x500 ≤ n) && decide (n < 0x600) && m.axisType ((n - 0x500) / 8) == 0)

/-- Slots and axes that the new tables switch off: their cells read 0 with V 0, and they do not run (R128, R150). -/
def Mach.clearOff (m : Mach) : Mach :=
  let m : Mach := { m with cells := m.cells.filter (fun (p : Nat × (Word × Bool)) => !m.offCell p.1), fresh := m.fresh.filter (fun (p : Nat × (Word × Bool)) => !m.offCell p.1), stage := m.stage.filter (fun (p : Nat × Word) => !m.offReg (p.1 % 0x10000)) }
  let m := each (upTo 256) m (fun m s => if m.slotType s = 0 then (m.setSlot s {}).sb F.LP_STAT_RUNNING false s else m)
  each (upTo 32) m (fun m a => if m.axisType a = 0 then
      ((m.setAxis a { up := (m.axis a).up, fbUp := (m.axis a).fbUp }).s F.MG_STAT_RUNNING 0 a) else m)

/-- The tick of F: every engine changes to its new firmware, configuration and frame length. -/
def Mach.activate (m : Mach) : Mach :=
  if !m.upd.go ∨ m.frame ≠ m.updF then m
  else
    match m.nextGen, m.nextMach with
    | some b, some (x, im) =>
      let roll := m.b F.UPD_STAT_ROLLBACK
      let full := roll || m.fullBundle
      let m := (m.takeRws x).clearOff
      let m : Mach := { m with mem := { m.mem with mpu := x.mem.mpu } }
      let m := (m.s F.FRM_LEN_PDIV (pdivOf m.L)).s F.FRM_SUB_PDIV (pdivOf m.L)
      let m := if m.b F.FRM_CTL_LOCK ∧ !lockable m.L then (m.writeLock false).setBitW F.FRM_STAT_LOCK_REFUSED else m
      let m := match (if roll then none else m.dataOf 0x13) with
        | some d => m.useSet d
        | none => m
      let m := (m.nextStreams b).showBudgets
      let m := if full then m.sw .DEV_FW (Word.of (m.otherSlot * 2 ^ 31 + (m.slotInfo m.otherSlot).ver % 2 ^ 24)) else m
      let m := each m.upd.inplace m (fun m p => if m.sprSt p.2 = 0 then m.standIn p.1 3 m.frame else m)
      let m : Mach := { m with upd := { m.upd with newScan := true, img := some im, machs := machsOf ((genSect b 2).getD []),
                                                   grp := groupOf ((genSect b 4).getD []), map := (m.dataOf 0x12).getD [], since := m.now } }
      let m := (m.inc F.UPD_STAT_ACTCNT 0xFFFF).showTiming
      m.hraise 0x1104 0x30 (m.g F.UPD_MANID) (m.frame % 2 ^ 32)
    | _, _ => m

/-- ACTIVATION (R404): the tick of frame F. -/
def execActivation (s : State) : Host.Outcome State Fault Refusal :=
  .next { s with m := if s.m.ticking ∧ !s.m.upd.newScan then s.m.activate else s.m }

/-- HX_BANK_CHANGE (R407): HX runs its new bank from this TDMA cycle; it carries over everything it holds. -/
def execHxBankChange (s : State) : Host.Outcome State Fault Refusal :=
  .next { s with m := { s.m with upd := { s.m.upd with hx := false } } }

/-! ### Completion (R408) -/

/-- The Key and the boot record are written and the state becomes IDLE. -/
def Mach.complete (m : Mach) : Mach :=
  let f := m.updF
  let man := m.g F.UPD_MANID
  let roll := m.b F.UPD_STAT_ROLLBACK
  let full := roll || m.fullBundle
  let other := match m.gen with
    | some a => 1 - a
    | none => 0
  let slot := if m.st = stBOOT then (if full then m.otherSlot else m.g F.DEV_FW_SLOT) else m.g F.DEV_FW_SLOT
  let m : Mach := if roll then { m with gen := m.rollbackArea }
    else match m.nextGen with
      | some g => { m.keyStore (genBase other) (g ++ List.replicate (163840 - g.length) (0 : Byte)) with gen := some other }
      | none => m
  let m := match (if roll then none else m.dataOf 0x13) with
    | some d => (m.keyStore 0x70000 d).keyStore 0x70800 d
    | none => m
  let m := m.showRoleKeys ((m.genInForce 7).getD [])
  let m : Mach := if full then { m with upd := { m.upd with named := slot, since := m.now } } else m
  let m := if full ∧ !roll then m.setSlotState slot 2 else m
  let m := m.hraise 0x1106 0x30 man slot
  let m := ((m.sq .UPD_LASTF_LO f).sq .UPD_FRAME_LO 0).sw .UPD_MANID 0
  let m := (((m.sw .UPD_VER 0).s F.UPD_STAT_STATE 0).sb F.UPD_STAT_SAFETY false).sb F.UPD_STAT_CFGONLY false
  let m := (((m.sb F.UPD_STAT_ROLLBACK false).s F.UPD_REQ_ENG 0).s F.UPD_READY_ENG 0).s F.UPD_PROG 0
  { m with upd := { m.upd with go := false, flash := [], blocks := [], total := 0, imgData := [] } }

/-- UPDATE_COMPLETION (R408): after F, or at once for a module that stays in BOOT, which then starts again from KEY_READ. -/
def execUpdateCompletion (p : StartIn) (s : State) : Host.Outcome State Fault Refusal :=
  .next { s with m :=
    if !s.m.upd.go then s.m
    else if s.m.st = stBOOT then s.m.complete.fieldAgain p
    else if s.m.ticking ∧ s.m.updF ≤ s.m.frame then s.m.complete else s.m }

/-- SLOT_PROVEN (R410): the trial has run 86,400 s without a give-up or an engine failure. -/
def execSlotProven (s : State) : Host.Outcome State Fault Refusal :=
  .next { s with m :=
    if s.m.ticking ∧ s.m.upd.since + dayCycles ≤ s.m.now then s.m.slotProven (s.m.g F.DEV_FW_SLOT) else s.m }

/-- IN_PLACE_RELEASE (R400): the loader has rewritten engine e's bank; its spare is released 16 frames later. -/
def execInPlaceRelease (e : Nat) (s : State) : Host.Outcome State Fault Refusal :=
  .next { s with m :=
    let m := s.m
    if m.upd.go ∨ !m.ticking ∨ !m.upd.inplace.any (fun p => p.1 == e) then m
    else
      let g := m.frame + 16
      let rest := m.upd.inplace.filter (fun p => p.1 != e)
      let q : Plan := { e := e, g := g, kind := 3, release := true }
      let m : Mach := { m with upd := { m.upd with inplace := rest }, spr := { m.spr with plans := m.spr.plans ++ [q] } }
      (m.sb F.UPD_STAT_INPLACE (!rest.isEmpty)).hraise 0x1107 0x30 e (g % 2 ^ 32) }

/-! ### Commands (R413) -/

/-- UPD_STATUS. -/
def opUpdStatus (m : Mach) (p : Pkt) : Ans :=
  if p.len ≠ 0 then m.refuse LENGTH
  else m.okData (([R.UPD_STAT, R.UPD_MANID, R.UPD_VER, R.UPD_REQ, R.UPD_READY, R.UPD_SHADOW, R.UPD_PROG, R.UPD_ERR, R.UPD_BOOT].map
    (fun r => leBytes 4 (m.w r).toNat)).flatten ++ leBytes 8 m.updF)

/-- UPD_BEGIN (R398): any staged bundle is discarded. -/
def opUpdBegin (m : Mach) (p : Pkt) : Ans :=
  let st := m.g F.UPD_STAT_STATE
  if p.len ≠ 8 ∨ 134217728 < p.n 4 4 then m.refuse LENGTH
  else if p.n 0 4 = 0 then m.refuse RANGE
  else if st = 3 ∨ st = 5 ∨ st = 6 then m.refuse WRONG_STATE
  else
    let m : Mach := { m with upd := { m.upd with flash := [], blocks := [], total := p.n 4 4, verify := false, inplace := [], imgData := [] } }
    let m := m.sw .UPD_STAT (Word.of (2 ^ 28 + m.g F.UPD_STAT_ACTCNT))
    (((m.sw .UPD_MANID (Word.of (p.n 0 4))).sw .UPD_VER 0).s F.UPD_PROG 0).ok

/-- UPD_PUT (R398): one block. -/
def opUpdPut (m : Mach) (p : Pkt) : Ans :=
  let o := p.n 4 4
  let n := p.n 8 2
  let d := sliceB p.payload 12 n
  let here := m.g F.UPD_STAT_STATE == 1 && p.n 0 4 == m.g F.UPD_MANID
  if n = 0 ∨ 2048 < n ∨ p.len ≠ 16 + n ∨ (here ∧ m.upd.total < o + n) then m.refuse LENGTH
  else if o % 2048 ≠ 0 ∨ p.n 10 2 ≠ 0 then m.refuse RANGE
  else if !here then m.refuse WRONG_STATE
  else if p.n (12 + n) 4 ≠ crc32c d then m.refuse CHECK
  else
    let whole := decide (min (o + 2048) m.upd.total ≤ o + n)
    let k := o / 2048
    let blocks := if whole && !m.upd.blocks.contains k then m.upd.blocks ++ [k] else m.upd.blocks
    let m : Mach := { m with upd := { m.upd with flash := cellsStore m.upd.flash o d, blocks := blocks } }
    (m.s F.UPD_PROG (min m.upd.total (2048 * blocks.length))).ok

/-- UPD_VERIFY: accepted, and judged when it completes. -/
def opUpdVerify (m : Mach) (p : Pkt) : Ans :=
  if p.len ≠ 0 then m.refuse LENGTH
  else if m.g F.UPD_STAT_STATE ≠ 1 ∨ m.upd.verify then m.refuse WRONG_STATE
  else ({ m.s F.UPD_PROG 0 with upd := { m.upd with verify := true } }).ok

/-- The role that UPD_LOAD and UPD_ARM need is missing (R398). -/
def Mach.safetyRole (m : Mach) (p : Pkt) : Bool := m.b F.UPD_STAT_SAFETY && decide (p.role < 3)

/-- UPD_LOAD. -/
def opUpdLoad (m : Mach) (p : Pkt) : Ans :=
  if m.safetyRole p then m.refuse ROLE
  else if p.len ≠ 0 then m.refuse LENGTH
  else if m.g F.UPD_STAT_STATE ≠ 2 then m.refuse WRONG_STATE
  else (((m.s F.UPD_STAT_STATE 3).s F.UPD_PROG 0).newMsg true tUPD (ceilDiv m.upd.total 32) (.upd m.upd.total)).ok

/-- A planned change of side or spare is pending (R401). -/
def Mach.changePending (m : Mach) : Bool :=
  m.dx.switch || m.dx.change.isSome || m.b F.DX_STAT_TBPEND || !m.spr.plans.isEmpty

/-- UPD_ARM (R401); a module that stays in BOOT accepts any F and completes the update at once (R420). -/
def opUpdArm (m : Mach) (p : Pkt) : Ans :=
  let f := p.n 0 8
  let boot := m.st == stBOOT
  if m.safetyRole p then m.refuse ROLE
  else if p.len ≠ 8 then m.refuse LENGTH
  else if !boot ∧ m.ticking ∧ !within (m.frame + 64) (m.frame + 4000000) f then m.refuse RANGE
  else if !boot ∧ !m.fieldReach then m.refuse NOFIELD
  else if m.g F.UPD_STAT_STATE ≠ 4 ∨ m.changePending then m.refuse WRONG_STATE
  else if boot then ({ (m.s F.UPD_STAT_STATE 6).sq .UPD_FRAME_LO f with upd := { m.upd with go := true } }).ok
  else (m.arm f).ok

/-- UPD_DISARM (R403). -/
def opUpdDisarm (m : Mach) (p : Pkt) : Ans :=
  if p.len ≠ 0 then m.refuse LENGTH
  else if m.g F.UPD_STAT_STATE ≠ 5 then m.refuse WRONG_STATE
  else (m.updAbandon 10 0xFF).ok

/-- UPD_CANCEL: a RECEIVING, STAGED or LOADED bundle is discarded. -/
def opUpdCancel (m : Mach) (p : Pkt) : Ans :=
  let st := m.g F.UPD_STAT_STATE
  if p.len ≠ 0 then m.refuse LENGTH
  else if !(st = 1 ∨ st = 2 ∨ st = 4) then m.refuse WRONG_STATE
  else
    let m : Mach := { m with upd := { m.upd with flash := [], blocks := [], total := 0, verify := false, inplace := [], imgData := [] } }
    let m := m.sw .UPD_STAT (Word.of (m.g F.UPD_STAT_ACTCNT))
    (((m.sw .UPD_MANID 0).sw .UPD_VER 0).s F.UPD_PROG 0).ok

/-- The inactive slot's firmware reads the state records that the running firmware writes (R411). -/
def Mach.rollbackReads (m : Mach) : Bool :=
  (upTo 6).all (fun i =>
    let r := nth (m.slotInfo m.otherSlot).reads i (0, 0)
    within r.1 r.2 (nth (m.slotInfo (m.g F.DEV_FW_SLOT)).fmts i 0))

/-- UPD_ROLLBACK (R411). -/
def opUpdRollback (m : Mach) (p : Pkt) : Ans :=
  let f := p.n 0 8
  let st := m.slotState m.otherSlot
  if p.len ≠ 8 then m.refuse LENGTH
  else if !within (m.frame + 64) (m.frame + 4000000) f then m.refuse RANGE
  else if m.g F.UPD_STAT_STATE ≠ 0 ∨ !(st = 1 ∨ st = 2) ∨ m.rollbackArea.isNone ∨ m.changePending then m.refuse WRONG_STATE
  else if !m.rollbackReads then m.refuse CONFIG
  else
    let m := ((m.s F.UPD_STAT_STATE 3).sb F.UPD_STAT_ROLLBACK true).s F.UPD_PROG 0
    let m := m.sw .UPD_MANID (Word.of (m.slotInfo m.otherSlot).manid)
    ({ m with upd := { m.upd with want := f } }).ok

/-- UPD_READ. -/
def opUpdRead (m : Mach) (p : Pkt) : Ans :=
  let n := p.n 4 2
  if p.len ≠ 8 ∨ n = 0 ∨ 4000 < n ∨ m.upd.total < p.n 0 4 + n then m.refuse LENGTH
  else if p.n 6 2 ≠ 0 then m.refuse RANGE
  else m.okData (m.staged_ (p.n 0 4) n)

/-- UPD_KEY_SET (R397): the installation key is written to the configuration set on the Key. -/
def opUpdKeySet (m : Mach) (p : Pkt) : Ans :=
  if p.len ≠ 32 then m.refuse LENGTH
  else match m.genInForce 7 with
    | none => m.refuse WRONG_STATE
    | some b => (m.genRewrite 7 (b.take 24 ++ p.payload)).ok

/-- UPD_STATUS (R413). -/
def execUpdStatus (src seq : Nat) (payload : List Byte) (s : State) : Host.Outcome State Fault Refusal :=
  .next { s with m := s.m.runOp 0x50 src seq payload 1 false opUpdStatus }

/-- UPD_BEGIN (R398). -/
def execUpdBegin (src seq : Nat) (payload : List Byte) (s : State) : Host.Outcome State Fault Refusal :=
  .next { s with m := s.m.runOp 0x51 src seq payload 2 false opUpdBegin }

/-- UPD_PUT (R398). -/
def execUpdPut (src seq : Nat) (payload : List Byte) (s : State) : Host.Outcome State Fault Refusal :=
  .next { s with m := s.m.runOp 0x52 src seq payload 2 false opUpdPut }

/-- UPD_VERIFY (R398). -/
def execUpdVerify (src seq : Nat) (payload : List Byte) (s : State) : Host.Outcome State Fault Refusal :=
  .next { s with m := s.m.runOp 0x53 src seq payload 2 false opUpdVerify }

/-- UPD_LOAD (R399). -/
def execUpdLoad (src seq : Nat) (payload : List Byte) (s : State) : Host.Outcome State Fault Refusal :=
  .next { s with m := s.m.runOp 0x54 src seq payload 2 false opUpdLoad }

/-- UPD_ARM (R401). -/
def execUpdArm (src seq : Nat) (payload : List Byte) (s : State) : Host.Outcome State Fault Refusal :=
  .next { s with m := s.m.runOp 0x55 src seq payload 2 (s.m.st != stBOOT) opUpdArm }

/-- UPD_DISARM (R403). -/
def execUpdDisarm (src seq : Nat) (payload : List Byte) (s : State) : Host.Outcome State Fault Refusal :=
  .next { s with m := s.m.runOp 0x56 src seq payload 2 true opUpdDisarm }

/-- UPD_CANCEL (R413). -/
def execUpdCancel (src seq : Nat) (payload : List Byte) (s : State) : Host.Outcome State Fault Refusal :=
  .next { s with m := s.m.runOp 0x57 src seq payload 2 false opUpdCancel }

/-- UPD_ROLLBACK (R411). -/
def execUpdRollback (src seq : Nat) (payload : List Byte) (s : State) : Host.Outcome State Fault Refusal :=
  .next { s with m := s.m.runOp 0x58 src seq payload 2 true opUpdRollback }

/-- UPD_READ (R413). -/
def execUpdRead (src seq : Nat) (payload : List Byte) (s : State) : Host.Outcome State Fault Refusal :=
  .next { s with m := s.m.runOp 0x59 src seq payload 1 false opUpdRead }

/-- UPD_KEY_SET (R397). -/
def execUpdKeySet (src seq : Nat) (payload : List Byte) (s : State) : Host.Outcome State Fault Refusal :=
  .next { s with m := s.m.runOp 0x5A src seq payload 3 true opUpdKeySet }

end Sys2Proof.Machine
end

