-- ==== Sys2Proof/Machine/RegWrite.lean ====
section
/-! DEFINITION. Writing a register (R5, R7, R8, R14 to R17, R24, R28, R29, R438, R439, R446): access codes, ownership,
what a write starts, and the commands that are register writes. -/

namespace Sys2Proof.Machine

open Sys2Proof

/-! ### Ownership violations (R14, R29) -/

/-- `DEV_OWN_VIOL` of a first violation. -/
def ownViolWord (kind e idx : Nat) : Word := Word.of (2 ^ 31 + 2 ^ 28 + kind % 4 * 2 ^ 26 + e % 32 * 2 ^ 21 + idx % 2 ^ 16)

/-- The record of a violation at FCLK cycle `c`: the first is described, later ones count; of two in one cycle the lower engine's is
described (R445). -/
def Mach.violRecord (m : Mach) (c kind e idx : Nat) : Mach :=
  if m.b F.DEV_OWN_VIOL_VALID then
    let m := m.inc F.DEV_OWN_VIOL_COUNT 7
    if m.violAt = c ∧ e % 32 < m.g F.DEV_OWN_VIOL_ENGINE then
      ((m.s F.DEV_OWN_VIOL_KIND kind).s F.DEV_OWN_VIOL_ENGINE e).s F.DEV_OWN_VIOL_INDEX idx
    else m
  else { m.sw .DEV_OWN_VIOL (ownViolWord kind e idx) with violAt := c }

/-- A violation by engine e: recorded and raised. -/
def Mach.violate (m : Mach) (kind e idx : Nat) : Mach :=
  let m := (m.violRecord m.now kind e idx).raise (0x0100 + kind) e e idx
  { m with viols := m.viols.filter (fun v => v.1 == m.frame) ++ [(m.frame, m.now, kind, e, idx)] }

/-- VALID is cleared: COUNT becomes 0, and violations of the same frame stand as if they came after the clear (R29). -/
def Mach.clearViol (m : Mach) : Mach :=
  let m := m.sw .DEV_OWN_VIOL 0
  each (m.viols.filter (fun v => v.1 == m.frame)) m (fun m v => m.violRecord v.2.1 v.2.2.1 v.2.2.2.1 v.2.2.2.2)

/-! ### Who owns a register (R13, R14, R16, R63, R111) -/

/-- The engine number that stands for the active AP in `ownerOf`. -/
def ownAP : Nat := 100

/-- Some field of a register can be written. -/
def R.writable (r : R) : Bool := r.flds.any (fun f => f.acc != .RO)

/-- The engine that owns a PWM group's set (R111). -/
def Mach.groupOwner (m : Mach) (g : Nat) : Nat :=
  let own := m.g F.PWM_GRP_CFG_OWNER g
  match own, m.groupUsers g with
  | 1, (s :: _, _) => m.slotEngine s
  | 2, (_, a :: _) => m.axisEngine a
  | _, _ => ownAP

/-- The owner of an instance of a register: none where writes are without effect and are no violation. -/
def Mach.ownerOf (m : Mach) (r : R) (i : Nat) : Option Nat :=
  let b := r.base
  let byAP : Option Nat := if r.writable then some ownAP else none
  if b < 0x100 then byAP
  else if b < 0x200 then some ownAP
  else if b < 0x400 then
    (if r = .MEM_DMA_CTL ∨ r = .MEM_DMA_DESC ∨ r = .MEM_DMA_STAT ∨ r = .MEM_DMA_ERR then some (if i < 8 then 17 else ownAP) else byAP)
  else if b < 0xC00 then byAP
  else if b < 0x1000 then
    (if r = .PWM_GRP_TOP ∨ r = .PWM_GRP_CTL then some (m.groupOwner i)
     else if r = .PWM_CMP then some (m.groupOwner i) else byAP)
  else if b < 0x2000 then (if r.writable then some ownAP else some (m.slotEngine i))
  else if b < 0x2800 then (if r.writable then some ownAP else some (m.axisEngine i))
  else if b < 0x2C00 then some 2
  else if b < 0x2E00 then some ownAP
  else if b < 0x3000 then byAP
  else if b < 0x4000 then some ownAP
  else if b < 0x4400 then (if r = .AQ_CTL ∨ r = .AQ_STAT then some ownAP else some 17)
  else some ownAP

/-- The engine as which a requester acts (R62, R63). -/
def Mach.actsAs (m : Mach) (who : Who) : Nat :=
  match who with
  | .eng e => e
  | .dma ch => if ch < 8 then 17 else m.apSrc
  | .host _ _ => 18

/-- Engine e may write what `own` owns. The owner, the active AP and the host clear a group's FAULT (R121). -/
def Mach.engMay (m : Mach) (e : Nat) (r : R) (i own : Nat) : Bool :=
  (own == ownAP && m.activeAp == some e) || own == e ||
  (r == .PWM_GRP_STAT && (m.groupOwner i == e || m.activeAp == some e))

/-! ### Fields (R5, R446) -/

/-- The mode in force of the controller whose registers lie at an index is OFF, or no controller's registers do. -/
def Mach.cbOff (m : Mach) (r : R) (i : Nat) : Bool := decide (r.base < 0x3000) || decide (0x4000 ≤ r.base) || m.g F.CB_STAT_MODE i == 0

/-- The unit that owns an RWS field is stopped for this requester. -/
def Mach.unitStopped (m : Mach) (who : Who) (r : R) (i : Nat) : Bool :=
  let b := r.base
  if r = .MEM_DMA_CTL ∨ r = .MEM_DMA_DESC then !m.dmaBusy i
  else if 0x2800 ≤ b ∧ b < 0x2C00 then (match who with
    | .host _ src => m.editBy src
    | _ => false)
  else if 0x3000 ≤ b ∧ b < 0x4000 then m.cbOff r i
  else if 0x4000 ≤ b ∧ b < 0x4400 then false
  else !m.b F.FRM_STAT_RUN

/-- The bits of the fields of a register with an access code. -/
def accMask (r : R) (a : Acc) : Nat :=
  r.flds.foldl (fun k f => if f.acc = a then k ||| (2 ^ (f.hi + 1) - 2 ^ f.lo) else k) 0

/-- The stored word after a write of `v` by the access codes alone, and whether a field stored a value or a bit was cleared.
`skip` names fields that the register's own action handles. -/
def Mach.fieldWrite (m : Mach) (who : Who) (r : R) (i j : Nat) (v : Word) (skip : Fd → Bool) : Mach × Bool :=
  let w := m.w r i j
  let stop := m.unitStopped who r i
  let cand := r.flds.foldl (fun a f => if f.acc = .RW ∨ (f.acc = .RWS ∧ stop) then setBits a f.hi f.lo (fld f v) else a) w
  let put (f : Fd) : Bool := !skip f && decide (f.acc = .RW ∨ (f.acc = .RWS ∧ stop)) && m.stores f i (fld f v) cand
  let clr (f : Fd) : Bool := !skip f && decide (f.acc = .W1C) && fld f v != 0
  let w' := r.flds.foldl (fun a f =>
    if put f then setBits a f.hi f.lo (fld f v) else a) w
  let mask := r.flds.foldl (fun a f => if clr f then a + fld f v * 2 ^ f.lo else a) 0
  let m := if w' = w then m else m.sw r w' i j
  (if mask = 0 then m else m.clearBits r mask i j, r.flds.any (fun f => put f || clr f))

/-- No field is left to an action. -/
def noSkip (_ : Fd) : Bool := false

/-! ### Quantities of two words (R8) -/

/-- The registers whose high word commits a write. -/
def highRegs : List (R × R) :=
  [(.ADC_MASK_HI, .ADC_MASK_LO), (.MG_TGT_HI, .MG_TGT_LO), (.MG_VMAX_HI, .MG_VMAX_LO), (.MG_AMAX_HI, .MG_AMAX_LO), (.MG_JMAX_HI, .MG_JMAX_LO), (.MG_AQS_HI, .MG_AQS_LO),
   (.MG_JQS_HI, .MG_JQS_LO), (.MG_SMIN_HI, .MG_SMIN_LO), (.MG_SMAX_HI, .MG_SMAX_LO), (.MG_QPOS_HI, .MG_QPOS_LO), (.MG_REFPOS_HI, .MG_REFPOS_LO)]

/-- A motion limit that R156 does not store. -/
def Mach.limitBad (m : Mach) (lo : R) (a : Nat) (v : Int) : Bool :=
  let x := m.sqi lo v a
  let q (r : R) : Int := x.qi r a
  let lim := [R.MG_VMAX_LO, R.MG_AMAX_LO, R.MG_JMAX_LO, R.MG_AQS_LO, R.MG_JQS_LO].contains lo
  lim && (decide (v ≤ 0) ||
    ((lo == .MG_AMAX_LO || lo == .MG_AQS_LO) && decide (q .MG_AQS_LO < q .MG_AMAX_LO)) ||
    ((lo == .MG_JMAX_LO || lo == .MG_JQS_LO) && decide (q .MG_JQS_LO < q .MG_JMAX_LO)))

/-- The whole quantity takes effect. -/
def Mach.writeQuad (m : Mach) (who : Who) (lo : R) (a : Nat) (v : Int) : Mach × Bool :=
  if lo = .MG_TGT_LO then (m.writeTarget a v, true)
  else if lo = .MG_QPOS_LO then (m.writeQuery a v, true)
  else if m.limitBad lo a v then (m, false)
  else if lo = .ADC_MASK_LO then (if m.unitStopped who lo a then (m.sq lo (wrap 56 v) a, true) else (m, false))
  else if lo.flds.any (fun f => f.acc = .RW) ∨ m.unitStopped who lo a then (m.sqi lo v a, true)
  else (m, false)

/-- A write of one word of a two-word quantity, if the register is one. -/
def Mach.wordOfQuad (m : Mach) (who : Who) (r : R) (a : Nat) (v : Word) : Option (Mach × Bool) :=
  let k := Who.key who
  match highRegs.find? (fun p => p.1 == r || p.2 == r) with
  | none => none
  | some (_, lo) =>
    let idx := lo.idx a 0
    let rest := m.held.filter (fun h => !(h.1 == k && h.2.1 == idx))
    if r = lo then some ({ m with held := rest ++ [(k, idx, v)] }, true)
    else
      let low := ((m.held.find? (fun h => h.1 == k && h.2.1 == idx)).map (fun h => h.2.2)).getD
        (if lo = .MG_TGT_LO then (match (m.axis a).tgt with
          | some t => Word.of (wrap 64 t)
          | none => m.word idx) else m.word idx)
      some ({ m with held := rest }.writeQuad who lo a (sgn 64 (low.toNat + 2 ^ 32 * v.toNat)))

/-! ### What writes start -/

/-- A write of `DEV_CTL` (R27, R28): `HOST_RST` reads 1 until the restart is complete (R5). -/
def Mach.writeDevCtl (m : Mach) (who : Who) (v : Word) : Mach × Bool :=
  let mark := bit v.toNat 1
  let rst := bit v.toNat 0
  if getBits v 31 16 ≠ 0x5A5A ∨ (!mark && !rst) then (m, false)
  else match who with
    | .host _ _ =>
      if rst then
        let m := if mark then
            let e : Ev := { code := markCode, src := 0x20, arg0 := openArg markCode 0, arg1 := openArg markCode 1, frame := m.frame, sub := stampWord m.L m.cyc }
            (if m.hostUp then m.logRec (m.recOf e 0) else m).operatorMarks
          else m
        ((m.hostRestart 0).sb F.DEV_CTL_HOST_RST m.hostUp, true)
      else (m.operatorMark, true)
    | _ => if rst then (m, false) else (m.operatorMark, true)

/-- `MEM_MPU_VIOL.VALID` is cleared: COUNT starts again (R438). -/
def Mach.clearMpuViol (m : Mach) : Mach :=
  let again := m.standMask .MEM_MPU_VIOL 0 0 (2 ^ 31) != 0
  (m.clearBits .MEM_MPU_VIOL (2 ^ 31) 0 0).s F.MEM_MPU_VIOL_COUNT (b2n again)

/-- A write of the MPU window (R65): the region of the requester that `MEM_MPU_SEL` names, while that requester is stopped. -/
def Mach.writeMpu (m : Mach) (lim : Bool) (k : Nat) (v : Word) : Mach × Bool :=
  let q := m.g F.MEM_MPU_SEL_REQ
  let stop := if q ≤ 17 then !m.engRuns q else if q = 18 then !m.b F.FRM_STAT_RUN else !m.dmaBusy (q - 20)
  if !stop then (m, false)
  else
    let g := m.mem.region q k
    let n := v.toNat
    let g := if lim then { g with lim := n / 256, w := bit n 2, rd := bit n 1, en := bit n 0 } else { g with base := n / 256 }
    ({ m with mem := { m.mem with mpu := smPut (fun _ => ({} : Region)) m.mem.mpu (16 * q + k) g } }, true)

/-- A write of `PWR_CTL` (R432, R435). -/
def Mach.writePwrCtl (m : Mach) (v : Word) : Mach × Bool :=
  let n := v.toNat
  if getBits v 31 16 ≠ 0x5A5A ∨ (!bit n 0 && !bit n 1) then (m, false)
  else
    let m := if bit n 1 then m.s F.PWR_LF_LFMIN 0xFFFF else m
    (if bit n 0 ∧ !m.b F.PWR_CTL_SHUT then m.shutBegin else m, true)

/-- A write of `CB_BUF_STAT` (R314, R316): NEWDAT as the buffer's mask shows it, and TXRQ. -/
def Mach.writeBufStat (m : Mach) (who : Who) (k b : Nat) (v : Word) : Mach × Bool :=
  let (m, ef) := m.fieldWrite who .CB_BUF_STAT k b v (fun f => f.same F.CB_BUF_STAT_NEWDAT)
  let m := if bit v.toNat 15 ∧ m.standMask .CB_BUF_STAT k b 0x8000 = 0 then m.setNewdat k b false else m
  let rq := bit v.toNat 8 && m.sends k b
  (if rq then m.txRequest k b else m, ef || bit v.toNat 15 || rq)

/-- The write of a register that its requester may write. -/
def Mach.doWrite (m : Mach) (who : Who) (r : R) (i j : Nat) (v : Word) : Mach × Bool :=
  let n := v.toNat
  match m.wordOfQuad who r i v with
  | some x => x
  | none =>
    match r with
    | .DEV_CTL => m.writeDevCtl who v
    | .DEV_OWN_VIOL => if bit n 31 then (m.clearViol, true) else (m, false)
    | .FRM_CTL => (m.writeLock (bit n 0), true)
    | .FRM_PEAK => if bit n 31 then (m.s F.FRM_PEAK_PEAK 0 i, true) else (m, false)
    | .MEM_CLR => if bit n 0 then (m.clearPeaks, true) else (m, false)
    | .MEM_MPU_VIOL => (if bit n 31 then m.clearMpuViol else m, bit n 31)
    | .MEM_MPU_BASE => m.writeMpu false i v
    | .MEM_MPU_LIM => m.writeMpu true i v
    | .MEM_DMA_CTL =>
      let (m, ef) := m.fieldWrite who r i j v noSkip
      let m := if bit n 1 then m.dmaHalt i else m.dmaDisarm i
      (if bit n 0 then m.dmaGo i else m, ef || bit n 0 || bit n 1)
    | .TRM_CTL => if bit n 0 then (each (upTo 96) m (fun m t => m.trmClear t 0x1FC), true) else (m, false)
    | .TRM_TSTAT => (m.trmClear i n, n &&& 0x1FC != 0)
    | .ADC_CTL => if bit n 0 then (m.annealStepReq, true) else (m, false)
    | .PWM_CTL => if bit n 0 then (m.clearPwmCounts, true) else (m, false)
    | .PWM_GRP_TOP => (m.writeTop i (fld F.PWM_GRP_TOP_TOP v), true)
    | .PWM_GRP_CTL => (m.writeEn i (bit n 0), true)
    | .PWM_CMP => (m.writeCmp i j n, true)
    | .PWM_GRP_STAT =>
      let (m, ef) := m.fieldWrite who r i j v noSkip
      (if fld F.PWM_GRP_STAT_FAULT v = 1 then m.faultCleared i else m, ef)
    | .LP_HI =>
      let x := m.sw r v i j
      if x.limitsBad i then (m, false) else (x, true)
    | .LP_LO =>
      let x := m.sw r v i j
      if x.limitsBad i then (m, false) else (x, true)
    | .LP_CFG =>
      let (m, ef) := m.fieldWrite who r i j v noSkip
      (if m.slotType i = 2 then m else m.sw .LP_VEC 0 i, ef)
    | .LP_PAGE =>
      let (m, _) := m.fieldWrite who r i j v (fun f => f.same F.LP_PAGE_SEL)
      (m.pageRequest i (n / 2 ^ 31), true)
    | .LP_CTL =>
      let (m, ef) := m.fieldWrite who r i j v noSkip
      (if bit n 2 then m.sb F.LP_CTL_RESTART true i else m, ef)
    | .MG_CTL =>
      let (m, ef) := m.fieldWrite who r i j v noSkip
      let m := if bit n 3 then
          (if m.b F.MG_CTL_REF i then m.setAxis i { m.axis i with refAgain := true } else m.sb F.MG_CTL_REF true i) else m
      (if bit n 2 then m.sb F.MG_CTL_QSTOP true i else m, ef)
    | .SF_CTL => if getBits v 31 16 = 0x5A5A ∧ bit n 0 then (m.sb F.SF_CTL_REARM true, true) else (m, false)
    | .PWR_CTL => m.writePwrCtl v
    | .CB_CTL =>
      let (m, _) := m.fieldWrite who r i j v (fun f => f.same F.CB_CTL_MODE)
      let m := m.busMode i (n % 4)
      (if bit n 2 then m.borec i else m, true)
    | .CB_BUF_STAT => m.writeBufStat who i j v
    | .CB_DATA =>
      let may := match m.wordOwner i j with
        | some b => m.sends i b
        | none => false
      (m.writeData i j v, may)
    | .AQ_CTL => if bit n 0 then (m.aqClear, true) else (m, false)
    | _ => m.fieldWrite who r i j v noSkip

/-! ### Who may write -/

/-- What the host may write, by its role (R30, R69, R89, R107, R111, R241, R346): the SF block takes the commissioner. -/
def Mach.hostMay (m : Mach) (role src : Nat) (r : R) : Bool :=
  let b := r.base
  let sf := decide (0x2800 ≤ b) && decide (b < 0x2C00)
  if role < (if sf then 3 else 2) then false
  else if sf then m.b F.DEV_ROLE_STAT_COM_SET && (r == .SF_CTL || m.editBy src)
  else if r = .TRM_OUT ∨ r = .PWM_GRP_TOP ∨ r = .PWM_GRP_CTL ∨ r = .PWM_CMP then false
  else if 0x200 ≤ b ∧ b < 0x400 then r == .MEM_CLR || accMask r .W1C != 0
  else if 0x4000 ≤ b ∧ b < 0x4400 then r == .AQ_CTL || r == .AQ_STAT
  else true

/-- The field domain's register fabric answers: the engines have been started. -/
def Mach.fabricUp (m : Mach) : Bool := m.st == stFIELD_START || m.st == stRUNNING || m.st == stHELD

/-- Registers of a slot or an axis that the engine's unit and the active AP both own fields of: the engine the RO fields, the AP the
W1C bits. -/
def R.shared (r : R) : Bool := r == .LP_STAT || r == .MG_STAT

/-- The engine whose unit a slot's or an axis's registers belong to (R13). -/
def Mach.unitEngine (m : Mach) (r : R) (i : Nat) : Nat := if r.base < 0x2000 then m.slotEngine i else m.axisEngine i

/-- The kind of violation that the fabric records for a write by a field requester, and refuses the write with (R14, R17, R24, R28).
Every field engine may write `DEV_SCRATCH`, which no rule gives an owner (assumption 20); a narrow access of the standby AP is
recorded, since R17 states no exception (assumption 21). -/
def Mach.refusal (m : Mach) (who : Who) (idx : Nat) (v : Word) (narrow : Bool) : Option Nat :=
  let e := m.actsAs who
  match who with
  | .host _ _ => none
  | _ =>
    if !m.fabricUp ∨ 0xFFFF < idx then none
    else if narrow then some 2
    else if isHostIdx idx then some 1
    else match regAt idx with
      | none => none
      | some (r, i, _) =>
        if r = .DEV_SCRATCH then none
        else match m.ownerOf r i with
          | none => none
          | some own =>
            if m.engMay e r i own then
              (if r = .DEV_CTL ∧ getBits v 31 16 = 0x5A5A ∧ bit v.toNat 0 then some 0
               else if r.shared ∧ m.unitEngine r i ≠ e ∧ v.toNat &&& accMask r .W1C = 0 then some 0 else none)
            else if own = ownAP ∧ e ≤ 1 then none
            else if r.shared ∧ m.unitEngine r i = e ∧ v.toNat &&& accMask r .W1C = 0 then none
            else some 0

/-- A register write: the machine after it, and whether it had an effect (R5, R14, R17, R24, R26). -/
def Mach.regWrite (m : Mach) (who : Who) (idx : Nat) (v : Word) (narrow : Bool := false) : Mach × Bool :=
  match who with
  | .host role src =>
    (match regAt idx with
     | none => (m, false)
     | some (r, i, j) =>
       if r = .PRM_CELL ∨ narrow ∨ !(if isHostIdx idx then m.hostUp else m.fabricUp) ∨ !m.hostMay role src r then (m, false)
       else m.doWrite who r i j v)
  | _ =>
    match m.refusal who idx v narrow with
    | some k => (m.violate k (m.actsAs who) idx, false)
    | none =>
      if !m.fabricUp then (m, false)
      else match regAt idx with
      | none => (m, false)
      | some (r, i, j) =>
        if r = .DEV_SCRATCH then m.doWrite who r i j v
        else match m.ownerOf r i with
          | none => (m, false)
          | some own =>
            if !m.engMay (m.actsAs who) r i own ∨ r = .PRM_CELL ∨ own = 2 ∨ (own = 17 ∧ 0x4000 ≤ r.base) then (m, false)
            else m.doWrite who r i j v

/-- What a host command packet does: its latches and held words start empty with it and end with it (R8). -/
def Mach.asPacket (m : Mach) (who : Who) (f : Mach → Mach × Bool) : Mach × Bool :=
  match who with
  | .host _ _ => let p := f (m.dropLatches who); (p.1.dropLatches who, p.2)
  | _ => f m

/-- A write list is applied at the commit point in list order, as writes of the active AP (R259). -/
def Mach.applyWrites (m : Mach) (wl : List (Nat × Word)) : Mach :=
  each wl m (fun m p => (m.regWrite (.eng m.apSrc) p.1 p.2).1)

/-! ### The commands -/

/-- A register write as a command of its own. -/
def writeCmd (who : Who) (idx : Nat) (v : Word) (s : State) : Host.Outcome State Fault Refusal :=
  .next { s with m := (s.m.asPacket who (fun m => m.regWrite who idx v)).1 }

/-- REGISTER_WRITE (R5): at cycle c; `narrow` marks an access that is not 32 bits wide and aligned (R17). -/
def execRegisterWrite (who : Who) (idx c : Nat) (v : Word) (narrow : Bool) (s : State) : Host.Outcome State Fault Refusal :=
  .next { s with m := ((s.m.at c).asPacket who (fun m => m.regWrite who idx v narrow)).1 }

/-- FRM_CTL_LOCK_WRITE (R45). -/
def execFrmCtlLockWrite (who : Who) (v : Word) (s : State) : Host.Outcome State Fault Refusal := writeCmd who (R.FRM_CTL.idx 0 0) v s

/-- FRM_PEAK_CLEAR (R48): engine e's register. -/
def execFrmPeakClear (who : Who) (e : Nat) (v : Word) (s : State) : Host.Outcome State Fault Refusal :=
  if e < 19 then writeCmd who (R.FRM_PEAK.idx e 0) v s else .next s

/-- MEM_CLR_PEAKS (R69). -/
def execMemClrPeaks (who : Who) (v : Word) (s : State) : Host.Outcome State Fault Refusal := writeCmd who (R.MEM_CLR.idx 0 0) v s

/-- DMA_GO (R61): a write of `MEM_DMA_CTL[ch]` at cycle c. -/
def execDmaGo (who : Who) (ch c : Nat) (v : Word) (s : State) : Host.Outcome State Fault Refusal :=
  if ch < 32 then writeCmd who (R.MEM_DMA_CTL.idx ch 0) v { s with m := s.m.at c } else .next s

/-- DMA_STOP (R60): a write of `MEM_DMA_CTL[ch]` at cycle c. -/
def execDmaStop (who : Who) (ch c : Nat) (v : Word) (s : State) : Host.Outcome State Fault Refusal :=
  if ch < 32 then writeCmd who (R.MEM_DMA_CTL.idx ch 0) v { s with m := s.m.at c } else .next s

/-- TRM_CLRALL (R89). -/
def execTrmClrall (who : Who) (v : Word) (s : State) : Host.Outcome State Fault Refusal := writeCmd who (R.TRM_CTL.idx 0 0) v s

/-- ANNEAL_STEP (R103). -/
def execAnnealStep (who : Who) (v : Word) (s : State) : Host.Outcome State Fault Refusal := writeCmd who (R.ADC_CTL.idx 0 0) v s

/-- PWM_CLRCNT (R124). -/
def execPwmClrcnt (who : Who) (v : Word) (s : State) : Host.Outcome State Fault Refusal := writeCmd who (R.PWM_CTL.idx 0 0) v s

/-- PAGE_SWAP_REQUEST (R145): slot k; refused to the host in the frames of a fail-over (R291). -/
def execPageSwapRequest (who : Who) (k : Nat) (v : Word) (s : State) : Host.Outcome State Fault Refusal :=
  if k < 256 ∧ !(decide (Who.key who = 64) && s.m.inGap) then writeCmd who (R.LP_PAGE.idx k 0) v s else .next s

/-- SLOT_RESTART (R139). -/
def execSlotRestart (who : Who) (k : Nat) (v : Word) (s : State) : Host.Outcome State Fault Refusal :=
  if k < 256 then writeCmd who (R.LP_CTL.idx k 0) v s else .next s

/-- A write of both words of a quantity, low word first, as one packet. -/
def pairCmd (who : Who) (lo hi a v : Nat) (s : State) : Host.Outcome State Fault Refusal :=
  if a < 32 then
    .next { s with m := (s.m.asPacket who (fun m => (m.regWrite who lo (Word.of v)).1.regWrite who hi (Word.of (v / 2 ^ 32)))).1 }
  else .next s

/-- TARGET_WRITE (R154): both words of `MG_TGT[a]`. -/
def execTargetWrite (who : Who) (a v : Nat) (s : State) : Host.Outcome State Fault Refusal :=
  pairCmd who (R.MG_TGT_LO.idx a 0) (R.MG_TGT_HI.idx a 0) a v s

/-- REACH_QUERY (R163): both words of `MG_QPOS[a]`. -/
def execReachQuery (who : Who) (a v : Nat) (s : State) : Host.Outcome State Fault Refusal :=
  pairCmd who (R.MG_QPOS_LO.idx a 0) (R.MG_QPOS_HI.idx a 0) a v s

/-- A write of `MG_CTL[a]`. -/
def axisCmd (who : Who) (a : Nat) (v : Word) (s : State) : Host.Outcome State Fault Refusal :=
  if a < 32 then writeCmd who (R.MG_CTL.idx a 0) v s else .next s

/-- AXIS_HOLD (R160). -/
def execAxisHold (who : Who) (a : Nat) (v : Word) (s : State) : Host.Outcome State Fault Refusal := axisCmd who a v s

/-- QUICK_STOP (R161). -/
def execQuickStop (who : Who) (a : Nat) (v : Word) (s : State) : Host.Outcome State Fault Refusal := axisCmd who a v s

/-- AXIS_ENABLE (R153, R178). -/
def execAxisEnable (who : Who) (a : Nat) (v : Word) (s : State) : Host.Outcome State Fault Refusal := axisCmd who a v s

/-- REFERENCE_COMMAND (R164). -/
def execReferenceCommand (who : Who) (a : Nat) (v : Word) (s : State) : Host.Outcome State Fault Refusal := axisCmd who a v s

/-- STALL_CLEAR (R172): a write of `MG_STAT[a]`. -/
def execStallClear (who : Who) (a : Nat) (v : Word) (s : State) : Host.Outcome State Fault Refusal :=
  if a < 32 then writeCmd who (R.MG_STAT.idx a 0) v s else .next s

/-- REARM (R238): a write of `SF_CTL`. -/
def execRearm (who : Who) (v : Word) (s : State) : Host.Outcome State Fault Refusal := writeCmd who (R.SF_CTL.idx 0 0) v s

/-- TRANSMIT_REQUEST (R316): TXRQ of buffer b of controller k. -/
def execTransmitRequest (who : Who) (k b : Nat) (s : State) : Host.Outcome State Fault Refusal :=
  if k < 4 ∧ b < 128 then writeCmd who (R.CB_BUF_STAT.idx k b) (Word.of 0x100) s else .next s

/-- A write of `CB_CTL[k]` that keeps its other fields: MODE, and BOREC. -/
def canCmd (who : Who) (k : Nat) (f : Fd) (x : Nat) (s : State) : Host.Outcome State Fault Refusal :=
  if k < 4 then writeCmd who (R.CB_CTL.idx k 0) (setBits (setBits (s.m.w .CB_CTL k) 2 2 0) f.hi f.lo x) s else .next s

/-- CAN_MODE_OFF (R312). -/
def execCanModeOff (who : Who) (k : Nat) (s : State) : Host.Outcome State Fault Refusal := canCmd who k F.CB_CTL_MODE 0 s

/-- CAN_MODE_NORMAL (R311). -/
def execCanModeNormal (who : Who) (k : Nat) (s : State) : Host.Outcome State Fault Refusal := canCmd who k F.CB_CTL_MODE 1 s

/-- CAN_MODE_LISTEN (R313). -/
def execCanModeListen (who : Who) (k : Nat) (s : State) : Host.Outcome State Fault Refusal := canCmd who k F.CB_CTL_MODE 2 s

/-- CAN_MODE_SLEEP (R325). -/
def execCanModeSleep (who : Who) (k : Nat) (s : State) : Host.Outcome State Fault Refusal := canCmd who k F.CB_CTL_MODE 3 s

/-- BOREC (R324). -/
def execBorec (who : Who) (k : Nat) (s : State) : Host.Outcome State Fault Refusal := canCmd who k F.CB_CTL_BOREC 1 s

/-- AQ_CLRCNT (R346). -/
def execAqClrcnt (who : Who) (v : Word) (s : State) : Host.Outcome State Fault Refusal := writeCmd who (R.AQ_CTL.idx 0 0) v s

/-- OPERATOR_MARK (R28): a write of `DEV_CTL`. -/
def execOperatorMark (who : Who) (v : Word) (s : State) : Host.Outcome State Fault Refusal := writeCmd who (R.DEV_CTL.idx 0 0) v s

/-- HOST_WARM_RESTART (R425): trigger 0 is a write of `DEV_CTL` by a host with the maintainer role, 1 no response of HX for 2 ms, 2 a
host supply outside its window. -/
def execHostWarmRestart (trig : Nat) (who : Who) (s : State) : Host.Outcome State Fault Refusal :=
  if trig = 0 then writeCmd who (R.DEV_CTL.idx 0 0) (Word.of 0x5A5A0001) s
  else .next { s with m := s.m.hostRestart (if trig = 1 then 1 else 2) }

/-- SHUT (R432): a write of `PWR_CTL`. -/
def execShut (who : Who) (v : Word) (s : State) : Host.Outcome State Fault Refusal := writeCmd who (R.PWR_CTL.idx 0 0) v s

/-- CLRMIN (R435): a write of `PWR_CTL`. -/
def execClrmin (who : Who) (v : Word) (s : State) : Host.Outcome State Fault Refusal := writeCmd who (R.PWR_CTL.idx 0 0) v s

end Sys2Proof.Machine
end

