-- ==== Sys2Proof/Machine/Dma.lean ====
section
/-! DEFINITION. The arbitration of frame memory and the transfers of DMA channels (spec/03_frame_memory.md, R54 to R57, R62, R64,
R65): which request a bank serves next, revocation, the MPU at the grant, and what a channel's next burst is. -/

namespace Sys2Proof.Machine

open Sys2Proof

/-! ### A channel's next access (R60, R62) -/

/-- A channel has an access to make. -/
def Mach.dmaMoves (m : Mach) (ch : Nat) : Bool :=
  decide (ch < 32) && m.dmaBusy ch && decide ((m.dma ch).pos < (m.dma ch).len)

/-- A request as the arbiter sees it: a channel asks for its next access. -/
def Mach.asked (m : Mach) (r : BurstReq) : BurstReq := if r.req < 20 then r else (m.dma (r.req - 20)).burst (r.req - 20) r.at_

/-- A channel's access of `n` bytes is done. -/
def Mach.dmaDid (m : Mach) (ch n : Nat) (write : Bool) (data : List Byte) : Mach :=
  let d := (m.dma ch).did n write data
  (m.setDma ch d).s F.MEM_DMA_STAT_POS d.pos ch

/-- An access of a channel is outside frame memory and the register window: an MPU violation (R61). -/
def Mach.dmaOutside (m : Mach) (ch a : Nat) (write : Bool) : Mach := (m.mpuViol (20 + ch) a write).dmaStop ch 4 a

/-- Read registers of the window from an address, 32 bits wide each (R62). A part of a word is a narrower access: it returns 0 and is
recorded (R17; assumption 34). None where an address leaves the window. -/
def windowRead (ch : Nat) (inc : Bool) : Nat → Mach → Nat → Nat → List Byte → Mach × Option (List Byte)
  | 0, m, _, _, acc => (m, some acc)
  | fuel + 1, m, a, n, acc =>
    if n = 0 then (m, some acc)
    else if !inWindow a then (m.dmaOutside ch a false, none)
    else if n < 4 then (m.violate 2 (m.actsAs (.dma ch)) ((a - 0x40000000) / 4), some (acc ++ List.replicate n 0))
    else
      let (m, v) := m.regRead (.dma ch) ((a - 0x40000000) / 4)
      windowRead ch inc fuel m (if inc then a + 4 else a) (n - 4) (acc ++ leBytes 4 v.toNat)

/-- Write registers of the window (R62): a write that is refused stops the channel in state MPU, and so does an address outside the
window; a write that has no effect otherwise does not. -/
def windowWrite (ch : Nat) (inc : Bool) : Nat → Mach → Nat → List Byte → Mach × Bool
  | 0, m, _, _ => (m, true)
  | fuel + 1, m, a, bs =>
    if bs.isEmpty then (m, true)
    else if !inWindow a then (m.dmaOutside ch a true, false)
    else
      let idx := (a - 0x40000000) / 4
      let v := Word.of (leVal (bs.take 4))
      let narrow := decide (bs.length < 4)
      let m1 := (m.regWrite (.dma ch) idx v narrow).1
      if (m.refusal (.dma ch) idx v narrow).isSome then (m1.dmaStop ch 4 a, false)
      else windowWrite ch inc fuel m1 (if inc then a + 4 else a) (bs.drop 4)

/-- A channel's access outside the bank arbiters: registers of the window; an address outside both is an MPU violation (R61,
R62). -/
def Mach.windowAccess (m : Mach) (ch : Nat) (r : BurstReq) : Mach :=
  if r.write then
    let p := windowWrite ch (bit (m.dma ch).ctl 2) 33 m r.addr r.data
    if p.2 then p.1.dmaDid ch r.len true [] else p.1
  else
    match windowRead ch (bit (m.dma ch).ctl 1) 33 m r.addr r.len [] with
    | (m, some bs) => m.dmaDid ch r.len false bs
    | (m, none) => m

/-! ### The grant (R56) -/

/-- The request served next in round-robin order by requester number, after requester `last`. -/
def roundRobin (last : Nat) (ws : List BurstReq) : Option BurstReq :=
  let lowest := fun (l : List BurstReq) => l.foldl (fun (a : Option BurstReq) r =>
    match a with
    | none => some r
    | some q => some (if r.req < q.req then r else q)) none
  match lowest (ws.filter (fun r => decide (last < r.req))) with
  | some r => some r
  | none => lowest ws

/-- Rank 1 or 2. -/
def lowRank (r : BurstReq) : Bool := rankOf r.req == 1 || rankOf r.req == 2

/-- Lower ranks wait for this bank: ranks 1 and 2, and the scrubber once it has not been served for 64 frames (R56). -/
def lowWaits (k : Arb) (ws : List BurstReq) : Bool := ws.any (fun r => lowRank r || (r.req == 19 && decide (64 ≤ k.starved)))

/-- Every burst of the requester is issued in fair slots only (R64). -/
def Mach.fairOnly (m : Mach) (r : BurstReq) : Bool := decide (20 ≤ r.req) && m.b F.MEM_DMA_STAT_FAIRONLY (r.req - 20)

/-- The request of `ws` that a bank grants next, and whether it is granted in a fair slot (R56). A burst for fair slots only, and
the scrubber, are served as in a fair slot where no rank-0 request competes. -/
def Mach.pick (m : Mach) (k : Arb) (ws : List BurstReq) : Option (BurstReq × Bool) :=
  let r0 := ws.filter (fun r => rankOf r.req == 0)
  let r1 := ws.filter (fun r => rankOf r.req == 1)
  let r2 := ws.filter (fun r => rankOf r.req == 2)
  let fair := decide (m.g F.MEM_ARB_CFG_FAIR ≤ k.run0) && lowWaits k ws
  if fair then
    (roundRobin k.rrFair (ws.filter (fun r => lowRank r || (r.req == 19 && (decide (64 ≤ k.starved) || !ws.any lowRank))))).map
      (fun r => (r, true))
  else if !r0.isEmpty then (roundRobin k.rr0 r0).map (fun r => (r, false))
  else if !r1.isEmpty then (roundRobin k.rr1 r1).map (fun r => (r, false))
  else if !r2.isEmpty then (roundRobin k.rr2 r2).map (fun r => (r, m.fairOnly r))
  else ws.head?.map (fun r => (r, true))

/-- The arbiter after a grant: owner, round-robin orders and the count of consecutive rank-0 grants, which starts again after a fair
slot and whenever no request of rank 1 to 3 waits; another grant keeps it (R55, R56; assumption 35). -/
def Arb.granted (k : Arb) (r : BurstReq) (fair : Bool) (others : List BurstReq) : Arb :=
  let k := { k with owner := r.req }
  let waits := others.any (fun q => rankOf q.req != 0)
  if rankOf r.req = 0 then { k with rr0 := r.req, run0 := if waits then k.run0 + 1 else 0 }
  else if fair then
    { k with rrFair := r.req, run0 := 0, starved := if r.req = 19 then 0 else k.starved }
  else if rankOf r.req = 1 then { k with rr1 := r.req, run0 := if waits then k.run0 else 0 }
  else { k with rr2 := r.req, run0 := if waits then k.run0 else 0 }

/-- How many beats of a burst that starts at cycle `start` a rank-0 request of a cycle in `arr` leaves it: the beat in progress
completes, and none before the start (R57). None: the burst is not revoked. -/
def revokedAfter (granted start n : Nat) (arr : List Nat) : Option Nat :=
  let first := (arr.filter (fun a => decide (granted < a) && decide (a < start + n))).foldl (fun (x : Option Nat) a =>
    match x with
    | none => some a
    | some y => some (min a y)) none
  match first with
  | none => none
  | some a => if a < start then some 0 else if a - start + 1 < n then some (a - start + 1) else none

/-- A DMA descriptor is revoked (R64): it starts again from byte 0; after the fourth time in fair slots only. -/
def Mach.dmaRevoked (m : Mach) (ch : Nat) : Mach :=
  let d := m.dma ch
  let m := (m.setDma ch { d with pos := 0, buf := [], out := 0, tries := d.tries + 1 }).s F.MEM_DMA_STAT_POS 0 ch
  let m := m.inc F.MEM_DMA_STAT_REV (2 ^ (F.MEM_DMA_STAT_REV.hi + 1 - F.MEM_DMA_STAT_REV.lo) - 1) ch
  if 4 ≤ d.tries + 1 then m.sb F.MEM_DMA_STAT_FAIRONLY true ch else m

/-- The beats of a burst that are performed: all, or those before the one that fails. -/
def Mach.beatsRun (m : Mach) (r : BurstReq) (k : Nat) : Nat :=
  match (performBeats m r ((burstBeats r).take k) []).2.2 with
  | none => min k (burstBeats r).length
  | some off => ((burstBeats r).findIdx (fun p => p.1 == off)) + 1

/-- Show the longest times of R69: of rank 0 to the first beat, of ranks 1 to 3 to the last beat. -/
def Mach.showPeak (m : Mach) (b : Nat) (r : BurstReq) (start stop : Nat) : Mach :=
  if rankOf r.req = 0 then m.s F.MEM_ARB_PEAK_PEAK0 (min 65535 (max (m.g F.MEM_ARB_PEAK_PEAK0 b) (start - r.at_))) b
  else m.s F.MEM_ARB_PEAK_PEAKL (min 65535 (max (m.g F.MEM_ARB_PEAK_PEAKL b) (stop - r.at_))) b

/-- A granted burst runs on bank b from its hand-over at cycle t (R55, R57): the machine, and whether it was revoked. A burst that ends at
a double-bit error is not started again and no revocation counts (R68; assumption 40). -/
def Mach.grantBurst (m : Mach) (b t : Nat) (r : BurstReq) (fair : Bool) (others : List BurstReq) : Mach × Bool :=
  let k := m.arb b
  let start := if k.owner = r.req then t else t + 2
  let n := (burstBeats r).length
  let rivals := others.filter (fun q => rankOf q.req == 0)
  let cut := if rankOf r.req = 0 ∨ fair then none else revokedAfter t start n (rivals.map (·.at_))
  let now := others.filter (fun q => decide (q.at_ ≤ t))
  let k := k.granted r fair now
  let beats := m.beatsRun r (cut.getD n)
  let stop := start + beats
  let stop := if cut = some 0 then (rivals.map (·.at_)).foldl (fun a x => if t < x then min a x else a) start else stop
  let m := m.setArb b { k with freeAt := m.fclk + stop }
  let p := (m.at stop).runBurst r (cut.getD n)
  if !p.2 then (p.1, false)
  else match cut with
    | some _ =>
      let m := p.1.inc F.MEM_REV_CNT 0xFFFFFFFF b
      (if r.req < 20 then m else m.dmaRevoked (r.req - 20), true)
    | none =>
      let m := p.1.showPeak b r start stop
      (if r.req < 20 then m else m.dmaDid (r.req - 20) r.len r.write m.mem.rdata, false)

/-! ### The requests of a command -/

/-- The cycle at which bank b decides next among the requests that ask for it; none where none does. -/
def Mach.decideAt (m : Mach) (b : Nat) (ws : List BurstReq) : Option Nat :=
  match (ws.filter (fun r => (memOff r.addr).isSome && bankOf r.addr == b)).map (·.at_) with
  | [] => none
  | a :: as => some (max (as.foldl min a) ((m.arb b).freeAt - m.fclk))

/-- Remove the first request of a requester. -/
def dropReq (q : Nat) : List BurstReq → List BurstReq
  | [] => []
  | r :: rs => if r.req = q then rs else r :: dropReq q rs

/-- The earliest bank to decide, and its cycle. -/
def Mach.nextBank (m : Mach) (ws : List BurstReq) : Option (Nat × Nat) :=
  each (upTo 4) none (fun (x : Option (Nat × Nat)) b =>
    match m.decideAt b ws, x with
    | none, _ => x
    | some t, none => some (b, t)
    | some t, some (b0, t0) => some (if t < t0 then (b, t) else (b0, t0)))

/-- Bank b decides at cycle t: the request it takes is abandoned (R66), refused by the MPU (R65) or granted. The machine and the
requests that remain. -/
def Mach.bankStep (m : Mach) (b t : Nat) (ws : List BurstReq) : Mach × List BurstReq :=
  let seen := (ws.map m.asked)
  let here := seen.filter (fun r => (memOff r.addr).isSome && bankOf r.addr == b)
  match m.pick (m.arb b) (here.filter (fun r => decide (r.at_ ≤ t))) with
  | none => (m, [])
  | some (r, fair) =>
    let rest := dropReq r.req ws
    if m.g F.MEM_ARB_CFG_TMO < t - r.at_ then ((m.at (r.at_ + m.g F.MEM_ARB_CFG_TMO)).grantTimeout r, rest)
    else if !m.mpuOk r.req r.addr r.len r.write then (((m.at t).mpuViol r.req r.addr r.write).mpuFault r, rest)
    else
      let p := m.grantBurst b t r fair (dropReq r.req here)
      if p.2 && decide (r.req < 20) then (p.1, ws) else (p.1, rest)

/-- Serve requests until none is left. Requests of channels that have no access to make fall away; accesses outside frame memory
are made at their cycle. -/
def serve : Nat → Mach → List BurstReq → Mach
  | 0, m, _ => m
  | fuel + 1, m, ws =>
    let ws := ws.filter (fun r => decide (r.req < 20) || m.dmaMoves (r.req - 20))
    match ws.find? (fun r => (memOff (m.asked r).addr).isNone) with
    | some r =>
      let q := m.asked r
      let m := m.at r.at_
      serve fuel (if 20 ≤ r.req then m.windowAccess (r.req - 20) q else (m.mpuViol q.req q.addr q.write).mpuFault q) (dropReq r.req ws)
    | none =>
      match m.nextBank (ws.map m.asked) with
      | none => m
      | some (b, t) => let p := m.bankStep b t ws; serve fuel p.1 p.2

/-- BURST_REQUEST (R56): the requests that meet in frame memory, each with the cycle in which it is made. A DMA channel's entry asks
for its next access. A burst that R54 or R55 does not let an engine make is no request. Before the engines start, none is made. -/
def execBurstRequest (reqs : List BurstReq) (s : State) : Host.Outcome State Fault Refusal :=
  let rs := reqs.filter (fun r => decide (20 ≤ r.req) || (memOff r.addr).isNone || burstLegal r)
  .next { s with m := if s.m.fabricUp then serve (3 * rs.length + 3) s.m rs else s.m }

end Sys2Proof.Machine
end

