-- ==== Sys2Proof/Machine/Opcodes.lean ====
section
/-! DEFINITION. The link, identity and register opcodes (spec/17_zenxon_link.md, R386 to R389; R30 to R32), the table of all opcodes
(R385) and commands applied in the field domain (R23). -/

namespace Sys2Proof.Machine

open Sys2Proof

/-! ### Role keys (R30 to R32, R387) -/

/-- The key of a role, 0 where none is set: role 0 observer, 1 maintainer, 2 commissioner. -/
def Mach.roleKey (m : Mach) (r : Nat) : Nat := ((m.genInForce 7).map (fun b => fieldAt b (8 * r) 8)).getD 0

/-- A source is locked out (R31). -/
def Mach.locked (m : Mach) (src : Nat) : Bool := m.lockouts.any (fun l => l.1 == src && decide (m.log.sec < l.2 + 60))

/-- A presentation is refused: the eighth of a source within 60 s locks it out (R31). One that the lockout refuses without a check counts
neither in FAILS nor towards the next eight (assumption 37). -/
def Mach.keyRefused (m : Mach) (src : Nat) : Mach :=
  let old := m.roleFails.filter (fun f => f.1 != src || decide (m.log.sec < f.2 + 60))
  let fails := old ++ [(src, m.log.sec)]
  let m : Mach := { m.inc F.DEV_ROLE_STAT_FAILS 0xFFFF with roleFails := fails }
  let m := m.hraise 0x0130 0x30 src (openArg 0x0130 1)
  if 8 ≤ (fails.filter (fun f => f.1 == src)).length then
    let outs := (m.lockouts.filter (fun (l : Nat × Nat) => l.1 != src)) ++ [(src, m.log.sec)]
    let m : Mach := { m with roleFails := fails.filter (fun f => f.1 != src), lockouts := outs }
    m.hraise 0x0131 0x30 src (openArg 0x0131 1)
  else m

/-- The lockout of a source ends (R31). -/
def Mach.lockoutEnd (m : Mach) (src : Nat) : Mach :=
  { m with lockouts := m.lockouts.filter (fun l => l.1 != src), roleFails := m.roleFails.filter (fun f => f.1 != src) }

/-- ROLE_LOCKOUT_END (R31): the lockout of a source has lasted 60 s. -/
def execRoleLockoutEnd (src : Nat) (s : State) : Host.Outcome State Fault Refusal :=
  .next { s with m := if s.m.hostUp then s.m.lockoutEnd src else s.m }

/-- Sessions without a packet for SESSTMO seconds end. -/
def Mach.sessionTimeouts (m : Mach) : Mach :=
  each (upTo 32) m (fun m j =>
    if m.b F.ZL_SESS_VALID j ∧ m.g F.ZL_CFG_SESSTMO ≤ m.g F.ZL_SESS_IDLE j then m.closeSession j else m)

/-- SESSION_TIMEOUT (R387): sessions without a packet for SESSTMO seconds end. -/
def execSessionTimeout (s : State) : Host.Outcome State Fault Refusal :=
  .next { s with m := if s.m.hostUp then s.m.sessionTimeouts else s.m }

/-! ### Link and identity opcodes (R386) -/

/-- NOP: the payload comes back. -/
def opNop (m : Mach) (p : Pkt) : Ans := m.okData p.payload

/-- IDENT. -/
def opIdent (m : Mach) (p : Pkt) : Ans :=
  if p.len ≠ 0 then m.refuse LENGTH
  else m.okData (leBytes 4 (m.w .DEV_ID).toNat ++ leBytes 8 (m.q .DEV_SERIAL_LO) ++ leBytes 4 (m.w .DEV_FW).toNat ++
    leBytes 4 (m.w .DEV_ADDR).toNat ++ leBytes 4 (m.view (R.DEV_STATE.idx 0 0)).toNat ++ leBytes 8 (fieldAt m.pow.hostId 8 8) ++
    leBytes 8 m.frame ++ leBytes 8 (m.q .ZL_SYST_LO) ++ leBytes 1 (if m.roleOf p.src = 0 then 0xFF else m.roleOf p.src - 1) ++
    leBytes 3 0 ++ leBytes 4 (m.slotInfo (m.g F.DEV_FW_SLOT)).manid)

/-- SESSION_OPEN (R31, R32, R387). -/
def opSessionOpen (m : Mach) (p : Pkt) : Ans :=
  let r := p.n 0 1
  if p.len ≠ 12 then m.refuse LENGTH
  else if 2 < r ∨ p.n 1 3 ≠ 0 then m.refuse RANGE
  else if m.locked p.src then (m.hraise 0x0131 0x30 p.src (openArg 0x0131 1)).refuse LOCKOUT
  else if m.roleKey r = 0 ∨ p.n 4 8 ≠ m.roleKey r then (m.keyRefused p.src).refuse KEYREF
  else
    let m := match m.session p.src with
      | some j => m.closeSession j
      | none => m
    match (upTo 32).find? (fun j => !m.b F.ZL_SESS_VALID j) with
    | none => m.refuse BUSY
    | some j =>
      ((m.sw .ZL_SESS (Word.of (2 ^ 31 + r * 2 ^ 29 + p.src % 2 ^ 16)) j).hraise 0x1009 0x30 p.src r).okData
        (leBytes 1 r ++ leBytes 1 0 ++ leBytes 2 (m.g F.ZL_CFG_SESSTMO))

/-- SESSION_CLOSE. -/
def opSessionClose (m : Mach) (p : Pkt) : Ans :=
  if p.len ≠ 0 then m.refuse LENGTH
  else match m.session p.src with
    | some j => (m.closeSession j).ok
    | none => m.ok

/-- The requester of a packet. -/
def Pkt.who (p : Pkt) : Who := .host p.role p.src

/-- MARK: as a write of `DEV_CTL` (R28). -/
def opMark (m : Mach) (p : Pkt) : Ans :=
  if p.len ≠ 0 then m.refuse LENGTH else (m.regWrite p.who (R.DEV_CTL.idx 0 0) 0x5A5A0002).1.ok

/-- LINK_STATUS. -/
def opLinkStatus (m : Mach) (p : Pkt) : Ans :=
  if p.len ≠ 0 then m.refuse LENGTH
  else m.okData ([0x4801, 0x4802, 0x4803, 0x4806, 0x4807, 0x4808, 0x4809, 0x480A, 0x480B].map
    (fun i => leBytes 4 (m.view i).toNat)).flatten

/-- ROLE_KEY_SET from a source that need hold no role: the first commissioner key, from a host port of the own ring (R387). -/
def Mach.firstKey (m : Mach) (p : Pkt) : Bool :=
  !m.b F.DEV_ROLE_STAT_COM_SET && p.n 0 1 == 2 && bit p.src 15 && p.src / 64 % 16 == m.hxAddr / 64

/-- ROLE_KEY_SET: the key goes to the configuration set, and the role's sessions end if it changes. -/
def opRoleKeySet (m : Mach) (p : Pkt) : Ans :=
  let r := p.n 0 1
  if p.len ≠ 12 then m.refuse LENGTH
  else if 2 < r ∨ p.n 1 3 ≠ 0 then m.refuse RANGE
  else match m.genInForce 7 with
    | none => m.refuse WRONG_STATE
    | some b =>
      if fieldAt b (8 * r) 8 = p.n 4 8 then m.ok
      else
        let b := b.take (8 * r) ++ leBytes 8 (p.n 4 8) ++ b.drop (8 * r + 8)
        (each (upTo 32) ((m.genRewrite 7 b).showRoleKeys b) (fun m j =>
          if m.b F.ZL_SESS_VALID j ∧ m.g F.ZL_SESS_ROLE j = r then m.closeSession j else m)).ok

/-! ### Register opcodes (R388, R389) -/

/-- An index lies in the field domain. -/
def inField (i : Nat) : Bool := decide (i < 0x4400) || decide (0x8000 ≤ i)

/-- Indices that a REG_READ names. -/
def readIdxs (p : Pkt) : List Nat := (upTo (p.n 0 2)).map (fun k => p.n (4 + 2 * k) 2)

/-- Entries that a REG_WRITE names. -/
def writeEntries (p : Pkt) : List (Nat × Nat) := (upTo (p.n 0 2)).map (fun k => (p.n (4 + 8 * k) 2, p.n (8 + 8 * k) 4))

/-- Registers are read in order as one packet (R8, R23): the machine and the values. -/
def Mach.readAll (m : Mach) (who : Who) (l : List Nat) : Mach × List Byte :=
  let x := each l (m, ([] : List Byte)) (fun (a : Mach × List Byte) i =>
    let r := a.1.regRead who i
    (r.1, a.2 ++ leBytes 4 r.2.toNat))
  (x.1.dropLatches who, x.2)

/-- REG_READ. -/
def opRegRead (m : Mach) (p : Pkt) : Ans :=
  let n := p.n 0 2
  if n = 0 ∨ 1000 < n ∨ p.len ≠ 4 + 2 * n then m.refuse LENGTH
  else if p.n 2 2 ≠ 0 then m.refuse RANGE
  else
    let x := m.readAll p.who (readIdxs p)
    x.1.okData x.2

/-- REG_READ_RANGE. -/
def opRegReadRange (m : Mach) (p : Pkt) : Ans :=
  let a := p.n 0 2
  let n := p.n 2 2
  if p.len ≠ 4 ∨ n = 0 ∨ 1000 < n ∨ 65536 < a + n then m.refuse LENGTH
  else
    let x := m.readAll p.who ((upTo n).map (fun k => a + k))
    x.1.okData x.2

/-- What the words of a REG_WRITE have done: with effect, without, the first index without. -/
structure Effects where
  yes : Nat := 0
  no : Nat := 0
  first : Nat := 0
deriving DecidableEq, Repr

/-- One more word. -/
def Effects.add (x : Effects) (idx : Nat) (ok : Bool) : Effects :=
  if ok then { x with yes := x.yes + 1 } else { x with no := x.no + 1, first := if x.no = 0 then idx else x.first }

/-- Registers are written in packet order, those of the host domain before those of the field domain (R388); parameter cells have
been taken as a batch. -/
def Mach.writeAll (m : Mach) (who : Who) (es : List (Nat × Nat)) : Mach × Effects :=
  let w := fun (pick : Nat → Bool) (a : Mach × List (Nat × Bool)) =>
    each (es.filter (fun e => pick e.1)) a (fun (a : Mach × List (Nat × Bool)) e =>
      if 0x8000 ≤ e.1 then (a.1, a.2 ++ [(e.1, true)])
      else
        let r := a.1.regWrite who e.1 (Word.of e.2)
        (r.1, a.2 ++ [(e.1, r.2)]))
  let a := w (fun i => !isHostIdx i) (w isHostIdx (m.dropLatches who, []))
  let bad := fun i => a.2.any (fun p => p.1 == i && !p.2)
  let first := ((es.map (fun e => e.1)).find? bad).getD 0
  let x := a.2.foldl (fun (x : Effects) p => x.add p.1 p.2) {}
  (a.1.dropLatches who, { x with first := first })

/-- REG_WRITE (R388, R389). -/
def opRegWrite (m : Mach) (p : Pkt) : Ans :=
  let n := p.n 0 2
  let es := writeEntries p
  let sf := fun (e : Nat × Nat) => decide (0x2800 ≤ e.1) && decide (e.1 < 0x2C00)
  if (p.role < 3 ∨ !m.b F.DEV_ROLE_STAT_COM_SET) ∧ n ≤ 503 ∧ es.any sf then m.refuse ROLE
  else if n = 0 ∨ 503 < n ∨ p.len ≠ 4 + 8 * n then m.refuse LENGTH
  else if p.n 2 2 ≠ 0 ∨ (upTo n).any (fun k => p.n (6 + 8 * k) 2 != 0) then m.refuse RANGE
  else
    let cells := (es.filter (fun e => decide (0x8000 ≤ e.1))).map (fun e => (e.1 - 0x8000, sgn 32 e.2))
    let b : Ans := if cells.isEmpty then m.okData (leBytes 2 0) else m.batch none cells
    if b.2.1 = RANGE ∨ b.2.1 = LENGTH then m.refuse b.2.1
    else if es.any (fun e => sf e && e.1 != 0x2800) ∧ !m.editBy p.src then m.refuse WRONG_STATE
    else if m.inGap ∧ (!cells.isEmpty ∨ es.any (fun e => match regAt e.1 with
        | some (r, _) => r == .LP_PAGE
        | none => false)) then m.refuse BUSY
    else if b.2.1 ≠ OK then m.refuse b.2.1
    else
      let x := b.1.writeAll p.who es
      x.1.okData (leBytes 2 x.2.yes ++ leBytes 2 x.2.no ++ leBytes 2 x.2.first ++ b.2.2)

/-! ### The table of opcodes (R385) -/

/-- An opcode as the module knows it: the least role (R30), whether it needs the field domain, and what it does. -/
def Mach.opOf (m : Mach) (p : Pkt) : Option (Nat × Bool × (Mach → Pkt → Ans)) :=
  match p.op with
  | 0x00 => some (0, false, opNop)
  | 0x01 => some (0, false, opIdent)
  | 0x02 => some (0, false, opSessionOpen)
  | 0x03 => some (0, false, opSessionClose)
  | 0x04 => some (2, true, opMark)
  | 0x05 => some (1, false, opLinkStatus)
  | 0x06 => some (if m.firstKey p then 0 else 3, true, opRoleKeySet)
  | 0x10 => some (1, (readIdxs p).any inField, opRegRead)
  | 0x11 => some (1, inField (p.n 0 2) || inField (p.n 0 2 + p.n 2 2 - 1), opRegReadRange)
  | 0x12 => some (2, (writeEntries p).any (fun e => inField e.1), opRegWrite)
  | 0x20 => some (1, true, opPrgStatus)
  | 0x21 => some (1, true, opImgRead)
  | 0x22 => some (2, true, opParamBatch)
  | 0x23 => some (1, true, opParamRead)
  | 0x24 => some (2, true, opStnTest)
  | 0x25 => some (2, false, opImgPut)
  | 0x30 => some (1, false, opEvStatus)
  | 0x31 => some (1, false, opEvRead)
  | 0x32 => some (2, false, opEvClear)
  | 0x40 => some (1, true, opStmStatus)
  | 0x41 => some (1, false, opStmSubscribe)
  | 0x42 => some (2, true, opStmLoad)
  | 0x43 => some (2, true, opStmStop)
  | 0x44 => some (1, false, opStmFetch)
  | 0x50 => some (1, false, opUpdStatus)
  | 0x51 => some (2, false, opUpdBegin)
  | 0x52 => some (2, false, opUpdPut)
  | 0x53 => some (2, false, opUpdVerify)
  | 0x54 => some (2, false, opUpdLoad)
  | 0x55 => some (2, m.st != stBOOT, opUpdArm)
  | 0x56 => some (2, true, opUpdDisarm)
  | 0x57 => some (2, false, opUpdCancel)
  | 0x58 => some (2, true, opUpdRollback)
  | 0x59 => some (1, false, opUpdRead)
  | 0x5A => some (3, true, opUpdKeySet)
  | 0x60 => some (1, true, opSfStatus)
  | 0x61 => some (3, true, opEditOpen)
  | 0x62 => some (3, true, opSetLoad)
  | 0x63 => some (3, true, opEditCommit)
  | 0x64 => some (3, true, opEditAbort)
  | 0x65 => some (3, true, opConfirm)
  | 0x66 => some (1, true, opSetRead)
  | 0x67 => some (3, true, opInspectOn)
  | 0x68 => some (3, true, opInspectKeep)
  | 0x69 => some (3, true, opInspectOff)
  | 0x6A => some (3, true, opInspectCfg)
  | 0x70 => some (1, true, opDxStatus)
  | 0x71 => some (2, true, opDxSwitch)
  | 0x72 => some (2, true, opDxRestore)
  | 0x73 => some (1, true, opSprStatus)
  | 0x74 => some (2, true, opSprGraft)
  | 0x75 => some (2, true, opSprRelease)
  | 0x80 => some (1, false, opLgStatus)
  | 0x81 => some (1, false, opLgRead)
  | 0x82 => some (2, false, opCalSet)
  | 0x83 => some (3, false, opInspSet)
  | _ => none

/-- An opcode of its own row, executed now for a source: as its entry of the table says. -/
def runTable (op src seq : Nat) (payload : List Byte) (s : State) : Host.Outcome State Fault Refusal :=
  .next { s with m :=
    match s.m.opOf { src := src, seq := seq, op := op, role := s.m.roleOf src, payload := payload } with
    | some (need, field, f) => s.m.runOp op src seq payload need field f
    | none => s.m }

/-- NOP (R386). -/
def execNop (src seq : Nat) (payload : List Byte) (s : State) : Host.Outcome State Fault Refusal := runTable 0x00 src seq payload s

/-- IDENT (R386). -/
def execIdent (src seq : Nat) (payload : List Byte) (s : State) : Host.Outcome State Fault Refusal := runTable 0x01 src seq payload s

/-- SESSION_OPEN (R386, R387). -/
def execSessionOpen (src seq : Nat) (payload : List Byte) (s : State) : Host.Outcome State Fault Refusal :=
  runTable 0x02 src seq payload s

/-- SESSION_CLOSE (R386, R387). -/
def execSessionClose (src seq : Nat) (payload : List Byte) (s : State) : Host.Outcome State Fault Refusal :=
  runTable 0x03 src seq payload s

/-- MARK (R386, R28). -/
def execMarkOp (src seq : Nat) (payload : List Byte) (s : State) : Host.Outcome State Fault Refusal := runTable 0x04 src seq payload s

/-- LINK_STATUS (R386). -/
def execLinkStatus (src seq : Nat) (payload : List Byte) (s : State) : Host.Outcome State Fault Refusal :=
  runTable 0x05 src seq payload s

/-- ROLE_KEY_SET (R386, R387). -/
def execRoleKeySet (src seq : Nat) (payload : List Byte) (s : State) : Host.Outcome State Fault Refusal :=
  runTable 0x06 src seq payload s

/-- REG_READ (R388). -/
def execRegRead (src seq : Nat) (payload : List Byte) (s : State) : Host.Outcome State Fault Refusal := runTable 0x10 src seq payload s

/-- REG_READ_RANGE (R388). -/
def execRegReadRange (src seq : Nat) (payload : List Byte) (s : State) : Host.Outcome State Fault Refusal :=
  runTable 0x11 src seq payload s

/-- REG_WRITE (R388, R389). -/
def execRegWrite (src seq : Nat) (payload : List Byte) (s : State) : Host.Outcome State Fault Refusal := runTable 0x12 src seq payload s

/-! ### Commands applied in the field domain (R23) -/

/-- A request still waits for this packet's reply. -/
def Mach.waits (m : Mach) (p : Pkt) : Bool :=
  m.link.accepted.any (fun a => a.reply.isNone && a.pkt.src == p.src && a.pkt.seq == p.seq && a.pkt.op == p.op)

/-- One CMD message is applied, and its reply becomes an RPL message. A fault of the barrier port's frame-memory access stands in the
reply (R66). -/
def Mach.applyCmd (m : Mach) (x : BarMsg) : Mach :=
  match x.body with
  | .cmd p =>
    (match m.opOf p with
     | none => m.dropMsg x
     | some (need, _, f) =>
       let a := (m.dropMsg x).runRole p need false f
       let fault := a.1.mem.portFault
       let m : Mach := { a.1 with mem := { a.1.mem with portFault := false } }
       let r : Reply := { src := p.src, seq := p.seq, op := p.op, status := if fault then MEMFAULT else a.2.1,
                          data := if fault then [] else a.2.2 }
       if m.waits p then m.newMsg false tRPL (ceilDiv r.data.length 32) (.rpl r) else m)
  | _ => m

/-- Every CMD that had arrived before this frame began is applied, in order of arrival (R23). -/
def Mach.applyCmds (m : Mach) : Mach :=
  each (m.bar.cmds.filter (fun c => decide (c.2 ≤ m.frame))) m (fun m c =>
    match m.bar.msgs.find? (fun x => x.toField && x.typ == tCMD && x.num == c.1) with
    | some x => m.applyCmd x
    | none => m)

/-- CMD_MESSAGE (R23): commands that are due, before the engines of the frame begin their work. -/
def execCmdMessage (s : State) : Host.Outcome State Fault Refusal :=
  .next { s with m := if s.m.ticking && s.m.phase == .latch then s.m.applyCmds else s.m }

end Sys2Proof.Machine
end

