-- ==== Sys2Proof/Machine/Link.lean ====
section
/-! DEFINITION. The Zenxon Link (spec/17_zenxon_link.md, R366 to R383, R390): beacons, ports and wrap, requests and their order of
judgement, the reply cache, the uplink stream and the module's node slot. -/

namespace Sys2Proof.Machine

open Sys2Proof

/-! ### Ports, joining and wrap (R370, R377, R378, R391) -/

/-- CYCLE of the last valid beacon, the argument of the Link's events. -/
def Mach.cycleArg (m : Mach) : Nat := (m.w .ZL_CYCLE).toNat

/-- JOINED changes: its event. -/
def Mach.setJoined (m : Mach) (v : Bool) : Mach :=
  if m.b F.ZL_STAT_JOINED = v then m
  else (m.sb F.ZL_STAT_JOINED v).hraise (if v then 0x1000 else 0x1001) 0x30 (m.hxAddr / 64) m.cycleArg

/-- An input port is down. -/
def Mach.portDown (m : Mach) (x : Nat) : Bool := nth m.link.down x false

/-- The bit of `ZL_STAT` for an input port. -/
def portBit (x : Nat) : Fd := if x = 0 then F.ZL_STAT_PORTA else F.ZL_STAT_PORTB

/-- WRAP changes: its event with WRAPDIR. -/
def Mach.setWrap (m : Mach) (v : Bool) (dir : Nat) : Mach :=
  let was := m.b F.ZL_STAT_WRAP
  let m := if v then m.s F.ZL_STAT_WRAPDIR dir else m
  if was = v then m
  else
    (m.sb F.ZL_STAT_WRAP v).hraise (if v then 0x1002 else 0x1003) 0x30 (m.g F.ZL_STAT_WRAPDIR) m.cycleArg

/-- What the state of the two ports means: one down wraps the ring here, both down leave it (R377, R378). -/
def Mach.judgePorts (m : Mach) : Mach :=
  match m.portDown 0, m.portDown 1 with
  | true, false => m.setWrap true 0
  | false, true => m.setWrap true 1
  | true, true => (m.setWrap false 0).setJoined false
  | false, false => m

/-- A port's state changes: its bit and its event. -/
def Mach.showPort (m : Mach) (x : Nat) (up : Bool) : Mach :=
  let m := { m with link := { m.link with down := setNth false 2 m.link.down x (!up) } }
  (m.sb (portBit x) up).hraise (if up then 0x1005 else 0x1004) 0x30 x m.cycleArg

/-- PORT_DOWN (R377): port x has lost symbol lock for 1 µs, or has seen no valid beacon in two cycles. -/
def execPortDown (x : Nat) (lock : Bool) (s : State) : Host.Outcome State Fault Refusal :=
  .next { s with m :=
    let m := s.m
    if !m.hostUp || decide (2 ≤ x) || m.portDown x || !(lock || decide (2 ≤ nth m.link.missed x 0)) then m
    else
      let m : Mach := { m with link := { m.link with good := setNth 0 2 m.link.good x 0, match_ := setNth 0 2 m.link.match_ x 0 } }
      let m := if lock then m.sb F.ZL_PORT_LOCK false x else m
      (m.showPort x false).judgePorts }

/-- PORT_UP (R377): port x has held lock and seen valid beacons for 400 cycles. -/
def execPortUp (x : Nat) (s : State) : Host.Outcome State Fault Refusal :=
  .next { s with m :=
    let m := s.m
    if m.hostUp && decide (x < 2) && m.portDown x && decide (400 ≤ nth m.link.good x 0) then (m.showPort x true).judgePorts else m }

/-! ### Beacons (R368, R369) -/

/-- A beacon is valid: its length, MAGIC and CRC. -/
def beaconOk (b : List Byte) : Bool :=
  b.length == 64 && fieldAt b 0 4 == 0x4E424C5A && fieldAt b 60 4 == crc32c (b.take 60)

/-- One port sees its beacon of a cycle, or none: an empty list. -/
def Mach.portSees (m : Mach) (x : Nat) (b : List Byte) : Mach :=
  let k := m.link
  let ok := beaconOk b
  let same := ok && fieldAt b 4 1 == m.hxAddr / 64
  let m := if !ok && !b.isEmpty then m.inc F.ZL_PORT_CRCERR 0xFFFF x else m
  let m := m.sb F.ZL_PORT_BEACON ok x
  let m := if ok then m.sb F.ZL_PORT_LOCK true x else m
  let k := { k with missed := setNth 0 2 k.missed x (if ok then 0 else nth k.missed x 0 + 1),
                    good := setNth 0 2 k.good x (if ok then nth k.good x 0 + 1 else 0),
                    match_ := setNth 0 2 k.match_ x (if same then nth k.match_ x 0 + 1 else 0) }
  let m := { m with link := k }
  if ok && !m.portDown x && !m.b (portBit x) then m.showPort x true else m

/-- The delays of R369 from 16 consecutive cycles with both beacons valid outside wrap. -/
def Mach.delays (m : Mach) (a b : List Byte) (ta tb : Nat) : Mach :=
  if beaconOk a && beaconOk b && !bit (fieldAt a 5 1) 1 then
    let c := fieldAt a 8 4
    let loop := fieldAt a 12 4
    let d : Int := (ta : Int) - tb + loop
    let old := match m.link.delays.getLast? with
      | some p => if (p.1 + 1) % 2 ^ 32 = c then m.link.delays else []
      | none => []
    let l := (old ++ [(c, d)]).drop (old.length - 15)
    let m := { m with link := { m.link with delays := l } }
    if l.length < 16 then m
    else
      let da := rndDiv (l.foldl (fun (x : Int) p => x + p.2) 0) 32
      (m.s F.ZL_DLY_DA da.toNat).s F.ZL_DLY_DB ((loop : Int) - da).toNat
  else { m with link := { m.link with delays := [] } }

/-- The beacon that a cycle uses and the port it came in on: ring A's, or ring B's where it is not valid; in wrap, that of the first
passage (R369, R377). -/
def beaconUsed (a b : List Byte) (ta tb : Nat) : Option (List Byte × Nat) :=
  match beaconOk a, beaconOk b with
  | true, true => if bit (fieldAt a 5 1) 1 && decide (tb < ta) then some (b, 1) else some (a, 0)
  | true, false => some (a, 0)
  | false, true => some (b, 1)
  | false, false => none

/-- The beacons of a TDMA cycle, as they arrive on A-in and B-in with the times of their first bytes in ns (R369, R370, R378). -/
def Mach.beacon (m : Mach) (a b : List Byte) (ta tb : Nat) : Mach :=
  let m := ((m.portSees 0 a).portSees 1 b).delays a b ta tb
  match beaconUsed a b ta tb with
  | none => m
  | some (u, x) =>
    let cyc := fieldAt u 8 4
    let m := m.s F.ZL_CYCLE cyc
    let m := { m with link := { m.link with ringWrap := bit (fieldAt u 5 1) 1 } }
    let m := m.sb F.ZL_STAT_TVALID (bit (fieldAt u 5 1) 0)
    let syst := fieldAt u 16 8 + (if x = 0 then m.g F.ZL_DLY_DA else m.g F.ZL_DLY_DB)
    let m : Mach := { m.sq .ZL_SYST_LO syst with link := { m.link with bcn := some (syst, if x = 0 then ta else tb) } }
    let m := if cyc % 16 = 0 ∧ !m.portDown 0 ∧ !m.portDown 1 then m.setWrap false 0 else m
    let seen := (upTo 2).any (fun p => !m.portDown p && decide (4 ≤ nth m.link.match_ p 0))
    if seen && m.hxAddr != 0x3FF then m.setJoined true else m

/-- BEACON (R369): the beacons of one cycle; an empty list where a port receives none. -/
def execBeacon (a b : List Byte) (ta tb : Nat) (s : State) : Host.Outcome State Fault Refusal :=
  .next { s with m := if s.m.hostUp then s.m.beacon a b ta tb else s.m }

/-! ### Requests (R379 to R382) -/

/-- The entries of the cache younger than 60 s. -/
def Mach.youngCache (m : Mach) : List CacheE := m.link.cache.filter (fun c => decide (m.log.sec < c.at_ + 60))

/-- The cache after a change shows its size. -/
def Mach.setCache (m : Mach) (l : List CacheE) : Mach := { m with link := { m.link with cache := l } }.s F.ZL_CACHE_ENTRIES l.length

/-- A reply has been sent: it is kept for its source, but for LOST and for the BUSY of a full cache; a full cache gives up its oldest entry once that is 60 s old
(R382). -/
def Mach.cacheReply (m : Mach) (r : Reply) (keep : Bool) : Mach :=
  let e : CacheE := { reply := r, at_ := m.log.sec }
  let l := m.link.cache.filter (fun c => c.reply.src != r.src)
  if r.status = LOST ∨ !keep then m
  else if l.length < 256 then m.setCache (l ++ [e])
  else match l with
    | o :: rest => if o.at_ + 60 ≤ m.log.sec then m.setCache (rest ++ [e]) else m
    | [] => m

/-- A request from a source without an entry finds the cache full of young replies (R382). -/
def Mach.cacheFull (m : Mach) (src : Nat) : Bool :=
  decide (256 ≤ m.youngCache.length) && !m.link.cache.any (fun c => c.reply.src == src)

/-- A request is still being executed, or its reply waits to leave (R382). -/
def Mach.underWay (m : Mach) (p : Pkt) : Bool := m.link.accepted.any (fun a => a.pkt.src == p.src && a.pkt.seq == p.seq)

/-- A cached reply to this request, if there is one. -/
def Mach.cachedFor (m : Mach) (p : Pkt) : Option CacheE :=
  m.link.cache.find? (fun c => c.reply.src == p.src && c.reply.seq == p.seq)

/-- Steps 5 to 10 of R380: a command that needs the field domain crosses the barrier as a CMD message, whose cells carry the packet's
payload alone (R18, R476; assumption 38); any other is executed now. -/
def Mach.perform (m : Mach) (p : Pkt) : Mach :=
  match m.opOf p with
  | none => (m.accept p).answer p.src p.seq p.op UNKNOWN []
  | some (need, field, f) =>
    if need ≤ p.role && field && m.fieldReach then
      (m.accept p).newMsg true tCMD (ceilDiv p.payload.length 32) (.cmd p)
    else
      let a := (m.accept p).runRole p need field f
      a.1.answer p.src p.seq p.op a.2.1 a.2.2

/-- A broadcast request (R381): only MARK and CAL_SET, without a reply. -/
def Mach.broadcast (m : Mach) (p : Pkt) : Mach :=
  if p.op = 0x04 ∨ p.op = 0x82 then
    (match m.opOf p with
     | some (need, field, f) =>
       if p.role < need then m
       else if field then (if m.fieldReach then m.newMsg true tCMD (ceilDiv p.payload.length 32) (.cmd p) else m)
       else (m.runRole p need field f).1
     | none => m)
  else m

/-- A request with a good CRC addressed to the module or to all (R380 from step 3 on). -/
def Mach.request (m : Mach) (b : List Byte) : Mach :=
  let p := reqOf b
  if p.src < 0x8000 ∨ fieldAt b 11 1 ≠ 0 then m.hraise 0x1008 0x30 p.src p.op
  else
    let m := m.touch p.src
    let p := { p with role := m.roleOf p.src }
    if fieldAt b 4 2 = 0x3FF then m.broadcast p
    else if m.underWay p then m.inc F.ZL_DN_DUPREQ 0xFFFF
    else match m.cachedFor p with
      | some c =>
        let m := (m.inc F.ZL_DN_DUPREQ 0xFFFF).inc F.ZL_CACHE_HITS 0xFFFF
        { m with link := { m.link with accepted := m.link.accepted ++ [({ pkt := p, reply := some c.reply, cached := true } : Waiting)] } }
      | none =>
        if m.cacheFull p.src then
          let r : Reply := { src := p.src, seq := p.seq, op := p.op, status := BUSY }
          { m with link := { m.link with accepted := m.link.accepted ++ [({ pkt := p, reply := some r, keep := false } : Waiting)] } }
        else m.perform p

/-- The module takes part in the ring: joined, and no second module with its address (R370). -/
def Mach.onRing (m : Mach) : Bool := m.hostUp && m.b F.ZL_STAT_JOINED && !m.b F.ZL_STAT_DUP

/-- Packet j of the downlink arrives as one copy on each ring (R371, R372, R380 steps 1 and 2). -/
def Mach.packet (m : Mach) (j : Nat) (a b : List Byte) : Mach :=
  let m := if !reqOk a && !a.isEmpty then m.inc F.ZL_PORT_CRCERR 0xFFFF 0 else m
  let m := if !reqOk b && !b.isEmpty then m.inc F.ZL_PORT_CRCERR 0xFFFF 1 else m
  let u := if reqOk a then a else b
  if !reqOk u then m.inc F.ZL_DN_BADPKT 0xFFFF
  else if fieldAt u 4 2 = m.hxAddr ∨ fieldAt u 4 2 = 0x3FF then
    { m with link := { m.link with dack := setBit m.link.dack j true } }.request u
  else m

/-- The module acts on requests: it has joined (R370, R381); a module that found its address twice only stays silent. -/
def Mach.listens (m : Mach) : Bool := m.hostUp && m.b F.ZL_STAT_JOINED

/-- REQUEST_PACKET (R380): packet j of a downlink slot, as it arrives on ring A and on ring B. -/
def execRequestPacket (j : Nat) (a b : List Byte) (s : State) : Host.Outcome State Fault Refusal :=
  .next { s with m := if s.m.listens && decide (j < 16) then s.m.packet j a b else s.m }

/-! ### The uplink stream (R374, R376) -/

/-- The next packet of the stream, if one is ready: the oldest request's reply, else the oldest unsolicited packet. -/
def Mach.nextPacket (m : Mach) : Option (Mach × List Byte) :=
  let notice := match m.link.unsol with
    | u :: rest => some ({ m with link := { m.link with unsol := rest } }, u)
    | [] => none
  match m.link.accepted with
  | a :: rest =>
    (match a.reply with
     | some r => some (({ m with link := { m.link with accepted := rest } }).cacheReply r a.keep, replyBytes m.hxAddr r a.cached)
     | none => notice)
  | [] => notice

/-- Bytes of the stream for a fragment: the rest of the packet being sent, then packets back to back; how many packets have bytes
in it. -/
def Mach.fillFrag : Nat → Mach → Nat → List Byte → Nat → Mach × List Byte × Nat
  | 0, m, _, acc, n => (m, acc, n)
  | fuel + 1, m, room, acc, n =>
    if room = 0 then (m, acc, n)
    else if m.link.cur.isEmpty then
      (match m.nextPacket with
       | none => (m, acc, n)
       | some (m, b) =>
         let m : Mach := { m with link := { m.link with cur := b.drop room } }
         Mach.fillFrag fuel m (room - b.length) (acc ++ b.take room) (n + 1))
    else
      let b := m.link.cur
      let m : Mach := { m with link := { m.link with cur := b.drop room } }
      Mach.fillFrag fuel m (room - b.length) (acc ++ b.take room) (n + 1)

/-- The fragment size S (R374). -/
def Mach.share (m : Mach) : Nat := if m.b F.ZL_STAT_GROUP then 8 else 56

/-- The downlink's ACK bit for the fragment sent in the last cycle (R376). -/
def Mach.ackFrag (m : Mach) (ack : Bool) : Mach :=
  match m.link.frag with
  | none => m
  | some f =>
    if ack then { m with link := { m.link with frag := none, fseq := !m.link.fseq } }
    else if f.sends < 3 then m
    else
      let m : Mach := { m with link := { m.link with frag := none, cur := [], resync := true } }
      (m.inc F.ZL_UP_ABANDON 0xFFFF).hraise 0x1007 0x30 f.packets m.cycleArg

/-- The fragment of this cycle: the one not yet acknowledged again, or the next of the stream. -/
def Mach.loadFrag (m : Mach) : Mach :=
  match m.link.frag with
  | some f => { m with link := { m.link with frag := some { f with sends := f.sends + 1 } } }.inc F.ZL_UP_RESENT 0xFFFF
  | none =>
    let x := m.fillFrag 8 m.share [] 0
    let k := x.1.link
    if x.2.1.isEmpty then x.1
    else
      let f : Frag := { bytes := x.2.1, resync := k.resync, sends := 1, packets := x.2.2 }
      { x.1 with link := { k with frag := some f, resync := false } }

/-! ### The node slot (R372, R373) -/

/-- Bytes 320 to 383 of a node slot, after its ingot. -/
def slotTail (node : Nat) (g : Bool) (f : Frag) (fseq : Bool) (dack : Nat) (own : List Byte) : List Byte :=
  let share := if g then sliceB own 0 48 ++ sliceB f.bytes 0 8 else sliceB f.bytes 0 56
  let b := leBytes 1 (node + 64 * b2n g) ++ leBytes 1 (f.bytes.length % 64 + 64 * b2n f.resync + 128 * b2n fseq) ++
    leBytes 2 dack ++ share
  b ++ leBytes 4 (crc32c b)

/-- The module's node (R370). -/
def Mach.node (m : Mach) : Nat := m.hxAddr % 64

/-- The ingot of this cycle: the oldest of the live queue, or a fill ingot (R339, R331). -/
def Mach.slotIngot (m : Mach) : Mach × List Byte :=
  match m.aq.live with
  | b :: rest => ({ m with aq := { m.aq with live := rest, sent := ingotSeq b } }, b)
  | [] => ({ m with aq := { m.aq with fills := m.aq.fills + 1 } }, fillIngot m.aq.sent (m.g F.AQ_STAT_CFGID))

/-- The content of the module's slot in this cycle is fixed (R367). -/
def Mach.fixSlot (m : Mach) : Mach :=
  if !m.onRing then { m with link := { m.link with slot := [] } }
  else
    let i := m.slotIngot
    let m := i.1.loadFrag
    let t := slotTail m.node (m.b F.ZL_STAT_GROUP) (m.link.frag.getD { resync := m.link.resync }) (!m.link.fseq) m.link.dack
      (if m.scan.groups.group = 0 then [] else m.scan.groups.own)
    { m with link := { m.link with slot := i.2 ++ t } }

/-- The header of a downlink slot holds (R371). -/
def headerOk (b : List Byte) : Bool := decide (48 ≤ b.length) && fieldAt b 44 4 == crc32c (b.take 44)

/-- Packet j of a downlink slot, as bytes; none where the slot was not received. -/
def slotPacket (b : List Byte) (o : Nat) : List Byte := if b.isEmpty then [] else sliceB b o (fieldAt b (o + 2) 2 % 4096 + 16)

/-- A host downlink slot has passed, as it arrived on each ring (R371, R372, R376): ACK, packets, then the node slot is fixed. -/
def Mach.downlink (m : Mach) (a b : List Byte) : Mach :=
  let m := if !headerOk a && !a.isEmpty then m.inc F.ZL_PORT_CRCERR 0xFFFF 0 else m
  let m := if !headerOk b && !b.isEmpty then m.inc F.ZL_PORT_CRCERR 0xFFFF 1 else m
  let m := { m with link := { m.link with dack := 0 } }
  let u := if headerOk a then a else b
  let m := m.ackFrag (headerOk u && bit (fieldAt u 0 8) m.node)
  let m := if headerOk u && m.listens then
      each (upTo (min 16 (fieldAt u 8 2))) m (fun m j =>
        if m.listens then m.packet j (slotPacket a (fieldAt u (12 + 2 * j) 2)) (slotPacket b (fieldAt u (12 + 2 * j) 2)) else m)
    else m
  m.fixSlot

/-- DOWNLINK_SLOT (R371): the slot as received on ring A and on ring B, an empty list where nothing was received. -/
def execDownlinkSlot (a b : List Byte) (s : State) : Host.Outcome State Fault Refusal :=
  .next { s with m := if s.m.hostUp then s.m.downlink a b else s.m }

/-- The module's own slot passes before it writes it (R370): a byte 320 other than 0xFF outside wrap shows a second module. -/
def Mach.ownSlot (m : Mach) (second : Bool) (bytes : List Byte) : Mach :=
  if second || m.link.ringWrap || m.b F.ZL_STAT_WRAP || !m.onRing || fieldAt bytes 320 1 == 0xFF then m
  else
    let m := (m.sb F.ZL_STAT_DUP true).hraise 0x1006 0x30 m.hxAddr m.cycleArg
    { m with link := { m.link with slot := [] } }

/-- Another node's slot passes: its group record is taken where its GROUP is the module's own; one whose group table CRC
differs is ignored with an event (R210, R373). The event's machine is the lowest one of the group (assumption 9). -/
def Mach.peerSlot (m : Mach) (k ring : Nat) (bytes : List Byte) : Mach :=
  if bytes.length != 384 || fieldAt bytes 380 4 != crc32c (sliceB bytes 320 60) then m.inc F.ZL_PORT_CRCERR 0xFFFF ring
  else
    let rec_ := sliceB bytes 324 48
    let g := m.scan.groups
    if !bit (fieldAt bytes 320 1) 6 || g.group == 0 || fieldAt rec_ 0 2 != g.group then m
    else if fieldAt rec_ 4 4 != g.crc then
      m.raise 0x0904 m.apSrc (((upTo 8).find? (fun i => (m.mach i).group == g.group)).getD 0) (Config.eventArg 0x0904 1)
    else
      let addr := m.hxAddr / 64 * 64 + k
      { m with scan := { m.scan with groups := { g with
          recs := g.recs.filter (fun r => r.1 != addr) ++ [(addr, m.cycleArg, rec_)] } } }

/-- NODE_SLOT_PASS (R372): node slot k passes on a ring (0 A, 1 B), at the second passage of a wrapped ring or not, with these bytes. -/
def execNodeSlotPass (k ring : Nat) (second : Bool) (bytes : List Byte) (s : State) : Host.Outcome State Fault Refusal :=
  .next { s with m :=
    let m := s.m
    if !m.hostUp || decide (64 ≤ k) || decide (2 ≤ ring) then m
    else if k = m.node then m.ownSlot second bytes
    else m.peerSlot k ring bytes }

end Sys2Proof.Machine
end

