-- ==== Sys2Proof/Machine/Frames.lean ====
section
/-! DEFINITION. The three points of a frame (spec/02_the_frame.md, R35 to R41): the tick with the latch phase, the end of
latch with the engines' work, and the commit point. What each holds: spec/95_what_each_step_holds.md. -/

namespace Sys2Proof.Machine

open Sys2Proof

/-! ### The tick and the latch phase -/

/-- LF at the tick (`PWR_LF`, `PWR_STAT.LFOK`). -/
def Mach.lfTick (m : Mach) (lf : Nat) : Mach :=
  let v := min 0xFFFF lf
  let m := (m.sb F.PWR_STAT_LFOK (decide (18000 ≤ lf))).s F.PWR_LF_LFV v
  if v < m.g F.PWR_LF_LFMIN then m.s F.PWR_LF_LFMIN v else m

/-- `LOCK` 1 from the configuration set is judged at the first tick as a write would be (R45). -/
def Mach.lockFirst (m : Mach) : Mach :=
  if m.b F.FRM_CTL_LOCK then (m.sb F.FRM_CTL_LOCK false).writeLock true else m

/-- What changes hands at a tick: an activation (R404), then fail-over, take-back and HELD (R292, R294, R295), then planned
grafts (R301); R442 gives the order. -/
def Mach.changesTick (m : Mach) (apDur : Nat) : Mach :=
  let m := if m.upd.newScan then m else m.activate
  let m := ((m.failOver apDur).changeSide).heldEntry
  (m.plansDue.tbCount).showSides

/-- What the units do at cycle 0. -/
def Mach.unitsTick (m : Mach) (o : FrameIn) (first : Bool) : Mach :=
  let m := (adcTick (refTick m o.refIn o.avsLim) first).sb F.AQ_STAT_RUN true
  let m := memTick m o.upsets o.served
  busTick (spTick (pwmTick m first)) first

/-- The terminal supplies and visited terminals are converted, then the terminals are sampled (R73). -/
def Mach.terminalsTick (m : Mach) (o : FrameIn) : Mach :=
  let (m, osv) := m.termConvs o.vint o.osv o.osvAlt []
  let (m, tv) := m.termConvs o.vint o.tv o.tvAlt []
  trmTick m o.raw osv tv

/-- The samples of cycle 960 and the harvest of cycle 1,160 (R73, R97, R107, R218). -/
def Mach.latchSamples (m : Mach) (o : FrameIn) : Mach :=
  let m := (m.at 960).terminalsTick o
  let m := epTick (spLatch m o.si o.hsNode o.lsNode o.sosMv) o.amp o.spCap
  adcHarvest (m.at 1160)

/-- The tick of frame n with what its latch phase samples (R35). -/
def Mach.frameTick (m : Mach) (o : FrameIn) : Mach :=
  let first := m.st == stFIELD_START && !m.b F.FRM_STAT_RUN
  if first || (m.ticking && m.phase == .staging) then
    let m := (m.tickTime first).lfTick o.lf
    let m := if first then m.lockFirst else m
    ((m.changesTick o.apDur).unitsTick o first).latchSamples o
  else m

/-- FRAME_TICK (R35): staged outputs take effect, the counter increments, the latch phase samples `o`. -/
def execFrameTick (o : FrameIn) (s : State) : Host.Outcome State Fault Refusal := .next { s with m := s.m.frameTick o }

/-! ### Whose work is whose -/

/-- The loop or motion engine index whose slots or axes engine e runs: its own, unless its spare stands in, which then runs
them (R16, R129, R150). -/
def Mach.serves (m : Mach) (e : Nat) : Option Nat :=
  if e = 11 ∨ e = 16 then (if m.sprSt e = 2 then some (m.sprFor e) else none)
  else if 3 ≤ e ∧ e ≤ 15 then
    (if m.sprSt (spareOf e) = 2 ∧ m.sprFor (spareOf e) = classIdx e then none else some (classIdx e))
  else none

/-- PWM groups that the vector slots of loop engine k drive. -/
def Mach.loopGroups (m : Mach) (k : Nat) : List Nat :=
  (((upTo 32).map (fun i => 32 * k + i)).filter (fun s => m.slotType s == 2)).map (fun s => m.g F.LP_VEC_GROUP s)

/-- PWM groups that the step axes of motion generator k drive. -/
def Mach.axisGroups (m : Mach) (k : Nat) : List Nat :=
  (((upTo 8).map (fun i => 8 * k + i)).filter (fun a => m.axisType a == 2)).map (fun a => m.g F.MG_STEP_CFG_GROUP a)

/-- PWM groups that engine e drives. -/
def Mach.groupsOf (m : Mach) (e : Nat) : List Nat :=
  match m.serves e with
  | some k => if e ≤ 11 then m.loopGroups k else m.axisGroups k
  | none => []

/-- Registers that the frame work of engine e writes: its block, and EN and compares of its groups. -/
def Mach.worksReg (m : Mach) (e idx : Nat) : Bool :=
  let inside (lo n : Nat) : Bool := decide (lo ≤ idx) && decide (idx < lo + n)
  if e = 2 then inside 0x2800 0x400
  else if e = 17 then inside (R.AQ_CTL.idx 0 0) 0x400
  else
    match m.serves e with
    | some k =>
      inside (if e ≤ 11 then 0x1000 + 512 * k else 0x2000 + 512 * k) 512 ||
      (m.groupsOf e).any (fun g => idx == R.PWM_GRP_CTL.idx g 0 || (upTo 4).any (fun j => idx == R.PWM_CMP.idx g j))
    | none => false

/-- Signal cells that engine e writes (R126). -/
def Mach.worksCell (m : Mach) (e n : Nat) : Bool :=
  match m.serves e with
  | some k => if e ≤ 11 then n / 128 == 2 + k && decide (k < 8) else n / 64 == 20 + k && decide (k < 4)
  | none => false

/-- Registers that differ between two states: index, first value, bits that differ. -/
def changedRegs (a b : Mach) : List (Nat × Word × Word) :=
  let mine := (b.reg.filter (fun p => a.word p.1 != p.2)).map (fun p => (p.1, a.word p.1, a.word p.1 ^^^ p.2))
  let gone := (a.reg.filter (fun p => !b.reg.any (fun q => q.1 == p.1) && b.word p.1 != p.2)).map
    (fun p => (p.1, p.2, p.2 ^^^ b.word p.1))
  mine ++ gone

/-- What R40 may have to put back, before the engines' frame work; its registers are known after it. -/
def Mach.takeSnap (m : Mach) : Mach :=
  let sn : Snap := { fresh := m.fresh, slots := m.slots, written := m.pwm.map (fun x => x.written), axes := m.axes, evs := m.bar.evq }
  { m with snap := sn, spSnap := m.sp, aqSnap := m.aq }

/-! ### The end of latch -/

/-- The frame work of an LE or MG that runs (R129, R150, R157). -/
def engineWork (m : Mach) (e : Nat) : Mach :=
  if !m.engRuns e then m
  else
    match m.serves e with
    | some k => if e ≤ 11 then loopFrame m k else motionFrame m k
    | none => m

/-- The engines' frame work from the end of latch; `t` is the SP's time in µs. The registers it changes are kept for R40. -/
def Mach.frameWork (m : Mach) (t : Nat) : Mach :=
  let m0 := (if m.engRuns 17 then m.aqDue else m).takeSnap
  let m := spFrame m0 t
  let m := { m with spAfter := m.sp }
  let m := each (List.range' 3 14) m engineWork
  let m := aqFrame m
  { m with snap := { m.snap with reg := changedRegs m0 m } }

/-- The input images of the frame are published (R35, R36). -/
def Mach.publishAll (m : Mach) : Mach := pwmLatch (epPublish (adcPublish (trmPublish m.publishFresh.publishStage)))

/-- Time limits of the SP are judged with its time at this end of latch (R249, R256, R436). -/
def Mach.spClocks (m : Mach) (t : Nat) : Mach :=
  let t0 := m.sp.t
  let m := ({ m with sp := { m.sp with t := max t t0 } }).spTimeouts
  { m with sp := { m.sp with t := t0 } }

/-- The end of latch (R35): images with their checks, host commands (R23; R437: a command counts with the inputs of its end
of latch), stations, the scan's input image, frame-triggered DMA, the engines. In POWER_FAIL the engines finish the frame, and no
command is applied any more (R428). -/
def Mach.endOfLatch (m : Mach) (t : Nat) (torn : List (Nat × Nat)) : Mach :=
  if m.b F.FRM_STAT_RUN && m.phase == .latch then
    let m := trmChecks (m.at 1200).publishAll
    let m := if m.st = stPOWER_FAIL then m else m.applyCmds.rearmDue
    let m := stnInputs (m.spClocks t) torn
    let m := m.latchImage m.inspWord torn
    let m := each (upTo 32) m dmaFrame
    { (m.frameWork t).shutStep with phase := .window }
  else m

/-- END_OF_LATCH (R35): `t` is the SP's time in µs, `torn` are buffers whose live reads are torn (R315). -/
def execEndOfLatch (t : Nat) (torn : List (Nat × Nat)) (s : State) : Host.Outcome State Fault Refusal :=
  .next { s with m := s.m.endOfLatch t torn }

/-! ### Overruns at the commit point (R40) -/

/-- Settings that an abandoned frame work noted are dropped. -/
def Mach.dropSets (m : Mach) (p : Nat → Bool) : Mach := { m with sets := m.sets.filter (fun x => !p x.idx) }

/-- The register bits that engine e's frame work changed stand again as before it. -/
def Mach.putBack (m : Mach) (e : Nat) : Mach :=
  each (m.snap.reg.filter (fun p => m.worksReg e p.1)) m (fun m p =>
    m.setWord p.1 ((m.word p.1 &&& ~~~p.2.2) ||| (p.2.1 &&& p.2.2)))
    |>.dropSets (m.worksReg e)

/-- The events of engine e's frame work are discarded. -/
def Mach.dropEvents (m : Mach) (e : Nat) : Mach :=
  let mine (v : Ev) : Bool :=
    v.src == e && v.frame == m.frame && v.sub == stampWord m.L 1200 && !m.snap.evs.contains v
  { m with bar := { m.bar with evq := m.bar.evq.filter (fun v => !mine v) } }

/-- Cells and staged registers that engine e computed are discarded. -/
def Mach.dropResults (m : Mach) (e : Nat) : Mach :=
  let fresh := m.fresh.filter (fun p => !m.worksCell e p.1) ++ m.snap.fresh.filter (fun p => m.worksCell e p.1)
  { m with fresh := each fresh [] (fun l p => smIns (smDel l p.1) p.1 p.2), stage := m.stage.filter (fun p => !m.worksReg e (p.1 % 0x10000)) }

/-- One slot stands as before the frame; a page check goes on. -/
def slotBack (m : Mach) (s : Nat) : Mach :=
  m.setSlot s { smGet (fun _ => ({} : Slot)) m.snap.slots s with chk := (m.slot s).chk }

/-- One axis stands as before the frame; a target or query written since then stays. -/
def axisBack (m : Mach) (a : Nat) : Mach :=
  let x := m.axis a
  let o := smGet (fun _ => ({} : Axis)) m.snap.axes a
  let q := x.query || o.query
  let m := if q then m.s F.MG_QRES_VALID 0 a else m
  m.setAxis a { o with tgt := if x.tgt.isSome then x.tgt else o.tgt, query := q, refAgain := x.refAgain || o.refAgain }

/-- Which compares of a group count as written in this frame, as before the engine's work (R118). -/
def groupBack (m : Mach) (g : Nat) : Mach := m.setGrp g { m.grp g with written := nth m.snap.written g 0 }

/-- The frame work of an LE or MG is abandoned: its slots or axes and its outputs stand as before. -/
def Mach.lemgBack (m : Mach) (e : Nat) : Mach :=
  let gs := m.groupsOf e
  let m := (m.putBack e).dropResults e
  let m := each gs m groupBack
  match m.serves e with
  | some k =>
    if e ≤ 11 then each ((upTo 32).map (fun i => 32 * k + i)) m slotBack
    else each ((upTo 8).map (fun i => 8 * k + i)) m axisBack
  | none => m

/-- What the frame work left and nothing has changed since goes back to what stood before it. -/
def undo {α : Type} [DecidableEq α] (now after before : α) : α := if now = after then before else now

/-- A pair after its frame work is abandoned: now, after the work, before it. -/
def pairBack (x a o : PairS) : PairS :=
  { x with cmd := undo x.cmd a.cmd o.cmd, edm := undo x.edm a.edm o.edm, dev := undo x.dev a.dev o.dev,
           found := undo x.found a.found o.found }

/-- A channel: what an assay cycle's end has changed since stays. -/
def monBack (x a o : Mon) : Mon :=
  { o with seenBad := undo x.seenBad a.seenBad o.seenBad, seenAgree := undo x.seenAgree a.seenAgree o.seenAgree,
           seenEnc := undo x.seenEnc a.seenEnc o.seenEnc, cleanDiv := undo x.cleanDiv a.cleanDiv o.cleanDiv,
           cleanEnc := undo x.cleanEnc a.cleanEnc o.cleanEnc }

/-- A function: what a command since has changed stays. -/
def fnBack (x a o : FnS) : FnS :=
  { o with behind := undo x.behind a.behind o.behind, outAt := undo x.outAt a.outAt o.outAt }

/-- The SP's frame work is abandoned: channels, functions, causes, pairs, the supply switch and inspection stand as before; the
staged commands hold (R218). -/
def Mach.spBack (m : Mach) : Mach :=
  let o := m.spSnap
  let a := m.spAfter
  let s := m.sp
  let mons := (upTo 8).map (fun i => monBack (nth s.mons i {}) (nth a.mons i {}) (nth o.mons i {}))
  let fns := (upTo 32).map (fun i => fnBack (nth s.fns i {}) (nth a.fns i {}) (nth o.fns i {}))
  let s : Sp := { s with t := o.t, mons := mons, fns := fns, insp := o.insp, tpFail := o.tpFail, tpPass := o.tpPass }
  let s : Sp := { s with c2 := undo s.c2 a.c2 o.c2, tripped := undo s.tripped a.tripped o.tripped, test := undo s.test a.test o.test }
  let s : Sp := { s with pulse := if s.pulse.isSome then s.pulse else o.pulse, dips := s.dips ||| o.dips }
  let s : Sp := { s with pairs := (upTo 8).map (fun i => pairBack (nth s.pairs i {}) (nth a.pairs i {}) (nth o.pairs i {})) }
  { (m.putBack 2) with sp := s }

/-- AQ's streams stand as at the start of the frame. -/
def Mach.aqBack (m : Mach) : Mach :=
  let o := m.aqSnap
  let a : Aq := { m.aq with s := o.s, t := o.t, ops := o.ops, seq := o.seq, closed := o.closed }
  { (m.putBack 17) with aq := a }

/-- Engine e has overrun: its frame work is abandoned, then the counters and events of R40 and R41. -/
def Mach.abandonWork (m : Mach) (e : Nat) : Mach :=
  let m := m.dropEvents e
  let m :=
    if e = 2 then m.spBack
    else if e = 17 then m.aqBack.aqLost 1
    else if 3 ≤ e then m.lemgBack e
    else m
  m.overrun e

/-- What an engine that is on time commits: the toggled halves of its state records (R146, R181). -/
def Mach.commitWork (m : Mach) (e : Nat) : Mach :=
  match m.serves e with
  | some k => if e ≤ 11 then loopCommit m k else motionCommit m k
  | none => m

/-- Engine e overruns this frame: it is not done by the commit point, 400 cycles before the next tick, or a double-bit error of its access ended its work (R39, R66). -/
def Mach.late (m : Mach) (fin : List (Option Nat)) (e : Nat) : Bool :=
  m.mem.forceOvr.contains e ||
  (match nth fin e none with
   | some c => decide (m.curLen - 1600 < c)
   | none => true)

/-- The done flag of engine e is sampled (R39, R40). -/
def judgeEngine (fin : List (Option Nat)) (m : Mach) (e : Nat) : Mach :=
  if !m.frameBound e then m
  else if m.late fin e then m.abandonWork e
  else (m.onTime e ((nth fin e none).getD 0)).commitWork e

/-! ### The commit point -/

/-- Faults that frame-memory accesses of this frame left for the commit point (R66, R67). -/
def Mach.memFaults (m : Mach) : Mach :=
  let k := m.mem
  let m := each k.stateFail m (fun m e => m.engineFails e)
  let m := each k.apFault m (fun m x => m.sideFault x 3)
  let m := if k.aqFault = 1 then (if m.ovrAt.contains (17, m.frame) then m else m.aqBack.aqLost 2) else if k.aqFault = 2 then m.aqFails else m
  { m with mem := { m.mem with stateFail := [], forceOvr := [], apFault := [], aqFault := 0 } }

/-- The image shown is taken again, with no write list. -/
def Mach.imageAgain (m : Mach) : Mach :=
  match m.scan.shown with
  | some o => m.takeImage o
  | none => m

/-- The active side's image: the newest completed one with the write lists, or the previous again where the side gave up or
overran (R37, R40, R259, R292). -/
def Mach.takeOutputs (m : Mach) (held : Bool) : Mach × Bool :=
  if held then (m.imageAgain, false)
  else
    let (m, wl, fresh) := m.scanCommit
    let m := m.applyWrites wl
    (if fresh then m.changeDue m.scan.applied.1 else m, fresh)

/-- The fail-over gap ends at the commit point after the give-up (R292). -/
def Mach.gapEnd (m : Mach) : Mach :=
  match m.dx.gapFrame with
  | some n => if n < m.frame then m.sb F.DX_STAT_GAP false else m
  | none => m

/-- In HELD the first commit point that takes the new side's image enters RUNNING (R427). -/
def Mach.heldOver (m : Mach) (fresh : Bool) : Mach :=
  if m.st = stHELD ∧ m.activeAp.isSome ∧ fresh then m.s F.DEV_STATE_STATE stRUNNING else m

/-- The outputs of the frame: output images, PWM sets, watchdogs, field queue, page checks (R35, R78, R118, R145, R338). -/
def Mach.commitOutputs (m : Mach) (gaveUp held : Bool) : Mach :=
  let (m, fresh) := m.takeOutputs (gaveUp || held)
  let m := aqCommit (trmWatchdogs (pwmCommit m) fresh)
  let m := if gaveUp then m.pagesAbandon else m.pagesFrame
  (m.heldRelease.heldOver fresh).gapEnd

/-- The commit point (R35). `fin` gives for engines 0 to 17 the cycles from the end of latch to the done flag, none: not done;
`token`: the SP's alive token was right. -/
def Mach.commitPoint (m : Mach) (fin : List (Option Nat)) (token : Bool) : Mach :=
  if m.ticking && m.phase == .window then
    let m := (m.at (m.curLen - 400)).settleScan
    let spLate := m.frameBound 2 && m.late fin 2
    let apLate := m.activeAp.any (fun x => m.frameBound x && m.late fin x)
    let m := each (upTo 18) m (judgeEngine fin)
    let m := (m.memFaults.failActions)
    let m := spToken m (token && !spLate)
    let (m, now) := m.giveUps
    let m := m.commitOutputs (now || m.dx.gapFrame == some m.frame || m.dx.held.isSome) apLate
    { m.readiness.runningEntry with phase := .staging }
  else m

/-- COMMIT_POINT (R35). -/
def execCommitPoint (fin : List (Option Nat)) (token : Bool) (s : State) : Host.Outcome State Fault Refusal :=
  .next { s with m := s.m.commitPoint fin token }

end Sys2Proof.Machine
end

