-- ==== Sys2Proof/Machine/Dispatch.lean ====
section
/-! DEFINITION. The dispatch of every command to its meaning: one arm per constructor. -/

namespace Sys2Proof.Machine

open Sys2Proof

/-- The command's effect on the state (the queue of waiting commands is kept by every meaning). -/
def exec (i : Instr) (s : State) : Host.Outcome State Fault Refusal :=
  match i with
  | .frameTick o => Sys2Proof.Machine.execFrameTick o s
  | .endOfLatch t torn => Sys2Proof.Machine.execEndOfLatch t torn s
  | .commitPoint fin token => Sys2Proof.Machine.execCommitPoint fin token s
  | .failureByOverrun e => Sys2Proof.Machine.execFailureByOverrun e s
  | .frameLockBeacon tickNs => Sys2Proof.Machine.execFrameLockBeacon tickNs s
  | .lockHoldover => Sys2Proof.Machine.execLockHoldover s
  | .frmCtlLockWrite who v => Sys2Proof.Machine.execFrmCtlLockWrite who v s
  | .frmPeakClear who e v => Sys2Proof.Machine.execFrmPeakClear who e v s
  | .registerWrite who idx c v narrow => Sys2Proof.Machine.execRegisterWrite who idx c v narrow s
  | .barrierCycle c unlocked hv => Sys2Proof.Machine.execBarrierCycle c unlocked hv s
  | .barrierCell toField lane pos bytes => Sys2Proof.Machine.execBarrierCell toField lane pos bytes s
  | .laneOutOfService l => Sys2Proof.Machine.execLaneOutOfService l s
  | .laneGraft => Sys2Proof.Machine.execLaneGraft s
  | .cmdMessage => Sys2Proof.Machine.execCmdMessage s
  | .operatorMark who v => Sys2Proof.Machine.execOperatorMark who v s
  | .hostWarmRestart trig who => Sys2Proof.Machine.execHostWarmRestart trig who s
  | .roleLockoutEnd src => Sys2Proof.Machine.execRoleLockoutEnd src s
  | .burstRequest reqs => Sys2Proof.Machine.execBurstRequest reqs s
  | .beatTimeout r k => Sys2Proof.Machine.execBeatTimeout r k s
  | .grantTimeout r => Sys2Proof.Machine.execGrantTimeout r s
  | .rowGraft row => Sys2Proof.Machine.execRowGraft row s
  | .rowCopyComplete row => Sys2Proof.Machine.execRowCopyComplete row s
  | .scrubPassLate bank => Sys2Proof.Machine.execScrubPassLate bank s
  | .dmaGo who ch c v => Sys2Proof.Machine.execDmaGo who ch c v s
  | .dmaStop who ch c v => Sys2Proof.Machine.execDmaStop who ch c v s
  | .descriptorDone ch c => Sys2Proof.Machine.execDescriptorDone ch c s
  | .memClrPeaks who v => Sys2Proof.Machine.execMemClrPeaks who v s
  | .overloadTrip t c => Sys2Proof.Machine.execOverloadTrip t c s
  | .thermalShutdown t c => Sys2Proof.Machine.execThermalShutdown t c s
  | .supplyComparatorTrip g c => Sys2Proof.Machine.execSupplyComparatorTrip g c s
  | .groupWatchdogExpiry g => Sys2Proof.Machine.execGroupWatchdogExpiry g s
  | .trmClrall who v => Sys2Proof.Machine.execTrmClrall who v s
  | .adcScanTrigger k c => Sys2Proof.Machine.execAdcScanTrigger k c s
  | .conversionComplete k ch c inp alt => Sys2Proof.Machine.execConversionComplete k ch c inp alt s
  | .sliceFailure x c => Sys2Proof.Machine.execSliceFailure x c s
  | .sliceReplaced => Sys2Proof.Machine.execSliceReplaced s
  | .annealCalEnd ofs gain => Sys2Proof.Machine.execAnnealCalEnd ofs gain s
  | .annealWaitEnd => Sys2Proof.Machine.execAnnealWaitEnd s
  | .annealStep who v => Sys2Proof.Machine.execAnnealStep who v s
  | .annealSwitch => Sys2Proof.Machine.execAnnealSwitch s
  | .encoderEdge p c delta z => Sys2Proof.Machine.execEncoderEdge p c delta z s
  | .encoderFault p b c on => Sys2Proof.Machine.execEncoderFault p b c on s
  | .ssiRead p c raw err => Sys2Proof.Machine.execSsiRead p c raw err s
  | .pwmReloadPoint g c top => Sys2Proof.Machine.execPwmReloadPoint g c top s
  | .gateDriverFault g c on => Sys2Proof.Machine.execGateDriverFault g c on s
  | .delayLineCalEnd g err taps => Sys2Proof.Machine.execDelayLineCalEnd g err taps s
  | .delayLineWaitEnd g => Sys2Proof.Machine.execDelayLineWaitEnd g s
  | .delayLineSwap g c => Sys2Proof.Machine.execDelayLineSwap g c s
  | .pwmClrcnt who v => Sys2Proof.Machine.execPwmClrcnt who v s
  | .slotStaleFault k => Sys2Proof.Machine.execSlotStaleFault k s
  | .pageSwapRequest who k v => Sys2Proof.Machine.execPageSwapRequest who k v s
  | .pageCheckDone k => Sys2Proof.Machine.execPageCheckDone k s
  | .slotRestart who k v => Sys2Proof.Machine.execSlotRestart who k v s
  | .targetWrite who a v => Sys2Proof.Machine.execTargetWrite who a v s
  | .reachQuery who a v => Sys2Proof.Machine.execReachQuery who a v s
  | .axisHold who a v => Sys2Proof.Machine.execAxisHold who a v s
  | .quickStop who a v => Sys2Proof.Machine.execQuickStop who a v s
  | .axisEnable who a v => Sys2Proof.Machine.execAxisEnable who a v s
  | .referenceCommand who a v => Sys2Proof.Machine.execReferenceCommand who a v s
  | .referenceRunFail a => Sys2Proof.Machine.execReferenceRunFail a s
  | .reversalDwellEnd a => Sys2Proof.Machine.execReversalDwellEnd a s
  | .feedbackLost a => Sys2Proof.Machine.execFeedbackLost a s
  | .followingError a => Sys2Proof.Machine.execFollowingError a s
  | .stallDetected a => Sys2Proof.Machine.execStallDetected a s
  | .stallClear who a v => Sys2Proof.Machine.execStallClear who a v s
  | .energyOver a => Sys2Proof.Machine.execEnergyOver a s
  | .scan c dur torn => Sys2Proof.Machine.execScan c dur torn s
  | .scanTooLong c => Sys2Proof.Machine.execScanTooLong c s
  | .and_ inst => Sys2Proof.Machine.execAnd_ inst s
  | .or_ inst => Sys2Proof.Machine.execOr_ inst s
  | .xor_ inst => Sys2Proof.Machine.execXor_ inst s
  | .not_ inst => Sys2Proof.Machine.execNot_ inst s
  | .sr inst => Sys2Proof.Machine.execSr inst s
  | .rs inst => Sys2Proof.Machine.execRs inst s
  | .rTrig inst => Sys2Proof.Machine.execRTrig inst s
  | .fTrig inst => Sys2Proof.Machine.execFTrig inst s
  | .tp inst => Sys2Proof.Machine.execTp inst s
  | .ton inst => Sys2Proof.Machine.execTon inst s
  | .tof inst => Sys2Proof.Machine.execTof inst s
  | .ctu inst => Sys2Proof.Machine.execCtu inst s
  | .ctd inst => Sys2Proof.Machine.execCtd inst s
  | .ctud inst => Sys2Proof.Machine.execCtud inst s
  | .gt_ inst => Sys2Proof.Machine.execGt_ inst s
  | .ge_ inst => Sys2Proof.Machine.execGe_ inst s
  | .eq_ inst => Sys2Proof.Machine.execEq_ inst s
  | .ne_ inst => Sys2Proof.Machine.execNe_ inst s
  | .le_ inst => Sys2Proof.Machine.execLe_ inst s
  | .lt_ inst => Sys2Proof.Machine.execLt_ inst s
  | .add_ inst => Sys2Proof.Machine.execAdd_ inst s
  | .sub_ inst => Sys2Proof.Machine.execSub_ inst s
  | .mul_ inst => Sys2Proof.Machine.execMul_ inst s
  | .div_ inst => Sys2Proof.Machine.execDiv_ inst s
  | .mod_ inst => Sys2Proof.Machine.execMod_ inst s
  | .abs_ inst => Sys2Proof.Machine.execAbs_ inst s
  | .neg_ inst => Sys2Proof.Machine.execNeg_ inst s
  | .min_ inst => Sys2Proof.Machine.execMin_ inst s
  | .max_ inst => Sys2Proof.Machine.execMax_ inst s
  | .limit inst => Sys2Proof.Machine.execLimit inst s
  | .sel inst => Sys2Proof.Machine.execSel inst s
  | .mux inst => Sys2Proof.Machine.execMux inst s
  | .move inst => Sys2Proof.Machine.execMove inst s
  | .qadd inst => Sys2Proof.Machine.execQadd inst s
  | .qsub inst => Sys2Proof.Machine.execQsub inst s
  | .qmul inst => Sys2Proof.Machine.execQmul inst s
  | .qdiv inst => Sys2Proof.Machine.execQdiv inst s
  | .qscale inst => Sys2Proof.Machine.execQscale inst s
  | .dintToQ inst => Sys2Proof.Machine.execDintToQ inst s
  | .qToDint inst => Sys2Proof.Machine.execQToDint inst s
  | .hyst inst => Sys2Proof.Machine.execHyst inst s
  | .lag inst => Sys2Proof.Machine.execLag inst s
  | .ramp inst => Sys2Proof.Machine.execRamp inst s
  | .blink inst => Sys2Proof.Machine.execBlink inst s
  | .pack inst => Sys2Proof.Machine.execPack inst s
  | .unpack inst => Sys2Proof.Machine.execUnpack inst s
  | .rdReg inst => Sys2Proof.Machine.execRdReg inst s
  | .wrReg inst => Sys2Proof.Machine.execWrReg inst s
  | .wrReg64 inst => Sys2Proof.Machine.execWrReg64 inst s
  | .eventBlock inst => Sys2Proof.Machine.execEventBlock inst s
  | .markBlock inst => Sys2Proof.Machine.execMarkBlock inst s
  | .dmaCopy inst => Sys2Proof.Machine.execDmaCopy inst s
  | .cbRx inst => Sys2Proof.Machine.execCbRx inst s
  | .cbTx inst => Sys2Proof.Machine.execCbTx inst s
  | .stnStat inst => Sys2Proof.Machine.execStnStat inst s
  | .frameBlock inst => Sys2Proof.Machine.execFrameBlock inst s
  | .rtc inst => Sys2Proof.Machine.execRtc inst s
  | .liftCar inst => Sys2Proof.Machine.execLiftCar inst s
  | .liftStops inst => Sys2Proof.Machine.execLiftStops inst s
  | .liftDoor inst => Sys2Proof.Machine.execLiftDoor inst s
  | .liftGroup inst => Sys2Proof.Machine.execLiftGroup inst s
  | .escRun inst => Sys2Proof.Machine.execEscRun inst s
  | .liftInsp inst => Sys2Proof.Machine.execLiftInsp inst s
  | .sfDiverse inst => Sys2Proof.Machine.execSfDiverse inst s
  | .liftWaitTimeout mch => Sys2Proof.Machine.execLiftWaitTimeout mch s
  | .relevelLimit mch => Sys2Proof.Machine.execRelevelLimit mch s
  | .doorDwellExpiry mch side => Sys2Proof.Machine.execDoorDwellExpiry mch side s
  | .doorLockTimeout mch side => Sys2Proof.Machine.execDoorLockTimeout mch side s
  | .doorForceTimeout mch side => Sys2Proof.Machine.execDoorForceTimeout mch side s
  | .shaftSourceLost mch => Sys2Proof.Machine.execShaftSourceLost mch s
  | .groupAssignment cycle loads => Sys2Proof.Machine.execGroupAssignment cycle loads s
  | .stationAbsent k => Sys2Proof.Machine.execStationAbsent k s
  | .stationReturn k => Sys2Proof.Machine.execStationReturn k s
  | .stationTestEnd k => Sys2Proof.Machine.execStationTestEnd k s
  | .testPulse low => Sys2Proof.Machine.execTestPulse low s
  | .siDip k => Sys2Proof.Machine.execSiDip k s
  | .assaySlot ramOk flashOk keyOk => Sys2Proof.Machine.execAssaySlot ramOk flashOk keyOk s
  | .switchTestReadback hs ls => Sys2Proof.Machine.execSwitchTestReadback hs ls s
  | .clockWindow n => Sys2Proof.Machine.execClockWindow n s
  | .spInternalFault => Sys2Proof.Machine.execSpInternalFault s
  | .pairOverloadTrip k => Sys2Proof.Machine.execPairOverloadTrip k s
  | .edmTimeout k => Sys2Proof.Machine.execEdmTimeout k s
  | .sosOk mv => Sys2Proof.Machine.execSosOk mv s
  | .diverseTimeout c => Sys2Proof.Machine.execDiverseTimeout c s
  | .degradedTimeExpiry f => Sys2Proof.Machine.execDegradedTimeExpiry f s
  | .degradedTimerReset f => Sys2Proof.Machine.execDegradedTimerReset f s
  | .rearm who v => Sys2Proof.Machine.execRearm who v s
  | .sfStatus src seq payload => Sys2Proof.Machine.execSfStatus src seq payload s
  | .editOpen src seq payload => Sys2Proof.Machine.execEditOpen src seq payload s
  | .setLoad src seq payload => Sys2Proof.Machine.execSetLoad src seq payload s
  | .editCommit src seq payload => Sys2Proof.Machine.execEditCommit src seq payload s
  | .editAbort src seq payload => Sys2Proof.Machine.execEditAbort src seq payload s
  | .editSessionTimeout => Sys2Proof.Machine.execEditSessionTimeout s
  | .confirm src seq payload => Sys2Proof.Machine.execConfirm src seq payload s
  | .keyWriteComplete => Sys2Proof.Machine.execKeyWriteComplete s
  | .setRead src seq payload => Sys2Proof.Machine.execSetRead src seq payload s
  | .inspectOn src seq payload => Sys2Proof.Machine.execInspectOn src seq payload s
  | .inspectKeep src seq payload => Sys2Proof.Machine.execInspectKeep src seq payload s
  | .inspectOff src seq payload => Sys2Proof.Machine.execInspectOff src seq payload s
  | .inspectCfg src seq payload => Sys2Proof.Machine.execInspectCfg src seq payload s
  | .inspectionTimeout => Sys2Proof.Machine.execInspectionTimeout s
  | .prgStatus src seq payload => Sys2Proof.Machine.execPrgStatus src seq payload s
  | .imgRead src seq payload => Sys2Proof.Machine.execImgRead src seq payload s
  | .paramBatch src seq payload => Sys2Proof.Machine.execParamBatch src seq payload s
  | .paramRead src seq payload => Sys2Proof.Machine.execParamRead src seq payload s
  | .stnTest src seq payload => Sys2Proof.Machine.execStnTest src seq payload s
  | .imgPut src seq payload => Sys2Proof.Machine.execImgPut src seq payload s
  | .mirrorRecord num same => Sys2Proof.Machine.execMirrorRecord num same s
  | .scanMismatch => Sys2Proof.Machine.execScanMismatch s
  | .stateTransferComplete => Sys2Proof.Machine.execStateTransferComplete s
  | .apGiveUp x cause => Sys2Proof.Machine.execApGiveUp x cause s
  | .failOver dur => Sys2Proof.Machine.execFailOver dur s
  | .heldEntry => Sys2Proof.Machine.execHeldEntry s
  | .heldCellsRelease => Sys2Proof.Machine.execHeldCellsRelease s
  | .heldEnd x => Sys2Proof.Machine.execHeldEnd x s
  | .takeBack => Sys2Proof.Machine.execTakeBack s
  | .dxStatus src seq payload => Sys2Proof.Machine.execDxStatus src seq payload s
  | .dxSwitch src seq payload => Sys2Proof.Machine.execDxSwitch src seq payload s
  | .dxRestore src seq payload => Sys2Proof.Machine.execDxRestore src seq payload s
  | .sprStatus src seq payload => Sys2Proof.Machine.execSprStatus src seq payload s
  | .sprGraft src seq payload => Sys2Proof.Machine.execSprGraft src seq payload s
  | .sprRelease src seq payload => Sys2Proof.Machine.execSprRelease src seq payload s
  | .plannedGraft => Sys2Proof.Machine.execPlannedGraft s
  | .wearUpdate ecc => Sys2Proof.Machine.execWearUpdate ecc s
  | .flashBlockGraft block => Sys2Proof.Machine.execFlashBlockGraft block s
  | .canFrameReceived k c dur f => Sys2Proof.Machine.execCanFrameReceived k c dur f s
  | .canColumnStart k c => Sys2Proof.Machine.execCanColumnStart k c s
  | .canTransmitEnd k c res lec => Sys2Proof.Machine.execCanTransmitEnd k c res lec s
  | .cellMiss k b => Sys2Proof.Machine.execCellMiss k b s
  | .transmitRequest who k b => Sys2Proof.Machine.execTransmitRequest who k b s
  | .canModeOff who k => Sys2Proof.Machine.execCanModeOff who k s
  | .canModeNormal who k => Sys2Proof.Machine.execCanModeNormal who k s
  | .canModeListen who k => Sys2Proof.Machine.execCanModeListen who k s
  | .canModeSleep who k => Sys2Proof.Machine.execCanModeSleep who k s
  | .integrationComplete k => Sys2Proof.Machine.execIntegrationComplete k s
  | .busOff k c => Sys2Proof.Machine.execBusOff k c s
  | .errorPassive k c tec rec => Sys2Proof.Machine.execErrorPassive k c tec rec s
  | .borec who k => Sys2Proof.Machine.execBorec who k s
  | .busOffRecoveryEnd k => Sys2Proof.Machine.execBusOffRecoveryEnd k s
  | .canWake k c dominant errors f => Sys2Proof.Machine.execCanWake k c dominant errors f s
  | .forcedMark t => Sys2Proof.Machine.execForcedMark t s
  | .ingotArrival => Sys2Proof.Machine.execIngotArrival s
  | .streamActivation => Sys2Proof.Machine.execStreamActivation s
  | .stmStatus src seq payload => Sys2Proof.Machine.execStmStatus src seq payload s
  | .stmSubscribe src seq payload => Sys2Proof.Machine.execStmSubscribe src seq payload s
  | .stmLoad src seq payload => Sys2Proof.Machine.execStmLoad src seq payload s
  | .stmStop src seq payload => Sys2Proof.Machine.execStmStop src seq payload s
  | .stmFetch src seq payload => Sys2Proof.Machine.execStmFetch src seq payload s
  | .aqClrcnt who v => Sys2Proof.Machine.execAqClrcnt who v s
  | .evtMessage => Sys2Proof.Machine.execEvtMessage s
  | .eventRecord code src arg0 arg1 frame sub => Sys2Proof.Machine.execEventRecord code src arg0 arg1 frame sub s
  | .evStatus src seq payload => Sys2Proof.Machine.execEvStatus src seq payload s
  | .evRead src seq payload => Sys2Proof.Machine.execEvRead src seq payload s
  | .evClear src seq payload => Sys2Proof.Machine.execEvClear src seq payload s
  | .lgStatus src seq payload => Sys2Proof.Machine.execLgStatus src seq payload s
  | .lgRead src seq payload => Sys2Proof.Machine.execLgRead src seq payload s
  | .calSet src seq payload => Sys2Proof.Machine.execCalSet src seq payload s
  | .inspSet src seq payload => Sys2Proof.Machine.execInspSet src seq payload s
  | .calendarSecond => Sys2Proof.Machine.execCalendarSecond s
  | .ledgerMirrorWrite ok => Sys2Proof.Machine.execLedgerMirrorWrite ok s
  | .cellLow => Sys2Proof.Machine.execCellLow s
  | .beacon a b ta tb => Sys2Proof.Machine.execBeacon a b ta tb s
  | .downlinkSlot a b => Sys2Proof.Machine.execDownlinkSlot a b s
  | .nodeSlotPass k ring second bytes => Sys2Proof.Machine.execNodeSlotPass k ring second bytes s
  | .portDown x lock => Sys2Proof.Machine.execPortDown x lock s
  | .portUp x => Sys2Proof.Machine.execPortUp x s
  | .requestPacket j a b => Sys2Proof.Machine.execRequestPacket j a b s
  | .sessionTimeout => Sys2Proof.Machine.execSessionTimeout s
  | .nop src seq payload => Sys2Proof.Machine.execNop src seq payload s
  | .ident src seq payload => Sys2Proof.Machine.execIdent src seq payload s
  | .sessionOpen src seq payload => Sys2Proof.Machine.execSessionOpen src seq payload s
  | .sessionClose src seq payload => Sys2Proof.Machine.execSessionClose src seq payload s
  | .markOp src seq payload => Sys2Proof.Machine.execMarkOp src seq payload s
  | .linkStatus src seq payload => Sys2Proof.Machine.execLinkStatus src seq payload s
  | .roleKeySet src seq payload => Sys2Proof.Machine.execRoleKeySet src seq payload s
  | .regRead src seq payload => Sys2Proof.Machine.execRegRead src seq payload s
  | .regReadRange src seq payload => Sys2Proof.Machine.execRegReadRange src seq payload s
  | .regWrite src seq payload => Sys2Proof.Machine.execRegWrite src seq payload s
  | .updStatus src seq payload => Sys2Proof.Machine.execUpdStatus src seq payload s
  | .updBegin src seq payload => Sys2Proof.Machine.execUpdBegin src seq payload s
  | .updPut src seq payload => Sys2Proof.Machine.execUpdPut src seq payload s
  | .updVerify src seq payload => Sys2Proof.Machine.execUpdVerify src seq payload s
  | .verifyComplete => Sys2Proof.Machine.execVerifyComplete s
  | .updLoad src seq payload => Sys2Proof.Machine.execUpdLoad src seq payload s
  | .loadComplete bad flashOk => Sys2Proof.Machine.execLoadComplete bad flashOk s
  | .updArm src seq payload => Sys2Proof.Machine.execUpdArm src seq payload s
  | .updDisarm src seq payload => Sys2Proof.Machine.execUpdDisarm src seq payload s
  | .updCancel src seq payload => Sys2Proof.Machine.execUpdCancel src seq payload s
  | .updRollback src seq payload => Sys2Proof.Machine.execUpdRollback src seq payload s
  | .updRead src seq payload => Sys2Proof.Machine.execUpdRead src seq payload s
  | .updKeySet src seq payload => Sys2Proof.Machine.execUpdKeySet src seq payload s
  | .readinessCheck => Sys2Proof.Machine.execReadinessCheck s
  | .activationGo => Sys2Proof.Machine.execActivationGo s
  | .activation => Sys2Proof.Machine.execActivation s
  | .hxBankChange => Sys2Proof.Machine.execHxBankChange s
  | .updateCompletion p => Sys2Proof.Machine.execUpdateCompletion p s
  | .slotProven => Sys2Proof.Machine.execSlotProven s
  | .inPlaceRelease e => Sys2Proof.Machine.execInPlaceRelease e s
  | .lfPowerUp p => Sys2Proof.Machine.execLfPowerUp p s
  | .runningTimeout p => Sys2Proof.Machine.execRunningTimeout p s
  | .hvPowerUp cellLost => Sys2Proof.Machine.execHvPowerUp cellLost s
  | .engineRestartComplete e ok => Sys2Proof.Machine.execEngineRestartComplete e ok s
  | .powerFail c cause lf => Sys2Proof.Machine.execPowerFail c cause lf s
  | .journalWriteComplete => Sys2Proof.Machine.execJournalWriteComplete s
  | .powerRecovery => Sys2Proof.Machine.execPowerRecovery s
  | .shut who v => Sys2Proof.Machine.execShut who v s
  | .clrmin who v => Sys2Proof.Machine.execClrmin who v s
  | .hostPowerLoss => Sys2Proof.Machine.execHostPowerLoss s
  | .mirrorWriteTimeout => Sys2Proof.Machine.execMirrorWriteTimeout s
  | .testPulseSourceShutoff k => Sys2Proof.Machine.execTestPulseSourceShutoff k s
  | .engineCoreFault e => Sys2Proof.Machine.execEngineCoreFault e s

end Sys2Proof.Machine
end

