-- ==== Sys2Proof/Safety.lean ====
section
/-! DEFINITION. What a safe step is, and the words in which the statements speak of states: what a command keeps, and who may
write a register. -/

namespace Sys2Proof.Safety

open Sys2Proof
open Sys2Proof.Machine (State Mach BCtx BSt Blk Image InImg nth upTo smPut)

/-- The step at a state completes: it answers a next state, neither a fault nor a refusal. -/
def Completes (s : Machine.State) : Prop := ∃ t, Machine.step s = .next t

/-- As many steps as the number says, ended by the first that is no next state. -/
def run : Nat → Machine.State → Host.Outcome Machine.State Machine.Fault Machine.Refusal
  | 0, s => .next s
  | n + 1, s =>
    match Machine.step s with
    | .next t => run n t
    | o => o

/-- Every register outside the list reads in `b` as in `a`. -/
def KeepsRegs (a b : Mach) (l : List Nat) : Prop := ∀ k, k ∉ l → b.word k = a.word k

/-- A requester that may write the field's registers: the active AP (R14), or the host under the maintainer role or a higher
one (R30, R386). -/
def FieldWriter (m : Mach) (who : Who) : Prop :=
  m.fabricUp = true ∧ ((∃ e, who = .eng e ∧ m.activeAp = some e) ∨ ∃ role src, who = .host role src ∧ 2 ≤ role)

/-- The machine once a requester's access is over: the latches and held words of a host's packet have ended with it (R8). -/
def PacketDone (m : Mach) (who : Who) : Mach :=
  match who with
  | .host _ _ => m.dropLatches who
  | _ => m

/-- A write of `v` names no W1C bit of a register. -/
def ClearsNothing (r : Machine.R) (v : Word) : Prop := v.toNat &&& Machine.accMask r .W1C = 0

/-- A register write by engine `e` that the fabric records as a violation of kind `kind` (R14, R17, R24, R28): narrow, or to a block
of the host domain, or to a register of another owner, or a host restart asked for by the active AP. Of `LP_STAT` and `MG_STAT` the
slot's or axis's engine owns the fields that are no W1C bits, which a write does not change, and the active AP the W1C bits. -/
def Violates (m : Mach) (e idx : Nat) (v : Word) (narrow : Bool) (kind : Nat) : Prop :=
  m.fabricUp = true ∧ idx ≤ 0xFFFF ∧
  (narrow = true ∧ kind = 2 ∨ narrow = false ∧ Machine.isHostIdx idx = true ∧ kind = 1 ∨
   narrow = false ∧ Machine.isHostIdx idx = false ∧ kind = 0 ∧ ∃ r i j own, Machine.regAt idx = some (r, i, j) ∧ r ≠ .DEV_SCRATCH ∧
     m.ownerOf r i = some own ∧
     (m.engMay e r i own = false ∧ ¬ (own = Machine.ownAP ∧ e ≤ 1) ∧ ¬ (r.shared = true ∧ m.unitEngine r i = e ∧ ClearsNothing r v) ∨
      m.engMay e r i own = true ∧ r = .DEV_CTL ∧ Machine.getBits v 31 16 = 0x5A5A ∧ Machine.bit v.toNat 0 = true ∨
      m.engMay e r i own = true ∧ r.shared = true ∧ m.unitEngine r i ≠ e ∧ ClearsNothing r v))

/-- A source may have an opcode executed (R380, R384, R389): the host domain runs, the source's role suffices, and where the opcode
needs the field domain, that domain can be reached and its frames tick, at whose end of latch it is executed (R23). -/
def MayRun (m : Mach) (src need : Nat) (field : Bool) : Prop :=
  m.hostUp = true ∧ need ≤ m.roleOf src ∧ (field = true → m.fieldReach = true ∧ m.ticking = true)

/-- The machine with a request accepted for execution: its session kept, its role granted, its reply due in order (R380, R387). -/
def Taken (m : Mach) (src seq op : Nat) (payload : List Byte) : Mach :=
  (m.touch src).accept { src := src, seq := seq, op := op, role := m.roleOf src, payload := payload }

/-- The newest request accepted is answered with a status and data (R380, R381). -/
def Replied (m : Mach) (src seq op status : Nat) (data : List Byte) : Prop :=
  ∃ w, m.link.accepted.getLast? = some w ∧ w.cached = false ∧
    w.reply = some { src := src, seq := seq, op := op, status := status, data := data }

/-- The newest record of the event log holds a code and a first argument (R347, R350). -/
def Logged (m : Mach) (code arg0 : Nat) : Prop := ∃ r, m.log.recs.getLast? = some r ∧ r.code = code ∧ r.arg0 = arg0

/-- An opcode keeps every register outside the list, but for the idle times of sessions (R387). -/
def OpKeeps (a b : Mach) (l : List Nat) : Prop :=
  ∀ k, k ∉ l → (∀ j < 32, k ≠ Machine.R.ZL_SESS.idx j 0) → b.word k = a.word k

/-- Instance `inst` of the image in force, with the input image in force, has a TYPE and an operand number that the library
allows (R257, R265, R269). -/
def BlockAt (m : Mach) (im : Image) (ip : InImg) (inst : Nat) (b : Blk) (typ : Nat) : Prop :=
  m.scan.img = some im ∧ m.scan.inp = some ip ∧ im.blks[inst]? = some b ∧ b.typ = typ ∧
  (Machine.blkSig b.typ b.ops.length).isSome = true

/-- An evaluation in its context: the instance stands in the image in force with a type, and the context is the one that the machine
gives it (R257, R261). -/
def InstanceAt (m : Mach) (c : BCtx) (typ : Nat) : Prop := BlockAt m c.im c.ip c.k c.b typ ∧ c = m.blkCtx c.im c.ip c.k c.b

/-- The machine after an evaluation that writes the outputs in order and leaves the block state `st`: nothing else changes but
the frame of the evaluation and the count of words placed (R257, R261, R266). -/
def Evaluated (c : BCtx) (outs : List Int) (st : BSt) : Mach :=
  let k := ((upTo outs.length).zip outs).foldl (fun k p => k.put (nth c.b.ops (c.ni + p.1) 0) p.2) c.m.scan
  { c.m with scan := { k with bst := smPut (fun _ => ({} : BSt)) k.bst c.k { st with seen := true, fprev := c.ip.f } } }

end Sys2Proof.Safety
end

