-- ==== Sys2Proof/WellFormed.lean ====
section
/-! DEFINITION. Which operands a command can carry on this hardware. -/

namespace Sys2Proof

/-- A cycle of a frame: L is at most 400,000 (R33), and a correction adds at most a few cycles (R47). -/
def cycWf (c : Nat) : Bool := decide (c < 524288)

/-- A requester of R8 and R13: an engine, a DMA channel, or a host source with its role. -/
def Who.wf : Who → Bool
  | .eng e => decide (e < 19)
  | .dma ch => decide (ch < 32)
  | .host role src => decide (role < 4) && decide (src < 65536)

/-- A frame-memory burst request that R54 allows: a requester of its table, 1 to 128 bytes, and write data of the
stated length. -/
def BurstReq.wf (r : BurstReq) : Bool :=
  decide (r.req < 52) && decide (0 < r.len) && decide (r.len ≤ 128 - r.addr % 128) &&
  decide (r.addr % 8 + r.len ≤ 8 * (if r.req = 2 then 4 else if r.req < 17 ∨ r.req = 19 then 8 else 16)) && (!r.write || r.data.length == r.len)

/-- A buffer of a CAN controller: controller and buffer (R308). -/
def pairWf (p : Nat × Nat) : Bool := decide (p.1 < 4) && decide (p.2 < 128)

/-- What the latch phase of a frame samples: 96 terminals, six supplies and six terminal voltages, eight ports, sixteen safety
inputs, eight pairs, and upsets of words of the four banks or their spare rows (R49, R52, R73, R107, R218). -/
def FrameIn.wf (o : FrameIn) : Bool :=
  decide (o.raw < 2 ^ 96) && decide (o.osv.length ≤ 6) && decide (o.tv.length ≤ 6) && decide (0 < o.vint) && decide (o.refIn.length ≤ 3) &&
  decide (o.amp.length ≤ 8) && o.amp.all (fun a => decide (a < 65536)) && decide (o.si < 65536) &&
  decide (o.hsNode < 256) && decide (o.lsNode < 256) && decide (o.sosMv < 65536) &&
  o.spCap.all (fun p => decide (p.1 < 8)) &&
  o.upsets.all (fun u => decide (u.1 < 270336) && (u.2 == 1 || u.2 == 2)) && decide (o.served.length ≤ 4)

/-- What powering up meets: 17 slices, nine delay lines of twelve groups, two firmware slots (R102, R122, R417). -/
def StartIn.wf (p : StartIn) : Bool :=
  decide (p.slices.length ≤ 17) && p.lines.all (fun l => decide (l.g < 12) && decide (l.i < 9) && l.taps.length == 32) &&
  p.bad.all (fun k => decide (k < 2))

/-- A CAN frame: an 11-bit or a 29-bit identifier, at most 8 data bytes, 64 in an FD frame, none in a remote one (R308). -/
def CanFrame.wf (f : CanFrame) : Bool :=
  decide (f.id < (if f.ide then 2 ^ 29 else 2 ^ 11)) && decide (f.dlc < 16) &&
  decide (f.data.length ≤ (if f.fdf then 64 else 8)) && (!f.remote || (!f.fdf && f.data.isEmpty))

/-- A command whose operands the hardware can meet: numbers of engines, channels, ports, instances and cycles that exist, and
packets within the length of R378. -/
def Instr.wf (i : Instr) : Bool :=
  match i with
  | .frameTick o => o.wf
  | .endOfLatch _ torn => torn.all pairWf
  | .commitPoint fin _ => fin.length == 18 && fin.all (fun f => match f with | some c => cycWf c | none => true)
  | .failureByOverrun e => decide (e < 18)
  | .frameLockBeacon _ => true
  | .lockHoldover => true
  | .frmCtlLockWrite who _ => who.wf
  | .frmPeakClear who e _ => who.wf && decide (e < 19)
  | .registerWrite who idx c _ _ => who.wf && decide (idx < 65536) && cycWf c
  | .barrierCycle c unlocked hv => cycWf c && unlocked.all (fun l => decide (l < 5)) && decide (hv < 65536)
  | .barrierCell _ lane pos _ => decide (lane < 5) && decide (pos < 12)
  | .laneOutOfService l => decide (l < 5)
  | .laneGraft => true
  | .cmdMessage => true
  | .operatorMark who _ => who.wf
  | .hostWarmRestart trig who => decide (trig < 3) && who.wf
  | .roleLockoutEnd src => decide (src < 65536)
  | .burstRequest reqs => reqs.all BurstReq.wf
  | .beatTimeout r k => r.wf && decide (k < 16)
  | .grantTimeout r => r.wf
  | .rowGraft row => decide (row < 8192)
  | .rowCopyComplete row => decide (row < 8192)
  | .scrubPassLate bank => decide (bank < 4)
  | .dmaGo who ch c _ => who.wf && decide (ch < 32) && cycWf c
  | .dmaStop who ch c _ => who.wf && decide (ch < 32) && cycWf c
  | .descriptorDone ch c => decide (ch < 32) && cycWf c
  | .memClrPeaks who _ => who.wf
  | .overloadTrip t c => decide (t < 96) && cycWf c
  | .thermalShutdown t c => decide (t < 96) && cycWf c
  | .supplyComparatorTrip g c => decide (g < 6) && cycWf c
  | .groupWatchdogExpiry g => decide (g < 6)
  | .trmClrall who _ => who.wf
  | .adcScanTrigger k c => decide (k < 16) && cycWf c
  | .conversionComplete k ch c inp alt => decide (k < 16) && decide (ch < 56) && cycWf c && decide (0 < inp.length) && decide (inp.length ≤ 32) &&
    (inp ++ alt).all (fun x => decide (0 < x.vref))
  | .sliceFailure x c => decide (x < 17) && cycWf c
  | .sliceReplaced => true
  | .annealCalEnd _ _ => true
  | .annealWaitEnd => true
  | .annealStep who _ => who.wf
  | .annealSwitch => true
  | .encoderEdge p c _ _ => decide (p < 8) && cycWf c.at_
  | .encoderFault p b c _ => decide (p < 8) && decide (2 ≤ b) && decide (b ≤ 5) && cycWf c
  | .ssiRead p c raw _ => decide (p < 8) && cycWf c && decide (raw < 4294967296)
  | .pwmReloadPoint g c _ => decide (g < 12) && cycWf c
  | .gateDriverFault g c _ => decide (g < 12) && cycWf c.at_
  | .delayLineCalEnd g _ taps => decide (g < 12) && taps.length == 32
  | .delayLineWaitEnd g => decide (g < 12)
  | .delayLineSwap g c => decide (g < 12) && cycWf c
  | .pwmClrcnt who _ => who.wf
  | .slotStaleFault k => decide (k < 256)
  | .pageSwapRequest who k _ => who.wf && decide (k < 256)
  | .pageCheckDone k => decide (k < 256)
  | .slotRestart who k _ => who.wf && decide (k < 256)
  | .targetWrite who a v => who.wf && decide (a < 32) && decide (v < 18446744073709551616)
  | .reachQuery who a v => who.wf && decide (a < 32) && decide (v < 18446744073709551616)
  | .axisHold who a _ => who.wf && decide (a < 32)
  | .quickStop who a _ => who.wf && decide (a < 32)
  | .axisEnable who a _ => who.wf && decide (a < 32)
  | .referenceCommand who a _ => who.wf && decide (a < 32)
  | .referenceRunFail a => decide (a < 32)
  | .reversalDwellEnd a => decide (a < 32)
  | .feedbackLost a => decide (a < 32)
  | .followingError a => decide (a < 32)
  | .stallDetected a => decide (a < 32)
  | .stallClear who a _ => who.wf && decide (a < 32)
  | .energyOver a => decide (a < 32)
  | .scan c _ torn => cycWf c && torn.all pairWf
  | .scanTooLong c => cycWf c
  | .and_ inst => decide (inst < 2048)
  | .or_ inst => decide (inst < 2048)
  | .xor_ inst => decide (inst < 2048)
  | .not_ inst => decide (inst < 2048)
  | .sr inst => decide (inst < 2048)
  | .rs inst => decide (inst < 2048)
  | .rTrig inst => decide (inst < 2048)
  | .fTrig inst => decide (inst < 2048)
  | .tp inst => decide (inst < 2048)
  | .ton inst => decide (inst < 2048)
  | .tof inst => decide (inst < 2048)
  | .ctu inst => decide (inst < 2048)
  | .ctd inst => decide (inst < 2048)
  | .ctud inst => decide (inst < 2048)
  | .gt_ inst => decide (inst < 2048)
  | .ge_ inst => decide (inst < 2048)
  | .eq_ inst => decide (inst < 2048)
  | .ne_ inst => decide (inst < 2048)
  | .le_ inst => decide (inst < 2048)
  | .lt_ inst => decide (inst < 2048)
  | .add_ inst => decide (inst < 2048)
  | .sub_ inst => decide (inst < 2048)
  | .mul_ inst => decide (inst < 2048)
  | .div_ inst => decide (inst < 2048)
  | .mod_ inst => decide (inst < 2048)
  | .abs_ inst => decide (inst < 2048)
  | .neg_ inst => decide (inst < 2048)
  | .min_ inst => decide (inst < 2048)
  | .max_ inst => decide (inst < 2048)
  | .limit inst => decide (inst < 2048)
  | .sel inst => decide (inst < 2048)
  | .mux inst => decide (inst < 2048)
  | .move inst => decide (inst < 2048)
  | .qadd inst => decide (inst < 2048)
  | .qsub inst => decide (inst < 2048)
  | .qmul inst => decide (inst < 2048)
  | .qdiv inst => decide (inst < 2048)
  | .qscale inst => decide (inst < 2048)
  | .dintToQ inst => decide (inst < 2048)
  | .qToDint inst => decide (inst < 2048)
  | .hyst inst => decide (inst < 2048)
  | .lag inst => decide (inst < 2048)
  | .ramp inst => decide (inst < 2048)
  | .blink inst => decide (inst < 2048)
  | .pack inst => decide (inst < 2048)
  | .unpack inst => decide (inst < 2048)
  | .rdReg inst => decide (inst < 2048)
  | .wrReg inst => decide (inst < 2048)
  | .wrReg64 inst => decide (inst < 2048)
  | .eventBlock inst => decide (inst < 2048)
  | .markBlock inst => decide (inst < 2048)
  | .dmaCopy inst => decide (inst < 2048)
  | .cbRx inst => decide (inst < 2048)
  | .cbTx inst => decide (inst < 2048)
  | .stnStat inst => decide (inst < 2048)
  | .frameBlock inst => decide (inst < 2048)
  | .rtc inst => decide (inst < 2048)
  | .liftCar inst => decide (inst < 2048)
  | .liftStops inst => decide (inst < 2048)
  | .liftDoor inst => decide (inst < 2048)
  | .liftGroup inst => decide (inst < 2048)
  | .escRun inst => decide (inst < 2048)
  | .liftInsp inst => decide (inst < 2048)
  | .sfDiverse inst => decide (inst < 2048)
  | .liftWaitTimeout mch => decide (mch < 8)
  | .relevelLimit mch => decide (mch < 8)
  | .doorDwellExpiry mch side => decide (mch < 8) && decide (side < 2)
  | .doorLockTimeout mch side => decide (mch < 8) && decide (side < 2)
  | .doorForceTimeout mch side => decide (mch < 8) && decide (side < 2)
  | .shaftSourceLost mch => decide (mch < 8)
  | .groupAssignment _ _ => true
  | .stationAbsent k => decide (k < 64)
  | .stationReturn k => decide (k < 64)
  | .stationTestEnd k => decide (k < 64)
  | .testPulse _ => true
  | .siDip k => decide (k < 16)
  | .assaySlot _ _ _ => true
  | .switchTestReadback _ _ => true
  | .clockWindow _ => true
  | .spInternalFault => true
  | .pairOverloadTrip k => decide (k < 8)
  | .edmTimeout k => decide (k < 8)
  | .sosOk mv => decide (mv < 65536)
  | .diverseTimeout c => decide (c < 8)
  | .degradedTimeExpiry f => decide (f < 32)
  | .degradedTimerReset f => decide (f < 32)
  | .rearm who _ => who.wf
  | .sfStatus src seq payload => decide (src < 65536) && decide (seq < 65536) && decide (payload.length ≤ 4032)
  | .editOpen src seq payload => decide (src < 65536) && decide (seq < 65536) && decide (payload.length ≤ 4032)
  | .setLoad src seq payload => decide (src < 65536) && decide (seq < 65536) && decide (payload.length ≤ 4032)
  | .editCommit src seq payload => decide (src < 65536) && decide (seq < 65536) && decide (payload.length ≤ 4032)
  | .editAbort src seq payload => decide (src < 65536) && decide (seq < 65536) && decide (payload.length ≤ 4032)
  | .editSessionTimeout => true
  | .confirm src seq payload => decide (src < 65536) && decide (seq < 65536) && decide (payload.length ≤ 4032)
  | .keyWriteComplete => true
  | .setRead src seq payload => decide (src < 65536) && decide (seq < 65536) && decide (payload.length ≤ 4032)
  | .inspectOn src seq payload => decide (src < 65536) && decide (seq < 65536) && decide (payload.length ≤ 4032)
  | .inspectKeep src seq payload => decide (src < 65536) && decide (seq < 65536) && decide (payload.length ≤ 4032)
  | .inspectOff src seq payload => decide (src < 65536) && decide (seq < 65536) && decide (payload.length ≤ 4032)
  | .inspectCfg src seq payload => decide (src < 65536) && decide (seq < 65536) && decide (payload.length ≤ 4032)
  | .inspectionTimeout => true
  | .prgStatus src seq payload => decide (src < 65536) && decide (seq < 65536) && decide (payload.length ≤ 4032)
  | .imgRead src seq payload => decide (src < 65536) && decide (seq < 65536) && decide (payload.length ≤ 4032)
  | .paramBatch src seq payload => decide (src < 65536) && decide (seq < 65536) && decide (payload.length ≤ 4032)
  | .paramRead src seq payload => decide (src < 65536) && decide (seq < 65536) && decide (payload.length ≤ 4032)
  | .stnTest src seq payload => decide (src < 65536) && decide (seq < 65536) && decide (payload.length ≤ 4032)
  | .imgPut src seq payload => decide (src < 65536) && decide (seq < 65536) && decide (payload.length ≤ 4032)
  | .mirrorRecord _ _ => true
  | .scanMismatch => true
  | .stateTransferComplete => true
  | .apGiveUp x cause => decide (x < 2) && decide (1 ≤ cause) && decide (cause ≤ 5)
  | .failOver _ => true
  | .heldEntry => true
  | .heldCellsRelease => true
  | .heldEnd x => decide (x < 2)
  | .takeBack => true
  | .dxStatus src seq payload => decide (src < 65536) && decide (seq < 65536) && decide (payload.length ≤ 4032)
  | .dxSwitch src seq payload => decide (src < 65536) && decide (seq < 65536) && decide (payload.length ≤ 4032)
  | .dxRestore src seq payload => decide (src < 65536) && decide (seq < 65536) && decide (payload.length ≤ 4032)
  | .sprStatus src seq payload => decide (src < 65536) && decide (seq < 65536) && decide (payload.length ≤ 4032)
  | .sprGraft src seq payload => decide (src < 65536) && decide (seq < 65536) && decide (payload.length ≤ 4032)
  | .sprRelease src seq payload => decide (src < 65536) && decide (seq < 65536) && decide (payload.length ≤ 4032)
  | .plannedGraft => true
  | .wearUpdate _ => true
  | .flashBlockGraft block => decide (block < 512)
  | .canFrameReceived k c _ f => decide (k < 4) && cycWf c && f.wf
  | .canColumnStart k c => decide (k < 4) && cycWf c
  | .canTransmitEnd k c res lec => decide (k < 4) && cycWf c && decide (res < 3) && decide (lec < 8)
  | .cellMiss k b => decide (k < 4) && decide (b < 128)
  | .transmitRequest who k b => who.wf && decide (k < 4) && decide (b < 128)
  | .canModeOff who k => who.wf && decide (k < 4)
  | .canModeNormal who k => who.wf && decide (k < 4)
  | .canModeListen who k => who.wf && decide (k < 4)
  | .canModeSleep who k => who.wf && decide (k < 4)
  | .integrationComplete k => decide (k < 4)
  | .busOff k c => decide (k < 4) && cycWf c
  | .errorPassive k c tec rec => decide (k < 4) && cycWf c && decide (tec < 256) && decide (rec < 256)
  | .borec who k => who.wf && decide (k < 4)
  | .busOffRecoveryEnd k => decide (k < 4)
  | .canWake k c _ _ f => decide (k < 4) && cycWf c && f.wf
  | .forcedMark t => decide (t < 8)
  | .ingotArrival => true
  | .streamActivation => true
  | .stmStatus src seq payload => decide (src < 65536) && decide (seq < 65536) && decide (payload.length ≤ 4032)
  | .stmSubscribe src seq payload => decide (src < 65536) && decide (seq < 65536) && decide (payload.length ≤ 4032)
  | .stmLoad src seq payload => decide (src < 65536) && decide (seq < 65536) && decide (payload.length ≤ 4032)
  | .stmStop src seq payload => decide (src < 65536) && decide (seq < 65536) && decide (payload.length ≤ 4032)
  | .stmFetch src seq payload => decide (src < 65536) && decide (seq < 65536) && decide (payload.length ≤ 4032)
  | .aqClrcnt who _ => who.wf
  | .evtMessage => true
  | .eventRecord code src arg0 arg1 frame sub => decide (code < 65536) && decide (src < 256) && decide (arg0 < 4294967296) && decide (arg1 < 4294967296) && decide (frame < 18446744073709551616) && decide (sub < 4294967296)
  | .evStatus src seq payload => decide (src < 65536) && decide (seq < 65536) && decide (payload.length ≤ 4032)
  | .evRead src seq payload => decide (src < 65536) && decide (seq < 65536) && decide (payload.length ≤ 4032)
  | .evClear src seq payload => decide (src < 65536) && decide (seq < 65536) && decide (payload.length ≤ 4032)
  | .lgStatus src seq payload => decide (src < 65536) && decide (seq < 65536) && decide (payload.length ≤ 4032)
  | .lgRead src seq payload => decide (src < 65536) && decide (seq < 65536) && decide (payload.length ≤ 4032)
  | .calSet src seq payload => decide (src < 65536) && decide (seq < 65536) && decide (payload.length ≤ 4032)
  | .inspSet src seq payload => decide (src < 65536) && decide (seq < 65536) && decide (payload.length ≤ 4032)
  | .calendarSecond => true
  | .ledgerMirrorWrite _ => true
  | .cellLow => true
  | .beacon _ _ ta tb => decide (ta < 1000000000000) && decide (tb < 1000000000000)
  | .downlinkSlot _ _ => true
  | .nodeSlotPass k ring _ _ => decide (k < 64) && decide (ring < 2)
  | .portDown x _ => decide (x < 2)
  | .portUp x => decide (x < 2)
  | .requestPacket j _ _ => decide (j < 16)
  | .sessionTimeout => true
  | .nop src seq payload => decide (src < 65536) && decide (seq < 65536) && decide (payload.length ≤ 4032)
  | .ident src seq payload => decide (src < 65536) && decide (seq < 65536) && decide (payload.length ≤ 4032)
  | .sessionOpen src seq payload => decide (src < 65536) && decide (seq < 65536) && decide (payload.length ≤ 4032)
  | .sessionClose src seq payload => decide (src < 65536) && decide (seq < 65536) && decide (payload.length ≤ 4032)
  | .markOp src seq payload => decide (src < 65536) && decide (seq < 65536) && decide (payload.length ≤ 4032)
  | .linkStatus src seq payload => decide (src < 65536) && decide (seq < 65536) && decide (payload.length ≤ 4032)
  | .roleKeySet src seq payload => decide (src < 65536) && decide (seq < 65536) && decide (payload.length ≤ 4032)
  | .regRead src seq payload => decide (src < 65536) && decide (seq < 65536) && decide (payload.length ≤ 4032)
  | .regReadRange src seq payload => decide (src < 65536) && decide (seq < 65536) && decide (payload.length ≤ 4032)
  | .regWrite src seq payload => decide (src < 65536) && decide (seq < 65536) && decide (payload.length ≤ 4032)
  | .updStatus src seq payload => decide (src < 65536) && decide (seq < 65536) && decide (payload.length ≤ 4032)
  | .updBegin src seq payload => decide (src < 65536) && decide (seq < 65536) && decide (payload.length ≤ 4032)
  | .updPut src seq payload => decide (src < 65536) && decide (seq < 65536) && decide (payload.length ≤ 4032)
  | .updVerify src seq payload => decide (src < 65536) && decide (seq < 65536) && decide (payload.length ≤ 4032)
  | .verifyComplete => true
  | .updLoad src seq payload => decide (src < 65536) && decide (seq < 65536) && decide (payload.length ≤ 4032)
  | .loadComplete bad _ => bad.all (fun x => decide (x < 19))
  | .updArm src seq payload => decide (src < 65536) && decide (seq < 65536) && decide (payload.length ≤ 4032)
  | .updDisarm src seq payload => decide (src < 65536) && decide (seq < 65536) && decide (payload.length ≤ 4032)
  | .updCancel src seq payload => decide (src < 65536) && decide (seq < 65536) && decide (payload.length ≤ 4032)
  | .updRollback src seq payload => decide (src < 65536) && decide (seq < 65536) && decide (payload.length ≤ 4032)
  | .updRead src seq payload => decide (src < 65536) && decide (seq < 65536) && decide (payload.length ≤ 4032)
  | .updKeySet src seq payload => decide (src < 65536) && decide (seq < 65536) && decide (payload.length ≤ 4032)
  | .readinessCheck => true
  | .activationGo => true
  | .activation => true
  | .hxBankChange => true
  | .updateCompletion p => p.wf
  | .slotProven => true
  | .inPlaceRelease e => decide (e < 19)
  | .lfPowerUp p => p.wf
  | .runningTimeout p => p.wf
  | .hvPowerUp _ => true
  | .engineRestartComplete e _ => decide (e < 19)
  | .powerFail c cause lf => cycWf c && (cause == 1 || cause == 2) && decide (lf < 65536)
  | .journalWriteComplete => true
  | .powerRecovery => true
  | .shut who _ => who.wf
  | .clrmin who _ => who.wf
  | .hostPowerLoss => true
  | .mirrorWriteTimeout => true
  | .testPulseSourceShutoff k => decide (k < 4)
  | .engineCoreFault e => decide (e < 18)

end Sys2Proof
end

