-- ==== Sys2Proof/Certificates/Slice0/Obligations.lean ====
section
/-! DEFINITION. The statements for the provers, one proposition each. A statement about a command says that exec answers a next
state, what it holds and what it leaves unchanged; the rules it rests on stand in its docstring. -/

open Sys2Proof Sys2Proof.Machine

/-- A step takes the command at the front of the queue, runs exec on the rest, and idles on an empty queue (the model's own
queue, assumption 6). -/
def Obligations.StepRunsFront : Prop :=
  (∀ (c : Instr) (m : Mach) (q : List Instr), step { m := m, pending := c :: q } = exec c { m := m, pending := q }) ∧
  (∀ (m : Mach), step { m := m, pending := [] } = .next { m := m, pending := [] })

/-- After reset no command waits, the memory lists nothing, every register holds the reset value of its chapter's table, and the
values that the tables give other than 0 read so. -/
def Obligations.ResetState : Prop :=
  State.reset.pending = [] ∧ State.reset.m.mem.cells = [] ∧ State.reset.m.mem.wf = true ∧ State.reset.m.hostUp = false ∧
  (∀ idx, State.reset.m.word idx = resetAt idx) ∧ State.reset.m.w .DEV_ID = 0x00640300 ∧ State.reset.m.g F.DX_STAT_ACTIVE = 3 ∧
  State.reset.m.g F.DEV_BAR_STAT_INSERV = 15 ∧ State.reset.m.g F.DEV_BAR_STAT_SPARE_FOR = 7 ∧ State.reset.m.g F.FRM_LEN_LEN = 10000

/-- An index that no chapter defines reads 0, and writing it has no effect; an engine's write to such an index of a host block
leaves only the record that R24 gives every write to those blocks (R26). It says that these complete: registerWrite. -/
def Obligations.UndefinedIndices : Prop :=
  (∀ (m : Mach) (who : Who) (idx : Nat), regAt idx = none → m.regRead who idx = (m, 0)) ∧
  (∀ (s : State) (who : Who) (idx c : Nat) (v : Word), regAt idx = none → (isHostIdx idx = false ∨ ∃ role src, who = .host role src) →
    ∃ t, exec (.registerWrite who idx c v false) s = .next t ∧ t.pending = s.pending ∧
      { t.m with cyc := s.m.cyc } = Safety.PacketDone s.m who) ∧
  (∀ (s : State) (who : Who) (idx c : Nat) (v : Word), regAt idx = none → isHostIdx idx = true →
    ∃ t, exec (.registerWrite who idx c v false) s = .next t ∧ t.pending = s.pending ∧
      Safety.KeepsRegs s.m t.m [R.DEV_OWN_VIOL.idx 0 0] ∧
      { t.m with reg := s.m.reg, bar := s.m.bar, viols := s.m.viols, violAt := s.m.violAt, cyc := s.m.cyc } = Safety.PacketDone s.m who)

/-- A non-privileged event equal to the last record increments that record's REPEAT, full log or not (R350). It says that these
complete: eventRecord. -/
def Obligations.RepeatedEvents : Prop :=
  ∀ (s : State) (l : List Rec) (r : Rec) (f sub : Nat), s.m.hostUp = true → s.m.log.recs = l ++ [r] → privileged r.code = false →
    r.code < 65536 → r.src < 256 → r.arg0 < 4294967296 → r.arg1 < 4294967296 →
    ∃ t, exec (.eventRecord r.code r.src r.arg0 r.arg1 f sub) s = .next t ∧ t.pending = s.pending ∧
      t.m.log = { s.m.log with recs := l ++ [{ r with rep := if r.rep < 65535 then r.rep + 1 else 65535 }] } ∧ { t.m with log := s.m.log } = s.m

/-- While VALID is 1 a violation increments COUNT and raises its event, and the record keeps the first one (but for violations
of one cycle, of which the lower engine's is described, R445); a clear sets COUNT to 0; the violations of the frame of the
clear, before or after it, make a new first one (R29). It says that these complete: registerWrite. -/
def Obligations.ViolationRecord : Prop :=
  (∀ (s : State) (e idx c : Nat) (v : Word) (narrow : Bool) (kind : Nat), Safety.Violates s.m e idx v narrow kind →
    s.m.b F.DEV_OWN_VIOL_VALID = true → ¬ (s.m.violAt = (s.m.at c).now ∧ e % 32 < s.m.g F.DEV_OWN_VIOL_ENGINE) →
    ∃ t, exec (.registerWrite (.eng e) idx c v narrow) s = .next t ∧ t.pending = s.pending ∧
      t.m.w .DEV_OWN_VIOL = setBits (s.m.w .DEV_OWN_VIOL) 30 28 (min 7 (s.m.g F.DEV_OWN_VIOL_COUNT + 1)) ∧
      (∃ ev, t.m.bar.evq = s.m.bar.evq ++ [ev] ∧ ev.code = 0x0100 + kind ∧ ev.src = e ∧ ev.arg1 = idx ∧ ev.frame = s.m.frame) ∧
      Safety.KeepsRegs s.m t.m [R.DEV_OWN_VIOL.idx 0 0]) ∧
  (∀ (s : State) (who : Who) (c : Nat) (v : Word), Safety.FieldWriter s.m who → bit v.toNat 31 = true →
    (∀ x ∈ s.m.viols, x.1 ≠ s.m.frame) →
    ∃ t, exec (.registerWrite who (R.DEV_OWN_VIOL.idx 0 0) c v false) s = .next t ∧ t.pending = s.pending ∧
      t.m.b F.DEV_OWN_VIOL_VALID = false ∧ t.m.g F.DEV_OWN_VIOL_COUNT = 0 ∧ Safety.KeepsRegs s.m t.m [R.DEV_OWN_VIOL.idx 0 0] ∧
      { t.m with reg := s.m.reg, cyc := s.m.cyc } = Safety.PacketDone s.m who) ∧
  (∀ (s : State) (who : Who) (c a kind e idx : Nat) (l : List (Nat × Nat × Nat × Nat × Nat)) (v : Word), Safety.FieldWriter s.m who →
    bit v.toNat 31 = true → s.m.viols.filter (fun x => x.1 == s.m.frame) = (s.m.frame, a, kind, e, idx) :: l →
    (∀ x ∈ l, x.2.1 = a → e ≤ x.2.2.2.1 % 32) → kind < 3 → e < 32 → idx < 65536 →
    ∃ t, exec (.registerWrite who (R.DEV_OWN_VIOL.idx 0 0) c v false) s = .next t ∧ t.pending = s.pending ∧
      t.m.b F.DEV_OWN_VIOL_VALID = true ∧ t.m.g F.DEV_OWN_VIOL_COUNT = min 7 (l.length + 1) ∧ t.m.g F.DEV_OWN_VIOL_KIND = kind ∧
      t.m.g F.DEV_OWN_VIOL_ENGINE = e ∧ t.m.g F.DEV_OWN_VIOL_INDEX = idx ∧ Safety.KeepsRegs s.m t.m [R.DEV_OWN_VIOL.idx 0 0]) ∧
  (∀ (s : State) (e idx c : Nat) (v : Word) (narrow : Bool) (kind : Nat), Safety.Violates s.m e idx v narrow kind → e < 32 →
    s.m.b F.DEV_OWN_VIOL_VALID = false →
    ∃ t, exec (.registerWrite (.eng e) idx c v narrow) s = .next t ∧ t.pending = s.pending ∧ t.m.b F.DEV_OWN_VIOL_VALID = true ∧
      t.m.g F.DEV_OWN_VIOL_COUNT = 1 ∧ t.m.g F.DEV_OWN_VIOL_KIND = kind ∧ t.m.g F.DEV_OWN_VIOL_ENGINE = e ∧ t.m.g F.DEV_OWN_VIOL_INDEX = idx ∧
      (∃ l, t.m.viols = l ++ [(s.m.frame, (s.m.at c).now, kind, e, idx)]))

/-- A slot of the event window shows a record of the log as it stands, or 0; field engines read it through the mirror (R353). -/
def Obligations.EventWindow : Prop :=
  (∀ (m : Mach) (role src j w : Nat) (r : Rec), j < 16 → w < 8 → m.log.recs[m.g F.EV_CURSOR_CURSOR + j]? = some r →
    (m.regRead (.host role src) (R.EV_WIN.idx j w)).2.toNat = fieldAt r.bytes (4 * w) 4) ∧
  (∀ (m : Mach) (role src j w : Nat), j < 16 → w < 8 → m.log.recs.length ≤ m.g F.EV_CURSOR_CURSOR + j →
    (m.regRead (.host role src) (R.EV_WIN.idx j w)).2 = 0) ∧
  (∀ (m : Mach) (e j w : Nat), j < 16 → w < 8 →
    (m.regRead (.eng e) (R.EV_WIN.idx j w)).2 = smGet (fun _ => (0 : Word)) m.bar.mirror (R.EV_WIN.idx j w)) ∧
  (∀ (m : Mach) (e j w role src : Nat), j < 16 → w < 8 →
    (m.refreshMirror.regRead (.eng e) (R.EV_WIN.idx j w)).2 = (m.regRead (.host role src) (R.EV_WIN.idx j w)).2)

/-- The bytes of an event record and of a barrier cell give the record and the cell back, every field at its place, and the cell
passes its check (R347, R18). -/
def Obligations.RecordAndCellBytes : Prop :=
  (∀ (r : Rec), r.code < 2 ^ 16 → r.src < 2 ^ 8 → r.flags < 2 ^ 8 → r.arg0 < 2 ^ 32 → r.arg1 < 2 ^ 32 → r.cal < 2 ^ 32 → r.frame < 2 ^ 64 →
    r.sub < 2 ^ 32 → r.rep < 2 ^ 16 → Rec.ofBytes r.bytes = r ∧ r.bytes.length = 32 ∧ fieldAt r.bytes 30 2 = 0xA55A) ∧
  (∀ (c : Cell), 1 ≤ c.typ → c.typ ≤ 6 → c.resend < 64 → c.num < 2 ^ 16 → c.data.length = 32 →
    Cell.ofBytes c.bytes = c ∧ c.bytes.length = 40 ∧ cellGood c.bytes = true)

/-- Every step keeps the canonical form of the frame memory. -/
def Obligations.MemoryStaysCanonical : Prop :=
  ∀ (s t : State), s.m.mem.wf = true → step s = .next t → t.m.mem.wf = true

/-- As many steps as commands wait empty the queue, whatever the commands and the state are. -/
def Obligations.QueueRuns : Prop :=
  ∀ (s : State), ∃ t, Safety.run s.pending.length s = .next t ∧ t.pending = []

/-- A write of `FRM_CTL` starts, refuses or stops frame lock (R45, R47). A beacon measures the phase error and sets the
correction; holdover keeps the rate (R46, R47). It says that these complete: frameLockBeacon, lockHoldover, frmCtlLockWrite. -/
def Obligations.FrameLock : Prop :=
  (∀ (s : State) (who : Who) (v : Word), Safety.FieldWriter s.m who → ∃ t, exec (.frmCtlLockWrite who v) s = .next t ∧
    t.pending = s.pending ∧
    (v.toNat % 2 = 1 → lockable s.m.L = true → s.m.b F.FRM_CTL_LOCK = false → t.m.b F.FRM_CTL_LOCK = true ∧ t.m.b F.FRM_STAT_ACQUIRING = true) ∧
    (v.toNat % 2 = 1 → lockable s.m.L = false → t.m.b F.FRM_CTL_LOCK = false ∧ t.m.b F.FRM_STAT_LOCK_REFUSED = true) ∧
    (v.toNat % 2 = 0 → t.m.b F.FRM_CTL_LOCK = false ∧ t.m.b F.FRM_STAT_ACQUIRING = false ∧ t.m.b F.FRM_STAT_HOLDOVER = false ∧
      t.m.b F.FRM_STAT_LOCKED = false ∧ t.m.g F.FRM_LOCK_ERR = 0) ∧
    Safety.KeepsRegs s.m t.m [R.FRM_CTL.idx 0 0, R.FRM_STAT.idx 0 0, R.FRM_LOCK_ERR.idx 0 0] ∧
    { t.m with reg := s.m.reg, lock := s.m.lock, bar := s.m.bar, sets := s.m.sets } = Safety.PacketDone s.m who) ∧
  (∀ (s : State) (tickNs : Nat), ∃ t, exec (.frameLockBeacon tickNs) s = .next t ∧ t.pending = s.pending ∧
    (s.m.b F.FRM_CTL_LOCK = false → t = s) ∧
    (s.m.b F.FRM_CTL_LOCK = true → ∀ err, err = phaseError s.m.L (s.m.g F.FRM_LOCK_OFS_OFS) (2 * tickNs) →
      t.m.g F.FRM_LOCK_ERR = wrap 32 err ∧ t.m.b F.FRM_STAT_HOLDOVER = false ∧ t.m.lock.remain = Int.tdiv (err * 2) 5 ∧
      ((-500 ≤ err ∧ err ≤ 500) → s.m.b F.FRM_STAT_LOCKED = true → t.m.b F.FRM_STAT_LOCKED = true) ∧
      ((-500 ≤ err ∧ err ≤ 500) → s.m.b F.FRM_STAT_HOLDOVER = false → 3 ≤ s.m.lock.run → t.m.b F.FRM_STAT_LOCKED = true) ∧
      (¬ (-500 ≤ err ∧ err ≤ 500) → t.m.b F.FRM_STAT_LOCKED = false)) ∧
    Safety.KeepsRegs s.m t.m [R.FRM_STAT.idx 0 0, R.FRM_LOCK_ERR.idx 0 0] ∧
    { t.m with reg := s.m.reg, lock := s.m.lock, bar := s.m.bar } = s.m) ∧
  (∀ (s : State), ∃ t, exec .lockHoldover s = .next t ∧ t.pending = s.pending ∧
    (s.m.b F.FRM_CTL_LOCK = true → s.m.b F.FRM_STAT_HOLDOVER = false →
      t.m.b F.FRM_STAT_HOLDOVER = true ∧ t.m.b F.FRM_STAT_LOCKED = false ∧ t.m.b F.FRM_STAT_ACQUIRING = false ∧
      t.m.lock.rate = s.m.lock.rate) ∧
    (s.m.b F.FRM_CTL_LOCK = false ∨ s.m.b F.FRM_STAT_HOLDOVER = true → t = s) ∧
    Safety.KeepsRegs s.m t.m [R.FRM_STAT.idx 0 0] ∧
    { t.m with reg := s.m.reg, lock := s.m.lock, bar := s.m.bar } = s.m)

/-- The tick of a frame (R35, R42, R43, R47): the counter, the sub-frame count, the phase, LF; then the changes of side, the
units' cycle 0 and the samples of the latch phase. The end of latch (R35, R36, R126, R238, R437): input images, then host
commands and REARM, then stations and the scan's image, frame-triggered DMA, the engines' frame work. The commit point (R35,
R39, R40): which engines are on time, and what an overrun counts. Failure by overrun (R41): the engine's fault bit, its event,
then its failure action. It says that these complete: frameTick, endOfLatch, commitPoint, failureByOverrun. -/
def Obligations.FramePhases : Prop :=
  (∀ (s : State) (o : FrameIn) (m : Mach), s.m.ticking = true → s.m.phase = .staging → s.m.st ≠ stFIELD_START →
    m = (s.m.tickTime false).lfTick o.lf →
    ∃ t, exec (.frameTick o) s = .next t ∧ t.pending = s.pending ∧ t.m = ((m.changesTick o.apDur).unitsTick o false).latchSamples o ∧
      m.frame = (s.m.frame + 1) % 2 ^ 64 ∧ m.phase = .latch ∧ m.cyc = 0 ∧ m.sets = [] ∧ m.g F.FRM_SUB_SUB = 0 ∧
      m.fclk = s.m.fclk + s.m.curLen ∧
      (s.m.b F.FRM_STAT_HOLDOVER = false → m.lock.remain = s.m.lock.remain - s.m.correction) ∧ m.b F.PWR_STAT_LFOK = decide (18000 ≤ o.lf) ∧
      m.g F.PWR_LF_LFV = min 65535 o.lf ∧ m.g F.PWR_LF_LFMIN = min (s.m.g F.PWR_LF_LFMIN) (min 65535 o.lf)) ∧
  (∀ (m : Mach), -8 ≤ m.correction ∧ m.correction ≤ 8 ∧ (8 ≤ m.L → (m.curLen : Int) = m.L - m.correction) ∧
    (m.b F.FRM_CTL_LOCK = false → m.correction = 0)) ∧
  (∀ (s : State) (o : FrameIn), ¬ (s.m.ticking = true ∧ s.m.phase = .staging) → s.m.st ≠ stFIELD_START → exec (.frameTick o) s = .next s) ∧
  (∀ (s : State) (o : FrameIn) (m : Mach), s.m.st = stFIELD_START → s.m.b F.FRM_STAT_RUN = false → s.m.b F.FRM_CTL_LOCK = false →
    m = (s.m.tickTime true).lfTick o.lf →
    ∃ t, exec (.frameTick o) s = .next t ∧ t.pending = s.pending ∧ t.m = ((m.changesTick o.apDur).unitsTick o true).latchSamples o ∧
      m.frame = 0 ∧ m.phase = .latch ∧ m.cyc = 0 ∧ m.g F.FRM_SUB_SUB = 0 ∧ m.b F.FRM_STAT_RUN = true ∧ m.fclk = s.m.fclk) ∧
  (∀ (s : State) (us : Nat) (torn : List (Nat × Nat)) (m1 m2 : Mach), s.m.b F.FRM_STAT_RUN = true → s.m.phase = .latch → s.m.st ≠ stPOWER_FAIL →
    (trmChecks (s.m.at 1200).publishAll).st ≠ stPOWER_FAIL → m1 = (trmChecks (s.m.at 1200).publishAll).applyCmds.rearmDue → m2 = stnInputs (m1.spClocks us) torn →
    ∃ t, exec (.endOfLatch us torn) s = .next t ∧ t.pending = s.pending ∧ t.m.phase = .window ∧
      { t.m with phase := .latch } = { ((each (upTo 32) (m2.latchImage m2.inspWord torn) dmaFrame).frameWork us).shutStep with phase := .latch }) ∧
  (∀ (s : State) (us : Nat) (torn : List (Nat × Nat)), s.m.phase ≠ .latch → exec (.endOfLatch us torn) s = .next s) ∧
  (∀ (m : Mach) (n : Nat), (∀ p ∈ m.fresh, p.1 ≠ n) → smGet cellDefault m.publishFresh.cells n = smGet cellDefault m.cells n) ∧
  (∀ (m : Mach) (n : Nat) (v : Word × Bool), m.fresh.getLast? = some (n, v) → smGet cellDefault m.publishFresh.cells n = v ∧ m.publishFresh.fresh = []) ∧
  (∀ (m : Mach) (im : Image) (insp : Nat) (torn : List (Nat × Nat)), m.scan.img = some im →
    ∃ ip, (m.latchImage insp torn).scan.inp = some ip ∧ ip.f = m.frame ∧ ip.insp = insp ∧ ip.stn.length = im.stns.length ∧ ip.shaft.length = 8) ∧
  (∀ (s : State) (fin : List (Option Nat)) (token late apLate : Bool) (m0 m1 m2 m : Mach), s.m.ticking = true → s.m.phase = .window →
    m0 = (s.m.at (s.m.curLen - 400)).settleScan → late = (m0.frameBound 2 && m0.late fin 2) →
    apLate = m0.activeAp.any (fun x => m0.frameBound x && m0.late fin x) → m1 = (each (upTo 18) m0 (judgeEngine fin)).memFaults.failActions →
    m2 = (spToken m1 (token && !late)).giveUps.1 →
    m = (m2.commitOutputs ((spToken m1 (token && !late)).giveUps.2 || m2.dx.gapFrame == some m2.frame || m2.dx.held.isSome) apLate).readiness.runningEntry →
    ∃ t, exec (.commitPoint fin token) s = .next t ∧ t.pending = s.pending ∧ t.m = { m with phase := .staging }) ∧
  (∀ (s : State) (fin : List (Option Nat)) (token : Bool), ¬ (s.m.ticking = true ∧ s.m.phase = .window) → exec (.commitPoint fin token) s = .next s) ∧
  (∀ (m : Mach) (fin : List (Option Nat)) (e c : Nat), e < 18 → m.frameBound e = true → m.mem.forceOvr.contains e = false →
    nth fin e none = some c → c + 1600 ≤ m.curLen → c < 2 ^ 19 → ∀ m1, m1 = m.onTime e c →
    judgeEngine fin m e = m1.commitWork e ∧ m1.g F.FRM_USE_LAST e = c ∧ m1.g F.FRM_OVR_RUN e = 0 ∧
      m1.g F.FRM_PEAK_PEAK e = max (m.g F.FRM_PEAK_PEAK e) c ∧
      Safety.KeepsRegs m m1 [R.FRM_USE.idx e 0, R.FRM_PEAK.idx e 0, R.FRM_OVR.idx e 0] ∧ { m1 with reg := m.reg } = m) ∧
  (∀ (m : Mach) (fin : List (Option Nat)) (e : Nat), e < 18 → m.frameBound e = true →
    (m.mem.forceOvr.contains e = true ∨ nth fin e none = none ∨ ∃ c, nth fin e none = some c ∧ m.curLen - 1600 < c) →
    judgeEngine fin m e = m.abandonWork e) ∧
  (∀ (m : Mach) (e : Nat), e < 18 → m.consecLimit e > m.g F.FRM_OVR_RUN e + 1 → m.g F.FRM_OVR_CFG_WIN > m.winCount e + 1 →
    (m.overrun e).g F.FRM_USE_LAST e = 0x7FFFF ∧ (m.overrun e).g F.FRM_OVR_RUN e = min 15 (m.g F.FRM_OVR_RUN e + 1) ∧
    (m.overrun e).g F.FRM_OVR_TOTAL e = min 65535 (m.g F.FRM_OVR_TOTAL e + 1) ∧ (m.overrun e).g F.FRM_OVR_WINCNT e = min 255 (m.winCount e + 1) ∧
    (m.overrun e).b F.FRM_STAT_OVR_ANY = true ∧
    (m.overrun e).bar.evq.map (fun v => (v.code, v.src, v.frame)) = m.bar.evq.map (fun v => (v.code, v.src, v.frame)) ++ [(0x0200 + e, e, m.frame)]) ∧
  (∀ (s : State) (e : Nat) (m : Mach), e < 18 → s.m.ticking = true → s.m.frameBound e = true → s.m.failing = [] →
    s.m.consecLimit e ≤ s.m.g F.FRM_OVR_RUN e ∨ s.m.g F.FRM_OVR_CFG_WIN ≤ s.m.winCount e →
    m = { s.m.failCheck e with failing := [] } →
    ∃ (t : State) (ev : Ev), exec (.failureByOverrun e) s = .next t ∧ t.pending = s.pending ∧ t.m = (m.failAction e).giveUps.1 ∧
      m.gb F.DEV_ENG_FAULT_FAULT e = true ∧ m.bar.evq = s.m.bar.evq ++ [ev] ∧ ev.code = 0x0220 + e ∧ ev.src = e ∧ ev.frame = s.m.frame ∧
      Safety.KeepsRegs s.m m [R.DEV_ENG_FAULT.idx 0 0] ∧
      { m with reg := s.m.reg, bar := s.m.bar, sets := s.m.sets } = s.m) ∧
  (∀ (s : State) (e : Nat), (18 ≤ e ∨ s.m.ticking = false ∨
      s.m.failing.contains e = false ∧ s.m.g F.FRM_OVR_RUN e < s.m.consecLimit e ∧ s.m.winCount e < s.m.g F.FRM_OVR_CFG_WIN) →
    exec (.failureByOverrun e) s = .next s)

/-- The commands that clear peaks, counters and latched bits (R48, R69, R89, R124, R346, R435). A register write by its owner,
and one by an engine that does not own the register (R5, R14, R17, R24, R26, R29, R445). That every engine of the field may
write DEV_SCRATCH is the model's choice (log entry 20). It says that these complete: frmPeakClear, registerWrite, memClrPeaks,
trmClrall, pwmClrcnt, aqClrcnt, clrmin. -/
def Obligations.WritesAndClears : Prop :=
  (∀ (s : State) (who : Who) (e : Nat) (v : Word), Safety.FieldWriter s.m who → e < 19 → 2 ^ 31 ≤ v.toNat →
    ∃ t, exec (.frmPeakClear who e v) s = .next t ∧ t.pending = s.pending ∧ t.m.g F.FRM_PEAK_PEAK e = 0 ∧
      Safety.KeepsRegs s.m t.m [R.FRM_PEAK.idx e 0] ∧ { t.m with reg := s.m.reg } = Safety.PacketDone s.m who) ∧
  (∀ (s : State) (who : Who) (v : Word), Safety.FieldWriter s.m who → v.toNat % 2 = 1 →
    ∃ t, exec (.memClrPeaks who v) s = .next t ∧ t.pending = s.pending ∧ (∀ b < 4, t.m.w .MEM_ARB_PEAK b = 0) ∧
      Safety.KeepsRegs s.m t.m ((upTo 4).map (fun b => R.MEM_ARB_PEAK.idx b 0)) ∧ { t.m with reg := s.m.reg } = Safety.PacketDone s.m who) ∧
  (∀ (s : State) (who : Who) (v : Word), Safety.FieldWriter s.m who → v.toNat % 2 = 1 →
    ∃ t, exec (.pwmClrcnt who v) s = .next t ∧ t.pending = s.pending ∧ (∀ g < 12, t.m.w .PWM_GRP_CNT g = 0) ∧
      Safety.KeepsRegs s.m t.m ((upTo 12).map (fun g => R.PWM_GRP_CNT.idx g 0)) ∧ { t.m with reg := s.m.reg } = Safety.PacketDone s.m who) ∧
  (∀ (s : State) (who : Who) (v : Word), Safety.FieldWriter s.m who → v.toNat % 2 = 1 →
    ∃ t, exec (.aqClrcnt who v) s = .next t ∧ t.pending = s.pending ∧
      (∀ k < 4, t.m.g F.AQ_STM_STAT_LOST k = 0 ∧ t.m.g F.AQ_STM_STAT_MDROP k = 0 ∧ t.m.g F.AQ_STM_STAT_MWAIT k = s.m.g F.AQ_STM_STAT_MWAIT k) ∧
      (∀ k < 8, t.m.g F.AQ_TRG_STAT_COUNT k = 0 ∧ t.m.g F.AQ_TRG_STAT_ARMED k = s.m.g F.AQ_TRG_STAT_ARMED k) ∧ t.m.g F.AQ_QUEUE_PEAK = 0 ∧ t.m.g F.AQ_QUEUE_DEPTH = s.m.g F.AQ_QUEUE_DEPTH ∧
      Safety.KeepsRegs s.m t.m (R.AQ_QUEUE.idx 0 0 :: (upTo 4).map (fun k => R.AQ_STM_STAT.idx k 0) ++ (upTo 8).map (fun k => R.AQ_TRG_STAT.idx k 0)) ∧
      { t.m with reg := s.m.reg } = Safety.PacketDone s.m who) ∧
  (∀ (s : State) (who : Who) (v : Word), Safety.FieldWriter s.m who → getBits v 31 16 = 0x5A5A → bit v.toNat 1 = true → bit v.toNat 0 = false →
    ∃ t, exec (.clrmin who v) s = .next t ∧ t.pending = s.pending ∧ t.m.g F.PWR_LF_LFMIN = 0xFFFF ∧ t.m.g F.PWR_LF_LFV = s.m.g F.PWR_LF_LFV ∧
      Safety.KeepsRegs s.m t.m [R.PWR_LF.idx 0 0] ∧ { t.m with reg := s.m.reg } = Safety.PacketDone s.m who) ∧
  (∀ (s : State) (who : Who) (v : Word), Safety.FieldWriter s.m who → v.toNat % 2 = 1 →
    ∃ t, exec (.trmClrall who v) s = .next t ∧ t.pending = s.pending ∧
      (s.m.sets = [] → ∀ k < 96, ∀ b, 2 ≤ b → b ≤ 8 → bit (t.m.w .TRM_TSTAT k).toNat b = false) ∧
      Safety.KeepsRegs s.m t.m ((upTo 96).map (fun k => R.TRM_TSTAT.idx k 0)) ∧
      { t.m with reg := s.m.reg, trm := s.m.trm, sets := s.m.sets, bar := s.m.bar } = Safety.PacketDone s.m who) ∧
  (∀ (s : State) (who : Who) (c : Nat) (v : Word), Safety.FieldWriter s.m who →
    ∃ t, exec (.registerWrite who (R.DEV_SCRATCH.idx 0 0) c v false) s = .next t ∧ t.pending = s.pending ∧ t.m.w .DEV_SCRATCH = v ∧
      Safety.KeepsRegs s.m t.m [R.DEV_SCRATCH.idx 0 0] ∧ { t.m with reg := s.m.reg, cyc := s.m.cyc } = Safety.PacketDone s.m who) ∧
  (∀ (s : State) (e idx c : Nat) (v : Word) (narrow : Bool) (kind : Nat), Safety.Violates s.m e idx v narrow kind →
    ∃ t, exec (.registerWrite (.eng e) idx c v narrow) s = .next t ∧ t.pending = s.pending ∧
      (s.m.b F.DEV_OWN_VIOL_VALID = false → t.m.b F.DEV_OWN_VIOL_VALID = true ∧ t.m.g F.DEV_OWN_VIOL_KIND = kind ∧
        t.m.g F.DEV_OWN_VIOL_ENGINE = e % 32 ∧ t.m.g F.DEV_OWN_VIOL_INDEX = idx ∧ t.m.g F.DEV_OWN_VIOL_COUNT = 1 ∧
        t.m.violAt = (s.m.at c).now) ∧
      (s.m.b F.DEV_OWN_VIOL_VALID = true → t.m.g F.DEV_OWN_VIOL_COUNT = min 7 (s.m.g F.DEV_OWN_VIOL_COUNT + 1) ∧
        (¬ (s.m.violAt = (s.m.at c).now ∧ e % 32 < s.m.g F.DEV_OWN_VIOL_ENGINE) →
          t.m.g F.DEV_OWN_VIOL_INDEX = s.m.g F.DEV_OWN_VIOL_INDEX ∧ t.m.g F.DEV_OWN_VIOL_ENGINE = s.m.g F.DEV_OWN_VIOL_ENGINE ∧
          t.m.g F.DEV_OWN_VIOL_KIND = s.m.g F.DEV_OWN_VIOL_KIND) ∧
        (s.m.violAt = (s.m.at c).now ∧ e % 32 < s.m.g F.DEV_OWN_VIOL_ENGINE →
          t.m.g F.DEV_OWN_VIOL_INDEX = idx ∧ t.m.g F.DEV_OWN_VIOL_ENGINE = e % 32 ∧ t.m.g F.DEV_OWN_VIOL_KIND = kind)) ∧
      (∃ ev, t.m.bar.evq = s.m.bar.evq ++ [ev] ∧ ev.code = 0x0100 + kind ∧ ev.src = e ∧ ev.arg0 = e % 2 ^ 32 ∧ ev.arg1 = idx ∧
        ev.frame = s.m.frame) ∧
      Safety.KeepsRegs s.m t.m [R.DEV_OWN_VIOL.idx 0 0] ∧
      { t.m with reg := s.m.reg, bar := s.m.bar, viols := s.m.viols, violAt := s.m.violAt, cyc := s.m.cyc } = s.m)

/-- The commands that write the control register of an axis: each field takes what was written; REF and QSTOP are set by a 1
(R5, R153, R160, R161, R164). Targets, queries and cleared flags of an axis, restarts and page requests of a slot (R8, R139,
R145, R154, R163, R172). It says that these complete: pageSwapRequest, slotRestart, targetWrite, reachQuery, axisHold,
quickStop, axisEnable, referenceCommand, stallClear. -/
def Obligations.AxisAndSlotCommands : Prop :=
  (∀ (s : State) (who : Who) (a : Nat) (v : Word) (c : Instr), Safety.FieldWriter s.m who → a < 32 →
    c ∈ [Instr.axisHold who a v, Instr.quickStop who a v, Instr.axisEnable who a v, Instr.referenceCommand who a v] →
    ∃ t, exec c s = .next t ∧ t.pending = s.pending ∧
      t.m.g F.MG_CTL_EN a = getBits v 0 0 ∧ t.m.g F.MG_CTL_HOLD a = getBits v 1 1 ∧
      t.m.g F.MG_CTL_REFDIR a = getBits v 4 4 ∧ t.m.g F.MG_CTL_REFMODE a = getBits v 5 5 ∧
      t.m.b F.MG_CTL_QSTOP a = (s.m.b F.MG_CTL_QSTOP a || bit v.toNat 2) ∧
      t.m.b F.MG_CTL_REF a = (s.m.b F.MG_CTL_REF a || bit v.toNat 3) ∧
      Safety.KeepsRegs s.m t.m [R.MG_CTL.idx a 0] ∧
      (t.m.axis a).refAgain = ((s.m.axis a).refAgain || s.m.b F.MG_CTL_REF a && bit v.toNat 3) ∧ (∀ x, x ≠ a → t.m.axis x = s.m.axis x) ∧
      (bit v.toNat 3 = false → t.m.axes = s.m.axes) ∧ { t.m with reg := s.m.reg, axes := s.m.axes } = Safety.PacketDone s.m who) ∧
  (∀ (s : State) (who : Who) (a v : Nat), Safety.FieldWriter s.m who → a < 32 → v < 2 ^ 64 →
    ∃ t, exec (.targetWrite who a v) s = .next t ∧ t.pending = s.pending ∧ (t.m.axis a).tgt = some (sgn 64 v) ∧
      (∀ x, x ≠ a → t.m.axis x = s.m.axis x) ∧ (∀ h, h.1 ≠ Who.key who → (h ∈ t.m.held ↔ h ∈ s.m.held)) ∧
      { t.m with axes := s.m.axes, held := (Safety.PacketDone s.m who).held } = Safety.PacketDone s.m who) ∧
  (∀ (s : State) (who : Who) (a v : Nat), Safety.FieldWriter s.m who → a < 32 → v < 2 ^ 64 →
    ∃ t, exec (.reachQuery who a v) s = .next t ∧ t.pending = s.pending ∧ (t.m.axis a).query = true ∧ t.m.q .MG_QPOS_LO a = v ∧
      (∀ x, x ≠ a → t.m.axis x = s.m.axis x) ∧ (∀ h, h.1 ≠ Who.key who → (h ∈ t.m.held ↔ h ∈ s.m.held)) ∧
      Safety.KeepsRegs s.m t.m [R.MG_QPOS_LO.idx a 0, R.MG_QPOS_HI.idx a 0] ∧
      { t.m with reg := s.m.reg, axes := s.m.axes, held := (Safety.PacketDone s.m who).held } = Safety.PacketDone s.m who) ∧
  (∀ (s : State) (who : Who) (a : Nat) (v : Word), Safety.FieldWriter s.m who → a < 32 → bit v.toNat 10 = true → s.m.sets = [] →
    ∃ t, exec (.stallClear who a v) s = .next t ∧ t.pending = s.pending ∧ t.m.b F.MG_STAT_STALL a = false ∧
      t.m.b F.MG_STAT_REFD a = s.m.b F.MG_STAT_REFD a ∧ t.m.b F.MG_STAT_RUNNING a = s.m.b F.MG_STAT_RUNNING a ∧
      Safety.KeepsRegs s.m t.m [R.MG_STAT.idx a 0] ∧ { t.m with reg := s.m.reg } = Safety.PacketDone s.m who) ∧
  (∀ (s : State) (who : Who) (k : Nat) (v : Word), Safety.FieldWriter s.m who → k < 256 → bit v.toNat 2 = true →
    ∃ t, exec (.slotRestart who k v) s = .next t ∧ t.pending = s.pending ∧ t.m.b F.LP_CTL_RESTART k = true ∧
      t.m.g F.LP_CTL_EN k = getBits v 0 0 ∧ t.m.g F.LP_CTL_HOLD k = getBits v 1 1 ∧
      Safety.KeepsRegs s.m t.m [R.LP_CTL.idx k 0] ∧ { t.m with reg := s.m.reg } = Safety.PacketDone s.m who) ∧
  (∀ (s : State) (who : Who) (k : Nat) (v : Word), Safety.FieldWriter s.m who → k < 256 → s.m.inGap = false →
    v.toNat / 2 ^ 31 ≠ s.m.g F.LP_PAGE_SEL k →
    ∃ t, exec (.pageSwapRequest who k v) s = .next t ∧ t.pending = s.pending ∧ t.m.g F.LP_PAGE_SEL k = v.toNat / 2 ^ 31 ∧
      (t.m.slot k).chk = (if v.toNat / 2 ^ 31 = s.m.g F.LP_STAT_SELACT k then none else some 0) ∧
      Safety.KeepsRegs s.m t.m [R.LP_PAGE.idx k 0] ∧
      { t.m with reg := s.m.reg, slots := s.m.slots, bar := s.m.bar } = Safety.PacketDone s.m who)

/-- Operator marks, a restart of the host domain, an orderly shutdown and REARM (R5, R28, R44, R238, R425, R432): an operator
mark posts its event and waits for the streams, a host restart begins with HOST_RST 1 and closes every session, SHUT begins the
shutdown, and REARM is taken up at the end of latch. The code of the operator mark's event is the model's own (log entry 9). It
says that these complete: operatorMark, hostWarmRestart, rearm, shut. -/
def Obligations.HostTriggers : Prop :=
  (∀ (s : State) (who : Who) (v : Word), Safety.FieldWriter s.m who → getBits v 31 16 = 0x5A5A → bit v.toNat 1 = true → bit v.toNat 0 = false →
    ∃ t, exec (.operatorMark who v) s = .next t ∧ t.pending = s.pending ∧
      (∃ e, t.m.bar.evq = s.m.bar.evq ++ [e] ∧ e.code = markCode ∧ e.src = 0x20 ∧ e.frame = s.m.frame ∧ e.sub = stampWord s.m.L s.m.cyc) ∧
      (s.m.phase = .latch → s.m.engRuns 17 = true → t.m.aq.ops = s.m.aq.ops ++ [s.m.frame]) ∧
      { t.m with reg := s.m.reg, bar := s.m.bar, aq := s.m.aq } = Safety.PacketDone s.m who) ∧
  (∀ (s : State) (who : Who) (role src trig : Nat), s.m.hostUp = true → (trig = 1 ∨ trig = 2 ∨ trig = 0 ∧ s.m.fabricUp = true ∧ 2 ≤ role ∧ who = .host role src) →
    ∃ t, exec (.hostWarmRestart trig who) s = .next t ∧ t.pending = s.pending ∧ t.m.pow.hst = 3 ∧ (trig = 0 → t.m.b F.DEV_CTL_HOST_RST = true) ∧
      t.m.gb F.DEV_ENG_RUN_RUN 18 = false ∧ (∃ l, t.m.pow.restarts = l ++ [(18, s.m.now)]) ∧ (∀ j < 32, t.m.b F.ZL_SESS_VALID j = false) ∧
      t.m.mem = s.m.mem ∧ t.m.trm = s.m.trm ∧ t.m.key = s.m.key ∧ t.m.cells = s.m.cells ∧ t.m.scan = s.m.scan ∧ t.m.sp = s.m.sp) ∧
  (∀ (s : State) (who : Who) (v : Word), Safety.FieldWriter s.m who → getBits v 31 16 = 0x5A5A → bit v.toNat 0 = true → bit v.toNat 1 = false →
    s.m.b F.PWR_CTL_SHUT = false →
    ∃ t, exec (.shut who v) s = .next t ∧ t.pending = s.pending ∧ t.m.b F.PWR_CTL_SHUT = true ∧
      t.m.pow.shut = some (s.m.frame, s.m.now + 400000000) ∧ t.m.led.due = true ∧
      Safety.KeepsRegs s.m t.m [R.PWR_CTL.idx 0 0] ∧
      { t.m with reg := s.m.reg, led := s.m.led, pow := s.m.pow, key := s.m.key } = Safety.PacketDone s.m who) ∧
  (∀ (s : State) (role src : Nat) (v : Word), s.m.fabricUp = true → 3 ≤ role → s.m.b F.DEV_ROLE_STAT_COM_SET = true → getBits v 31 16 = 0x5A5A → bit v.toNat 0 = true →
    ∃ t, exec (.rearm (.host role src) v) s = .next t ∧ t.pending = s.pending ∧ t.m.b F.SF_CTL_REARM = true ∧
      Safety.KeepsRegs s.m t.m [R.SF_CTL.idx 0 0] ∧ { t.m with reg := s.m.reg } = Safety.PacketDone s.m (.host role src)) ∧
  (∀ (m : Mach), m.b F.SF_CTL_REARM = true →
      (m.sp.fault = true → { m.rearmDue with reg := m.reg, bar := m.bar } = m ∧ m.rearmDue.b F.SF_CTL_REARM = false ∧
        ∃ a b, m.rearmDue.bar.evq = m.bar.evq ++
          [{ code := 0x0A21, src := 2, arg0 := a, arg1 := b, frame := m.frame, sub := stampWord m.L m.cyc }]) ∧
      (m.sp.fault = false → m.rearmDue.b F.SF_CTL_REARM = false ∧ ∀ c < 8,
        m.rearmDue.b F.SF_MON_STAT_DIVFAIL c = (m.b F.SF_MON_STAT_DIVFAIL c && !(m.mon c).cleanDiv) ∧
        m.rearmDue.b F.SF_MON_STAT_ENCERR c = (m.b F.SF_MON_STAT_ENCERR c && !(m.mon c).cleanEnc)) ∧
      { m.rearmDue with reg := m.reg, bar := m.bar, sp := m.sp } = m)

/-- GO starts a stopped channel at its descriptor, STOP ends a busy one (R60, R61, R65). It says that these complete: dmaGo,
dmaStop. -/
def Obligations.DmaCommands : Prop :=
  (∀ (s : State) (e ch c : Nat) (v : Word), s.m.fabricUp = true → ch < 32 → (ch < 8 ∧ e = 17 ∨ 8 ≤ ch ∧ s.m.activeAp = some e) →
    bit v.toNat 0 = true → bit v.toNat 1 = false → s.m.dmaBusy ch = false →
    ∃ t, exec (.dmaGo (.eng e) ch c v) s = .next t ∧ t.pending = s.pending ∧ t.m.g F.MEM_DMA_STAT_REV ch = 0 ∧
      (s.m.mpuOk (20 + ch) (s.m.g F.MEM_DMA_DESC_DESC ch * 8) 16 false = false →
        t.m.g F.MEM_DMA_STAT_STATE ch = 4 ∧ t.m.w .MEM_DMA_ERR ch = Word.of (s.m.g F.MEM_DMA_DESC_DESC ch * 8)) ∧
      (s.m.mpuOk (20 + ch) (s.m.g F.MEM_DMA_DESC_DESC ch * 8) 16 false = true → s.m.mem.marks = [] →
        (t.m.dma ch).cur = s.m.g F.MEM_DMA_DESC_DESC ch * 8 ∧ t.m.g F.MEM_DMA_STAT_POS ch = 0 ∧
        (t.m.dma ch).armed = decide (t.m.g F.MEM_DMA_CTL_TRIG ch = 1) ∧ t.m.mem.cells = s.m.mem.cells ∧
        t.m.g F.MEM_DMA_STAT_STATE ch = (if (t.m.dma ch).refused then 6 else 1))) ∧
  (∀ (s : State) (e ch c : Nat) (v : Word), s.m.fabricUp = true → ch < 32 → (ch < 8 ∧ e = 17 ∨ 8 ≤ ch ∧ s.m.activeAp = some e) →
    bit v.toNat 1 = true → bit v.toNat 0 = false → s.m.dmaBusy ch = true →
    ∃ t, exec (.dmaStop (.eng e) ch c v) s = .next t ∧ t.pending = s.pending ∧ t.m.g F.MEM_DMA_STAT_STATE ch = 7 ∧
      t.m.g F.MEM_DMA_STAT_FAIRONLY ch = 0 ∧ (t.m.dma ch).armed = false ∧
      Safety.KeepsRegs s.m t.m [R.MEM_DMA_CTL.idx ch 0, R.MEM_DMA_STAT.idx ch 0] ∧
      (∀ k, k ≠ ch → t.m.dma k = s.m.dma k) ∧ { t.m with reg := s.m.reg, mem := { t.m.mem with dma := s.m.mem.dma }, cyc := s.m.cyc } = s.m)

/-- A burst that meets no other request is performed if the MPU permits it, and refused with a violation if not (R54, R56, R65,
R66). It says that these complete: burstRequest. -/
def Obligations.Bursts : Prop :=
  ∀ (s : State) (r : BurstReq), s.m.fabricUp = true → r.req < 20 → 0x20000000 ≤ r.addr → r.addr < 0x20200000 → burstLegal r = true →
    (s.m.arb (bankOf r.addr)).freeAt ≤ s.m.fclk + r.at_ →
    (s.m.mpuOk r.req r.addr r.len r.write = true → s.m.mem.marks = [] → r.write = false →
      ∃ t, exec (.burstRequest [r]) s = .next t ∧ t.pending = s.pending ∧
        t.m.mem.rdata = ((burstBeats r).map (fun p => s.m.mem.bytes p.1 p.2)).flatten ∧ t.m.mem.cells = s.m.mem.cells ∧
        Safety.KeepsRegs s.m t.m [R.MEM_ARB_PEAK.idx (bankOf r.addr) 0] ∧
        { t.m with reg := s.m.reg, mem := s.m.mem, cyc := s.m.cyc } = s.m) ∧
    (s.m.mpuOk r.req r.addr r.len r.write = true → s.m.mem.marks = [] → s.m.mem.remap = [] → r.write = true → r.data.length = r.len →
      ∃ t, exec (.burstRequest [r]) s = .next t ∧ t.pending = s.pending ∧
        (∀ i < r.len, t.m.mem.byte (r.addr - 0x20000000 + i) = r.data.getD i 0) ∧
        (∀ o, (o < r.addr - 0x20000000 ∨ r.addr - 0x20000000 + r.len ≤ o) → t.m.mem.byte o = s.m.mem.byte o) ∧
        Safety.KeepsRegs s.m t.m [R.MEM_ARB_PEAK.idx (bankOf r.addr) 0] ∧
        { t.m with reg := s.m.reg, mem := s.m.mem, cyc := s.m.cyc } = s.m) ∧
    (s.m.mpuOk r.req r.addr r.len r.write = false →
      ∃ t, exec (.burstRequest [r]) s = .next t ∧ t.pending = s.pending ∧ t.m.mem.cells = s.m.mem.cells ∧
        t.m.b F.MEM_STAT_MPU_ANY = true ∧ t.m.b F.MEM_MPU_VIOL_VALID = true ∧
        (∃ e, t.m.bar.evq = s.m.bar.evq ++ [e] ∧ e.code = 0x0308 ∧ e.arg0 = r.req ∧ e.arg1 = r.addr ∧ e.frame = s.m.frame))

/-- What a beat timeout before the first beat and a grant timeout do, by requester (R66, R68): the timeout is recorded and
raised, and the requester's own consequence follows. Grafting a row, the end of its copy, a late scrub pass and the end of a
descriptor (R52, R53, R60). It says that these complete: beatTimeout, rowGraft, rowCopyComplete, scrubPassLate, descriptorDone,
grantTimeout. -/
def Obligations.MemoryFaultsAndRows : Prop :=
  (∀ (s : State) (r : BurstReq) (c : Instr) (code a1 : Nat), r.req < 52 → r.req ≠ 19 → r.state = false → 0x20000000 ≤ r.addr → r.addr < 0x20200000 →
    (c = .beatTimeout r 0 ∧ code = 0x0302 ∧ burstLegal r = true ∧ s.m.mpuOk r.req r.addr r.len r.write = true ∧ a1 = r.addr / 8 * 8 ∨
     c = .grantTimeout r ∧ code = 0x0303 ∧ a1 = r.addr) →
    ∃ t, exec c s = .next t ∧ t.pending = s.pending ∧ t.m.mem.cells = s.m.mem.cells ∧ t.m.b F.MEM_STAT_TMO_ANY = true ∧
      t.m.b F.MEM_ERR_ADDR_VALID (bankOf r.addr) = true ∧
      (∃ e, t.m.bar.evq = s.m.bar.evq ++ [e] ∧ e.code = code ∧ e.arg0 = r.req ∧ e.arg1 = a1 ∧ e.frame = s.m.frame) ∧
      (r.req ≤ 1 → t.m.mem.apFault = s.m.mem.apFault ++ [r.req]) ∧
      (2 ≤ r.req → r.req ≤ 16 → t.m.mem.forceOvr = s.m.mem.forceOvr ++ [r.req]) ∧
      (r.req = 17 → t.m.mem.aqFault = max 1 s.m.mem.aqFault) ∧
      (r.req = 18 → t.m.mem.portFault = true) ∧
      (20 ≤ r.req → t.m.g F.MEM_DMA_STAT_STATE (r.req - 20) = 5 ∧ t.m.w .MEM_DMA_ERR (r.req - 20) = Word.of r.addr) ∧
      { t.m with reg := s.m.reg, mem := s.m.mem, bar := s.m.bar, sets := s.m.sets, cyc := s.m.cyc } = s.m) ∧
  (∀ (s : State) (r : BurstReq) (k : Nat), burstLegal r = false → exec (.beatTimeout r k) s = .next s) ∧
  (∀ (s : State) (r : BurstReq) (k : Nat), r.req < 20 → burstLegal r = true → k < (burstBeats r).length → s.m.mpuOk r.req r.addr r.len r.write = false →
    ∃ t, exec (.beatTimeout r k) s = .next t ∧ t.pending = s.pending ∧ t.m.mem.cells = s.m.mem.cells ∧ t.m.b F.MEM_STAT_MPU_ANY = true ∧
      (∃ e, t.m.bar.evq = s.m.bar.evq ++ [e] ∧ e.code = 0x0308 ∧ e.arg0 = r.req ∧ e.arg1 = r.addr % 2 ^ 32 ∧ e.frame = s.m.frame)) ∧
  (∀ (s : State) (row : Nat), rowGraftDue s.m row = true → s.m.mem.copying row = false →
    ∃ t, exec (.rowGraft row) s = .next t ∧ t.pending = s.pending ∧
      (∀ sp, s.m.mem.freeSpare (row / 2048) = some sp → s.m.g F.MEM_BANK_STAT_SPARE_FREE (row / 2048) ≠ 0 → t.m.mem.copies = s.m.mem.copies ++ [(row, sp, 4)] ∧
        t.m.g F.MEM_BANK_STAT_SPARE_FREE (row / 2048) = (s.m.g F.MEM_BANK_STAT_SPARE_FREE (row / 2048) - 1)) ∧
      ((s.m.mem.freeSpare (row / 2048) = none ∨ s.m.g F.MEM_BANK_STAT_SPARE_FREE (row / 2048) = 0) → t.m.mem = s.m.mem ∧
        ∃ e, t.m.bar.evq = s.m.bar.evq ++ [e] ∧ e.code = 0x0311 ∧ e.arg0 = row / 2048) ∧
      (∀ o, t.m.mem.byte o = s.m.mem.byte o) ∧ Safety.KeepsRegs s.m t.m [R.MEM_BANK_STAT.idx (row / 2048) 0] ∧
      { t.m with reg := s.m.reg, mem := s.m.mem, bar := s.m.bar } = s.m) ∧
  (∀ (s : State) (row sp n : Nat), s.m.mem.copies.find? (fun c => c.1 == row) = some (row, sp, n) → s.m.mem.remap = [] → row < 8192 →
    (∀ i < 32, s.m.mem.mark (s.m.mem.phys (256 * row + 8 * i) / 8) ≠ 1) →
    ∃ t, exec (.rowCopyComplete row) s = .next t ∧ t.pending = s.pending ∧ t.m.mem.remap = [(row, sp)] ∧
      (∀ o, o < 0x200000 → t.m.mem.byte o = s.m.mem.byte o) ∧ lookN t.m.mem.ce row = 0 ∧ t.m.mem.copying row = false ∧
      (∃ e, t.m.bar.evq = s.m.bar.evq ++ [e] ∧ e.code = 0x0310 ∧ e.arg0 = row / 2048) ∧
      { t.m with mem := s.m.mem, bar := s.m.bar } = s.m) ∧
  (∀ (s : State) (b : Nat), b < 4 → s.m.b F.MEM_ECC_CFG_SCRUB = true → 8448 ≤ s.m.frame - nth s.m.mem.passStart b 0 →
    nth s.m.mem.passLate b false = false →
    ∃ t, exec (.scrubPassLate b) s = .next t ∧ t.pending = s.pending ∧ nth t.m.mem.passLate b false = true ∧
      (∃ e, t.m.bar.evq = s.m.bar.evq ++ [e] ∧ e.code = 0x0312 ∧ e.arg0 = b ∧ e.frame = s.m.frame) ∧ t.m.mem.cells = s.m.mem.cells ∧
      { t.m with mem := s.m.mem, bar := s.m.bar } = s.m) ∧
  (∀ (s : State) (ch c : Nat), ch < 32 → s.m.dmaBusy ch = true → (s.m.dma ch).len ≤ (s.m.dma ch).pos → bit (s.m.dma ch).ctl 4 = false →
    ∃ t, exec (.descriptorDone ch c) s = .next t ∧ t.pending = s.pending ∧ t.m.g F.MEM_DMA_STAT_STATE ch = 2 ∧
      t.m.g F.MEM_DMA_STAT_FAIRONLY ch = 0 ∧
      (bit (s.m.dma ch).ctl 3 = false → t.m.bar = s.m.bar) ∧
      (bit (s.m.dma ch).ctl 3 = true → ∃ e, t.m.bar.evq = s.m.bar.evq ++ [e] ∧ e.code = 0x0320 + ch ∧ e.arg1 = (s.m.dma ch).cur % 2 ^ 32) ∧
      Safety.KeepsRegs s.m t.m [R.MEM_DMA_STAT.idx ch 0] ∧ { t.m with reg := s.m.reg, bar := s.m.bar, cyc := s.m.cyc } = s.m)

/-- Cells and cycles of the isolation barrier (R18, R19, R20, R21, R24, R476): a cycle takes what the last one carried as
arrived and fills the places of the next, one TIM cell in each direction; a good cell counts as arrived at once, a bad one is
counted and its cell goes again. A lane leaves service, the spare lane is grafted in its place, and a command takes effect at an
end of latch (R22, R23, R299). It says that these complete: barrierCycle, barrierCell, laneOutOfService, laneGraft, cmdMessage.
-/
def Obligations.BarrierTraffic : Prop :=
  (∀ (s : State) (c hv : Nat), s.m.bar.running = true → s.m.hostUp = true → s.m.lanes ≠ [] → s.m.bar.slots = [] → s.m.bar.msgs = [] →
    s.m.bar.resend = [] → s.m.bar.graftPend = none → s.m.bar.evq = [] → s.m.bar.incs = [] → s.m.aq.queue = [] →
    ∃ t, exec (.barrierCycle c [] hv) s = .next t ∧ t.pending = s.pending ∧ t.m.bar.cycle = s.m.bar.cycle + 1 ∧
      t.m.bar.tim = some (s.m.frame, stampWord s.m.L c) ∧ t.m.bar.hv = some hv ∧ t.m.bar.bcn = s.m.link.bcn ∧
      t.m.bar.slots = [{ toField := false, lane := s.m.lanes.headD 0, pos := 0, typ := tTIM, num := nth s.m.bar.nextNum tTIM 0 },
        { toField := true, lane := s.m.lanes.headD 0, pos := 0, typ := tTIM, num := nth s.m.bar.nextNum 0 0 }] ∧
      { t.m with bar := s.m.bar, cyc := s.m.cyc } = s.m) ∧
  (∀ (s : State) (c hv : Nat) (unlocked : List Nat), s.m.bar.running = true →
    ∃ t, exec (.barrierCycle c unlocked hv) s = .next t ∧ t.pending = s.pending ∧ t.m.bar.cycle = s.m.bar.cycle + 1 ∧ t.m.cyc = c ∧
      t.m.phase = s.m.phase ∧ t.m.trm = s.m.trm ∧ t.m.cells = s.m.cells ∧ t.m.axes = s.m.axes ∧ t.m.scan = s.m.scan ∧ t.m.sp = s.m.sp ∧
      (s.m.hostUp = true → t.m.lanes ≠ [] → t.m.bar.tim = some (s.m.frame, stampWord s.m.L c) ∧ t.m.bar.hv = some hv)) ∧
  (∀ (s : State) (c hv : Nat) (unlocked : List Nat), s.m.bar.running = false → exec (.barrierCycle c unlocked hv) s = .next s) ∧
  (∀ (s : State) (toField : Bool) (lane pos : Nat) (bytes : List Byte) (x : CellSlot), s.m.bar.running = true → s.m.laneOn lane = true →
    cellGood bytes = true →
    s.m.bar.slots.find? (fun y => y.toField == toField && y.typ != tTIM && s.m.carries y (Cell.ofBytes bytes)) = some x →
    ∃ t, exec (.barrierCell toField lane pos bytes) s = .next t ∧ t.pending = s.pending ∧ t.m.bar.slots = s.m.bar.slots.erase x ∧
      t.m.bar.msgs = s.m.bar.msgs.map (fun y => if x.of y then { y with flying := y.flying - 1 } else y) ∧
      { t.m with bar := { t.m.bar with slots := s.m.bar.slots, msgs := s.m.bar.msgs } } = s.m) ∧
  (∀ (s : State) (toField : Bool) (lane pos : Nat) (bytes : List Byte) (x : CellSlot), s.m.bar.running = true → lane < 5 → s.m.laneOn lane = true →
    cellGood bytes = false → s.m.slotAt toField lane pos = some x → x.typ ≠ tTIM → x.resend < 2 →
    (s.m.bar.errAt.filter (fun e => e.1 == lane)).length < 15 →
    s.m.g F.SPR_PART_WEAR (31 + lane) + 256 < s.m.g F.SPR_WEAR_CFG_WARN → s.m.g F.SPR_PART_WEAR (31 + lane) + 256 < s.m.g F.SPR_WEAR_CFG_GRAFT →
    ∃ t, exec (.barrierCell toField lane pos bytes) s = .next t ∧ t.pending = s.pending ∧ t.m.bar.slots = s.m.bar.slots.erase x ∧
      t.m.bar.resend = s.m.bar.resend ++ [{ x with resend := x.resend + 1 }] ∧
      t.m.g F.DEV_BAR_ERR_CRCERR lane = min 0xFFFF (s.m.g F.DEV_BAR_ERR_CRCERR lane + 1) ∧
      lookN t.m.bar.incs (217 + lane) = lookN s.m.bar.incs (217 + lane) + 1 ∧
      Safety.KeepsRegs s.m t.m [R.DEV_BAR_ERR.idx lane 0, R.SPR_PART.idx (31 + lane) 0] ∧
      { t.m with reg := s.m.reg, bar := s.m.bar, led := s.m.led } = s.m) ∧
  (∀ (s : State) (l : Nat), s.m.bar.running = true → l < 5 → s.m.laneOn l = true →
    ∃ t, exec (.laneOutOfService l) s = .next t ∧ t.pending = s.pending ∧ t.m.laneOn l = false ∧ t.m.gb F.DEV_BAR_STAT_FAILED l = true ∧
      (∀ k < 5, k ≠ l → t.m.laneOn k = s.m.laneOn k) ∧
      (∃ e, t.m.bar.evq = s.m.bar.evq ++ [e] ∧ e.code = 0x0110 + l ∧ e.arg0 = l ∧ e.frame = s.m.frame) ∧
      Safety.KeepsRegs s.m t.m [R.DEV_BAR_STAT.idx 0 0] ∧
      { t.m with reg := s.m.reg, bar := s.m.bar, sets := s.m.sets } = s.m) ∧
  (∀ (s : State) (l c : Nat), s.m.bar.graftPend = some (l, c) → l < 4 → s.m.laneSpare = true →
    ∃ t, exec .laneGraft s = .next t ∧ t.pending = s.pending ∧ t.m.laneOn 4 = true ∧ t.m.g F.DEV_BAR_STAT_SPARE_FOR = l ∧
      t.m.bar.graftPend = none ∧ t.m.g F.SPR_PART_STATE 35 = 2 ∧ t.m.g F.SPR_PART_FOR 35 = 31 + l ∧ t.m.g F.SPR_PART_STATE (31 + l) = 3 ∧
      Safety.KeepsRegs s.m t.m [R.DEV_BAR_STAT.idx 0 0, R.SPR_PART.idx 35 0, R.SPR_PART.idx (31 + l) 0, R.SPR_LOG.idx 0 0] ∧
      { t.m with reg := s.m.reg, bar := s.m.bar } = s.m) ∧
  (∀ (s : State), s.m.bar.graftPend = none → exec .laneGraft s = .next s) ∧
  (∀ (s : State), ¬ (s.m.ticking = true ∧ s.m.phase = .latch) → exec .cmdMessage s = .next s) ∧
  (∀ (s : State) (x : BarMsg) (p : Pkt) (f0 : Nat), s.m.ticking = true → s.m.phase = .latch → s.m.bar.cmds = [(x.num, f0)] → f0 ≤ s.m.frame →
    s.m.bar.msgs = [x] → x.toField = true → x.typ = tCMD → x.body = .cmd p → p.op = 0x70 → p.payload = [] → 1 ≤ p.role →
    s.m.g F.DEV_BAR_STAT_INSERV ≠ 0 → s.m.mem.portFault = false → s.m.waits p = true →
    ∃ t y, exec .cmdMessage s = .next t ∧ t.pending = s.pending ∧ t.m.bar.cmds = [] ∧ t.m.bar.msgs = [y] ∧ y.toField = false ∧ y.typ = tRPL ∧
      (∃ d, y.body = .rpl { src := p.src, seq := p.seq, op := 0x70, status := OK, data := d }) ∧
      { t.m with bar := s.m.bar } = s.m)

/-- What the protections of the terminals do at once: the switch is opened, the fault bit set and its event raised (R79, R80,
R84, R85). It says that these complete: supplyComparatorTrip, groupWatchdogExpiry, overloadTrip, thermalShutdown. -/
def Obligations.TerminalProtection : Prop :=
  (∀ (s : State) (k c : Nat) (x : Instr) (f : Fd), k < 96 →
    (x = .overloadTrip k c ∧ f = F.TRM_TSTAT_OVERLOAD ∧ s.m.drv k = true ∨ x = .thermalShutdown k c ∧ f = F.TRM_TSTAT_THERMAL) →
    ∃ t, exec x s = .next t ∧ t.pending = s.pending ∧ t.m.trm.opened.testBit k = true ∧
      (∀ j, j ≠ k → t.m.trm.opened.testBit j = s.m.trm.opened.testBit j) ∧ t.m.b f k = true ∧
      (s.m.b f k = true → t.m.bar = s.m.bar) ∧
      (s.m.b f k = false → ∃ e, t.m.bar.evq = s.m.bar.evq ++ [e] ∧ e.code = 0x0400 + f.lo ∧ e.src = 0x20 ∧ e.arg0 = k ∧
        e.frame = s.m.frame ∧ e.sub = stampWord s.m.L c) ∧
      Safety.KeepsRegs s.m t.m [R.TRM_TSTAT.idx k 0] ∧
      { t.m with reg := s.m.reg, trm := s.m.trm, bar := s.m.bar, sets := s.m.sets, cyc := s.m.cyc } = s.m) ∧
  (∀ (s : State) (g c : Nat), g < 6 →
    ∃ t, exec (.supplyComparatorTrip g c) s = .next t ∧ t.pending = s.pending ∧ nth t.m.trm.cmpLost g false = true ∧
      (∀ j, t.m.trm.opened.testBit j = (s.m.trm.opened.testBit j || decide (j / 16 = g))) ∧
      { t.m with trm := s.m.trm, cyc := s.m.cyc } = s.m) ∧
  (∀ (s : State) (g : Nat), g < 6 → s.m.trm.wdOn = true → s.m.g F.TRM_GRP_CFG_WDOG g ≤ nth s.m.trm.wdCount g 0 →
    s.m.b F.TRM_GRP_STAT_WDEXP g = false →
    ∃ t, exec (.groupWatchdogExpiry g) s = .next t ∧ t.pending = s.pending ∧ t.m.b F.TRM_GRP_STAT_WDEXP g = true ∧
      t.m.b F.TRM_GRP_STAT_WDEVT g = true ∧
      (∃ e, t.m.bar.evq = s.m.bar.evq ++ [e] ∧ e.code = 0x0420 ∧ e.arg0 = g ∧ e.frame = s.m.frame) ∧
      Safety.KeepsRegs s.m t.m [R.TRM_GRP_STAT.idx g 0] ∧
      { t.m with reg := s.m.reg, bar := s.m.bar, sets := s.m.sets } = s.m)

/-- Triggers and conversions of the analogue unit, and slices that fail (R91, R92, R93, R94, R95, R97, R99, R100, R102, R105).
The steps of annealing (R102, R103, R104): calibration, waiting, overlap and the exchange of slices; the former holder finishes
its scan before it becomes the spare. It says that these complete: adcScanTrigger, conversionComplete, sliceFailure,
sliceReplaced, annealCalEnd, annealWaitEnd, annealStep, annealSwitch. -/
def Obligations.ConversionsAndAnneal : Prop :=
  (∀ (s : State) (k c : Nat), s.m.triggers k c = true →
    ∃ t, exec (.adcScanTrigger k c) s = .next t ∧ t.pending = s.pending ∧
      (nth s.m.adc.busy k 0 ≤ s.m.fclk + c → nth t.m.adc.busy k 0 = s.m.fclk + c + s.m.scanLen k ∧ t.m.reg = s.m.reg ∧ t.m.bar = s.m.bar ∧
        (∃ r, r ∈ nth t.m.adc.scans k [] ∧ r.start = s.m.fclk + c ∧ r.chs = s.m.roleMask k ∧ r.x = s.m.roleSlice k) ∧
        t.m.sets = s.m.sets) ∧
      (s.m.fclk + c < nth s.m.adc.busy k 0 → t.m.adc = s.m.adc ∧ t.m.b F.ADC_STAT_TRGMISS_ANY = true ∧
        t.m.g F.ADC_ROLE_STAT_TRGMISS k = min 0xFFFF (s.m.g F.ADC_ROLE_STAT_TRGMISS k + 1) ∧
        (∃ e, t.m.bar.evq = s.m.bar.evq ++ [e] ∧ e.code = 0x0500 ∧ e.arg0 = k ∧ e.frame = s.m.frame) ∧
        Safety.KeepsRegs s.m t.m [R.ADC_STAT.idx 0 0, R.ADC_ROLE_STAT.idx k 0]) ∧
      { t.m with reg := s.m.reg, adc := s.m.adc, bar := s.m.bar, sets := s.m.sets, cyc := s.m.cyc } = s.m) ∧
  (∀ (s : State) (k c : Nat), s.m.triggers k c = false → exec (.adcScanTrigger k c) s = .next s) ∧
  (∀ (s : State) (k ch c : Nat) (r : AdcScan) (v : Sample) (alt : List Sample) (x : Int), ch < 48 → s.m.phase ≠ .latch → s.m.adc.leave = none →
    (s.m.at c).scanOf k ch = some r → r.n = 0 → r.x < 17 → r.y < 17 → x = s.m.sliceCode r.x (codeOf v (s.m.chLsb ch)) →
    ∃ t, exec (.conversionComplete k ch c [v] alt) s = .next t ∧ t.pending = s.pending ∧
      nth t.m.adc.acc ch {} = { code := satS 16 x, ovr := satS 16 x != x, slice := r.y, sus := (s.m.slice r.x).susNext || (s.m.slice r.x).failed || (nth s.m.adc.chSus ch false && satS 16 x == x), refns := !(s.m.at c).refOk ch (s.m.fclk + c - 80), cnt := min 15 ((nth s.m.adc.acc ch {}).cnt + 1) } ∧
      (∀ j, j ≠ ch → nth t.m.adc.acc j {} = nth s.m.adc.acc j {}) ∧
      Safety.KeepsRegs s.m t.m [R.ADC_STAT.idx 0 0] ∧
      { t.m with reg := s.m.reg, adc := s.m.adc, sets := s.m.sets, cyc := s.m.cyc } = s.m) ∧
  (∀ (s : State) (k ch c : Nat) (r : AdcScan) (inp alt : List Sample), ch < 48 → s.m.phase ≠ .latch → s.m.adc.leave = none →
    (s.m.at c).scanOf k ch = some r → r.n ≠ 0 → r.x < 17 → r.y < 17 → inp.length = r.n →
    (∀ x < 17, s.m.gi F.ADC_SLICE_STAT_OFS x = 0 ∧ s.m.gi F.ADC_SLICE_STAT_GAIN x = 0) →
    ∃ t, exec (.conversionComplete k ch c inp alt) s = .next t ∧ t.pending = s.pending ∧
      (nth t.m.adc.acc ch {}).code = meanCode (inp.map (fun v => satS 16 (codeOf v (s.m.chLsb ch)))) ∧
      (nth t.m.adc.acc ch {}).slice = r.y ∧
      (nth t.m.adc.acc ch {}).ovr = inp.any (fun v => satS 16 (codeOf v (s.m.chLsb ch)) != codeOf v (s.m.chLsb ch)) ∧
      (∀ j, j ≠ ch → nth t.m.adc.acc j {} = nth s.m.adc.acc j {}) ∧
      Safety.KeepsRegs s.m t.m [R.ADC_STAT.idx 0 0]) ∧
  (∀ (s : State) (k ch c : Nat) (inp alt : List Sample), (s.m.at c).scanOf k ch = none → exec (.conversionComplete k ch c inp alt) s = .next s) ∧
  (∀ (s : State) (x c : Nat), x < 17 → 2 ≤ (s.m.slice x).tcRun →
    ∃ t, exec (.sliceFailure x c) s = .next t ∧ t.pending = s.pending ∧ (t.m.slice x).failed = true ∧
      (∀ j, j ≠ x → t.m.slice j = s.m.slice j) ∧ { t.m with adc := s.m.adc, cyc := s.m.cyc } = s.m) ∧
  (∀ (s : State) (x : Nat), x < 17 → (s.m.slice x).failed = true → s.m.g F.ADC_SLICE_STAT_STATE x = 0 → s.m.spareSlice < 17 → s.m.spareSlice ≠ x →
    s.m.g F.ADC_SLICE_STAT_ROLE x < 16 → (∀ j < 17, j ≠ x → (s.m.slice j).failed = false) →
    ∃ t, exec .sliceReplaced s = .next t ∧ t.pending = s.pending ∧ t.m.roleSlice (s.m.g F.ADC_SLICE_STAT_ROLE x) = s.m.spareSlice ∧
      t.m.g F.ADC_SLICE_STAT_STATE s.m.spareSlice = 0 ∧ t.m.g F.ADC_SLICE_STAT_STATE x = 3 ∧ t.m.b F.ADC_STAT_NOSPARE = true ∧
      t.m.spareSlice = 0x1F) ∧
  (∀ (s : State) (ofs gain : Int), s.m.annealPhase = 0 → s.m.spareSlice < 17 → 2048 ≤ s.m.g F.ADC_ANNEAL_STAT_COUNT →
    ∃ t, exec (.annealCalEnd ofs gain) s = .next t ∧ t.pending = s.pending ∧
      (-64 ≤ ofs → ofs ≤ 64 → -50 ≤ gain → gain ≤ 50 →
        t.m.gi F.ADC_SLICE_STAT_OFS s.m.spareSlice = ofs ∧ t.m.gi F.ADC_SLICE_STAT_GAIN s.m.spareSlice = gain ∧
        t.m.g F.ADC_ANNEAL_STAT_COUNT = 0 ∧ t.m.annealPhase = (if s.m.b F.ADC_ANNEAL_STAT_RETRY then 2 else 1)) ∧
      ((ofs < -64 ∨ 64 < ofs ∨ gain < -50 ∨ 50 < gain) →
        t.m.g F.ADC_SLICE_STAT_STATE s.m.spareSlice = 3 ∧ t.m.b F.ADC_STAT_NOSPARE = true ∧ t.m.annealPhase = 3)) ∧
  (∀ (s : State), s.m.annealPhase = 1 → s.m.g F.ADC_ANNEAL_CFG_DWELL ≤ s.m.frame - s.m.adc.stepStart → s.m.spareSlice < 17 →
    ∃ t, exec .annealWaitEnd s = .next t ∧ t.pending = s.pending ∧ t.m.annealPhase = 2 ∧ t.m.g F.ADC_ANNEAL_STAT_COUNT = 0 ∧
      t.m.g F.ADC_SLICE_STAT_STATE s.m.spareSlice = 2 ∧ t.m.g F.ADC_SLICE_STAT_ROLE s.m.spareSlice = s.m.g F.ADC_ANNEAL_STAT_NEXTROLE ∧
      t.m.adc.diff = [] ∧
      Safety.KeepsRegs s.m t.m [R.ADC_ANNEAL_STAT.idx 0 0, R.ADC_SLICE_STAT.idx s.m.spareSlice 0, R.ADC_CTL.idx 0 0] ∧
      { t.m with reg := s.m.reg, adc := s.m.adc } = s.m) ∧
  (∀ (s : State) (who : Who) (v : Word), Safety.FieldWriter s.m who → v.toNat % 2 = 1 → s.m.annealPhase = 1 →
    ∃ t, exec (.annealStep who v) s = .next t ∧ t.pending = s.pending ∧ t.m.b F.ADC_CTL_STEP = true ∧ t.m.adc.stepReq = true ∧
      Safety.KeepsRegs s.m t.m [R.ADC_CTL.idx 0 0] ∧ { t.m with reg := s.m.reg, adc := s.m.adc } = Safety.PacketDone s.m who) ∧
  (∀ (s : State) (who : Who) (v : Word), Safety.FieldWriter s.m who → s.m.annealPhase ≠ 1 →
    ∃ t, exec (.annealStep who v) s = .next t ∧ t.pending = s.pending ∧ t.m = Safety.PacketDone s.m who) ∧
  (∀ (s : State) (k x y : Nat), s.m.annealPhase = 2 → s.m.spareSlice = x → x < 17 → 16 ≤ s.m.g F.ADC_ANNEAL_STAT_COUNT →
    s.m.b F.ADC_ANNEAL_CFG_EN = true →
    s.m.g F.ADC_ANNEAL_STAT_NEXTROLE = k → k < 16 → s.m.roleSlice k = y → y < 17 → y ≠ x →
    ∃ t, exec .annealSwitch s = .next t ∧ t.pending = s.pending ∧
      (s.m.diffBad = false → t.m.roleSlice k = x ∧ t.m.g F.ADC_SLICE_STAT_STATE x = 0 ∧
        ∃ e l, t.m.bar.evq = s.m.bar.evq ++ e :: l ∧ e.code = 0x0520 ∧ e.arg0 = k ∧ e.arg1 = x) ∧
      (s.m.diffBad = false → s.m.scanning y = false → s.m.wornSlice y = none → s.m.adc.worn = [] → t.m.spareSlice = y ∧ t.m.annealPhase = 0 ∧
        t.m.g F.ADC_SLICE_STAT_STATE y = 1 ∧ t.m.g F.ADC_ANNEAL_STAT_NEXTROLE = (k + 1) % 16) ∧
      (s.m.diffBad = false → s.m.scanning y = true → t.m.spareSlice = 0x1F ∧ t.m.adc.leave = some y ∧
        t.m.g F.ADC_SLICE_STAT_STATE y = s.m.g F.ADC_SLICE_STAT_STATE y) ∧
      (s.m.diffBad = true → s.m.b F.ADC_ANNEAL_STAT_RETRY = false → t.m.roleSlice k = y ∧ t.m.annealPhase = 0 ∧
        t.m.b F.ADC_ANNEAL_STAT_RETRY = true ∧ ∃ e, t.m.bar.evq = s.m.bar.evq ++ [e] ∧ e.code = 0x0521 ∧ e.arg0 = k ∧ e.arg1 = x) ∧
      (s.m.diffBad = true → s.m.b F.ADC_ANNEAL_STAT_RETRY = true → t.m.g F.ADC_SLICE_STAT_STATE x = 3 ∧ t.m.b F.ADC_STAT_NOSPARE = true))

/-- Counted edges, fault conditions and SSI readings of an encoder port (R107, R108, R109, R110). It says that these complete:
encoderEdge, encoderFault, ssiRead. -/
def Obligations.EncoderPorts : Prop :=
  (∀ (s : State) (p c w : Nat) (d : Int), p < 8 → (s.m.epMode p = 1 ∨ s.m.epMode p = 2 ∨ s.m.epMode p = 4) → s.m.g F.ADC_EP_CFG_FILT p ≤ w →
    ∃ t, exec (.encoderEdge p ⟨c, w⟩ d false) s = .next t ∧ t.pending = s.pending ∧
      (t.m.port p).cnt = wrap 32 ((s.m.port p).cnt + (if s.m.b F.ADC_EP_CFG_INV p then -d else d)) ∧
      (s.m.phase = .latch → c ≤ 960 → (t.m.port p).cap = (t.m.port p).cnt ∧
        (t.m.port p).spCap = wrap 32 ((s.m.port p).spCap + (if s.m.b F.ADC_EP_CFG_INV p then -d else d)) ∧
        (d ≠ 0 → (t.m.port p).capEdge = some (subAt s.m.L c, false))) ∧
      (¬ (s.m.phase = .latch ∧ c ≤ 960) → (t.m.port p).cap = (s.m.port p).cap ∧ (t.m.port p).spCap = (s.m.port p).spCap ∧
        (d ≠ 0 → (t.m.port p).edge = some (subAt s.m.L c))) ∧
      (∀ j, j ≠ p → t.m.port j = s.m.port j) ∧ { t.m with ep := s.m.ep, cyc := s.m.cyc } = s.m) ∧
  (∀ (s : State) (p c w : Nat), p < 8 → (s.m.epMode p = 1 ∨ s.m.epMode p = 2 ∨ s.m.epMode p = 4) → s.m.b F.ADC_EP_CFG_ZCAP p = true →
    s.m.g F.ADC_EP_CFG_FILT p ≤ w → (s.m.port p).cnt < 2 ^ 32 →
    ∃ t, exec (.encoderEdge p ⟨c, w⟩ 0 true) s = .next t ∧ t.pending = s.pending ∧
      t.m.g F.ADC_EP_IDX p = (s.m.port p).cnt ∧ t.m.b F.ADC_EP_STAT_ZSEEN p = true ∧
      Safety.KeepsRegs s.m t.m [R.ADC_EP_IDX.idx p 0, R.ADC_EP_STAT.idx p 0]) ∧
  (∀ (s : State) (p c w : Nat) (d : Int) (z : Bool), w < s.m.g F.ADC_EP_CFG_FILT p → exec (.encoderEdge p ⟨c, w⟩ d z) s = .next s) ∧
  (∀ (s : State) (p b c : Nat) (on : Bool), p < 8 → faultApplies (s.m.epMode p) b = true →
    ∃ t, exec (.encoderFault p b c on) s = .next t ∧ t.pending = s.pending ∧ (t.m.port p).cond.testBit b = on ∧
      (on = true → (t.m.port p).hit.testBit b = true) ∧ (∀ j, j ≠ b → (t.m.port p).cond.testBit j = (s.m.port p).cond.testBit j) ∧
      (∀ j, j ≠ p → t.m.port j = s.m.port j) ∧ { t.m with ep := s.m.ep, cyc := s.m.cyc } = s.m) ∧
  (∀ (s : State) (p c raw : Nat), p < 8 → s.m.epMode p = 3 →
    ∃ t, exec (.ssiRead p c raw false) s = .next t ∧ t.pending = s.pending ∧
      ((s.m.phase = .latch ∧ c ≤ 960 ∧ s.m.frame % (s.m.g F.ADC_EP_SSI_EVERY p + 1) = 0) →
        (t.m.port p).cnt = s.m.ssiValue p raw ∧ (t.m.port p).cap = s.m.ssiValue p raw ∧ (t.m.port p).spCap = s.m.ssiValue p raw ∧
        (t.m.port p).capOld = false) ∧
      (¬ (s.m.phase = .latch ∧ c ≤ 960 ∧ s.m.frame % (s.m.g F.ADC_EP_SSI_EVERY p + 1) = 0) →
        (t.m.port p).ssi = some (s.m.ssiValue p raw) ∧ (t.m.port p).cap = (s.m.port p).cap) ∧
      (∀ j, j ≠ p → t.m.port j = s.m.port j) ∧ { t.m with ep := s.m.ep, cyc := s.m.cyc } = s.m)

/-- The armed set becomes active at the reload points that LOAD selects, and at no other; roles that take their triggers there
begin their scans (R93, R112, R115, R117). A gate-driver fault that has lasted GFFILT cycles switches a group off; the delay
lines are calibrated and exchanged, where no edge is near (R120, R121, R122, R123). It says that these complete: pwmReloadPoint,
gateDriverFault, delayLineCalEnd, delayLineWaitEnd, delayLineSwap. -/
def Obligations.PwmGroups : Prop :=
  (∀ (s : State) (g c : Nat) (top : Bool), (s.m.at c).reloadDue g top = true → s.m.b F.PWM_GRP_CFG_SYNC g = false →
    (∀ k < 16, s.m.reloadTriggers g top k = false) →
    ∃ t, exec (.pwmReloadPoint g c top) s = .next t ∧ t.pending = s.pending ∧ (t.m.grp g).nextTop = !top ∧ (t.m.grp g).up = !top ∧
      (t.m.grp g).nextAt = s.m.fclk + c + t.m.g F.PWM_GRP_ACT_TOP g ∧
      (∀ p, (s.m.grp g).armed = some p → loadSelects (s.m.g F.PWM_GRP_CFG_LOAD g) top = true →
        (t.m.grp g).active = p ∧ (t.m.grp g).unapplied = false ∧ t.m.g F.PWM_GRP_ACT_TOP g = p.top % 2 ^ 20) ∧
      (loadSelects (s.m.g F.PWM_GRP_CFG_LOAD g) top = false → (t.m.grp g).active = (s.m.grp g).active ∧
        t.m.g F.PWM_GRP_ACT_TOP g = s.m.g F.PWM_GRP_ACT_TOP g) ∧
      (∀ j, j ≠ g → t.m.grp j = s.m.grp j) ∧
      { t.m with reg := s.m.reg, pwm := s.m.pwm, cyc := s.m.cyc } = s.m) ∧
  (∀ (s : State) (g c k : Nat) (top : Bool), (s.m.at c).reloadDue g top = true → k < 16 → (∀ j < 16, s.m.reloadTriggers g top j = decide (j = k)) →
    nth s.m.adc.busy k 0 ≤ s.m.fclk + c →
    ∃ t, exec (.pwmReloadPoint g c top) s = .next t ∧ t.pending = s.pending ∧ (t.m.grp g).nextTop = !top ∧
      nth t.m.adc.busy k 0 = s.m.fclk + c + s.m.scanLen k ∧ { t.m with reg := s.m.reg, pwm := s.m.pwm, adc := s.m.adc, cyc := s.m.cyc } = s.m) ∧
  (∀ (s : State) (g c : Nat) (top : Bool), (s.m.at c).reloadDue g top = false → exec (.pwmReloadPoint g c top) s = .next s) ∧
  (∀ (s : State) (g c w : Nat), g < 12 → (s.m.grp g).used = true → s.m.st ≠ stPOWER_FAIL → s.m.g F.PWM_GRP_CFG_GFFILT g ≤ w →
    ∃ t, exec (.gateDriverFault g ⟨c, w⟩ true) s = .next t ∧ t.pending = s.pending ∧ t.m.b F.PWM_GRP_STAT_GFIN g = true ∧
      t.m.b F.PWM_GRP_STAT_FAULT g = true ∧ t.m.g F.PWM_GRP_STAT_STATE g = 3 ∧ t.m.b F.PWM_GRP_STAT_ENOUT g = false ∧
      (∀ j u, j < 4 → 32 * (s.m.fclk + c) ≤ u → t.m.pairOut g j u = (false, false)) ∧ (∀ j, j ≠ g → t.m.grp j = s.m.grp j) ∧
      (s.m.b F.PWM_GRP_STAT_FAULT g = false → ∃ e, t.m.bar.evq = s.m.bar.evq ++ [e] ∧ e.code = 0x0600 ∧ e.arg0 = g ∧
        e.arg1 = s.m.g F.PWM_GRP_TOP_TOP g ∧ e.frame = s.m.frame ∧ e.sub = stampWord s.m.L c) ∧
      Safety.KeepsRegs s.m t.m [R.PWM_GRP_STAT.idx g 0] ∧
      { t.m with reg := s.m.reg, pwm := s.m.pwm, bar := s.m.bar, sets := s.m.sets, cyc := s.m.cyc } = s.m) ∧
  (∀ (s : State) (g c w : Nat) (on : Bool), g < 12 → (on = false ∨ w < s.m.g F.PWM_GRP_CFG_GFFILT g) →
    ∃ t, exec (.gateDriverFault g ⟨c, w⟩ on) s = .next t ∧ t.pending = s.pending ∧ t.m.b F.PWM_GRP_STAT_GFIN g = on ∧
      t.m.b F.PWM_GRP_STAT_FAULT g = s.m.b F.PWM_GRP_STAT_FAULT g ∧ t.m.g F.PWM_GRP_STAT_STATE g = s.m.g F.PWM_GRP_STAT_STATE g ∧
      Safety.KeepsRegs s.m t.m [R.PWM_GRP_STAT.idx g 0] ∧ { t.m with reg := s.m.reg, pwm := s.m.pwm, cyc := s.m.cyc } = s.m) ∧
  (∀ (s : State) (g : Nat) (err : Int) (taps : List Nat), g < 12 → (s.m.grp g).dlPhase = 0 → 256 ≤ (s.m.grp g).dlCount → s.m.spareLine g < 9 →
    ∃ t, exec (.delayLineCalEnd g err taps) s = .next t ∧ t.pending = s.pending ∧ t.m.gi F.PWM_DL_STAT_ERR g (s.m.spareLine g) = satS 8 err ∧
      nth (t.m.grp g).taps (s.m.spareLine g) [] = taps ∧ (∀ j, j ≠ g → t.m.grp j = s.m.grp j) ∧
      (tapsOk taps = true → t.m.g F.PWM_DL_STAT_STATE g (s.m.spareLine g) = 1 ∧ (t.m.grp g).dlPhase = 1 ∧ t.m.bar = s.m.bar) ∧
      (tapsOk taps = false → t.m.g F.PWM_DL_STAT_STATE g (s.m.spareLine g) = 3 ∧ (t.m.grp g).dlPhase = 3 ∧ t.m.b F.PWM_STAT_NOSPARE = true ∧
        ∃ e f, t.m.bar.evq = s.m.bar.evq ++ [e, f] ∧ e.code = 0x0602 ∧ f.code = 0x0603 ∧ e.arg0 = g ∧ e.arg1 = s.m.spareLine g)) ∧
  (∀ (s : State) (g : Nat), g < 12 → (s.m.grp g).dlPhase = 1 → s.m.g F.PWM_ANNEAL_CFG_DWELL ≤ (s.m.grp g).dlCount →
    ∃ t, exec (.delayLineWaitEnd g) s = .next t ∧ t.pending = s.pending ∧ (t.m.grp g).dlPhase = 2 ∧ (∀ j, j ≠ g → t.m.grp j = s.m.grp j) ∧
      Safety.KeepsRegs s.m t.m [R.PWM_ANNEAL_STAT.idx 0 0] ∧ { t.m with reg := s.m.reg, pwm := s.m.pwm } = s.m) ∧
  (∀ (s : State) (g c i old : Nat), g < 12 → (s.m.grp g).dlPhase = 2 → (s.m.grp g).dlSwapped = false → s.m.spareLine g = i → i < 9 →
    s.m.lineOf g (s.m.grp g).dlOut = old → old < 9 → (s.m.grp g).dlOut < 8 → (s.m.at c).edgeNear g (s.m.grp g).dlOut = false →
    ∃ t, exec (.delayLineSwap g c) s = .next t ∧ t.pending = s.pending ∧ t.m.g F.PWM_DL_STAT_STATE g i = 0 ∧
      t.m.g F.PWM_DL_STAT_OUT g i = (s.m.grp g).dlOut ∧ t.m.g F.PWM_DL_STAT_STATE g old = 1 ∧ t.m.g F.PWM_DL_STAT_OUT g old = 15 ∧
      (t.m.grp g).dlSwapped = true ∧ (∀ j, j ≠ g → t.m.grp j = s.m.grp j) ∧
      Safety.KeepsRegs s.m t.m [R.PWM_DL_STAT.idx g i, R.PWM_DL_STAT.idx g old] ∧
      { t.m with reg := s.m.reg, pwm := s.m.pwm, cyc := s.m.cyc } = s.m) ∧
  (∀ (s : State) (g c : Nat), (s.m.at c).edgeNear g (s.m.grp g).dlOut = true →
    ∃ t, exec (.delayLineSwap g c) s = .next t ∧ t.pending = s.pending ∧ { t.m with cyc := s.m.cyc } = s.m)

/-- A loop slot that stays stale faults and stops (R138); a page check that ends well selects the page, one that fails keeps the
page in force (R145). The end of a role lockout frees its source alone (R31). It says that these complete: roleLockoutEnd,
slotStaleFault, pageCheckDone. -/
def Obligations.SlotFaultsAndLockouts : Prop :=
  (∀ (s : State) (k : Nat), k < 256 → s.m.staleDue k = true →
    ∃ t, exec (.slotStaleFault k) s = .next t ∧ t.pending = s.pending ∧ t.m.b F.LP_STAT_FAULT k = true ∧
      (∃ e, e ∈ t.m.bar.evq ∧ e.code = 0x0703 ∧ e.src = s.m.slotEngine k ∧ e.arg0 = k ∧ e.frame = s.m.frame) ∧
      (s.m.slotType k = 1 → t.m.b F.LP_STAT_RUNNING k = false ∧ (t.m.slot k).once = false) ∧
      (∀ j, j ≠ k → s.m.slotType k = 1 → t.m.slot j = s.m.slot j)) ∧
  (∀ (s : State) (k : Nat), s.m.staleDue k = false → exec (.slotStaleFault k) s = .next s) ∧
  (∀ (s : State) (k sel : Nat), k < 256 → s.m.activeAp.isSome = true → (s.m.slot k).chk.isSome = true → sel = s.m.g F.LP_PAGE_SEL k →
    (pageOk (s.m.pageBytes k sel) (s.m.slotType k == 2) = true →
      ∃ t e, exec (.pageCheckDone k) s = .next t ∧ t.pending = s.pending ∧ t.m.g F.LP_STAT_SELACT k = sel ∧ (t.m.slot k).chk = none ∧
        t.m.bar.evq = s.m.bar.evq ++ [e] ∧ e.code = 0x0700 ∧ e.arg0 = k ∧ e.frame = s.m.frame ∧
        Safety.KeepsRegs s.m t.m [R.LP_STAT.idx k 0] ∧ { t.m with reg := s.m.reg, slots := s.m.slots, bar := s.m.bar } = s.m) ∧
    (pageOk (s.m.pageBytes k sel) (s.m.slotType k == 2) = false →
      ∃ t e, exec (.pageCheckDone k) s = .next t ∧ t.pending = s.pending ∧ t.m.g F.LP_PAGE_SEL k = s.m.g F.LP_STAT_SELACT k ∧
        t.m.b F.LP_STAT_PAGEERR k = true ∧ t.m.g F.LP_STAT_SELACT k = s.m.g F.LP_STAT_SELACT k ∧ (t.m.slot k).chk = none ∧
        t.m.bar.evq = s.m.bar.evq ++ [e] ∧ e.code = 0x0701 ∧ e.arg0 = k ∧ e.frame = s.m.frame ∧
        Safety.KeepsRegs s.m t.m [R.LP_STAT.idx k 0, R.LP_PAGE.idx k 0] ∧
        { t.m with reg := s.m.reg, slots := s.m.slots, bar := s.m.bar, sets := s.m.sets } = s.m)) ∧
  (∀ (s : State) (k : Nat), (s.m.slot k).chk = none → exec (.pageCheckDone k) s = .next s) ∧
  (∀ (s : State) (src : Nat), s.m.hostUp = true →
    ∃ t, exec (.roleLockoutEnd src) s = .next t ∧ t.pending = s.pending ∧
      (∀ x, x ∈ t.m.lockouts ↔ x ∈ s.m.lockouts ∧ x.1 ≠ src) ∧ (∀ x, x ∈ t.m.roleFails ↔ x ∈ s.m.roleFails ∧ x.1 ≠ src) ∧
      { t.m with lockouts := s.m.lockouts, roleFails := s.m.roleFails } = s.m) ∧
  (∀ (s : State) (src : Nat), s.m.hostUp = false → exec (.roleLockoutEnd src) s = .next s)

/-- What an axis does when its reference run, feedback, following error, energy or dwell reaches its limit (R158, R164, R165,
R173, R176): a reference run past REFMAX fails with a quick stop, four frames without feedback and two past FERRLIM start one,
energy over its cap for four frames raises EOVER, and a dwell of no frames ends where the axis rests. A stall (R171, R172,
R173): the position at its onset is captured and becomes the position; outside a reference run STALL is set and the axis is no
longer referenced. It says that these complete: referenceRunFail, reversalDwellEnd, feedbackLost, followingError, stallDetected,
energyOver. -/
def Obligations.AxisFaults : Prop :=
  (∀ (s : State) (a : Nat) (w : AxW), a < 32 → s.m.axisType a ≠ 0 → s.m.mem.marks = [] → w = s.m.axW a → w.refLong = true →
    ∃ t, exec (.referenceRunFail a) s = .next t ∧ t.pending = s.pending ∧ t.m.b F.MG_STAT_REFFAIL a = true ∧
      t.m.b F.MG_CTL_REF a = false ∧ t.m.axis a = { s.m.axis a with refRun := none, qs := true, rev := false, lim := (t.m.axis a).lim } ∧
      (∀ j, j ≠ a → t.m.axis j = s.m.axis j) ∧
      Safety.KeepsRegs w.m t.m [R.MG_STAT.idx a 0, R.MG_CTL.idx a 0, R.MG_TGT_LO.idx a 0, R.MG_TGT_HI.idx a 0]) ∧
  (∀ (s : State) (a : Nat) (w : AxW), a < 32 → s.m.axisType a ≠ 0 → s.m.mem.marks = [] → w = s.m.axW a → w.refLong = false →
    ∃ t, exec (.referenceRunFail a) s = .next t ∧ t.pending = s.pending ∧ (∀ j, t.m.axis j = s.m.axis j) ∧ Safety.KeepsRegs w.m t.m []) ∧
  (∀ (s : State) (a : Nat) (w : AxW), a < 32 → s.m.axisType a ≠ 0 → s.m.mem.marks = [] → w = s.m.axW a →
    w.x.rev = true → w.moving = false → s.m.g F.MG_CFG_REVDWELL a = 0 →
    ∃ t, exec (.reversalDwellEnd a) s = .next t ∧ t.pending = s.pending ∧ t.m.axis a = { s.m.axis a with rev := false } ∧
      (∀ j, j ≠ a → t.m.axis j = s.m.axis j) ∧ Safety.KeepsRegs w.m t.m []) ∧
  (∀ (s : State) (a : Nat) (w : AxW), a < 32 → s.m.axisType a ≠ 0 → s.m.mem.marks = [] → w = s.m.axW a →
    4 ≤ w.x.inval → s.m.b F.MG_STAT_FBLOST a = false → w.x.refRun = none →
    ∃ t e, exec (.feedbackLost a) s = .next t ∧ t.pending = s.pending ∧ t.m.b F.MG_STAT_FBLOST a = true ∧
      t.m.axis a = { s.m.axis a with qs := true, rev := false, lim := (t.m.axis a).lim } ∧ (∀ j, j ≠ a → t.m.axis j = s.m.axis j) ∧
      t.m.bar.evq = w.m.bar.evq ++ [e] ∧ e.code = 0x0800 + F.MG_STAT_FBLOST.lo ∧ e.arg0 = a ∧ e.frame = s.m.frame ∧
      Safety.KeepsRegs w.m t.m [R.MG_STAT.idx a 0, R.MG_TGT_LO.idx a 0, R.MG_TGT_HI.idx a 0]) ∧
  (∀ (s : State) (a : Nat) (w : AxW), a < 32 → s.m.axisType a ≠ 0 → s.m.mem.marks = [] → w = s.m.axW a → w.x.inval < 4 →
    ∃ t, exec (.feedbackLost a) s = .next t ∧ t.pending = s.pending ∧ (∀ j, t.m.axis j = s.m.axis j) ∧ Safety.KeepsRegs w.m t.m [] ∧ t.m.bar = w.m.bar) ∧
  (∀ (s : State) (a : Nat) (w : AxW), a < 32 → s.m.axisType a ≠ 0 → s.m.mem.marks = [] → w = s.m.axW a →
    2 ≤ w.x.ferr → s.m.b F.MG_STAT_FERR a = false → w.x.refRun = none →
    ∃ t e, exec (.followingError a) s = .next t ∧ t.pending = s.pending ∧ t.m.b F.MG_STAT_FERR a = true ∧
      t.m.axis a = { s.m.axis a with qs := true, rev := false, lim := (t.m.axis a).lim } ∧ (∀ j, j ≠ a → t.m.axis j = s.m.axis j) ∧
      t.m.bar.evq = w.m.bar.evq ++ [e] ∧ e.code = 0x0800 + F.MG_STAT_FERR.lo ∧ e.arg0 = a ∧ e.frame = s.m.frame ∧
      Safety.KeepsRegs w.m t.m [R.MG_STAT.idx a 0, R.MG_TGT_LO.idx a 0, R.MG_TGT_HI.idx a 0]) ∧
  (∀ (s : State) (a : Nat) (w : AxW), a < 32 → s.m.axisType a ≠ 0 → s.m.mem.marks = [] → w = s.m.axW a → w.x.ferr < 2 →
    ∃ t, exec (.followingError a) s = .next t ∧ t.pending = s.pending ∧ (∀ j, t.m.axis j = s.m.axis j) ∧ Safety.KeepsRegs w.m t.m [] ∧ t.m.bar = w.m.bar) ∧
  (∀ (s : State) (a : Nat) (w : AxW), a < 32 → s.m.axisType a ≠ 0 → s.m.mem.marks = [] → w = s.m.axW a → 4 ≤ w.x.eov → s.m.b F.MG_STAT_EOVER a = false →
    ∃ t e, exec (.energyOver a) s = .next t ∧ t.pending = s.pending ∧ t.m.b F.MG_STAT_EOVER a = true ∧
      (∀ j, t.m.axis j = s.m.axis j) ∧
      t.m.bar.evq = w.m.bar.evq ++ [e] ∧ e.code = 0x0800 + F.MG_STAT_EOVER.lo ∧ e.arg0 = a ∧ e.frame = s.m.frame ∧
      Safety.KeepsRegs w.m t.m [R.MG_STAT.idx a 0]) ∧
  (∀ (s : State) (a : Nat) (w : AxW), a < 32 → s.m.axisType a = 2 → w = s.m.axW a → w.stallFound = true → w.x.refRun = none →
    ∃ t, exec (.stallDetected a) s = .next t ∧ t.pending = s.pending ∧
      t.m.axis a = { s.m.axis a with rev := false } ∧ (∀ j, j ≠ a → t.m.axis j = s.m.axis j) ∧ t.m.b F.MG_STAT_STALL a = true) ∧
  (∀ (s : State) (a : Nat) (w : AxW), a < 32 → s.m.axisType a = 2 → w = s.m.axW a → w.stallFound = true → w.x.refRun ≠ none →
    ∃ t, exec (.stallDetected a) s = .next t ∧ t.pending = s.pending ∧
      t.m.axis a = { s.m.axis a with refRun := none } ∧ (∀ j, j ≠ a → t.m.axis j = s.m.axis j) ∧ t.m.b F.MG_CTL_REF a = false) ∧
  (∀ (s : State) (a : Nat) (w : AxW), a < 32 → s.m.axisType a ≠ 0 → w = s.m.axW a → w.stallFound = false →
    ∃ t, exec (.stallDetected a) s = .next t ∧ t.pending = s.pending ∧ (∀ j, t.m.axis j = s.m.axis j) ∧ Safety.KeepsRegs w.m t.m []) ∧
  (∀ (w : AxW), w.x.refRun = none → w.stall.m.b F.MG_STAT_STALL w.a = true ∧ w.stall.r.p = w.x.onset ∧ w.stall.r.v = 0 ∧ w.stall.r.a = 0 ∧
    w.stall.r.cnt = 0 ∧ w.stall.r.refd = false ∧ w.stall.tgt = w.x.onset) ∧
  (∀ (w : AxW) (p0 : Int), w.x.refRun = some p0 → w.m.b F.MG_CTL_REFMODE w.a = false →
    w.stall.m.b F.MG_CTL_REF w.a = false ∧ w.stall.x.refRun = none ∧ w.stall.r.refd = true ∧ w.stall.r.v = 0 ∧ w.stall.r.a = 0 ∧
    w.stall.r.p = w.m.qi .MG_REFPOS_LO w.a ∧ w.stall.tgt = w.m.qi .MG_REFPOS_LO w.a)

/-- A scan (R257, R259, R277): the frame of the newest input image, pending batches, every block once in order, and the output
image closed after its duration. A scan beyond SCANMAX frames fails the active side (R262). A batch changes the applied values
at a scan boundary, whole and in acceptance order (R257, R275, R277). Stations become absent, return and end a test (R282,
R283). It says that these complete: scan, scanTooLong, stationAbsent, stationReturn, stationTestEnd. -/
def Obligations.ScansAndStations : Prop :=
  (∀ (s : State) (c dur : Nat) (torn : List (Nat × Nat)) (im : Image) (ip : InImg) (per : Nat) (m0 m1 m2 m3 : Mach), m0 = (s.m.at c).settleScan →
    m0.scanMay = true → m0.upd.newScan = false → m0.scan.img = some im → m0.scan.inp = some ip →
    m1 = each m0.stnIds m0 (stnBoundary ip.f) →
    per = (match m0.scan.lastF with | some l => ip.f - l | none => 0) →
    m2 = { m1 with scan := { m1.scan with num := m1.scan.num + 1, lastF := some ip.f, period := per, longest := max m1.scan.longest per, wl := [], torn := torn } } →
    m3 = (m2.applyBatches im ip.f).runBlocks im ip →
    exec (.scan c dur torn) s = .next { s with m := { m3 with scan := { m3.scan with torn := [], wl := [], cur := some { num := m3.scan.num, f := ip.f, term := m3.scan.term, ap := m3.scan.ap, stn := m3.scan.stnOut, wl := m3.scan.wl, t0 := m3.now, t1 := m3.now + dur } } } }) ∧
  (∀ (s : State) (c dur : Nat) (torn : List (Nat × Nat)), ((s.m.at c).settleScan).scanMay = false →
    exec (.scan c dur torn) s = .next { s with m := (s.m.at c).settleScan }) ∧
  (∀ (s : State) (c : Nat) (o : ScanOut) (im : Image) (e : Nat), s.m.scan.cur = some o → s.m.scan.img = some im → s.m.activeAp = some e →
    o.t0 + im.scanMax * s.m.L < min o.t1 (s.m.at c).now →
    ∃ t, exec (.scanTooLong c) s = .next t ∧ t.pending = s.pending ∧ (e, 2) ∈ t.m.dx.faults ∧ (∀ x ∈ s.m.dx.faults, x ∈ t.m.dx.faults) ∧
      { t.m with dx := s.m.dx, cyc := s.m.cyc } = s.m) ∧
  (∀ (m : Mach) (im : Image) (f : Nat), (∀ b ∈ m.scan.batches, f < b.frame) → m.applyBatches im f = m) ∧
  (∀ (m : Mach) (f : Nat) (b : Batch), (applyBatch f m b).scan.lastTicket = b.ticket ∧ (applyBatch f m b).scan.lastApp = f ∧
    (applyBatch f m b).bar.evq.take m.bar.evq.length = m.bar.evq ∧
    ((applyBatch f m b).bar.evq.drop m.bar.evq.length).map (fun e => (e.code, e.arg0, e.arg1, e.frame)) =
      [(0x0C00, b.ticket % 2 ^ 32, f % 2 ^ 32, m.frame)] ∧
    (∀ c, (∀ x ∈ b.entries, x.1 ≠ c) → (applyBatch f m b).word (0x8000 + c) = m.word (0x8000 + c)) ∧
    (∀ x, b.entries.getLast? = some x → (applyBatch f m b).word (0x8000 + x.1) = Word.of (wrap 32 x.2))) ∧
  (∀ (s : State) (k : Nat), k < 64 → k ∈ s.m.stnIds → s.m.stnLate k = true →
    ∃ t e, exec (.stationAbsent k) s = .next t ∧ t.pending = s.pending ∧ (t.m.stn k).absent = true ∧ (t.m.stn k).exch = 0 ∧
      (t.m.stn k).mode = (if (s.m.stn k).mode = 1 then 0 else (s.m.stn k).mode) ∧ (∀ j, j ≠ k → t.m.stn j = s.m.stn j) ∧
      t.m.bar.evq = s.m.bar.evq ++ [e] ∧ e.code = 0x0C03 ∧ e.arg0 = k ∧ e.frame = s.m.frame ∧
      { t.m with scan := s.m.scan, bar := s.m.bar } = s.m) ∧
  (∀ (s : State) (k : Nat), k ∉ s.m.stnIds ∨ s.m.stnLate k = false → exec (.stationAbsent k) s = .next s) ∧
  (∀ (s : State) (k : Nat) (m : Mach) (d : List Byte), k < 64 → k ∈ s.m.stnIds → (s.m.stn k).absent = true →
    4 + 4 * (s.m.stnCfg k).nin ≤ dlcBytes (s.m.g F.CB_BUF_STAT_RXDLC (s.m.stnCfg k).cb (s.m.stnCfg k).rx) →
    s.m.readNew (s.m.stnCfg k).cb (s.m.stnCfg k).rx (4 + 4 * (s.m.stnCfg k).nin) false = (m, some d) → m.scan = s.m.scan →
    ∃ t, exec (.stationReturn k) s = .next t ∧ t.pending = s.pending ∧ (t.m.stn k).absent = false ∧ (t.m.stn k).mode = 3 ∧
      (t.m.stn k).exch = 0 ∧ (t.m.stn k).since = 0 ∧ (t.m.stn k).echo = some (fieldAt d 0 1) ∧ (∀ j, j ≠ k → t.m.stn j = s.m.stn j) ∧
      ∃ e ∈ t.m.bar.evq, e.code = 0x0C04 ∧ e.arg0 = k ∧ e.frame = m.frame) ∧
  (∀ (s : State) (k u : Nat), k < 64 → (s.m.stn k).until_ = some u → u ≤ s.m.frame →
    ∃ t, exec (.stationTestEnd k) s = .next t ∧ t.pending = s.pending ∧
      t.m.stn k = { s.m.stn k with until_ := none, testReq := none, mode := if (s.m.stn k).mode = 2 then 0 else (s.m.stn k).mode } ∧
      (∀ j, j ≠ k → t.m.stn j = s.m.stn j) ∧ { t.m with scan := s.m.scan } = s.m)

/-- What an operand reads and what writing it changes (R125, R258, R266): spaces, BIT, and the words left alone. -/
def Obligations.Operands : Prop :=
  (∀ (c : BCtx) (w : Nat), (opSpace w = 4 ∨ opBit w = false) →
    (opSpace w = 0 → c.read w = smGet (fun _ => (0 : Int)) c.m.scan.vars (opIdx w)) ∧
    (opSpace w = 1 → c.read w = (c.m.word (0x8000 + opIdx w)).toInt) ∧
    (opSpace w = 2 → c.read w = sgn 32 (nth c.im.consts (opIdx w) 0)) ∧
    (opSpace w = 3 → c.read w = (smGet cellDefault c.ip.cells (opIdx w)).1.toInt) ∧
    (opSpace w = 4 → c.read w = if (c.ip.w (R.TRM_IN.idx (opIdx w / 32) 0)).testBit (opIdx w % 32) then 1 else 0) ∧
    (opSpace w = 5 → c.read w = smGet (fun _ => (0 : Int)) c.m.scan.ap (opIdx w)) ∧
    (opSpace w = 6 → c.read w = sgn 32 (nth (nth c.ip.stn (opIdx w / 16) {}).words (opIdx w % 16) 0))) ∧
  (∀ (c : BCtx) (w : Nat), opBit w = true →
    (opSpace w = 3 → c.read w = if (smGet cellDefault c.ip.cells (opIdx w)).2 then 1 else 0) ∧
    (opSpace w ≠ 3 → opSpace w ≠ 4 → c.read w = if (wrap 32 (c.word w)).testBit (opNo w) then 1 else 0)) ∧
  (∀ (k : Scan) (w : Nat) (v : Int), opSpace w = 0 ∨ opSpace w = 5 ∨ opSpace w = 6 → opBit w = false →
    (k.put w v).outWord w = sgn 32 (wrap 32 v)) ∧
  (∀ (k : Scan) (w : Nat) (v : Int) (n : Nat), opSpace w = 0 ∨ opSpace w = 5 ∨ opSpace w = 6 → opBit w = true → n < 32 →
    (wrap 32 ((k.put w v).outWord w)).testBit n = if n = opNo w then decide (v ≠ 0) else (wrap 32 (k.outWord w)).testBit n) ∧
  (∀ (k : Scan) (w : Nat) (v : Int), opSpace w = 4 → -2147483648 ≤ v → v ≤ 2147483647 → (k.put w v).outWord w = if v ≠ 0 then 1 else 0) ∧
  (∀ (k : Scan) (w x : Nat) (v : Int), (opSpace x ≠ opSpace w ∨ opIdx x ≠ opIdx w) → (k.put w v).outWord x = k.outWord x)

/-- The blocks whose one output depends on the inputs alone (R257, R267, R269): the instance is evaluated, its output is
written, its state keeps the frame of the evaluation, and nothing else changes. It says that these complete: and_, or_, xor_,
not_, gt_, ge_, eq_, ne_, le_, lt_, add_, sub_, mul_, abs_, neg_, limit, sel, move, qadd, qsub, qmul, qscale, dintToQ, qToDint.
-/
def Obligations.ValueBlocks : Prop :=
  ∀ p ∈ ([
    (Instr.and_, 0x01, fun c => if ∀ i < c.ni, c.x i ≠ 0 then 1 else 0),
    (Instr.or_, 0x02, fun c => if ∃ i, i < c.ni ∧ c.x i ≠ 0 then 1 else 0),
    (Instr.xor_, 0x03, fun c => if c.x 0 = 0 ∧ c.x 1 ≠ 0 ∨ c.x 0 ≠ 0 ∧ c.x 1 = 0 then 1 else 0),
    (Instr.not_, 0x04, fun c => if c.x 0 = 0 then 1 else 0),
    (Instr.gt_, 0x0F, fun c => if c.x 0 > c.x 1 then 1 else 0),
    (Instr.ge_, 0x10, fun c => if c.x 0 ≥ c.x 1 then 1 else 0),
    (Instr.eq_, 0x11, fun c => if c.x 0 = c.x 1 then 1 else 0),
    (Instr.ne_, 0x12, fun c => if c.x 0 ≠ c.x 1 then 1 else 0),
    (Instr.le_, 0x13, fun c => if c.x 0 ≤ c.x 1 then 1 else 0),
    (Instr.lt_, 0x14, fun c => if c.x 0 < c.x 1 then 1 else 0),
    (Instr.add_, 0x15, fun c => satS 32 (c.xs.sum)),
    (Instr.sub_, 0x16, fun c => satS 32 (c.x 0 - c.x 1)),
    (Instr.mul_, 0x17, fun c => satS 32 (c.xs.foldl (· * ·) 1)),
    (Instr.abs_, 0x1A, fun c => satS 32 (if c.x 0 < 0 then -c.x 0 else c.x 0)),
    (Instr.neg_, 0x1B, fun c => satS 32 (-c.x 0)),
    (Instr.limit, 0x1E, fun c => if c.x 0 > c.x 2 then c.x 0 else min (max (c.x 1) (c.x 0)) (c.x 2)),
    (Instr.sel, 0x1F, fun c => if c.x 0 ≠ 0 then c.x 2 else c.x 1),
    (Instr.move, 0x21, fun c => c.x 0),
    (Instr.qadd, 0x22, fun c => satS 32 (c.x 0 + c.x 1)),
    (Instr.qsub, 0x23, fun c => satS 32 (c.x 0 - c.x 1)),
    (Instr.qmul, 0x24, fun c => satS 32 (rnd (c.x 0 * c.x 1) 16)),
    (Instr.qscale, 0x26, fun c => satS 32 (rnd (c.x 1 * c.x 0) 16 + c.x 2)),
    (Instr.dintToQ, 0x27, fun c => satS 32 (c.x 0 * 2 ^ 16)),
    (Instr.qToDint, 0x28, fun c => rnd (c.x 0) 16)] : List ((Nat → Instr) × Nat × (BCtx → Int))),
  ∀ (s : State) (c : BCtx), Safety.InstanceAt s.m c p.2.1 → exec (p.1 c.k) s = .next { s with m := Safety.Evaluated c [p.2.2 c] c.st }

/-- MIN, MAX, MUX, PACK and UNPACK (R269). DIV, MOD and QDIV (R267, R269): a zero divisor leaves the output and raises one event
until a divisor is not zero. It says that these complete: div_, mod_, min_, max_, mux, qdiv, pack, unpack. -/
def Obligations.SearchAndDivisionBlocks : Prop :=
  (∀ (s : State) (c : BCtx), Safety.InstanceAt s.m c 0x1C →
    ∃ y, (∃ i < c.ni, y = c.x i) ∧ (∀ i < c.ni, y ≤ c.x i) ∧ exec (.min_ c.k) s = .next { s with m := Safety.Evaluated c [y] c.st }) ∧
  (∀ (s : State) (c : BCtx), Safety.InstanceAt s.m c 0x1D →
    ∃ y, (∃ i < c.ni, y = c.x i) ∧ (∀ i < c.ni, c.x i ≤ y) ∧ exec (.max_ c.k) s = .next { s with m := Safety.Evaluated c [y] c.st }) ∧
  (∀ (s : State) (c : BCtx), Safety.InstanceAt s.m c 0x20 →
    (0 ≤ c.x 0 ∧ c.x 0 + 1 < c.ni → exec (.mux c.k) s = .next { s with m := Safety.Evaluated c [c.x ((c.x 0).toNat + 1)] c.st }) ∧
    (¬ (0 ≤ c.x 0 ∧ c.x 0 + 1 < c.ni) → exec (.mux c.k) s = .next { s with m := Safety.Evaluated c [] c.st })) ∧
  (∀ (s : State) (c : BCtx), Safety.InstanceAt s.m c 0x2D →
    ∀ v, v = ((upTo c.ni).map (fun i => if c.x i ≠ 0 then (2 : Int) ^ i else 0)).sum →
      exec (.pack c.k) s = .next { s with m := Safety.Evaluated c [v] c.st }) ∧
  (∀ (s : State) (c : BCtx), Safety.InstanceAt s.m c 0x2E →
    ∀ l, l = (upTo (c.b.ops.length - 1)).map (fun i => if (wrap 32 (c.x 0)).testBit i then (1 : Int) else 0) →
      exec (.unpack c.k) s = .next { s with m := Safety.Evaluated c l c.st }) ∧
  (∀ p ∈ ([
    (Instr.div_, 0x18, fun a b => satS 32 (Int.tdiv a b)),
    (Instr.mod_, 0x19, fun a b => Int.tmod a b),
    (Instr.qdiv, 0x25, fun a b => satS 32 (rndDiv (a * 2 ^ 16) b))] : List ((Nat → Instr) × Nat × (Int → Int → Int))),
  ∀ (s : State) (c : BCtx), Safety.InstanceAt s.m c p.2.1 →
    (c.x 1 ≠ 0 → exec (p.1 c.k) s = .next { s with m := Safety.Evaluated c [p.2.2 (c.x 0) (c.x 1)] { c.st with dz := false } }) ∧
    (c.x 1 = 0 → c.st.dz = true → exec (p.1 c.k) s = .next { s with m := Safety.Evaluated c [] { c.st with dz := true } }) ∧
    (c.x 1 = 0 → c.st.dz = false → exec (p.1 c.k) s = .next { s with m := { Safety.Evaluated c [] { c.st with dz := true } with bar := { s.m.bar with evq := s.m.bar.evq ++ [{ code := 0x0C02, src := s.m.apSrc, arg0 := c.k % 2 ^ 32, arg1 := c.ip.f % 2 ^ 32, frame := s.m.frame, sub := stampWord s.m.L s.m.cyc }] } } }))

/-- Bistables, edges, HYST, LAG and RAMP (R261, R269, R271): the new output from the inputs and the instance's state. It says
that these complete: sr, rs, rTrig, fTrig, hyst, lag, ramp. -/
def Obligations.MemoryBlocks : Prop :=
  (∀ (s : State) (c : BCtx) (q : Bool), Safety.InstanceAt s.m c 0x05 → q = (c.x 0 != 0 || c.st.q && c.x 1 == 0) →
    exec (.sr c.k) s = .next { s with m := Safety.Evaluated c [b2n q] { c.st with q := q } }) ∧
  (∀ (s : State) (c : BCtx) (q : Bool), Safety.InstanceAt s.m c 0x06 → q = (c.x 1 == 0 && (c.st.q || c.x 0 != 0)) →
    exec (.rs c.k) s = .next { s with m := Safety.Evaluated c [b2n q] { c.st with q := q } }) ∧
  (∀ (s : State) (c : BCtx) (q : Bool), Safety.InstanceAt s.m c 0x07 → q = (c.x 0 != 0 && !c.st.p1) →
    exec (.rTrig c.k) s = .next { s with m := Safety.Evaluated c [b2n q] { c.st with p1 := c.x 0 != 0 } }) ∧
  (∀ (s : State) (c : BCtx) (q : Bool), Safety.InstanceAt s.m c 0x08 → q = (c.x 0 == 0 && c.st.p1) →
    exec (.fTrig c.k) s = .next { s with m := Safety.Evaluated c [b2n q] { c.st with p1 := c.x 0 != 0 } }) ∧
  (∀ (s : State) (c : BCtx) (q : Bool), Safety.InstanceAt s.m c 0x29 → (c.x 0 > c.x 1 → q = true) → (c.x 0 ≤ c.x 1 → c.x 0 < c.x 2 → q = false) →
    (c.x 0 ≤ c.x 1 → c.x 2 ≤ c.x 0 → q = c.st.q) →
    exec (.hyst c.k) s = .next { s with m := Safety.Evaluated c [b2n q] { c.st with q := q } }) ∧
  (∀ (s : State) (c : BCtx) (tau y : Int), Safety.InstanceAt s.m c 0x2A → tau = max 1 (c.x 1) →
    y = satS 32 (c.st.n + rndDiv ((c.x 0 - c.st.n) * min c.dt tau) tau) →
    exec (.lag c.k) s = .next { s with m := Safety.Evaluated c [y] { c.st with n := y } }) ∧
  (∀ (s : State) (c : BCtx) (d y : Int), Safety.InstanceAt s.m c 0x2B → d = max 0 (c.x 1) * c.dt → (c.x 0 < c.st.n - d → y = c.st.n - d) →
    (c.st.n + d < c.x 0 → y = c.st.n + d) → (c.st.n - d ≤ c.x 0 → c.x 0 ≤ c.st.n + d → y = c.x 0) →
    exec (.ramp c.k) s = .next { s with m := Safety.Evaluated c [y] { c.st with n := y } })

/-- Timers and counters as the program of R270 states them, with the Δ of R261. BLINK (R269, R271): TH frames 1, then TL frames
0, repeating; 0 and reset while not EN. With TH and TL both 0 the output is open, a free value (log entry 2). It says that these
complete: tp, ton, tof, ctu, ctd, ctud, blink. -/
def Obligations.TimerBlocks : Prop :=
  (∀ (s : State) (c : BCtx) (pt et : Int) (q : Bool), Safety.InstanceAt s.m c 0x0A → pt = max 0 (c.x 1) →
    et = (if c.x 0 = 0 then 0 else if c.st.p1 then min (c.st.n + c.dt) pt else c.st.n) → q = (decide (c.x 0 ≠ 0) && decide (et ≥ pt)) →
    exec (.ton c.k) s = .next { s with m := Safety.Evaluated c [b2n q, et] { c.st with p1 := c.x 0 != 0, q := q, n := et } }) ∧
  (∀ (s : State) (c : BCtx) (pt et : Int) (q : Bool), Safety.InstanceAt s.m c 0x0B → pt = max 0 (c.x 1) →
    et = (if c.x 0 ≠ 0 then 0 else if c.st.p1 then 0 else if c.st.q then min (c.st.n + c.dt) pt else c.st.n) →
    q = (if c.x 0 ≠ 0 then true else if et ≥ pt then false else c.st.q) →
    exec (.tof c.k) s = .next { s with m := Safety.Evaluated c [b2n q, et] { c.st with p1 := c.x 0 != 0, q := q, n := et } }) ∧
  (∀ (s : State) (c : BCtx) (pt et0 et : Int) (q0 q : Bool), Safety.InstanceAt s.m c 0x09 → pt = max 0 (c.x 1) →
    (c.st.q = false → c.x 0 ≠ 0 → c.st.p1 = false → q0 = true ∧ et0 = 0) →
    (c.st.q = false → (c.x 0 = 0 ∨ c.st.p1 = true) → q0 = false ∧ et0 = c.st.n) →
    (c.st.q = true → q0 = true ∧ et0 = min (c.st.n + c.dt) pt) →
    q = (q0 && decide (et0 < pt)) → et = (if q = false ∧ c.x 0 = 0 then 0 else et0) →
    exec (.tp c.k) s = .next { s with m := Safety.Evaluated c [b2n q, et] { c.st with p1 := c.x 0 != 0, q := q, n := et } }) ∧
  (∀ (s : State) (c : BCtx) (cv : Int), Safety.InstanceAt s.m c 0x0C →
    cv = (if c.x 1 ≠ 0 then 0 else if c.x 0 ≠ 0 ∧ c.st.p1 = false ∧ c.st.n < 2147483647 then c.st.n + 1 else c.st.n) →
    exec (.ctu c.k) s = .next { s with m := Safety.Evaluated c [if cv ≥ c.x 2 then 1 else 0, cv] { c.st with p1 := c.x 0 != 0, n := cv } }) ∧
  (∀ (s : State) (c : BCtx) (cv : Int), Safety.InstanceAt s.m c 0x0D →
    cv = (if c.x 1 ≠ 0 then c.x 2 else if c.x 0 ≠ 0 ∧ c.st.p1 = false ∧ c.st.n > -2147483648 then c.st.n - 1 else c.st.n) →
    exec (.ctd c.k) s = .next { s with m := Safety.Evaluated c [if cv ≤ 0 then 1 else 0, cv] { c.st with p1 := c.x 0 != 0, n := cv } }) ∧
  (∀ (s : State) (c : BCtx) (cv : Int) (eu ed : Bool), Safety.InstanceAt s.m c 0x0E → eu = (c.x 0 != 0 && !c.st.p1) → ed = (c.x 1 != 0 && !c.st.p2) →
    cv = (if c.x 2 ≠ 0 then 0 else if c.x 3 ≠ 0 then c.x 4 else if eu = true ∧ ed = false ∧ c.st.n < 2147483647 then c.st.n + 1
      else if ed = true ∧ eu = false ∧ c.st.n > -2147483648 then c.st.n - 1 else c.st.n) →
    exec (.ctud c.k) s = .next { s with m := Safety.Evaluated c [if cv ≥ c.x 4 then 1 else 0, if cv ≤ 0 then 1 else 0, cv] { c.st with p1 := c.x 0 != 0, p2 := c.x 1 != 0, n := cv } }) ∧
  (∀ (s : State) (c : BCtx), Safety.InstanceAt s.m c 0x2C → c.x 0 = 0 →
    exec (.blink c.k) s = .next { s with m := Safety.Evaluated c [0] { c.st with q := false, p1 := false, n := 0 } }) ∧
  (∀ (s : State) (c : BCtx) (th tl : Int) (q : Bool), Safety.InstanceAt s.m c 0x2C → th = max 0 (c.x 1) → tl = max 0 (c.x 2) → c.x 0 ≠ 0 →
    c.st.p1 = false → 0 < th + tl → q = decide (0 < th) →
    exec (.blink c.k) s = .next { s with m := Safety.Evaluated c [b2n q] { c.st with q := q, p1 := true, n := 0 } }) ∧
  (∀ (s : State) (c : BCtx) (th tl pos n : Int) (q : Bool), Safety.InstanceAt s.m c 0x2C → th = max 0 (c.x 1) → tl = max 0 (c.x 2) → c.x 0 ≠ 0 →
    c.st.p1 = true → 0 < th + tl → pos = ((if c.st.q then c.st.n else th + c.st.n) + c.dt) % (th + tl) →
    q = decide (pos < th) → n = (if q then pos else pos - th) →
    exec (.blink c.k) s = .next { s with m := Safety.Evaluated c [b2n q] { c.st with q := q, p1 := true, n := n } }) ∧
  (∀ (s : State) (c : BCtx) (q : Bool) (m : Mach), Safety.InstanceAt s.m c 0x2C → max 0 (c.x 1) + max 0 (c.x 2) = 0 → c.x 0 ≠ 0 →
    q = (Config.freeValue s.m.free % 2 == 1) → m = { c.m with free := s.m.free + 1 } →
    exec (.blink c.k) s = .next { s with m := Safety.Evaluated { c with m := m } [b2n q] { c.st with q := q, p1 := true, n := 0 } })

/-- WR_REG, WR_REG64, MARK and CB_TX place words in the scan's write list, EVENT raises a user event (R259, R269, R323). RD_REG,
CB_RX, STN_STAT, FRAME, RTC and DMA_COPY (R24, R258, R261, R269, R282, R315). What STN_STAT gives for a station that the image
has not is a free value (log entry 2). It says that these complete: rdReg, wrReg, wrReg64, eventBlock, markBlock, dmaCopy, cbRx,
cbTx, stnStat, frameBlock, rtc. -/
def Obligations.RegisterBlocks : Prop :=
  (∀ (s : State) (c : BCtx) (e : Mach), Safety.InstanceAt s.m c 0x30 → e = Safety.Evaluated c [] c.st →
    (c.x 0 = 0 → exec (.wrReg c.k) s = .next { s with m := e }) ∧
    (c.x 0 ≠ 0 → exec (.wrReg c.k) s = .next { s with m := { e with scan := { e.scan with wl := s.m.scan.wl ++ [(wrap 32 (c.x 1), Word.of (wrap 32 (c.x 2)))], placed := 1 } } })) ∧
  (∀ (s : State) (c : BCtx) (e : Mach), Safety.InstanceAt s.m c 0x31 → e = Safety.Evaluated c [] c.st →
    (c.x 0 = 0 → exec (.wrReg64 c.k) s = .next { s with m := e }) ∧
    (c.x 0 ≠ 0 → exec (.wrReg64 c.k) s = .next { s with m := { e with scan := { e.scan with wl := s.m.scan.wl ++ [(wrap 32 (c.x 1), Word.of (wrap 32 (c.x 2))), (wrap 32 (c.x 1) + 1, Word.of (wrap 32 (c.x 3)))], placed := 2 } } })) ∧
  (∀ (s : State) (c : BCtx) (e : Mach), Safety.InstanceAt s.m c 0x33 → e = Safety.Evaluated c [] { c.st with p1 := c.x 0 != 0 } →
    (c.x 0 = 0 ∨ c.st.p1 = true → exec (.markBlock c.k) s = .next { s with m := e }) ∧
    (c.x 0 ≠ 0 → c.st.p1 = false → exec (.markBlock c.k) s = .next { s with m := { e with scan := { e.scan with wl := s.m.scan.wl ++ [(R.DEV_CTL.idx 0 0, 0x5A5A0002)], placed := 1 } } })) ∧
  (∀ (s : State) (c : BCtx) (e : Mach), Safety.InstanceAt s.m c 0x32 → e = Safety.Evaluated c [] { c.st with p1 := c.x 0 != 0 } →
    (c.x 0 = 0 ∨ c.st.p1 = true → exec (.eventBlock c.k) s = .next { s with m := e }) ∧
    (c.x 0 ≠ 0 → c.st.p1 = false → exec (.eventBlock c.k) s = .next { s with m := { e with bar := { s.m.bar with evq := s.m.bar.evq ++ [{ code := 0xF000 + wrap 8 (c.x 1), src := s.m.apSrc, arg0 := wrap 32 (c.x 2), arg1 := 0, frame := s.m.frame, sub := stampWord s.m.L s.m.cyc }] } } })) ∧
  (∀ (s : State) (c : BCtx) (e : Mach) (k bf n : Nat), Safety.InstanceAt s.m c 0x36 → e = Safety.Evaluated c [] c.st → k = wrap 2 (c.x 1) → bf = wrap 7 (c.x 2) →
    n = min (c.b.ops.length - 3) (s.m.bufWords k bf) → n ≤ 7 →
    (c.x 0 = 0 → exec (.cbTx c.k) s = .next { s with m := e }) ∧
    (c.x 0 ≠ 0 → exec (.cbTx c.k) s = .next { s with m := { e with scan := { e.scan with wl := s.m.scan.wl ++ (upTo n).map (fun i => (R.CB_DATA.idx k (s.m.g F.CB_BUF_CFG_DOFS k bf + i), Word.of (wrap 32 (c.x (i + 3))))) ++ [(R.CB_BUF_STAT.idx k bf, 0x100)], placed := n + 1 } } })) ∧
  (∀ (s : State) (c : BCtx) (r : Mach × Word), Safety.InstanceAt s.m c 0x2F → r = c.m.regRead (.eng s.m.apSrc) (wrap 32 (c.x 0)) →
    exec (.rdReg c.k) s = .next { s with m := Safety.Evaluated { c with m := r.1 } [r.2.toInt] c.st }) ∧
  (∀ (s : State) (c : BCtx) (k bf : Nat) (r : Mach × Option (List Byte)), Safety.InstanceAt s.m c 0x35 → k = wrap 2 (c.x 0) → bf = wrap 7 (c.x 1) →
    r = c.m.readNew k bf (4 * s.m.bufWords k bf) (s.m.scan.torn.contains (k, bf)) →
    (r.2 = none → exec (.cbRx c.k) s = .next { s with m := Safety.Evaluated { c with m := r.1 } [0] c.st }) ∧
    (∀ d, r.2 = some d → exec (.cbRx c.k) s = .next { s with m := Safety.Evaluated { c with m := r.1 } (1 :: (upTo (c.b.ops.length - 3)).map (fun i => s32 (fieldAt d (4 * i) 4))) c.st })) ∧
  (∀ (s : State) (c : BCtx), Safety.InstanceAt s.m c 0x37 →
    (0 ≤ c.x 0 → c.x 0 < c.im.stns.length →
      exec (.stnStat c.k) s = .next { s with m := Safety.Evaluated c [s32 (nth c.ip.stn (c.x 0).toNat {}).status] c.st }) ∧
    (¬ (0 ≤ c.x 0 ∧ c.x 0 < c.im.stns.length) → ∀ m, m = { c.m with free := s.m.free + 1 } →
      exec (.stnStat c.k) s = .next { s with m := Safety.Evaluated { c with m := m } [s32 (Config.freeValue s.m.free)] c.st })) ∧
  (∀ (s : State) (c : BCtx), Safety.InstanceAt s.m c 0x38 →
    exec (.frameBlock c.k) s = .next { s with m := Safety.Evaluated c [s32 c.ip.f, s32 (c.ip.f / 4294967296), c.dt, s32 (min s.m.scan.period 2147483647)] c.st }) ∧
  (∀ (s : State) (c : BCtx) (v : Int), Safety.InstanceAt s.m c 0x39 → v = (s.m.seen (.eng s.m.apSrc) (R.LG_CAL_LO.idx 0 0)).toInt →
    exec (.rtc c.k) s = .next { s with m := Safety.Evaluated c [v] c.st }) ∧
  (∀ (s : State) (c : BCtx) (ch st : Nat) (e : Mach), Safety.InstanceAt s.m c 0x34 → ch = wrap 5 (c.x 1) → st = s.m.g F.MEM_DMA_STAT_STATE ch →
    e = Safety.Evaluated c [if st = 1 then 1 else 0, if st = 2 then 1 else 0, if 3 ≤ st then 1 else 0] { c.st with p1 := c.x 0 != 0 } →
    (c.x 0 = 0 ∨ c.st.p1 = true ∨ st = 1 → exec (.dmaCopy c.k) s = .next { s with m := e }) ∧
    (c.x 0 ≠ 0 → c.st.p1 = false → st ≠ 1 → ∃ t, exec (.dmaCopy c.k) s = .next t ∧ t.pending = s.pending ∧
      t.m.scan.wl = s.m.scan.wl ++ [(R.MEM_DMA_DESC.idx ch 0, Word.of (wrap 32 (c.x 2))), (R.MEM_DMA_CTL.idx ch 0, setBits (s.m.w .MEM_DMA_CTL ch) 1 0 1)] ∧
      { t.m with scan := { t.m.scan with wl := e.scan.wl, placed := e.scan.placed } } = e))

/-- The steps of a run and of a stop (R193, R194): what each waits for and what it does when its wait ends or its limit is
reached. LIFT_CAR, LIFT_STOPS, ESC_RUN and LIFT_INSP (R191 to R197, R205, R207, R272, R274): what each keeps of its inputs, how
a run starts, and that beside the scan's own state only events and counts change. LIFT_DOOR (R198, R199, R272): an open door
closes on CLOSE or after DWELL, a closed one opens on a request where the car may be left. It says that these complete: liftCar,
liftStops, liftDoor, escRun, liftInsp. -/
def Obligations.LiftCommands : Prop :=
  (∀ (c : BCtx) (q : SeqP) (k : Car), k.step = 1 → c.fb q.mch q.mainFb true = true → (c.seqStep q k).2 = { k with step := 2, et := 0, slots := q.drv.drop (8 - c.m.scan.placed) }) ∧
  (∀ (c : BCtx) (q : SeqP) (k : Car), k.step = 1 → c.fb q.mch q.mainFb true = false → k.et < q.tMain → c.seqStep q k = (c, k)) ∧
  (∀ (c : BCtx) (q : SeqP) (k : Car), k.step = 1 → c.fb q.mch q.mainFb true = false → q.tMain ≤ k.et →
    (c.seqStep q k).2 = { k with fault := true, step := 9, et := 0, slots := q.drv.drop (8 - c.m.scan.placed) } ∧
    smGet (fun _ => (0 : Int)) (c.seqStep q k).1.m.scan.ap (c.m.mach q.mch).runReq = 0) ∧
  (∀ (c : BCtx) (q : SeqP) (k : Car), k.step = 2 → k.slots.length ≤ 8 - c.m.scan.placed → q.tTorq ≤ k.et →
    (c.seqStep q k).2 = { k with step := 3, et := 0, slots := [] } ∧ smGet (fun _ => (0 : Int)) (c.seqStep q k).1.m.scan.ap (c.m.mach q.mch).brkReq = 65536) ∧
  (∀ (c : BCtx) (q : SeqP) (k : Car), k.step = 3 → c.fb q.mch q.brkFb true = true →
    (c.seqStep q k).2 = { k with step := 4, et := 0, judge := some { num := c.m.scan.num, taken := none } } ∧
    c.seqStep q k = ((c.target q.a k.tgt 0xC000).ctl q.a false 0, (c.seqStep q k).2)) ∧
  (∀ (c : BCtx) (q : SeqP) (k : Car), k.step = 3 → c.fb q.mch q.brkFb true = false → q.tBrk ≤ k.et →
    (c.seqStep q k).2 = { k with fault := true, step := 7, et := 0 } ∧ smGet (fun _ => (0 : Int)) (c.seqStep q k).1.m.scan.ap (c.m.mach q.mch).brkReq = 0) ∧
  (∀ (c : BCtx) (q : SeqP) (k : Car), k.step = 4 → settled k.judge c.ip.f = true → c.ip.b F.MG_STAT_TGTREF q.a = false → c.ip.b F.MG_STAT_TGTLIM q.a = false →
    (c.seqStep q k).2 = { k with step := 5, et := 0, judge := none, atL := if k.kind = 1 then k.atL else none }) ∧
  (∀ (c : BCtx) (q : SeqP) (k : Car), k.step = 4 → settled k.judge c.ip.f = true → (c.ip.b F.MG_STAT_TGTREF q.a = true ∨ c.ip.b F.MG_STAT_TGTLIM q.a = true) →
    c.seqStep q k = (c, { k with step := 6, et := 0, judge := none, stopping := true })) ∧
  (∀ (c : BCtx) (q : SeqP) (k : Car), k.step = 5 → k.stopping = false → c.ip.b F.MG_STAT_INPOS q.a = true → settled k.judge c.ip.f = true → c.seqStep q k = (c, { k with step := 6, et := 0 })) ∧
  (∀ (c : BCtx) (q : SeqP) (k : Car), k.step = 5 → k.stopping = true → c.ip.b F.MG_STAT_MOVING q.a = false → c.seqStep q k = (c, { k with step := 6, et := 0 })) ∧
  (∀ (c : BCtx) (q : SeqP) (k : Car), k.step = 6 → q.tHold ≤ k.et → (c.seqStep q k).2 = { k with step := 7, et := 0 } ∧ smGet (fun _ => (0 : Int)) (c.seqStep q k).1.m.scan.ap (c.m.mach q.mch).brkReq = 0) ∧
  (∀ (c : BCtx) (q : SeqP) (k : Car), k.step = 7 → c.fb q.mch q.brkFb false = true → c.seqStep q k = (c, { k with step := 8, et := 0 })) ∧
  (∀ (c : BCtx) (q : SeqP) (k : Car), k.step = 7 → c.fb q.mch q.brkFb false = false → q.tBrk ≤ k.et → (c.seqStep q k).2 = { k with fault := true, step := 8, et := 0 }) ∧
  (∀ (c : BCtx) (q : SeqP) (k : Car), k.step = 8 → q.tDrop ≤ k.et → (c.seqStep q k).2 = { k with step := 9, et := 0, slots := q.drv.drop (8 - c.m.scan.placed) } ∧
    smGet (fun _ => (0 : Int)) (c.seqStep q k).1.m.scan.ap (c.m.mach q.mch).runReq = 0) ∧
  (∀ (c : BCtx) (q : SeqP) (k : Car), k.step = 9 → k.slots.length ≤ 8 - c.m.scan.placed → c.fb q.mch q.mainFb false = true →
    (c.seqStep q k).2 = { k with step := 0, et := 0, slots := [], vsave := none, kind := 0, ns := 63, stopping := false, inspDir := 0 }) ∧
  (∀ (s : State) (c : BCtx) (mch : Nat) (x : Machn), Safety.InstanceAt s.m c 0x3A → mch = wrap 3 (c.x 0) → x = s.m.mach mch →
    ∃ t, exec (.liftCar c.k) s = .next t ∧ t.pending = s.pending ∧
    (t.m.lcar mch).svcPrev = decide (c.x 2 ≠ 0) ∧ (t.m.lcar mch).chain = c.permits x.sfChain ∧ (t.m.lcar mch).run = c.permits x.sfRun ∧
    ((t.m.lcar mch).inSvc = true → c.x 2 ≠ 0 ∧ c.ip.b F.MG_STAT_REFD x.car = true ∧ c.doorsKnown mch = true) ∧
    (smGet (fun _ => ({} : BSt)) t.m.scan.bst c.k).fprev = c.ip.f ∧
    { t.m with scan := s.m.scan, bar := s.m.bar } = s.m) ∧
  (∀ (s : State) (c : BCtx) (mch : Nat) (x : Machn), Safety.InstanceAt s.m c 0x3B → mch = wrap 3 (c.x 0) → x = s.m.mach mch → ((s.m.lcar mch).inSvc = false ∨ c.insp = true) →
    ∃ t, exec (.liftStops c.k) s = .next t ∧ t.pending = s.pending ∧ (t.m.lcar mch).calls = 0 ∧ (t.m.lcar mch).up = 0 ∧
      (t.m.lcar mch).dn = 0 ∧ (t.m.lcar mch).want = none ∧ (t.m.lcar mch).query = none ∧
      (smGet (fun _ => ({} : BSt)) t.m.scan.bst c.k).fprev = c.ip.f ∧ { t.m with scan := s.m.scan } = s.m) ∧
  (∀ (s : State) (c : BCtx) (mch : Nat) (k : Car), Safety.InstanceAt s.m c 0x3B → mch = wrap 3 (c.x 0) → k = s.m.lcar mch → k.inSvc = true → c.insp = false →
    1 ≤ k.step → k.step ≤ 4 → k.query = none →
    exec (.liftStops c.k) s = .next { s with m := Safety.Evaluated { c with m := c.m.setCar mch { k with calls := (k.calls ||| (wrap 32 (c.x 1) + 2 ^ 32 * wrap 32 (c.x 2))) % 2 ^ landCount (c.land mch) } } [(k.ns : Int)] c.st }) ∧
  (∀ (s : State) (c : BCtx) (mch : Nat) (x : Machn) (k : Car), Safety.InstanceAt s.m c 0x3E → mch = wrap 3 (c.x 0) → x = s.m.mach mch → k = s.m.lcar mch → k.step = 0 → c.x 2 ≠ 0 →
    k.svcPrev = false → c.ip.b F.MG_STAT_MOVING x.car = false → c.permits x.sfChain = true →
    ∃ t, exec (.escRun c.k) s = .next t ∧ t.pending = s.pending ∧ (t.m.lcar mch).step = 1 ∧ (t.m.lcar mch).kind = 3 ∧
      (t.m.lcar mch).dir = (if c.x 3 ≠ 0 then 2 else 1) ∧ (t.m.lcar mch).fault = false ∧
      (opSpace (nth c.b.ops 5 0) ≠ 5 ∨ opIdx (nth c.b.ops 5 0) ≠ x.runReq → smGet (fun _ => (0 : Int)) t.m.scan.ap x.runReq = 65536) ∧
      { t.m with scan := s.m.scan } = s.m) ∧
  (∀ (s : State) (c : BCtx) (mch : Nat) (k : Car), Safety.InstanceAt s.m c 0x3F → mch = wrap 3 (c.x 0) → k = s.m.lcar mch → c.insp = false → (k.kind = 2 → k.step = 0) →
    exec (.liftInsp c.k) s = .next { s with m := Safety.Evaluated { c with m := c.m.setCar mch k } [0] c.st }) ∧
  (∀ (s : State) (c : BCtx) (mch : Nat) (x : Machn), Safety.InstanceAt s.m c 0x3F → mch = wrap 3 (c.x 0) → x = s.m.mach mch → c.insp = true → (s.m.lcar mch).step = 0 → (c.x 2 ≠ 0 ∧ c.x 3 = 0 ∨ c.x 2 = 0 ∧ c.x 3 ≠ 0) →
    c.ip.b F.MG_STAT_MOVING x.car = false →
    ∃ t, exec (.liftInsp c.k) s = .next t ∧ t.pending = s.pending ∧ (t.m.lcar mch).kind = 2 ∧ (t.m.lcar mch).step = 1 ∧
      (t.m.lcar mch).inspDir = (if c.x 2 ≠ 0 then 1 else 2) ∧
      (t.m.lcar mch).tgt = c.ip.qi (if c.x 2 ≠ 0 then .MG_SMAX_LO else .MG_SMIN_LO) x.car ∧ { t.m with scan := s.m.scan } = s.m) ∧
  (∀ (s : State) (c : BCtx) (mch side a p : Nat) (x : Machn) (d : Door), Safety.InstanceAt s.m c 0x3C → mch = wrap 3 (c.x 0) → side = wrap 1 (c.x 1) →
    x = s.m.mach mch → x.door side = some a → p = opIdx (nth c.b.ops 2 0) → d = s.m.ldoor mch side → c.x 5 = 0 →
    d.st = 2 → (c.x 4 ≠ 0 ∨ c.parN p 2 ≤ d.et + c.dt.toNat) → ∃ t, exec (.liftDoor c.k) s = .next t ∧ t.pending = s.pending ∧ 
    (t.m.ldoor mch side).st = (if c.parN p 5 ≤ d.revs then 4 else 3) ∧ (t.m.ldoor mch side).et = 0 ∧
    (t.m.ldoor mch side).revs = d.revs ∧ { t.m with scan := s.m.scan } = s.m) ∧
  (∀ (s : State) (c : BCtx) (mch side a p : Nat) (x : Machn) (d : Door), Safety.InstanceAt s.m c 0x3C → mch = wrap 3 (c.x 0) → side = wrap 1 (c.x 1) →
    x = s.m.mach mch → x.door side = some a → p = opIdx (nth c.b.ops 2 0) → d = s.m.ldoor mch side → c.x 5 = 0 →
    d.st = 2 → c.x 4 = 0 → d.et + c.dt.toNat < c.parN p 2 → ∃ t, exec (.liftDoor c.k) s = .next t ∧ t.pending = s.pending ∧ 
    (t.m.ldoor mch side).st = 2 ∧ (t.m.ldoor mch side).et = d.et + c.dt.toNat ∧ t.m.scan.wl = s.m.scan.wl ∧ { t.m with scan := s.m.scan } = s.m) ∧
  (∀ (s : State) (c : BCtx) (mch side a p : Nat) (x : Machn) (d : Door), Safety.InstanceAt s.m c 0x3C → mch = wrap 3 (c.x 0) → side = wrap 1 (c.x 1) →
    x = s.m.mach mch → x.door side = some a → p = opIdx (nth c.b.ops 2 0) → d = s.m.ldoor mch side → c.x 5 = 0 →
    d.st = 0 → d.refDone = true → d.lockWait = false → (d.openReq = true ∨ c.x 3 ≠ 0) →
    c.mayOpen { mch := mch, side := side, a := a, p := p, trav := x.travel side } = true → ∃ t, exec (.liftDoor c.k) s = .next t ∧ t.pending = s.pending ∧ 
    (t.m.ldoor mch side).st = 1 ∧ (t.m.ldoor mch side).openReq = false ∧ { t.m with scan := s.m.scan, bar := s.m.bar } = s.m) ∧
  (∀ (s : State) (c : BCtx) (mch side a p : Nat) (x : Machn) (d : Door), Safety.InstanceAt s.m c 0x3C → mch = wrap 3 (c.x 0) → side = wrap 1 (c.x 1) →
    x = s.m.mach mch → x.door side = some a → p = opIdx (nth c.b.ops 2 0) → d = s.m.ldoor mch side → c.x 5 = 0 →
    d.st = 0 → d.refDone = true → d.lockWait = false →
    c.mayOpen { mch := mch, side := side, a := a, p := p, trav := x.travel side } = false → ∃ t, exec (.liftDoor c.k) s = .next t ∧ t.pending = s.pending ∧ 
    (t.m.ldoor mch side).st = 0 ∧ t.m.scan.wl = s.m.scan.wl ∧
    (t.m.ldoor mch side).openReq = (d.openReq || decide (c.x 3 ≠ 0)) ∧ { t.m with scan := s.m.scan } = s.m) ∧
  (∀ (s : State) (c : BCtx) (mch side a p : Nat) (x : Machn) (d : Door), Safety.InstanceAt s.m c 0x3C → mch = wrap 3 (c.x 0) → side = wrap 1 (c.x 1) →
    x = s.m.mach mch → x.door side = some a → p = opIdx (nth c.b.ops 2 0) → d = s.m.ldoor mch side → c.x 5 = 0 →
    d.st = 6 → ∃ t, exec (.liftDoor c.k) s = .next t ∧ t.pending = s.pending ∧ (t.m.ldoor mch side).st = 6 ∧ t.m.scan.wl = s.m.scan.wl ∧
    { t.m with scan := s.m.scan } = s.m)

/-- The waits of lifts and doors that end at a moment (R192 to R195, R198 to R200): when its limit is reached, the command
evaluates the block that waits; before that it changes nothing. It says that these complete: liftCar, liftDoor, liftWaitTimeout,
relevelLimit, doorDwellExpiry, doorLockTimeout, doorForceTimeout, shaftSourceLost. -/
def Obligations.LiftWaits : Prop :=
  (∀ (s : State) (c : BCtx) (mch dt p : Nat) (k : Car), Safety.InstanceAt s.m c 0x3A →
    s.m.liftInst 0x3A mch none = some (c.k, dt, p) → k = s.m.lcar mch → ((k.step = 1 ∨ k.step = 9) ∧ s.m.parAt p 12 ≤ k.et + dt ∨ (k.step = 3 ∨ k.step = 7) ∧ s.m.parAt p 14 ≤ k.et + dt) →
    ∃ t, exec (.liftWaitTimeout mch) s = .next t ∧ exec (.liftCar c.k) s = .next t ∧ t.pending = s.pending ∧ (smGet (fun _ => ({} : BSt)) t.m.scan.bst c.k).seen = true) ∧
  (∀ (s : State) (c : BCtx) (mch dt p : Nat) (k : Car) (ip : InImg), Safety.InstanceAt s.m c 0x3A →
    s.m.liftInst 0x3A mch none = some (c.k, dt, p) → k = s.m.lcar mch → s.m.scan.inp = some ip → k.step = 0 →
    s.m.parAt p 7 ≤ (k.relevs.filter (fun f => decide (ip.f < f + 2400000))).length →
    ∃ t, exec (.relevelLimit mch) s = .next t ∧ exec (.liftCar c.k) s = .next t ∧ t.pending = s.pending ∧ (smGet (fun _ => ({} : BSt)) t.m.scan.bst c.k).seen = true) ∧
  (∀ (s : State) (c : BCtx) (mch dt p : Nat) (k : Car), Safety.InstanceAt s.m c 0x3A →
    s.m.liftInst 0x3A mch none = some (c.k, dt, p) → k = s.m.lcar mch → 0 < k.unus → 4 * s.m.parAt p 1 ≤ k.unus + dt →
    ∃ t, exec (.shaftSourceLost mch) s = .next t ∧ exec (.liftCar c.k) s = .next t ∧ t.pending = s.pending ∧ (smGet (fun _ => ({} : BSt)) t.m.scan.bst c.k).seen = true) ∧
  (∀ (s : State) (mch : Nat), (s.m.lcar mch).unus = 0 → exec (.shaftSourceLost mch) s = .next s) ∧
  (∀ (s : State) (mch : Nat), (s.m.lcar mch).step ≠ 0 → exec (.relevelLimit mch) s = .next s) ∧
  (∀ (s : State) (mch : Nat), (s.m.lcar mch).step = 5 → exec (.liftWaitTimeout mch) s = .next s) ∧
  (∀ (s : State) (c : BCtx) (mch side dt p : Nat) (d : Door), Safety.InstanceAt s.m c 0x3C →
    s.m.liftInst 0x3C mch (some side) = some (c.k, dt, p) → d = s.m.ldoor mch side → d.st = 2 → s.m.parAt p 2 ≤ d.et + dt →
    ∃ t, exec (.doorDwellExpiry mch side) s = .next t ∧ exec (.liftDoor c.k) s = .next t ∧ t.pending = s.pending ∧ (smGet (fun _ => ({} : BSt)) t.m.scan.bst c.k).seen = true) ∧
  (∀ (s : State) (c : BCtx) (mch side dt p : Nat) (d : Door), Safety.InstanceAt s.m c 0x3C →
    s.m.liftInst 0x3C mch (some side) = some (c.k, dt, p) → d = s.m.ldoor mch side → d.st = 0 → d.lockWait = true → s.m.parAt p 7 ≤ d.et + dt →
    ∃ t, exec (.doorLockTimeout mch side) s = .next t ∧ exec (.liftDoor c.k) s = .next t ∧ t.pending = s.pending ∧ (smGet (fun _ => ({} : BSt)) t.m.scan.bst c.k).seen = true) ∧
  (∀ (s : State) (c : BCtx) (mch side dt p : Nat) (d : Door) (n : Nat), Safety.InstanceAt s.m c 0x3C →
    s.m.liftInst 0x3C mch (some side) = some (c.k, dt, p) → d = s.m.ldoor mch side → d.force = some n → s.m.parAt p 4 ≤ n + dt →
    ∃ t, exec (.doorForceTimeout mch side) s = .next t ∧ exec (.liftDoor c.k) s = .next t ∧ t.pending = s.pending ∧ (smGet (fun _ => ({} : BSt)) t.m.scan.bst c.k).seen = true) ∧
  (∀ (s : State) (mch side : Nat), (s.m.ldoor mch side).st ≠ 2 → exec (.doorDwellExpiry mch side) s = .next s) ∧
  (∀ (s : State) (mch side : Nat), (s.m.ldoor mch side).lockWait = false → exec (.doorLockTimeout mch side) s = .next s) ∧
  (∀ (s : State) (mch side : Nat), (s.m.ldoor mch side).force = none → exec (.doorForceTimeout mch side) s = .next s)

/-- Group dispatch (R210, R211): a car's cost for a hall call, and the record and calls that a TDMA cycle leaves. LIFT_GROUP
registers hall calls (R210, R272), SF_DIVERSE builds its three cells from a capture not used before (R273). It says that these
complete: liftGroup, sfDiverse, groupAssignment. -/
def Obligations.GroupCommands : Prop :=
  (∀ (c : Cand) (g : Group) (h d pl ns st dir : Nat), pl = fieldAt c.w 0 1 % 64 → dir = fieldAt c.w 0 1 / 64 → ns = fieldAt c.w 1 1 % 64 →
    st = fieldAt c.w 1 1 / 64 → (st = 2 ∨ c.mem.serves.testBit h = false ∨ g.full ≤ fieldAt c.w 2 1) → c.cost g h d = none) ∧
  (∀ (c : Cand) (g : Group) (h d pl ns st dir : Nat), pl = fieldAt c.w 0 1 % 64 → dir = fieldAt c.w 0 1 / 64 → ns = fieldAt c.w 1 1 % 64 →
    st = fieldAt c.w 1 1 / 64 → st ≠ 2 → c.mem.serves.testBit h = true → fieldAt c.w 2 1 < g.full → (fieldAt c.w 4 1).testBit 7 = false →
    ns = h → c.cost g h d = some 0) ∧
  (∀ (c : Cand) (g : Group) (h d pl ns st dir : Nat), pl = fieldAt c.w 0 1 % 64 → dir = fieldAt c.w 0 1 / 64 → ns = fieldAt c.w 1 1 % 64 →
    st = fieldAt c.w 1 1 / 64 → st ≠ 2 → c.mem.serves.testBit h = true → fieldAt c.w 2 1 < g.full → (fieldAt c.w 4 1).testBit 7 = false →
    ns ≠ h → dir = 0 → c.cost g h d = some (g.kt * (max h pl - min h pl) + g.ks * fieldAt c.w 3 1)) ∧
  (∀ (c : Cand) (g : Group) (h d pl ns st dir : Nat), pl = fieldAt c.w 0 1 % 64 → dir = fieldAt c.w 0 1 / 64 → ns = fieldAt c.w 1 1 % 64 →
    st = fieldAt c.w 1 1 / 64 → st ≠ 2 → c.mem.serves.testBit h = true → fieldAt c.w 2 1 < g.full → (fieldAt c.w 4 1).testBit 7 = false →
    ns ≠ h → dir = 1 → d = 1 → pl < h → c.cost g h d = some (g.kt * (h - pl) + g.ks * fieldAt c.w 3 1)) ∧
  (∀ (c : Cand) (g : Group) (h d pl ns st dir : Nat), pl = fieldAt c.w 0 1 % 64 → dir = fieldAt c.w 0 1 / 64 → ns = fieldAt c.w 1 1 % 64 →
    st = fieldAt c.w 1 1 / 64 → st ≠ 2 → c.mem.serves.testBit h = true → fieldAt c.w 2 1 < g.full → (fieldAt c.w 4 1).testBit 7 = false →
    ns ≠ h → dir = 2 → d = 2 → h < pl → c.cost g h d = some (g.kt * (pl - h) + g.ks * fieldAt c.w 3 1)) ∧
  (∀ (c : Cand) (g : Group) (h d pl ns st dir : Nat), pl = fieldAt c.w 0 1 % 64 → dir = fieldAt c.w 0 1 / 64 → ns = fieldAt c.w 1 1 % 64 →
    st = fieldAt c.w 1 1 / 64 → st ≠ 2 → c.mem.serves.testBit h = true → fieldAt c.w 2 1 < g.full → (fieldAt c.w 4 1).testBit 7 = false →
    ns ≠ h → dir = 1 → (d ≠ 1 ∨ h ≤ pl) →
    c.cost g h d = some (g.kt * ((max ns pl - min ns pl) + (max ns h - min ns h)) + g.ks * fieldAt c.w 3 1)) ∧
  (∀ (s : State) (cycle : Nat) (loads : List Nat),
    ∃ t, exec (.groupAssignment cycle loads) s = .next t ∧ t.pending = s.pending ∧ t.m.scan.groups.cycle = cycle ∧
      t.m.scan.groups.own.length = 48 ∧ t.m.scan.groups.members = s.m.scan.groups.members ∧
      (∀ h, t.m.scan.groups.hup.testBit h = true → s.m.scan.groups.hup.testBit h = true) ∧
      (∀ h, t.m.scan.groups.hdn.testBit h = true → s.m.scan.groups.hdn.testBit h = true) ∧
      (∀ i, (t.m.lcar i).calls = (s.m.lcar i).calls) ∧ { t.m with scan := s.m.scan } = s.m) ∧
  (∀ (s : State) (c : BCtx) (g : Group) (up dn : Nat) (m : Mach), Safety.InstanceAt s.m c 0x3D → g = s.m.scan.groups →
    up = (g.hup ||| (wrap 32 (c.x 1) + 2 ^ 32 * wrap 32 (c.x 2))) % 2 ^ 63 →
    dn = (g.hdn ||| (wrap 32 (c.x 3) + 2 ^ 32 * wrap 32 (c.x 4))) % 2 ^ 63 →
    m = { c.m with scan := { c.m.scan with groups := { g with hup := up, hdn := dn } } } →
    exec (.liftGroup c.k) s = .next { s with m := Safety.Evaluated { c with m := m } [s32 up, s32 (up / 2 ^ 32), s32 dn, s32 (dn / 2 ^ 32)] c.st }) ∧
  (∀ (s : State) (c : BCtx) (mch ch d age sf : Nat) (ps pc v : Int), Safety.InstanceAt s.m c 0x40 → mch = wrap 3 (c.x 0) → ch = wrap 3 (c.x 1) →
    d = s.m.g F.SF_MON_CFG_DCELL ch →
    c.shaft mch (if c.im.hasCar mch then c.par (c.im.carPar mch) 0 else 0) = some (ps, age) →
    age ≤ (if c.im.hasCar mch then c.parN (c.im.carPar mch) 1 else 80) → sf = c.ip.f - age → pc = rnd (c.x 2 * ps) 16 →
    (s.m.scan.divs.find? (fun e => e.1 == c.k)).map (fun e => e.2.1) ≠ some sf →
    v = (match s.m.scan.divs.find? (fun e => e.1 == c.k) with
      | some e => satS 32 (tdivI ((pc - e.2.2) * 65536) ((sf : Int) - e.2.1))
      | none => 0) →
    ∃ t, exec (.sfDiverse c.k) s = .next t ∧ t.pending = s.pending ∧ smGet (fun _ => (0 : Int)) t.m.scan.ap d = s32 (sf % 32768 * 65536) ∧
      smGet (fun _ => (0 : Int)) t.m.scan.ap (d + 1) = s32 (wrap 16 pc * 65536) ∧ smGet (fun _ => (0 : Int)) t.m.scan.ap (d + 2) = v ∧
      (∀ j, j ≠ d → j ≠ d + 1 → j ≠ d + 2 → smGet (fun _ => (0 : Int)) t.m.scan.ap j = smGet (fun _ => (0 : Int)) s.m.scan.ap j) ∧
      (c.k, sf, pc) ∈ t.m.scan.divs ∧ { t.m with scan := s.m.scan } = s.m)

/-- Test pulses, dips and sources of the safety inputs (R219, R220, R221, R459). What ends by time in the SP, and the end of a
Key write (R249, R256). It says that these complete: testPulse, siDip, editSessionTimeout, keyWriteComplete, inspectionTimeout,
testPulseSourceShutoff. -/
def Obligations.SafetyInputsAndSessions : Prop :=
  (∀ (s : State) (k : Nat), s.m.pulseSource s.m.frame = some k →
    exec (.testPulse true) s = .next { s with m := { s.m with sp := { s.m.sp with pulse := some (k, s.m.sp.raw), dips := 0 } } }) ∧
  (∀ (s : State) (k : Nat), s.m.pulseSource s.m.frame = some k →
    ∃ t, exec (.testPulse false) s = .next t ∧ t.pending = s.pending ∧ t.m.sp.pulse = some (k, s.m.sp.raw) ∧
      t.m.gb F.SF_TP_CFG_TPFAULT k = true ∧ t.m.sp.c3.testBit k = true ∧ Safety.KeepsRegs s.m t.m [R.SF_TP_CFG.idx 0 0] ∧
      { t.m with reg := s.m.reg, sp := s.m.sp } = s.m) ∧
  (∀ (s : State) (low : Bool), s.m.pulseSource s.m.frame = none → exec (.testPulse low) s = .next s) ∧
  (∀ (s : State) (k : Nat), k < 16 → ∃ t, exec (.siDip k) s = .next t ∧ t.pending = s.pending ∧
    (∀ j, t.m.sp.dips.testBit j = (s.m.sp.dips.testBit j || j == k)) ∧ { t.m with sp := s.m.sp } = s.m) ∧
  (∀ (s : State) (k : Nat), k < 4 → ∃ t, exec (.testPulseSourceShutoff k) s = .next t ∧ t.pending = s.pending ∧
    (∀ j, t.m.sp.tpOff.testBit j = (s.m.sp.tpOff.testBit j || j == k)) ∧ { t.m with sp := s.m.sp } = s.m) ∧
  (∀ (s : State) (src t0 : Nat), s.m.sp.edit = some (src, t0) → t0 + 600000000 ≤ s.m.sp.t →
    exec .editSessionTimeout s = .next { s with m := s.m.editClose }) ∧
  (∀ (m : Mach) (src t0 : Nat), m.sp.edit = some (src, t0) → m.editClose.sp.edit = none ∧
    (m.editClose.bar.evq.getLast?).map (fun e => (e.code, e.src, e.arg0)) = some (0x0B07, 2, setRev m.editClose.sp.image)) ∧
  (∀ (s : State), (∀ src t0, s.m.sp.edit = some (src, t0) → s.m.sp.t < t0 + 600000000) → exec .editSessionTimeout s = .next s) ∧
  (∀ (s : State) (ws : List (Nat × List Byte)), s.m.sp.keyWrite = some ws → ∃ t, exec .keyWriteComplete s = .next t ∧ t.pending = s.pending ∧
    t.m.sp.keyWrite = none ∧ t.m.key = (each ws s.m (fun m w => m.keyStore w.1 w.2)).key ∧
    t.m.sp = { s.m.sp with keyWrite := none } ∧ { t.m with key := s.m.key, sp := s.m.sp } = s.m) ∧
  (∀ (s : State) (i : Insp), s.m.sp.insp = some i → (i.start + i.tmax * 1000000 ≤ s.m.sp.t ∨ i.keep + 2000000 ≤ s.m.sp.t) →
    ∃ t e, exec .inspectionTimeout s = .next t ∧ t.pending = s.pending ∧ t.m.sp.insp = none ∧ (∀ k < 8, nth t.m.sp.cmds k false = false) ∧
      t.m.bar.evq = s.m.bar.evq ++ [e] ∧ e.code = 0x0B09 ∧ e.src = 2 ∧ { t.m with sp := s.m.sp, bar := s.m.bar } = s.m) ∧
  (∀ (s : State), s.m.inspLate = false → exec .inspectionTimeout s = .next s)

/-- An internal fault of the SP (R216, R228): every switch and the supply switch open at once, every function FAILED, the SP
stops; a late clock, a failed RAM or flash test end in it (R215, R235). It says that these complete: assaySlot, clockWindow,
spInternalFault. -/
def Obligations.SafetyFault : Prop :=
  (∀ (s : State), s.m.sp.fault = false → ∃ t, exec .spInternalFault s = .next t ∧ t.pending = s.pending ∧ t.m.sp.fault = true ∧
    t.m.sp.tripped = true ∧ t.m.b F.SF_STAT_SSWOPEN = true ∧ t.m.b F.SF_STAT_SPFAULT = true ∧ t.m.b F.SF_STAT_FAILANY = true ∧
    t.m.b F.SF_STAT_RUN = false ∧ t.m.gb F.DEV_ENG_FAULT_FAULT 2 = true ∧ t.m.gb F.DEV_ENG_RUN_RUN 2 = false ∧
    (∀ k < 8, (t.m.pair k).cmd = false ∧ t.m.g F.SF_SO_STAT_STATE k = 2) ∧
    (∀ f < 32, t.m.b F.SF_FN_STAT_FAILED f = true ∧ 14 ≤ t.m.g F.SF_FN_STAT_CAUSE f) ∧ t.m.sp.edit = none ∧ t.m.sp.insp = none) ∧
  (∀ (s : State), s.m.sp.fault = true → exec .spInternalFault s = .next s) ∧
  (∀ (s : State) (ramOk flashOk keyOk : Bool), s.m.sp.fault = false → (ramOk = false ∨ flashOk = false) →
    ∃ t, exec (.assaySlot ramOk flashOk keyOk) s = .next t ∧ exec .spInternalFault s = .next t) ∧
  (∀ (s : State) (n : Nat) (d : Int), s.m.sp.fault = false → d = (n : Int) - 160000 → d.natAbs ≤ 1600 →
    ∃ t, exec (.clockWindow n) s = .next t ∧ t.pending = s.pending ∧ t.m.gi F.SF_CLK_DEV = satS 16 (rndDiv (d * 5) 8) ∧ t.m.sp.fault = false ∧
      (800 < d.natAbs → t.m.b F.SF_STAT_CLKWARN = true ∧ t.m.sp.c4 = true) ∧
      (d.natAbs ≤ 800 → t.m.b F.SF_STAT_CLKWARN = s.m.b F.SF_STAT_CLKWARN ∧ t.m.sp.c4 = s.m.sp.c4) ∧
      Safety.KeepsRegs s.m t.m [R.SF_CLK.idx 0 0, R.SF_STAT.idx 0 0] ∧ { t.m with reg := s.m.reg, sp := s.m.sp } = s.m) ∧
  (∀ (s : State) (n : Nat), s.m.sp.fault = false → 161600 < n ∨ n < 158400 →
    ∃ t, exec (.clockWindow n) s = .next t ∧ t.pending = s.pending ∧ t.m.sp.fault = true ∧ t.m.b F.SF_STAT_SSWOPEN = true)

/-- Output pairs (R223 to R228): overload, feedback, supply, and the readback of a switch test. It says that these complete:
switchTestReadback, pairOverloadTrip, edmTimeout, sosOk. -/
def Obligations.SafetyPairs : Prop :=
  (∀ (s : State) (k n : Nat), k < 8 → (s.m.pair k).cmd = true → s.m.sp.test = none → s.m.g F.SF_SO_STAT_STATE k = 1 →
    n = ((s.m.pair k).ovl.filter (fun x => decide (s.m.sp.t < x + 10000000))).length + 1 →
    ∃ t, exec (.pairOverloadTrip k) s = .next t ∧ t.pending = s.pending ∧ (t.m.pair k).cmd = false ∧ t.m.b F.SF_SO_STAT_OVL k = true ∧
      t.m.g F.SF_SO_STAT_OVLCNT k = min 15 n ∧ t.m.g F.SF_SO_STAT_STATE k = (if 3 ≤ n then 2 else 0) ∧
      (∀ j, j ≠ k → t.m.pair j = s.m.pair j) ∧ Safety.KeepsRegs s.m t.m [R.SF_SO_STAT.idx k 0] ∧
      (n < 3 → t.m.bar = s.m.bar) ∧ (3 ≤ n → ∃ e, t.m.bar.evq = s.m.bar.evq ++ [e] ∧ e.code = 0x0A10 + k ∧ e.src = 2 ∧ e.arg0 = k) ∧
      { t.m with reg := s.m.reg, sp := s.m.sp, bar := s.m.bar } = s.m) ∧
  (∀ (s : State) (k : Nat), (s.m.pair k).cmd = false → exec (.pairOverloadTrip k) s = .next s) ∧
  (∀ (s : State) (k t0 : Nat), k < 8 → (s.m.pair k).edm = some t0 → (s.m.edmOf k).1 = true → s.m.pairOn k = true →
    s.m.edmIn k = (s.m.pair k).cmd → t0 + (s.m.edmOf k).2.2 ≤ s.m.sp.t → s.m.g F.SF_SO_STAT_STATE k ≠ 2 →
    ∃ t e, exec (.edmTimeout k) s = .next t ∧ t.pending = s.pending ∧ t.m.b F.SF_SO_STAT_EDMF k = true ∧ t.m.g F.SF_SO_STAT_STATE k = 2 ∧
      (t.m.pair k).edm = none ∧ t.m.bar.evq = s.m.bar.evq ++ [e] ∧ e.code = 0x0A10 + k ∧ e.arg0 = k ∧
      Safety.KeepsRegs s.m t.m [R.SF_SO_STAT.idx k 0] ∧ { t.m with reg := s.m.reg, sp := s.m.sp, bar := s.m.bar } = s.m) ∧
  (∀ (s : State) (mv : Nat), ∃ t, exec (.sosOk mv) s = .next t ∧ t.pending = s.pending ∧ t.m.g F.SF_STAT_SOSV = min 65535 mv ∧
    t.m.b F.SF_STAT_SOSOK = decide (16000 ≤ mv) ∧ (16000 ≤ mv → s.m.sp.tripped = false → t.m.b F.SF_STAT_SSWOPEN = false) ∧
    ((mv < 16000 ∨ s.m.sp.tripped = true) → t.m.b F.SF_STAT_SSWOPEN = s.m.b F.SF_STAT_SSWOPEN) ∧
    (mv < 16000 → t.m.sp = { s.m.sp with incomplete := true, sosLow := true }) ∧ (16000 ≤ mv → t.m.sp = s.m.sp) ∧
    Safety.KeepsRegs s.m t.m [R.SF_STAT.idx 0 0] ∧ { t.m with reg := s.m.reg, sp := s.m.sp } = s.m) ∧
  (∀ (s : State) (k : Nat) (hs ls : Bool), k < 8 → s.m.sp.test = some (k, 0, true) → s.m.sp.fault = false → s.m.b F.SF_STAT_SOSOK = true →
    s.m.b F.SF_SO_STAT_LSOPEN k = false →
    ∃ t, exec (.switchTestReadback hs ls) s = .next t ∧ t.pending = s.pending ∧ t.m.sp.test = none ∧
      (t.m.pair k).done = setBit (s.m.pair k).done 0 true ∧ (∀ j, j ≠ k → t.m.pair j = s.m.pair j) ∧
      t.m.b F.SF_SO_STAT_HSOPEN k = (s.m.b F.SF_SO_STAT_HSOPEN k || hs)) ∧
  (∀ (s : State) (hs ls : Bool), s.m.sp.test = none → exec (.switchTestReadback hs ls) s = .next { s with m := s.m.spSummary })

/-- The assay (R226, R235): slots follow each other, a pair whose supply is there is tested, and a cycle's end counts it.
Monitor channels without a partner and degraded time (R231, R236, R237). It says that these complete: assaySlot, diverseTimeout,
degradedTimeExpiry, degradedTimerReset. -/
def Obligations.AssayAndDegradedMode : Prop :=
  (∀ (s : State) (keyOk : Bool) (n k : Nat), s.m.sp.fault = false → s.m.sp.slot = some n → n < 31 → k = (n + 1) % 16 / 2 → s.m.sp.setState ≠ 3 →
    s.m.pairOn k = true → s.m.b F.SF_STAT_SOSOK = true → s.m.b F.SF_STAT_SSWOPEN = false →
    ∃ t, exec (.assaySlot true true keyOk) s = .next t ∧ t.pending = s.pending ∧ t.m.sp.slot = some (n + 1) ∧ t.m.g F.SF_ASSAY_SLOT = n + 1 ∧
      t.m.sp.test = some (k, (n + 1) % 2, (s.m.pair k).cmd) ∧ Safety.KeepsRegs s.m t.m [R.SF_ASSAY.idx 0 0] ∧
      { t.m with reg := s.m.reg, sp := s.m.sp } = s.m) ∧
  (∀ (s : State) (keyOk : Bool), s.m.sp.fault = false → s.m.sp.slot = some 31 → s.m.sp.test = none → s.m.sp.incomplete = false → (∀ k < 8, s.m.pairOn k = false) →
    s.m.sp.setState ≠ 3 →
    ∃ t, exec (.assaySlot true true keyOk) s = .next t ∧ t.pending = s.pending ∧ t.m.sp.slot = some 0 ∧ t.m.b F.SF_STAT_FIRSTOK = true ∧
      t.m.g F.SF_ASSAY_CYCLES = min 65535 (s.m.g F.SF_ASSAY_CYCLES + 1)) ∧
  (∀ (s : State) (ramOk flashOk keyOk : Bool), s.m.sp.fault = true → exec (.assaySlot ramOk flashOk keyOk) s = .next s) ∧
  (∀ (s : State) (c : Nat), c < 8 → s.m.divDue c = true → ∃ t, exec (.diverseTimeout c) s = .next t ∧ t.pending = s.pending ∧
    t.m.b F.SF_MON_STAT_DIVLOST c = true ∧ t.m.sp.c2.testBit c = true ∧
    (∀ f < 32, s.m.b F.SF_FN_CFG_EN f = true → s.m.namesCh f c = true → s.m.b F.SF_FN_STAT_FAILED f = false → s.m.b F.SF_FN_STAT_DEG f = false →
      (s.m.b F.SF_FN_DEG_DEGOK f = true → t.m.b F.SF_FN_STAT_DEG f = true) ∧ (s.m.b F.SF_FN_DEG_DEGOK f = false → t.m.b F.SF_FN_STAT_FAILED f = true ∧ t.m.g F.SF_FN_STAT_CAUSE f = 13))) ∧
  (∀ (s : State) (c : Nat), s.m.divDue c = false → exec (.diverseTimeout c) s = .next s) ∧
  (∀ (s : State) (f : Nat), f < 32 → s.m.b F.SF_FN_STAT_DEG f = true → s.m.b F.SF_FN_STAT_FAILED f = false →
    s.m.g F.SF_DEG_CFG_TIME * 1000000 ≤ (s.m.fn f).acc →
    ∃ t e, exec (.degradedTimeExpiry f) s = .next t ∧ t.pending = s.pending ∧ t.m.b F.SF_FN_STAT_FAILED f = true ∧ t.m.b F.SF_FN_STAT_DEG f = false ∧
      t.m.b F.SF_FN_STAT_PERMIT f = false ∧ t.m.g F.SF_FN_STAT_CAUSE f = 12 ∧ t.m.gb F.SF_FAILED f = true ∧ t.m.gb F.SF_PERMIT f = false ∧
      (t.m.fn f).behind = s.m.g F.SF_FN_STAT_CAUSE f ∧ t.m.bar.evq = s.m.bar.evq ++ [e] ∧ e.code = 0x0A0C ∧ e.src = 2 ∧ e.arg0 = f ∧
      Safety.KeepsRegs s.m t.m [R.SF_FN_STAT.idx f 0, R.SF_FAILED.idx 0 0, R.SF_DEGRADED.idx 0 0, R.SF_PERMIT.idx 0 0, R.SF_STAT.idx 0 0] ∧
      { t.m with reg := s.m.reg, sp := s.m.sp, bar := s.m.bar } = s.m) ∧
  (∀ (s : State) (f : Nat), f < 32 → s.m.b F.SF_FN_STAT_DEG f = false → s.m.b F.SF_FN_STAT_FAILED f = false → 0 < (s.m.fn f).acc →
    (s.m.fn f).outAt + 3600000000 ≤ s.m.sp.t →
    ∃ t, exec (.degradedTimerReset f) s = .next t ∧ t.pending = s.pending ∧ t.m.fn f = { s.m.fn f with acc := 0 } ∧
      (∀ j, j ≠ f → t.m.fn j = s.m.fn j) ∧ { t.m with sp := s.m.sp } = s.m)

/-- The standby follows the active side, falls out of step and catches up (R286, R288, R289); a fault found on a side waits for
the commit point (R291). Fail-over, take-back and switch-over (R292, R295, R296), entry into HELD, its cells, and its end (R294,
R427). It says that these complete: mirrorRecord, stateTransferComplete, apGiveUp, failOver, heldEntry, heldCellsRelease,
heldEnd, takeBack, scanMismatch. -/
def Obligations.DuplexSides : Prop :=
  (∀ (s : State) (x num : Nat), s.m.otherSide = some x → 0 < num → s.m.side x = 3 → s.m.dx.transfer = false →
    ∃ t, exec (.mirrorRecord num true) s = .next t ∧ t.pending = s.pending ∧ t.m.side x = 2 ∧ t.m.side (1 - x) = s.m.side (1 - x) ∧
      t.m.g F.DX_SYNC_SCAN = num % 65536 ∧ t.m.g F.DX_SYNC_MISMATCH = s.m.g F.DX_SYNC_MISMATCH ∧ t.m.g F.DX_TBWAIT_FRAMES = 0 ∧
      t.m.gb F.DEV_ENG_RUN_RUN x = true ∧ t.m.dx = { s.m.dx with synced := num } ∧
      Safety.KeepsRegs s.m t.m [R.DX_STAT.idx 0 0, R.DX_SYNC.idx 0 0, R.DX_TBWAIT.idx 0 0, R.DEV_ENG_RUN.idx 0 0] ∧
      { t.m with reg := s.m.reg, dx := s.m.dx } = s.m) ∧
  (∀ (s : State) (x num : Nat) (c : Instr), s.m.otherSide = some x → (c = .scanMismatch ∨ 0 < num ∧ c = .mirrorRecord num false) →
    (s.m.side x = 2 ∨ s.m.side x = 3) →
    ∃ t e, exec c s = .next t ∧ t.pending = s.pending ∧ t.m.side x = 3 ∧ t.m.dx = { s.m.dx with transfer := true } ∧
      t.m.g F.DX_SYNC_MISMATCH = satInc 65535 (s.m.g F.DX_SYNC_MISMATCH) ∧ t.m.g F.DX_TBWAIT_FRAMES = 0 ∧ t.m.b F.DX_STAT_TBPEND = false ∧
      t.m.bar.evq = s.m.bar.evq ++ [e] ∧ e.code = 0x0D13 ∧ e.src = x ∧ e.arg0 = x ∧ e.frame = s.m.frame ∧
      Safety.KeepsRegs s.m t.m [R.DX_STAT.idx 0 0, R.DX_SYNC.idx 0 0, R.DX_TBWAIT.idx 0 0, R.DEV_ENG_RUN.idx 0 0] ∧
      { t.m with reg := s.m.reg, dx := s.m.dx, bar := s.m.bar } = s.m) ∧
  (∀ (s : State) (num : Nat) (same : Bool), s.m.otherSide = none → exec (.mirrorRecord num same) s = .next s) ∧
  (∀ (s : State), s.m.otherSide = none → exec .scanMismatch s = .next s) ∧
  (∀ (s : State), exec .stateTransferComplete s = .next { s with m := { s.m with dx := { s.m.dx with transfer := false } } }) ∧
  (∀ (s : State) (x cause : Nat), x < 2 → 1 ≤ cause → cause ≤ 5 → s.m.ticking = true →
    ∃ t, exec (.apGiveUp x cause) s = .next t ∧ t.pending = s.pending ∧ (x, cause) ∈ t.m.dx.faults ∧ (∀ f ∈ s.m.dx.faults, f ∈ t.m.dx.faults) ∧
      { t.m with dx := s.m.dx } = s.m) ∧
  (∀ (s : State) (x cause : Nat), s.m.ticking = false → exec (.apGiveUp x cause) s = .next s) ∧
  (∀ (s : State) (x dur : Nat), s.m.dx.change = some (x, 0) →
    ∃ t, exec (.failOver dur) s = .next t ∧ t.pending = s.pending ∧ t.m.dx = { s.m.dx with change := none } ∧
      (∀ k ∈ s.m.stnIds, k < 64 → (t.m.stn k).mode = 3 ∧ (t.m.stn k).exch = 0) ∧ (∀ i < 8, (t.m.lcar i).query = none) ∧
      (∀ o, s.m.scan.cur = some o → t.m.scan.cur = some { o with t0 := s.m.now, t1 := s.m.now + dur }) ∧
      (s.m.scan.cur = none → t.m.scan.cur = none) ∧ { t.m with dx := s.m.dx, scan := s.m.scan } = s.m) ∧
  (∀ (s : State) (dur : Nat), s.m.dx.change = none → exec (.failOver dur) s = .next s) ∧
  (∀ (s : State), s.m.dx.change = none → exec .takeBack s = .next s) ∧
  (∀ (s : State) (x k : Nat), s.m.dx.change = some (x, k) → x < 2 → (k = 1 ∨ k = 2) → s.m.side x = 2 →
    ∃ t, exec .takeBack s = .next t ∧ t.pending = s.pending ∧ t.m.side x = 1 ∧ t.m.side (1 - x) = 2 ∧ t.m.activeAp = some x ∧
      t.m.b F.DX_STAT_GAP = s.m.b F.DX_STAT_GAP ∧ t.m.g F.DX_TBWAIT_FRAMES = 0 ∧ t.m.dx.change = none ∧ t.m.dx.synced = s.m.scan.applied.1 ∧
      t.m.g F.DX_SIDE_CAUSE (1 - x) = 6 ∧ t.m.g F.DX_SIDE_GIVEUP (1 - x) = satInc 65535 (s.m.g F.DX_SIDE_GIVEUP (1 - x)) ∧
      t.m.bar.evq.take s.m.bar.evq.length = s.m.bar.evq ∧
      (t.m.bar.evq.drop s.m.bar.evq.length).map (fun v => (v.code, v.arg0)) = [(0x0D06, 1 - x), (if k = 1 then 0x0D10 else 0x0D11, x)] ∧
      (k = 1 → lookN t.m.bar.incs 223 = lookN s.m.bar.incs 223 + 1 ∧
        t.m.g F.DX_SIDE_TB24 x = min 15 (countOf (recent s.m.now (s.m.dx.takeBacks ++ [(x, s.m.now)])) x)) ∧
      Safety.KeepsRegs s.m t.m [R.DX_STAT.idx 0 0, R.DX_SIDE.idx 0 0, R.DX_SIDE.idx 1 0, R.DX_TBWAIT.idx 0 0, R.DEV_ENG_RUN.idx 0 0] ∧
      { t.m with reg := s.m.reg, dx := s.m.dx, bar := s.m.bar } = s.m) ∧
  (∀ (s : State) (x : Nat), s.m.dx.held = some x → x < 2 →
    ∃ t e, exec .heldEntry s = .next t ∧ t.pending = s.pending ∧ t.m.activeAp = none ∧ t.m.st = stHELD ∧ t.m.b F.DX_STAT_GAP = false ∧
      t.m.dx.held = none ∧ t.m.pow.heldAt = some s.m.frame ∧ t.m.scan.cur = none ∧
      (∀ a < 32, s.m.axisType a ≠ 0 → t.m.b F.MG_CTL_QSTOP a = true) ∧
      (∀ g < 12, s.m.g F.PWM_GRP_CFG_OWNER g = 0 → (t.m.grp g).ownerFail = true) ∧
      t.m.bar.evq = s.m.bar.evq ++ [e] ∧ e.code = 0x1203 ∧ e.arg0 = x ∧ e.arg1 = s.m.frame % 4294967296) ∧
  (∀ (s : State), s.m.dx.held = none → exec .heldEntry s = .next s) ∧
  (∀ (s : State) (f i : Nat), s.m.pow.heldAt = some f → s.m.st = stHELD → s.m.activeAp = none → s.m.pow.released = false →
    ((∀ a < 32, s.m.axisType a ≠ 0 → s.m.b F.MG_STAT_MOVING a = false) ∨ f + 16 * s.m.g F.PWR_CFG_HELDT ≤ s.m.frame) → i < 256 →
    ∃ t, exec .heldCellsRelease s = .next t ∧ t.pending = s.pending ∧ t.m.pow.released = true ∧ (0x0700 + i, ((0 : Word), true)) ∈ t.m.fresh ∧
      (∀ o, s.m.scan.shown = some o → t.m.scan.shown = some { o with ap := [] }) ∧
      { t.m with pow := s.m.pow, fresh := s.m.fresh, scan := s.m.scan } = s.m) ∧
  (∀ (s : State), s.m.pow.heldAt = none ∨ s.m.pow.released = true → exec .heldCellsRelease s = .next s) ∧
  (∀ (s : State) (x : Nat), x < 2 → s.m.st = stHELD → s.m.activeAp = none → s.m.side x = 4 →
    ∃ t e, exec (.heldEnd x) s = .next t ∧ t.pending = s.pending ∧ t.m.side x = 1 ∧ t.m.activeAp = some x ∧ t.m.pow.heldAt = none ∧
      t.m.dx.synced = 0 ∧ (∀ k ∈ s.m.stnIds, k < 64 → (t.m.stn k).mode = 1) ∧
      (s.m.scan.img.isSome → t.m.scan.vars = [] ∧ t.m.scan.bst = [] ∧ t.m.scan.cars = [] ∧ t.m.scan.doors = []) ∧
      t.m.scan.shown = s.m.scan.shown ∧ e ∈ t.m.bar.evq ∧ e.code = 0x1204 ∧ e.arg0 = x ∧ e.frame = s.m.frame) ∧
  (∀ (s : State) (x : Nat), s.m.st ≠ stHELD → exec (.heldEnd x) s = .next s)

/-- A failed core self-test (R299), the end of a warm restart (R291, R425), planned grafts (R301), wear (R302) and flash blocks
(R304). It says that these complete: plannedGraft, wearUpdate, flashBlockGraft, engineRestartComplete, engineCoreFault. -/
def Obligations.EngineRestarts : Prop :=
  (∀ (s : State) (e : Nat), 3 ≤ e → e ≤ 16 → s.m.engRuns e = true → s.m.ticking = true → e ∉ s.m.failing →
    ∃ t, exec (.engineCoreFault e) s = .next t ∧ t.pending = s.pending ∧ t.m.gb F.DEV_ENG_FAULT_FAULT e = true ∧
      t.m.failing = s.m.failing ++ [e] ∧ Safety.KeepsRegs s.m t.m [R.DEV_ENG_FAULT.idx 0 0] ∧
      { t.m with reg := s.m.reg, failing := s.m.failing, sets := s.m.sets } = s.m) ∧
  (∀ (m : Mach) (e : Nat), (3 ≤ e ∧ e ≤ 10 ∨ 12 ≤ e ∧ e ≤ 15) → m.spareFree e = true →
    countOf (recent m.now m.pow.restarts) e + 1 < m.g F.PWR_CFG_ERSTMAX →
    (m.lemgFails e).engRuns e = false ∧ (m.lemgFails e).sprSt (spareOf e) = 2 ∧ (m.lemgFails e).sprFor (spareOf e) = classIdx e ∧
    (m.lemgFails e).g F.SPR_PART_STATE (e - 3) = 3 ∧ (m.lemgFails e).g F.SPR_PART_STATE (spareOf e - 3) = 2 ∧
    (m.lemgFails e).w .FRM_BUD (spareOf e) = m.w .FRM_BUD e ∧ e ∈ (m.lemgFails e).pow.restarting ∧
    (m.lemgFails e).g F.PWR_ERST_TOTAL e = satInc 65535 (m.g F.PWR_ERST_TOTAL e) ∧
    (m.lemgFails e).bar.evq.take m.bar.evq.length = m.bar.evq ∧
    ((m.lemgFails e).bar.evq.drop m.bar.evq.length).map (fun v => (v.code, v.src)) = [(0x0D20, e), (0x1205, e)] ∧
    (m.lemgFails e).slots = m.slots ∧ (m.lemgFails e).axes = m.axes) ∧
  (∀ (s : State) (e : Nat), s.m.engRuns e = false ∨ s.m.ticking = false → exec (.engineCoreFault e) s = .next s) ∧
  (∀ (s : State) (e : Nat), 3 ≤ e → e ≤ 10 → e ∈ s.m.pow.restarting → ¬(s.m.sprSt 11 = 2 ∧ s.m.sprFor 11 = e - 3) →
    ∃ t, exec (.engineRestartComplete e true) s = .next t ∧ t.pending = s.pending ∧ t.m.engRuns e = true ∧
      t.m.pow = { s.m.pow with restarting := s.m.pow.restarting.filter (fun x => x != e) } ∧
      (∀ k < 32, s.m.slotType (32 * (e - 3) + k) ≠ 0 → (t.m.slot (32 * (e - 3) + k)).first = true)) ∧
  (∀ (s : State) (e : Nat), 2 ≤ e → e ≤ 17 → e ∈ s.m.pow.restarting →
    ∃ t, exec (.engineRestartComplete e false) s = .next t ∧ t.pending = s.pending ∧ t.m.engRuns e = false ∧ e ∈ t.m.pow.retired ∧
      e ∉ t.m.pow.restarting) ∧
  (∀ (s : State) (ok : Bool), s.m.pow.hst = 3 → ∃ t, exec (.engineRestartComplete 18 ok) s = .next t ∧ t.pending = s.pending ∧
    t.m.engRuns 18 = true ∧ t.m.pow = { s.m.pow with hst := 2 } ∧ t.m.b F.DEV_CTL_HOST_RST = false ∧
    Safety.KeepsRegs s.m t.m [R.DEV_ENG_RUN.idx 0 0, R.DEV_CTL.idx 0 0] ∧
    { t.m with reg := s.m.reg, pow := s.m.pow } = s.m) ∧
  (∀ (s : State) (x : Nat), x < 2 → s.m.side x = 4 → s.m.st ≠ stHELD →
    ∃ t, exec (.engineRestartComplete x true) s = .next t ∧ t.pending = s.pending ∧ t.m.side x = 3 ∧ t.m.dx = { s.m.dx with transfer := true } ∧
      t.m.g F.DX_TBWAIT_FRAMES = 0) ∧
  (∀ (s : State) (x : Nat), x < 2 → s.m.side x = 4 →
    ∃ t e, exec (.engineRestartComplete x false) s = .next t ∧ t.pending = s.pending ∧ t.m.side x = 5 ∧ x ∈ t.m.dx.retired ∧
      t.m.bar.evq = s.m.bar.evq ++ [e] ∧ e.code = 0x0D12 ∧ e.arg0 = x) ∧
  (∀ (s : State) (p : Plan), (3 ≤ p.e ∧ p.e ≤ 10 ∨ 12 ≤ p.e ∧ p.e ≤ 15) → s.m.ticking = true → s.m.spr.plans = [p] → p.g ≤ s.m.frame →
    p.release = false → s.m.sprSt (spareOf p.e) = 1 → s.m.sprFor (spareOf p.e) = classIdx p.e →
    ∃ t ev, exec .plannedGraft s = .next t ∧ t.pending = s.pending ∧ t.m.spr = { s.m.spr with plans := [] } ∧ t.m.sprSt (spareOf p.e) = 2 ∧
      t.m.sprFor (spareOf p.e) = classIdx p.e ∧ t.m.g F.SPR_PART_STATE (p.e - 3) = 3 ∧ t.m.g F.SPR_PART_STATE (spareOf p.e - 3) = 2 ∧
      t.m.w .FRM_BUD (spareOf p.e) = s.m.w .FRM_BUD p.e ∧ t.m.bar.evq = s.m.bar.evq ++ [ev] ∧ ev.code = 0x0D20 ∧ ev.src = p.e ∧
      Safety.KeepsRegs s.m t.m [R.SPR_STAT.idx 0 0, R.SPR_PART.idx (p.e - 3) 0, R.SPR_PART.idx (spareOf p.e - 3) 0, R.FRM_BUD.idx (spareOf p.e) 0, R.SPR_LOG.idx 0 0] ∧
      { t.m with reg := s.m.reg, spr := s.m.spr, bar := s.m.bar } = s.m) ∧
  (∀ (s : State) (p : Plan), (3 ≤ p.e ∧ p.e ≤ 10 ∨ 12 ≤ p.e ∧ p.e ≤ 15) → s.m.ticking = true → s.m.spr.plans = [p] → p.g ≤ s.m.frame →
    p.release = true → s.m.sprSt (spareOf p.e) = 2 → s.m.sprFor (spareOf p.e) = classIdx p.e → s.m.engRuns p.e = true →
    ∃ t ev, exec .plannedGraft s = .next t ∧ t.pending = s.pending ∧ t.m.spr = { s.m.spr with plans := [] } ∧ t.m.sprSt (spareOf p.e) = 0 ∧
      t.m.g F.SPR_PART_STATE (p.e - 3) = 0 ∧ t.m.g F.SPR_PART_STATE (spareOf p.e - 3) = 1 ∧ t.m.w .FRM_BUD (spareOf p.e) = 0 ∧
      t.m.bar.evq = s.m.bar.evq ++ [ev] ∧ ev.code = 0x0D21 ∧ ev.src = p.e) ∧
  (∀ (s : State), (∀ p ∈ s.m.spr.plans, s.m.frame < p.g) → exec .plannedGraft s = .next s) ∧
  (∀ (s : State) (p d : Nat), p < 35 → s.m.st ≠ stRESET →
    d = (if s.m.g F.SPR_PART_STATE p = 0 ∨ s.m.g F.SPR_PART_STATE p = 2 then wearHour (s.m.gi F.PWR_STAT_TEMP) else if s.m.g F.SPR_PART_STATE p = 1 then wearHour (s.m.gi F.PWR_STAT_TEMP) / 4 else 0) →
    ∃ t, exec (.wearUpdate []) s = .next t ∧ t.pending = s.pending ∧
      t.m.g F.SPR_PART_WEAR p = min 65535 (s.m.g F.SPR_PART_WEAR p + (lookN s.m.spr.frac p + d) / 2 ^ 64) ∧
      lookN t.m.spr.frac p = (lookN s.m.spr.frac p + d) % 2 ^ 64) ∧
  (∀ (s : State) (ecc : List Nat), s.m.st = stRESET → exec (.wearUpdate ecc) s = .next s) ∧
  (∀ (s : State) (b n : Nat), b < 512 → s.m.g F.SPR_STAT_FLASHFREE = n + 1 →
    ∃ t, exec (.flashBlockGraft b) s = .next t ∧ t.pending = s.pending ∧ t.m.g F.SPR_STAT_FLASHFREE = n ∧ (b, 31 - n) ∈ t.m.spr.blocks ∧
      lookN t.m.spr.erase b = 0 ∧ (∀ x, x ≠ b → lookN t.m.spr.erase x = lookN s.m.spr.erase x) ∧
      Safety.KeepsRegs s.m t.m [R.SPR_STAT.idx 0 0] ∧ { t.m with reg := s.m.reg, spr := s.m.spr } = s.m) ∧
  (∀ (s : State) (b : Nat), 512 ≤ b ∨ s.m.g F.SPR_STAT_FLASHFREE = 0 → exec (.flashBlockGraft b) s = .next s)

/-- A controller's mode commands (R5, R311, R312, R322, R324, R326): OFF and SLEEP are refused where a station or a shaft source
needs the controller; else the mode is stored and is taken at the next tick, where the controller may; BOREC starts the recovery
of a controller in bus-off and reads 1 while it lasts. That the mode waits for the tick is read from R326 (log entry 46). A
transmit request copies the buffer's data; a buffer of the schedule is armed, another waits for the bus (R313, R316, R320). It
says that these complete: transmitRequest, borec, canModeOff, canModeNormal, canModeListen, canModeSleep. -/
def Obligations.CanCommands : Prop :=
  (∀ (s : State) (who : Who) (k : Nat), Safety.FieldWriter s.m who → k < 4 →
    (∀ p ∈ [(Instr.canModeOff who k, 0), (Instr.canModeNormal who k, 1), (Instr.canModeListen who k, 2), (Instr.canModeSleep who k, 3)],
      ∃ t, exec p.1 s = .next t ∧ t.pending = s.pending ∧
        ((p.2 = 0 ∨ p.2 = 3) → s.m.busNamed k = true → t.m.b F.CB_STAT_REFUSED k = true ∧ t.m.g F.CB_CTL_MODE k = s.m.g F.CB_CTL_MODE k ∧
          t.m.bus = s.m.bus) ∧
        (¬ ((p.2 = 0 ∨ p.2 = 3) ∧ s.m.busNamed k = true) → t.m.g F.CB_CTL_MODE k = p.2 ∧ (t.m.can k).modeReq = true ∧
          (∀ j, j ≠ k → t.m.can j = s.m.can j) ∧ Safety.KeepsRegs s.m t.m [R.CB_CTL.idx k 0]) ∧
        t.m.g F.CB_STAT_MODE k = s.m.g F.CB_STAT_MODE k ∧ Safety.KeepsRegs s.m t.m [R.CB_CTL.idx k 0, R.CB_STAT.idx k 0] ∧
        { t.m with reg := s.m.reg, bus := s.m.bus, sets := s.m.sets } = Safety.PacketDone s.m who) ∧
    (s.m.g F.CB_STAT_ERRST k = 2 →
      ∃ t, exec (.borec who k) s = .next t ∧ t.pending = s.pending ∧ (t.m.can k).recov = true ∧ t.m.b F.CB_CTL_BOREC k = true ∧
        t.m.b F.CB_STAT_AUTOSUSP k = false ∧ t.m.g F.CB_CTL_MODE k = s.m.g F.CB_CTL_MODE k ∧ (∀ j, j ≠ k → t.m.can j = s.m.can j) ∧
        Safety.KeepsRegs s.m t.m [R.CB_CTL.idx k 0, R.CB_STAT.idx k 0] ∧
        { t.m with reg := s.m.reg, bus := s.m.bus, sets := s.m.sets } = Safety.PacketDone s.m who) ∧
    (s.m.g F.CB_STAT_ERRST k ≠ 2 →
      ∃ t, exec (.borec who k) s = .next t ∧ t.pending = s.pending ∧ (t.m.can k).recov = (s.m.can k).recov ∧
        t.m.g F.CB_STAT_ERRST k = s.m.g F.CB_STAT_ERRST k ∧ t.m.g F.CB_STAT_MODE k = s.m.g F.CB_STAT_MODE k)) ∧
  (∀ (m : Mach) (first : Bool) (k v : Nat), k < 4 → (first = true ∨ (m.can k).modeReq = true) → m.g F.CB_STAT_ERRST k ≠ 2 →
    m.b F.CB_TT_CFG_EN k = false → v = m.g F.CB_CTL_MODE k →
    (v = 0 → (busTick1 first m k).g F.CB_STAT_MODE k = 0) ∧
    (v ≠ 0 → m.g F.CB_STAT_MODE k = 0 → m.busBad k = true →
      (busTick1 first m k).b F.CB_STAT_CFGERR k = true ∧ (busTick1 first m k).g F.CB_STAT_MODE k = 0) ∧
    ((v = 1 ∨ v = 2) → (m.g F.CB_STAT_MODE k ≠ 0 ∨ m.busBad k = false) → (busTick1 first m k).g F.CB_STAT_MODE k = v) ∧
    (v = 3 → m.g F.CB_STAT_MODE k ≠ 0 → (m.can k).fly = none → (busTick1 first m k).g F.CB_STAT_MODE k = 3)) ∧
  (∀ (s : State) (who : Who) (k b : Nat), Safety.FieldWriter s.m who → k < 4 → b < 128 → s.m.sends k b = true →
    ∃ t, exec (.transmitRequest who k b) s = .next t ∧ t.pending = s.pending ∧
      ((s.m.bufSched k b = true ∨ s.m.bufType k b = 3) → t.m.b F.CB_BUF_STAT_ARMED k b = true) ∧
      (s.m.bufSched k b = false → s.m.bufType k b ≠ 3 → t.m.b F.CB_BUF_STAT_TXRQ k b = true ∧ b ∈ (t.m.can k).rq) ∧
      smGet (fun _ => ([] : List Byte)) (t.m.can k).copy b = s.m.bufBytes k b (dlcBytes (s.m.g F.CB_BUF_CFG_DLC k b)) ∧
      (∀ j, j ≠ k → t.m.can j = s.m.can j) ∧
      Safety.KeepsRegs s.m t.m [R.CB_BUF_STAT.idx k b] ∧ { t.m with reg := s.m.reg, bus := s.m.bus } = Safety.PacketDone s.m who) ∧
  (∀ (s : State) (who : Who) (k b : Nat), Safety.FieldWriter s.m who → k < 4 → b < 128 → s.m.sends k b = false →
    ∃ t, exec (.transmitRequest who k b) s = .next t ∧ t.pending = s.pending ∧ t.m = Safety.PacketDone s.m who)

/-- A frame without an error on the bus (R308, R314): stored in the first RX buffer of its identifier, or dropped. What an idle
bus sends (R318), the end of a transmission (R318, R324), and a cell without its frame (R320). It says that these complete:
canFrameReceived, canColumnStart, canTransmitEnd, cellMiss. -/
def Obligations.CanFrames : Prop :=
  (∀ (s : State) (k c dur b : Nat) (f : CanFrame), k < 4 → s.m.onBus k = true → f.remote = false → f.dlc < 16 →
    (s.m.usedBufs k).find? (fun b => s.m.bufType k b == 1 && s.m.bufId k b == (b2n f.ide, f.id)) = some b →
    s.m.g F.CB_BUF_CFG_DOFS k b + s.m.bufWords k b ≤ 512 →
    ∃ t, exec (.canFrameReceived k c dur f) s = .next t ∧ t.pending = s.pending ∧ t.m.b F.CB_BUF_STAT_NEWDAT k b = true ∧
      t.m.gb F.CB_NEWDAT (b % 32) k (b / 32) = true ∧ t.m.g F.CB_BUF_STAT_RXDLC k b = f.dlc ∧ t.m.b F.CB_BUF_STAT_RXFD k b = f.fdf ∧
      t.m.b F.CB_BUF_STAT_ESI k b = f.esi ∧ t.m.g F.CB_BUF_STAT_FRAME k b = s.m.frame % 65536 ∧ t.m.g F.CB_STAT_LEC k = 0 ∧
      t.m.b F.CB_BUF_STAT_MSGLOST k b = (s.m.b F.CB_BUF_STAT_MSGLOST k b || s.m.b F.CB_BUF_STAT_NEWDAT k b) ∧
      t.m.b F.CB_BUF_STAT_OVSZ k b = (s.m.b F.CB_BUF_STAT_OVSZ k b || decide (dlcBytes (s.m.g F.CB_BUF_CFG_DLC k b) < f.data.length)) ∧
      t.m.g F.CB_CNT_RXOK k = satInc 65535 (s.m.g F.CB_CNT_RXOK k) ∧ t.m.g F.CB_CNT_DROP k = s.m.g F.CB_CNT_DROP k ∧
      (∀ i < s.m.bufWords k b, t.m.w .CB_DATA k (s.m.g F.CB_BUF_CFG_DOFS k b + i) =
        Word.of (fieldAt (sliceB (f.data.take (dlcBytes (s.m.g F.CB_BUF_CFG_DLC k b))) 0 (dlcBytes (s.m.g F.CB_BUF_CFG_DLC k b))) (4 * i) 4)) ∧
      (∀ b' < 128, b' ≠ b → t.m.w .CB_BUF_STAT k b' = s.m.w .CB_BUF_STAT k b') ∧ (∀ j, j ≠ k → t.m.can j = s.m.can j) ∧
      { t.m with reg := s.m.reg, bus := s.m.bus, bar := s.m.bar, sets := s.m.sets, free := s.m.free, cyc := s.m.cyc } = s.m) ∧
  (∀ (s : State) (k c dur : Nat) (f : CanFrame), k < 4 → s.m.onBus k = true →
    (f.remote = true ∨ (s.m.usedBufs k).find? (fun b => s.m.bufType k b == 1 && s.m.bufId k b == (b2n f.ide, f.id)) = none) →
    ∃ t, exec (.canFrameReceived k c dur f) s = .next t ∧ t.pending = s.pending ∧ t.m.g F.CB_CNT_DROP k = satInc 65535 (s.m.g F.CB_CNT_DROP k) ∧
      t.m.g F.CB_CNT_RXOK k = s.m.g F.CB_CNT_RXOK k ∧ t.m.bus = s.m.bus ∧
      Safety.KeepsRegs s.m t.m [R.CB_STAT.idx k 0, R.CB_ERR.idx k 0, R.CB_CNT.idx k 0]) ∧
  (∀ (s : State) (k c dur : Nat) (f : CanFrame), s.m.onBus k = false → exec (.canFrameReceived k c dur f) s = .next { s with m := s.m.at c }) ∧
  (∀ (s : State) (k c b : Nat), k < 4 → b < 128 → s.m.g F.CB_STAT_MODE k = 1 → s.m.onBus k = true → (s.m.can k).fly = none →
    s.m.b F.CB_TT_CFG_EN k = true → (s.m.can k).sched = true → (s.m.can k).due = some b →
    ∃ t, exec (.canColumnStart k c) s = .next t ∧ t.pending = s.pending ∧ (t.m.can k).due = none ∧ (∀ j, j ≠ k → t.m.can j = s.m.can j) ∧
      ((s.m.at c).fitsRest k b = true → t.m.reg = s.m.reg ∧
        (t.m.can k).fly = some { buf := b, excl := true, id := s.m.w .CB_BUF_ID k b, data := s.m.txBytes k b }) ∧
      ((s.m.at c).fitsRest k b = false → (t.m.can k).fly = none ∧ t.m.b F.CB_BUF_STAT_TXFAIL k b = true ∧
        t.m.g F.CB_MCNT_TXFAIL k = satInc 65535 (s.m.g F.CB_MCNT_TXFAIL k)) ∧
      Safety.KeepsRegs s.m t.m [R.CB_BUF_STAT.idx k b, R.CB_MCNT.idx k 0] ∧
      { t.m with reg := s.m.reg, bus := s.m.bus, sets := s.m.sets, cyc := s.m.cyc } = s.m) ∧
  (∀ (s : State) (k c b : Nat), k < 4 → s.m.g F.CB_STAT_MODE k = 1 → s.m.onBus k = true → (s.m.can k).fly = none →
    (s.m.b F.CB_TT_CFG_EN k = false ∧ (s.m.eventOrder k).head? = some b ∨
     s.m.b F.CB_TT_CFG_EN k = true ∧ (s.m.can k).sched = true ∧ (s.m.can k).due = none ∧ s.m.colKind k (s.m.colOf k s.m.frame) = 2 ∧
      (s.m.eventOrder k).find? ((s.m.at c).fitsRest k) = some b) →
    ∃ t, exec (.canColumnStart k c) s = .next t ∧ t.pending = s.pending ∧
      t.m.can k = { s.m.can k with fly := some { buf := b, excl := false, id := s.m.w .CB_BUF_ID k b, data := s.m.txBytes k b } } ∧
      (∀ j, j ≠ k → t.m.can j = s.m.can j) ∧ { t.m with bus := s.m.bus, cyc := s.m.cyc } = s.m) ∧
  (∀ (s : State) (k c lec : Nat) (f : Fly), k < 4 → f.buf < 128 → (s.m.can k).fly = some f → (s.m.can k).sleepReq = false →
    s.m.g F.CB_STAT_ERRST k ≠ 2 →
    ∃ t, exec (.canTransmitEnd k c 0 lec) s = .next t ∧ t.pending = s.pending ∧ (t.m.can k).fly = none ∧ (t.m.can k).sent = some f ∧
      t.m.g F.CB_BUF_STAT_FRAME k f.buf = s.m.frame % 65536 ∧ t.m.g F.CB_STAT_LEC k = 0 ∧
      t.m.g F.CB_ERR_TEC k = s.m.g F.CB_ERR_TEC k - 1 ∧
      (f.excl = false → t.m.b F.CB_BUF_STAT_TXRQ k f.buf = false ∧ (t.m.can k).rq = (s.m.can k).rq.filter (fun x => x != f.buf)) ∧
      (f.excl = true → t.m.b F.CB_BUF_STAT_TXRQ k f.buf = s.m.b F.CB_BUF_STAT_TXRQ k f.buf ∧ (t.m.can k).rq = (s.m.can k).rq) ∧
      Safety.KeepsRegs s.m t.m [R.CB_BUF_STAT.idx k f.buf, R.CB_STAT.idx k 0, R.CB_ERR.idx k 0]) ∧
  (∀ (s : State) (k c lec : Nat) (f : Fly), k < 4 → f.buf < 128 → lec < 8 → (s.m.can k).fly = some f → (s.m.can k).sleepReq = false →
    s.m.g F.CB_STAT_ERRST k ≠ 2 → s.m.g F.CB_ERR_TEC k ≤ 247 →
    ∃ t, exec (.canTransmitEnd k c 1 lec) s = .next t ∧ t.pending = s.pending ∧ (t.m.can k).fly = none ∧ (t.m.can k).rq = (s.m.can k).rq ∧
      t.m.w .CB_ERR k = s.m.w .CB_ERR k ∧ t.m.b F.CB_BUF_STAT_TXFAIL k f.buf = (s.m.b F.CB_BUF_STAT_TXFAIL k f.buf || f.excl)) ∧
  (∀ (s : State) (k c lec : Nat) (f : Fly), k < 4 → f.buf < 128 → lec < 8 → (s.m.can k).fly = some f → (s.m.can k).sleepReq = false →
    s.m.g F.CB_STAT_ERRST k ≠ 2 → s.m.g F.CB_ERR_TEC k ≤ 247 →
    ∃ t, exec (.canTransmitEnd k c 2 lec) s = .next t ∧ t.pending = s.pending ∧ (t.m.can k).fly = none ∧ (t.m.can k).rq = (s.m.can k).rq ∧
      t.m.g F.CB_ERR_TEC k = s.m.g F.CB_ERR_TEC k + 8 ∧ t.m.g F.CB_STAT_LEC k = lec ∧
      t.m.b F.CB_BUF_STAT_TXFAIL k f.buf = (s.m.b F.CB_BUF_STAT_TXFAIL k f.buf || f.excl)) ∧
  (∀ (s : State) (k c res lec : Nat), (s.m.can k).fly = none → exec (.canTransmitEnd k c res lec) s = .next { s with m := s.m.at c }) ∧
  (∀ (s : State) (k b : Nat), k < 4 → b < 128 → (s.m.can k).sched = true → s.m.onBus k = true → s.m.bufType k b = 1 →
    s.m.occupies k b (s.m.colOf k (s.m.can k).colFrame) (s.m.bcOf k (s.m.can k).colFrame) = true → b ∉ (s.m.can k).sat →
    ∃ t, exec (.cellMiss k b) s = .next t ∧ t.pending = s.pending ∧ t.m.b F.CB_BUF_STAT_MISS k b = true ∧
      t.m.g F.CB_MCNT_MISS k = satInc 65535 (s.m.g F.CB_MCNT_MISS k) ∧
      (s.m.b F.CB_BUF_STAT_MISS k b = true → t.m.bar = s.m.bar) ∧
      (s.m.b F.CB_BUF_STAT_MISS k b = false → ∃ e, t.m.bar.evq = s.m.bar.evq ++ [e] ∧ e.code = 0x0E40 ∧ e.arg0 = k ∧ e.arg1 = b) ∧
      Safety.KeepsRegs s.m t.m [R.CB_BUF_STAT.idx k b, R.CB_MCNT.idx k 0])

/-- Integration, error-passive, bus-off and recovery, and waking (R311, R324, R325). It says that these complete:
integrationComplete, busOff, errorPassive, busOffRecoveryEnd, canWake. -/
def Obligations.BusStates : Prop :=
  (∀ (s : State) (k : Nat), k < 4 → ∃ t, exec (.integrationComplete k) s = .next t ∧ t.pending = s.pending ∧ t.m.b F.CB_STAT_INTEG k = false ∧
    t.m.g F.CB_STAT_MODE k = s.m.g F.CB_STAT_MODE k ∧ Safety.KeepsRegs s.m t.m [R.CB_STAT.idx k 0] ∧ { t.m with reg := s.m.reg } = s.m) ∧
  (∀ (s : State) (k c : Nat), k < 4 → s.m.g F.CB_STAT_MODE k = 1 → s.m.g F.CB_STAT_ERRST k ≠ 2 →
    ∃ t e, exec (.busOff k c) s = .next t ∧ t.pending = s.pending ∧ t.m.g F.CB_STAT_ERRST k = 2 ∧ t.m.g F.CB_ERR_TEC k = 255 ∧
      t.m.g F.CB_ERR_BOCNT k = satInc 65535 (s.m.g F.CB_ERR_BOCNT k) ∧ t.m.b F.CB_STAT_BOEVT k = true ∧ (t.m.can k).fly = none ∧
      (t.m.can k).sched = false ∧ (∀ j, j ≠ k → t.m.can j = s.m.can j) ∧ t.m.bar.evq = s.m.bar.evq ++ [e] ∧ e.code = 0x0E19 ∧ e.arg0 = k ∧
      (2 ≤ ((s.m.can k).bo.filter (fun f => decide (s.m.frame < f + 2400000))).length → t.m.b F.CB_STAT_AUTOSUSP k = true ∧ (t.m.can k).recov = false)) ∧
  (∀ (s : State) (k c : Nat), s.m.g F.CB_STAT_MODE k ≠ 1 → exec (.busOff k c) s = .next s) ∧
  (∀ (s : State) (k c tec rec : Nat), k < 4 → s.m.g F.CB_STAT_ERRST k ≠ 2 →
    ∃ t, exec (.errorPassive k c tec rec) s = .next t ∧ t.pending = s.pending ∧ t.m.g F.CB_ERR_TEC k = min tec 255 ∧ t.m.g F.CB_ERR_REC k = min rec 255 ∧
      (tec ≤ 127 → rec ≤ 127 → t.m.g F.CB_STAT_ERRST k = 0 ∧ t.m.bar = s.m.bar) ∧
      (127 < tec ∨ 127 < rec → t.m.g F.CB_STAT_ERRST k = 1) ∧
      (127 < tec ∨ 127 < rec → s.m.g F.CB_STAT_ERRST k = 0 → t.m.b F.CB_STAT_EPEVT k = true ∧
        ∃ e, t.m.bar.evq = s.m.bar.evq ++ [e] ∧ e.code = 0x0E18 ∧ e.arg0 = k) ∧
      Safety.KeepsRegs s.m t.m [R.CB_STAT.idx k 0, R.CB_ERR.idx k 0] ∧
      { t.m with reg := s.m.reg, bar := s.m.bar, sets := s.m.sets, cyc := s.m.cyc } = s.m) ∧
  (∀ (s : State) (k w : Nat), k < 4 → s.m.g F.CB_STAT_ERRST k = 2 → (s.m.can k).recov = true → (w = 1 ∨ w = 2) →
    ((s.m.can k).modeReq = true ∧ w = s.m.g F.CB_CTL_MODE k ∨ (s.m.can k).modeReq = false ∧ w = s.m.g F.CB_STAT_MODE k) →
    ∃ t, exec (.busOffRecoveryEnd k) s = .next t ∧ t.pending = s.pending ∧ t.m.g F.CB_STAT_ERRST k = 0 ∧ t.m.g F.CB_ERR_TEC k = 0 ∧
      t.m.g F.CB_ERR_REC k = 0 ∧ t.m.g F.CB_STAT_MODE k = w ∧ t.m.b F.CB_STAT_INTEG k = true ∧ (t.m.can k).recov = false ∧ t.m.b F.CB_CTL_BOREC k = false ∧
      t.m.g F.CB_ERR_BOCNT k = s.m.g F.CB_ERR_BOCNT k) ∧
  (∀ (s : State) (k : Nat), s.m.g F.CB_STAT_ERRST k ≠ 2 ∨ (s.m.can k).recov = false → exec (.busOffRecoveryEnd k) s = .next s) ∧
  (∀ (s : State) (k c : Nat) (dominant errors : Bool) (f : CanFrame), k < 4 → s.m.g F.CB_STAT_MODE k = 3 → s.m.wakes k dominant errors f = true →
    ∃ t e, exec (.canWake k c dominant errors f) s = .next t ∧ t.pending = s.pending ∧ t.m.b F.CB_STAT_WAKE k = true ∧
      t.m.bar.evq = s.m.bar.evq ++ [e] ∧ e.code = 0x0E1A ∧ e.arg0 = k ∧
      (s.m.b F.CB_CTL_AUTOWAKE k = true → t.m.g F.CB_STAT_MODE k = 1 ∧ t.m.b F.CB_STAT_INTEG k = true) ∧
      (s.m.b F.CB_CTL_AUTOWAKE k = false → t.m.g F.CB_STAT_MODE k = 3)) ∧
  (∀ (s : State) (k c : Nat) (dominant errors : Bool) (f : CanFrame), s.m.g F.CB_STAT_MODE k ≠ 3 → (s.m.can k).sleepReq = false →
    ((s.m.can k).modeReq = false ∨ s.m.g F.CB_CTL_MODE k ≠ 3) →
    exec (.canWake k c dominant errors f) s = .next { s with m := s.m.at c })

/-- Ingots reach the host (R338, R339), a trigger without a mark places a FORCED mark (R334), a configuration activates (R344).
It says that these complete: forcedMark, ingotArrival, streamActivation. -/
def Obligations.StreamRows : Prop :=
  (∀ (s : State) (b : List Byte) (l : List BarMsg), s.m.hostUp = true → s.m.g F.DEV_BAR_STAT_INSERV ≠ 0 → takeStm s.m.bar.msgs = (some b, l) →
    b.length = 320 → fieldAt b 316 4 = crc32c (b.take 316) → s.m.aq.hist.length < histMax → s.m.aq.live.length < 64 →
    ∃ t, exec .ingotArrival s = .next t ∧ t.pending = s.pending ∧ t.m.bar = { s.m.bar with msgs := l } ∧
      t.m.aq = { s.m.aq with hist := s.m.aq.hist ++ [b], live := s.m.aq.live ++ [b] } ∧
      { t.m with aq := s.m.aq, bar := s.m.bar, link := s.m.link } = s.m) ∧
  (∀ (s : State) (b o : List Byte) (l : List BarMsg) (q : List (List Byte)), s.m.hostUp = true → s.m.g F.DEV_BAR_STAT_INSERV ≠ 0 →
    takeStm s.m.bar.msgs = (some b, l) → b.length = 320 → fieldAt b 316 4 = crc32c (b.take 316) → s.m.aq.hist.length < histMax →
    s.m.aq.live = o :: q → 63 ≤ q.length →
    ∃ t, exec .ingotArrival s = .next t ∧ t.pending = s.pending ∧
      t.m.aq = { s.m.aq with hist := s.m.aq.hist ++ [b], live := q ++ [b], displaced := s.m.aq.displaced + 1 } ∧
      (s.m.log.recs.length < 24064 → Safety.Logged t.m 0x0F00 (fieldAt o 3 1 % 4))) ∧
  (∀ (s : State) (b : List Byte) (q : List (List Byte)), s.m.hostUp = true → s.m.g F.DEV_BAR_STAT_INSERV ≠ 0 → (takeStm s.m.bar.msgs).1 = none →
    s.m.aq.queue = b :: q → q.length < 64 → b.length = 320 → fieldAt b 316 4 = crc32c (b.take 316) → s.m.aq.hist.length < histMax →
    s.m.aq.live.length < 64 →
    ∃ t, exec .ingotArrival s = .next t ∧ t.pending = s.pending ∧ t.m.g F.AQ_QUEUE_DEPTH = q.length ∧
      t.m.aq = { s.m.aq with queue := q, hist := s.m.aq.hist ++ [b], live := s.m.aq.live ++ [b] } ∧
      Safety.KeepsRegs s.m t.m [R.AQ_QUEUE.idx 0 0] ∧ { t.m with reg := s.m.reg, aq := s.m.aq, link := s.m.link } = s.m) ∧
  (∀ (s : State), s.m.hostUp = false → exec .ingotArrival s = .next s) ∧
  (∀ (s : State) (k : Nat), k < 8 → s.m.engRuns 17 = true → s.m.phase ≠ .latch → s.m.forcedDue k s.m.frame = true →
    ∃ t, exec (.forcedMark k) s = .next t ∧ t.pending = s.pending ∧ t.m.g F.AQ_TRG_STAT_COUNT k = satInc 65535 (s.m.g F.AQ_TRG_STAT_COUNT k) ∧
      t.m.trg k = { s.m.trg k with since := s.m.frame } ∧ (∀ j, j ≠ k → t.m.trg j = s.m.trg j) ∧
      (∀ i < 4, ∀ g, (s.m.strm i).act = true → s.m.gb F.AQ_STM_CFG_TRGMASK k i = true → (s.m.strm i).cur = some g → g.holds s.m.frame = true →
        g.marks.length < 4 → (s.m.strm i).wait = [] → (t.m.strm i).cur = some { g with marks := g.marks ++ [{ frame := s.m.frame % 4294967296, kind := 2, arg := k }] }) ∧
      (∀ i < 4, ((s.m.strm i).act = false ∨ s.m.gb F.AQ_STM_CFG_TRGMASK k i = false) → t.m.strm i = s.m.strm i) ∧
      { t.m with reg := s.m.reg, aq := s.m.aq } = s.m) ∧
  (∀ (s : State) (k : Nat), s.m.engRuns 17 = false ∨ s.m.forcedDue k s.m.frame = false → exec (.forcedMark k) s = .next s) ∧
  (∀ (s : State) (b : List Byte) (a : Nat), s.m.engRuns 17 = true → s.m.ticking = true → s.m.aq.pend = some (b, a) → a ≤ s.m.frame →
    ∃ t, exec .streamActivation s = .next t ∧ t.pending = s.pending ∧ t.m.aq.pend = none ∧ t.m.aq.cfg = b ∧ t.m.b F.AQ_STAT_PEND = false ∧
      t.m.g F.AQ_STAT_CFGID = fieldAt b 6 2 ∧
      (∀ i < 4, (t.m.strm i).act = t.m.b F.AQ_STM_CFG_EN i) ∧
      (∀ i < 4, t.m.b F.AQ_STM_CFG_EN i = true → ∃ g, (t.m.strm i).cur = some g ∧ g.f0 = s.m.frame ∧ g.nf = 0 ∧
        g.marks = [{ frame := s.m.frame % 4294967296, kind := 5 }]) ∧
      (∀ k < 8, t.m.trg k = { since := s.m.frame })) ∧
  (∀ (s : State), s.m.aq.pend = none ∨ s.m.engRuns 17 = false → exec .streamActivation s = .next s)

/-- The event log's rules of writing: repeats (R350), the rate of privileged codes (R351), the capacity (R352); and events and
increments that cross the barrier (R349, R356). It says that these complete: evtMessage, eventRecord. -/
def Obligations.EventRecords : Prop :=
  (∀ (s : State) (code src a0 a1 f sub : Nat) (r : Rec), s.m.hostUp = true →
    r = s.m.recOf { code := code % 65536, src := src % 256, arg0 := a0, arg1 := a1, frame := f % 2 ^ 64, sub := sub % 2 ^ 32 } 0 →
    ∃ t, exec (.eventRecord code src a0 a1 f sub) s = .next t ∧ t.pending = s.pending ∧
      (privileged r.code = false → (s.m.log.recs.getLast?.map (fun l => l.same r)).getD false = true →
        t.m = { s.m with log := { s.m.log with recs := bumpLast s.m.log.recs } }) ∧
      (privileged r.code = false → (s.m.log.recs.getLast?.map (fun l => l.same r)).getD false = false → s.m.log.recs.length < 24064 →
        t.m = { s.m with log := { s.m.log with recs := s.m.log.recs ++ [r] } }) ∧
      (privileged r.code = false → (s.m.log.recs.getLast?.map (fun l => l.same r)).getD false = false → 24064 ≤ s.m.log.recs.length →
        t.m.g F.EV_LOST = satInc 4294967295 (s.m.g F.EV_LOST) ∧ t.m.b F.EV_STAT_FULL = true ∧ (s.m.log.lossRec = true → t.m.log = s.m.log) ∧
        Safety.KeepsRegs s.m t.m [R.EV_LOST.idx 0 0, R.EV_STAT.idx 0 0]) ∧
      (privileged r.code = true → lookN s.m.log.privLast r.code = 0 → s.m.log.recs.length < 24576 →
        t.m.log.recs = s.m.log.recs ++ [{ r with rep := lookN s.m.log.privSup r.code }] ∧
        lookN t.m.log.privLast r.code = s.m.log.sec + 1 ∧ lookN t.m.log.privSup r.code = 0 ∧ { t.m with log := s.m.log } = s.m) ∧
      (privileged r.code = true → lookN s.m.log.privLast r.code ≠ 0 →
        s.m.log.sec + 1 - lookN s.m.log.privLast r.code < max 1 (s.m.g F.EV_CFG_RATE) →
        t.m.log.recs = s.m.log.recs ∧ lookN t.m.log.privSup r.code = satInc 65535 (lookN s.m.log.privSup r.code) ∧
        { t.m with log := s.m.log } = s.m)) ∧
  (∀ (s : State) (code src a0 a1 f sub : Nat), s.m.hostUp = false → exec (.eventRecord code src a0 a1 f sub) s = .next s) ∧
  (∀ (s u : State) (e : Ev) (i n : Nat) (l : List BarMsg), s.m.hostUp = true → s.m.g F.DEV_BAR_STAT_INSERV ≠ 0 →
    takeEvt s.m.bar.msgs = (some ([e], [(i, n)]), l) → e.code ≠ 0x1201 → e.code < 65536 → e.src < 256 → e.frame < 2 ^ 64 → e.sub < 2 ^ 32 → i < 224 →
    exec (.eventRecord e.code e.src e.arg0 e.arg1 e.frame e.sub) s = .next u →
    ∃ t, exec .evtMessage s = .next t ∧ t.pending = s.pending ∧ t.m.log = u.m.log ∧ t.m.reg = u.m.reg ∧ t.m.bar = { s.m.bar with msgs := l } ∧
      t.m.led.counter i = min (2 ^ 64 - 1) (s.m.led.counter i + n) ∧ (∀ j, j ≠ i → t.m.led.counter j = s.m.led.counter j) ∧
      { t.m with reg := s.m.reg, log := s.m.log, led := s.m.led, bar := s.m.bar } = s.m) ∧
  (∀ (s : State), s.m.hostUp = false ∨ s.m.g F.DEV_BAR_STAT_INSERV = 0 → exec .evtMessage s = .next s)

/-- The second of the ledger clock (R355, R360, R361, R387), the cell (R362) and the mirror of the ledger in the Key (R357,
R358). It says that these complete: calendarSecond, ledgerMirrorWrite, cellLow, mirrorWriteTimeout. -/
def Obligations.LedgerRows : Prop :=
  (∀ (s : State), ∃ t, exec .calendarSecond s = .next t ∧ t.pending = s.pending ∧ t.m.led.cal = (s.m.led.cal + 1) % 2 ^ 64 ∧
    t.m.log.sec = s.m.log.sec + 1 ∧
    (s.m.st ≠ stRESET → lookN t.m.bar.incs 152 = lookN s.m.bar.incs 152 + 1 ∧
      ∀ e < 18, lookN t.m.bar.incs (162 + e) = lookN s.m.bar.incs (162 + e) + (if s.m.engRuns e then 1 else 0)) ∧
    (s.m.st = stRESET → t.m.bar = s.m.bar) ∧
    (s.m.hostUp = true → t.m.led.counter 161 = min (2 ^ 64 - 1) (s.m.led.counter 161 + 1) ∧
      t.m.led.mirrSince = min 65535 (s.m.led.mirrSince + 1) ∧
      (s.m.led.insp ≠ 0 → s.m.led.insp ≤ (s.m.led.cal + 1) % 2 ^ 64 + 86400 * s.m.g F.LG_CFG_WARN → t.m.b F.LG_STAT_DUE = true) ∧
      (s.m.led.insp ≠ 0 → s.m.led.insp ≤ (s.m.led.cal + 1) % 2 ^ 64 → t.m.b F.LG_STAT_OVERDUE = true) ∧
      ∀ j < 32, t.m.g F.ZL_SESS_IDLE j = (if s.m.b F.ZL_SESS_VALID j then min 8191 (s.m.g F.ZL_SESS_IDLE j + 1) else s.m.g F.ZL_SESS_IDLE j)) ∧
    (s.m.hostUp = false → t.m.reg = s.m.reg ∧ (s.m.pow.hst = 0 → t.m.led = { s.m.led with cal := (s.m.led.cal + 1) % 2 ^ 64 }))) ∧
  (∀ (s : State), s.m.led.cellLow = false → ∃ t, exec .cellLow s = .next t ∧ t.pending = s.pending ∧ t.m.led = { s.m.led with cellLow := true } ∧
    (s.m.hostUp = true → s.m.log.recs.length < 24064 → Safety.Logged t.m 0x0008 (openArg 8 0))) ∧
  (∀ (s : State), s.m.led.cellLow = true → exec .cellLow s = .next s) ∧
  (∀ (s : State) (n : Nat), s.m.hostUp = true → s.m.led.due = true → s.m.sp.keyWrite = none → s.m.g F.DEV_BAR_STAT_INSERV ≠ 0 → s.m.st ≠ stRESET →
    s.m.b F.DEV_STATE_KEY_OK = true →
    n = (match s.m.mirrInForce with | some b => (fieldAt b 8 4 + 1) % 2 ^ 32 | none => 1) →
    ∃ t, exec (.ledgerMirrorWrite true) s = .next t ∧ t.pending = s.pending ∧ t.m.g F.LG_MIRROR = n ∧
      t.m.key = (s.m.keyStore (mirrBase s.m.mirrTarget) (s.m.mirrImage n)).key ∧
      t.m.led = { s.m.led with due := false, mirrBusy := false, mirrSince := 0 } ∧ Safety.KeepsRegs s.m t.m [R.LG_MIRROR.idx 0 0] ∧
      { t.m with reg := s.m.reg, key := s.m.key, led := s.m.led } = s.m) ∧
  (∀ (s : State), s.m.hostUp = true → s.m.led.due = true → s.m.sp.keyWrite = none →
    exec (.ledgerMirrorWrite false) s = .next { s with m := { s.m with led := { s.m.led with due := false, mirrBusy := true } } }) ∧
  (∀ (s : State) (ok : Bool), (s.m.hostUp = false ∨ s.m.led.due = false ∨ s.m.sp.keyWrite.isSome = true) →
    exec (.ledgerMirrorWrite ok) s = .next s) ∧
  (∀ (s : State), s.m.led.mirrBusy = true → ∃ t, exec .mirrorWriteTimeout s = .next t ∧ t.pending = s.pending ∧ t.m.b F.LG_STAT_MIRRERR = true ∧
    t.m.led = { s.m.led with mirrBusy := false } ∧ t.m.key = s.m.key ∧
    (s.m.hostUp = true → s.m.log.recs.length < 24064 → Safety.Logged t.m 0x0007 (openArg 7 0))) ∧
  (∀ (s : State), s.m.led.mirrBusy = false → exec .mirrorWriteTimeout s = .next s)

/-- Ports going down and coming up (R377), beacons (R369, R370), other nodes' slots (R372, R210) and sessions that end (R387).
It says that these complete: beacon, nodeSlotPass, portDown, portUp, sessionTimeout. -/
def Obligations.LinkPorts : Prop :=
  (∀ (s : State) (x : Nat) (lock : Bool), s.m.hostUp = true → x < 2 → s.m.portDown x = false → (lock = true ∨ 2 ≤ nth s.m.link.missed x 0) →
    ∃ t, exec (.portDown x lock) s = .next t ∧ t.pending = s.pending ∧ t.m.portDown x = true ∧ t.m.portDown (1 - x) = s.m.portDown (1 - x) ∧
      t.m.b (portBit x) = false ∧ (lock = true → t.m.b F.ZL_PORT_LOCK x = false) ∧
      (s.m.portDown (1 - x) = false → t.m.b F.ZL_STAT_WRAP = true ∧ (s.m.b F.ZL_STAT_WRAP = false → t.m.g F.ZL_STAT_WRAPDIR = x)) ∧
      (s.m.portDown (1 - x) = true → t.m.b F.ZL_STAT_WRAP = false ∧ t.m.b F.ZL_STAT_JOINED = false) ∧
      Safety.KeepsRegs s.m t.m [R.ZL_STAT.idx 0 0, R.ZL_PORT.idx x 0, R.EV_LOST.idx 0 0, R.EV_STAT.idx 0 0] ∧
      { t.m with reg := s.m.reg, link := s.m.link, log := s.m.log } = s.m) ∧
  (∀ (s : State) (x : Nat) (lock : Bool), s.m.hostUp = false ∨ s.m.portDown x = true → exec (.portDown x lock) s = .next s) ∧
  (∀ (s : State) (x : Nat), s.m.hostUp = true → x < 2 → s.m.portDown x = true → 400 ≤ nth s.m.link.good x 0 →
    ∃ t, exec (.portUp x) s = .next t ∧ t.pending = s.pending ∧ t.m.portDown x = false ∧ t.m.b (portBit x) = true ∧
      (s.m.portDown (1 - x) = false → t.m.b F.ZL_STAT_WRAP = s.m.b F.ZL_STAT_WRAP) ∧
      (s.m.portDown (1 - x) = true → t.m.b F.ZL_STAT_WRAP = true)) ∧
  (∀ (s : State) (x : Nat), s.m.portDown x = false ∨ nth s.m.link.good x 0 < 400 → exec (.portUp x) s = .next s) ∧
  (∀ (s : State) (a : List Byte) (ta tb : Nat), s.m.hostUp = true → beaconOk a = true →
    ∃ t, exec (.beacon a [] ta tb) s = .next t ∧ t.pending = s.pending ∧ t.m.g F.ZL_CYCLE = fieldAt a 8 4 ∧
      t.m.b F.ZL_PORT_BEACON 0 = true ∧ t.m.b F.ZL_PORT_BEACON 1 = false ∧ t.m.b F.ZL_STAT_TVALID = bit (fieldAt a 5 1) 0 ∧
      t.m.q .ZL_SYST_LO = (fieldAt a 16 8 + s.m.g F.ZL_DLY_DA) % 2 ^ 64 ∧ t.m.link.ringWrap = bit (fieldAt a 5 1) 1 ∧
      nth t.m.link.missed 0 0 = 0 ∧ nth t.m.link.missed 1 0 = nth s.m.link.missed 1 0 + 1 ∧ t.m.link.delays = [] ∧
      (s.m.portDown 0 = false → 3 ≤ nth s.m.link.match_ 0 0 → fieldAt a 4 1 = s.m.hxAddr / 64 → s.m.hxAddr ≠ 1023 → t.m.b F.ZL_STAT_JOINED = true) ∧
      t.m.link.accepted = s.m.link.accepted) ∧
  (∀ (s : State) (ta tb : Nat), s.m.hostUp = true →
    ∃ t, exec (.beacon [] [] ta tb) s = .next t ∧ t.pending = s.pending ∧ t.m.w .ZL_CYCLE = s.m.w .ZL_CYCLE ∧ t.m.b F.ZL_PORT_BEACON 0 = false ∧
      t.m.b F.ZL_PORT_BEACON 1 = false ∧ (∀ x < 2, nth t.m.link.missed x 0 = nth s.m.link.missed x 0 + 1 ∧ nth t.m.link.good x 0 = 0 ∧ nth t.m.link.match_ x 0 = 0) ∧
      Safety.KeepsRegs s.m t.m [R.ZL_PORT.idx 0 0, R.ZL_PORT.idx 1 0] ∧ { t.m with reg := s.m.reg, link := s.m.link } = s.m) ∧
  (∀ (s : State) (k ring : Nat) (second : Bool) (b : List Byte), s.m.hostUp = true → k < 64 → ring < 2 → k ≠ s.m.node → b.length = 384 →
    fieldAt b 380 4 = crc32c (sliceB b 320 60) → bit (fieldAt b 320 1) 6 = true → s.m.scan.groups.group ≠ 0 →
    fieldAt (sliceB b 324 48) 0 2 = s.m.scan.groups.group → fieldAt (sliceB b 324 48) 4 4 = s.m.scan.groups.crc →
    ∃ t, exec (.nodeSlotPass k ring second b) s = .next t ∧ t.pending = s.pending ∧
      (s.m.hxAddr / 64 * 64 + k, s.m.cycleArg, sliceB b 324 48) ∈ t.m.scan.groups.recs ∧
      (∀ r ∈ s.m.scan.groups.recs, r.1 ≠ s.m.hxAddr / 64 * 64 + k → r ∈ t.m.scan.groups.recs) ∧ { t.m with scan := s.m.scan } = s.m) ∧
  (∀ (s : State) (k ring : Nat) (second : Bool) (b : List Byte), s.m.hostUp = true → k < 64 → ring < 2 → k ≠ s.m.node → b.length = 384 →
    fieldAt b 380 4 = crc32c (sliceB b 320 60) → bit (fieldAt b 320 1) 6 = true → s.m.scan.groups.group ≠ 0 →
    fieldAt (sliceB b 324 48) 0 2 = s.m.scan.groups.group → fieldAt (sliceB b 324 48) 4 4 ≠ s.m.scan.groups.crc →
    ∃ t e, exec (.nodeSlotPass k ring second b) s = .next t ∧ t.pending = s.pending ∧ t.m.bar.evq = s.m.bar.evq ++ [e] ∧ e.code = 0x0904 ∧
      { t.m with bar := s.m.bar } = s.m) ∧
  (∀ (s : State) (k ring : Nat) (second : Bool) (b : List Byte), s.m.hostUp = true → k < 64 → ring < 2 → k ≠ s.m.node →
    (b.length ≠ 384 ∨ fieldAt b 380 4 ≠ crc32c (sliceB b 320 60)) →
    ∃ t, exec (.nodeSlotPass k ring second b) s = .next t ∧ t.pending = s.pending ∧
      t.m.g F.ZL_PORT_CRCERR ring = satInc 65535 (s.m.g F.ZL_PORT_CRCERR ring) ∧ Safety.KeepsRegs s.m t.m [R.ZL_PORT.idx ring 0] ∧
      { t.m with reg := s.m.reg } = s.m) ∧
  (∀ (s : State) (ring : Nat) (b : List Byte), ring < 2 → s.m.onRing = true → s.m.link.ringWrap = false → s.m.b F.ZL_STAT_WRAP = false →
    fieldAt b 320 1 ≠ 255 →
    ∃ t, exec (.nodeSlotPass s.m.node ring false b) s = .next t ∧ t.pending = s.pending ∧ t.m.b F.ZL_STAT_DUP = true ∧ t.m.onRing = false ∧
      t.m.link = { s.m.link with slot := [] } ∧ (s.m.log.recs.length < 24064 → Safety.Logged t.m 0x1006 s.m.hxAddr)) ∧
  (∀ (s : State) (j : Nat), s.m.hostUp = true → j < 32 → s.m.b F.ZL_SESS_VALID j = true → s.m.g F.ZL_CFG_SESSTMO ≤ s.m.g F.ZL_SESS_IDLE j →
    ∃ t, exec .sessionTimeout s = .next t ∧ t.pending = s.pending ∧ t.m.b F.ZL_SESS_VALID j = false) ∧
  (∀ (s : State), (∀ j < 32, s.m.b F.ZL_SESS_VALID j = true → s.m.g F.ZL_SESS_IDLE j < s.m.g F.ZL_CFG_SESSTMO) → exec .sessionTimeout s = .next s)

/-- A request packet (R380 to R382) and the downlink's end, which fixes the module's slot (R367, R372, R374, R376). It says that
these complete: downlinkSlot, requestPacket. -/
def Obligations.LinkRequests : Prop :=
  (∀ (s : State) (j : Nat) (b : List Byte) (p : Pkt) (m : Mach), s.m.listens = true → j < 16 → reqOk b = true → fieldAt b 4 2 = s.m.hxAddr →
    s.m.hxAddr ≠ 1023 → 0x8000 ≤ fieldAt b 6 2 → fieldAt b 11 1 = 0 →
    m = ({ s.m with link := { s.m.link with dack := setBit s.m.link.dack j true } }).touch (fieldAt b 6 2) → p = { reqOf b with role := m.roleOf (fieldAt b 6 2) } →
    m.underWay p = false → m.cachedFor p = none → m.cacheFull p.src = false →
    m.opOf p = none →
    ∃ t, exec (.requestPacket j b b) s = .next t ∧ t.pending = s.pending ∧ 
      Safety.Replied t.m p.src p.seq p.op UNKNOWN [] ∧ bit t.m.link.dack j = true ∧ t.m.reg = m.reg) ∧
  (∀ (s : State) (j : Nat) (b : List Byte) (p : Pkt) (m : Mach) (need : Nat) (r : Mach × Nat × List Byte), s.m.listens = true → j < 16 → reqOk b = true → fieldAt b 4 2 = s.m.hxAddr →
    s.m.hxAddr ≠ 1023 → 0x8000 ≤ fieldAt b 6 2 → fieldAt b 11 1 = 0 →
    m = ({ s.m with link := { s.m.link with dack := setBit s.m.link.dack j true } }).touch (fieldAt b 6 2) → p = { reqOf b with role := m.roleOf (fieldAt b 6 2) } →
    m.underWay p = false → m.cachedFor p = none → m.cacheFull p.src = false →
    (m.opOf p).map (fun x => (x.1, x.2.1)) = some (need, false) → (m.opOf p).map (fun x => (m.accept p).runRole p need false x.2.2) = some r →
    r.1.link.accepted = (m.accept p).link.accepted →
    ∃ t, exec (.requestPacket j b b) s = .next t ∧ t.pending = s.pending ∧ Safety.Replied t.m p.src p.seq p.op r.2.1 r.2.2) ∧
  (∀ (s : State) (j : Nat) (b : List Byte) (p : Pkt) (m : Mach) (need : Nat), s.m.listens = true → j < 16 → reqOk b = true → fieldAt b 4 2 = s.m.hxAddr →
    s.m.hxAddr ≠ 1023 → 0x8000 ≤ fieldAt b 6 2 → fieldAt b 11 1 = 0 →
    m = ({ s.m with link := { s.m.link with dack := setBit s.m.link.dack j true } }).touch (fieldAt b 6 2) → p = { reqOf b with role := m.roleOf (fieldAt b 6 2) } →
    m.underWay p = false → m.cachedFor p = none → m.cacheFull p.src = false →
    (m.opOf p).map (fun x => (x.1, x.2.1)) = some (need, true) → need ≤ p.role → m.fieldReach = true →
    ∃ t, exec (.requestPacket j b b) s = .next t ∧ t.pending = s.pending ∧ 
      t.m.link.accepted = s.m.link.accepted ++ [{ pkt := p }] ∧ (∃ x ∈ t.m.bar.msgs, x.toField = true ∧ x.typ = tCMD ∧ x.body = .cmd p) ∧
      bit t.m.link.dack j = true ∧ t.m.reg = m.reg) ∧
  (∀ (s : State) (j : Nat) (a b : List Byte), s.m.listens = true → j < 16 → reqOk a = false → reqOk b = false →
    ∃ t, exec (.requestPacket j a b) s = .next t ∧ t.pending = s.pending ∧ t.m.g F.ZL_DN_BADPKT = satInc 65535 (s.m.g F.ZL_DN_BADPKT) ∧
      t.m.link = s.m.link ∧ t.m.bar = s.m.bar ∧ Safety.KeepsRegs s.m t.m [R.ZL_DN.idx 0 0, R.ZL_PORT.idx 0 0, R.ZL_PORT.idx 1 0]) ∧
  (∀ (s : State) (j : Nat) (a b : List Byte), s.m.listens = false → exec (.requestPacket j a b) s = .next s) ∧
  (∀ (s : State) (a b : List Byte) (g : List Byte) (q : List (List Byte)), s.m.onRing = true → headerOk a = true → fieldAt a 8 2 = 0 → b = [] →
    s.m.aq.live = g :: q → s.m.link.frag = none → s.m.link.accepted = [] → s.m.link.unsol = [] → s.m.link.cur = [] →
    ∃ t, exec (.downlinkSlot a b) s = .next t ∧ t.pending = s.pending ∧ t.m.aq = { s.m.aq with live := q, sent := ingotSeq g } ∧
      t.m.link = { s.m.link with dack := 0, slot := g ++ slotTail s.m.node (s.m.b F.ZL_STAT_GROUP) { resync := s.m.link.resync } (!s.m.link.fseq) 0 (if s.m.scan.groups.group = 0 then [] else s.m.scan.groups.own) } ∧
      { t.m with aq := s.m.aq, link := s.m.link } = s.m) ∧
  (∀ (s : State) (a : List Byte) (f : Frag) (ack : Bool), s.m.onRing = true → headerOk a = true → fieldAt a 8 2 = 0 → s.m.link.frag = some f →
    bit (fieldAt a 0 8) s.m.node = ack → s.m.link.accepted = [] → s.m.link.unsol = [] → s.m.link.cur = [] → f.sends < 3 →
    ∃ t, exec (.downlinkSlot a []) s = .next t ∧ t.pending = s.pending ∧
      (ack = true → t.m.link.frag = none ∧ t.m.link.fseq = !s.m.link.fseq ∧ t.m.w .ZL_UP = s.m.w .ZL_UP) ∧
      (ack = false → t.m.link.frag = some { f with sends := f.sends + 1 } ∧ t.m.link.fseq = s.m.link.fseq ∧
        t.m.g F.ZL_UP_RESENT = satInc 65535 (s.m.g F.ZL_UP_RESENT) ∧ t.m.g F.ZL_UP_ABANDON = s.m.g F.ZL_UP_ABANDON)) ∧
  (∀ (s : State) (a b : List Byte), s.m.hostUp = false → exec (.downlinkSlot a b) s = .next s) ∧
  (∀ (s : State) (a b : List Byte) (ta tb : Nat), s.m.hostUp = false → exec (.beacon a b ta tb) s = .next s)

/-- Every opcode is refused to a source without its role, with ROLE and no effect (R30, R380, R384); in a host domain that does
not run nothing is executed; an opcode that needs the field domain is answered NOFIELD where that cannot be reached (R384,
R389), and while no frame ticks it crosses the barrier as a CMD message and waits for the first end of latch (R23). -/
def Obligations.OpcodeChecks : Prop :=
  (∀ (s : State) (src seq : Nat) (pl : List Byte) (c : Instr) (op need : Nat), (c, op, need) ∈
      [(Instr.markOp src seq pl, 0x04, 2), (.linkStatus src seq pl, 0x05, 1), (.regRead src seq pl, 0x10, 1), (.regReadRange src seq pl, 0x11, 1),
       (.regWrite src seq pl, 0x12, 2), (.prgStatus src seq pl, 0x20, 1), (.imgRead src seq pl, 0x21, 1), (.paramBatch src seq pl, 0x22, 2),
       (.paramRead src seq pl, 0x23, 1), (.stnTest src seq pl, 0x24, 2), (.imgPut src seq pl, 0x25, 2), (.evStatus src seq pl, 0x30, 1),
       (.evRead src seq pl, 0x31, 1), (.evClear src seq pl, 0x32, 2), (.stmStatus src seq pl, 0x40, 1), (.stmSubscribe src seq pl, 0x41, 1),
       (.stmLoad src seq pl, 0x42, 2), (.stmStop src seq pl, 0x43, 2), (.stmFetch src seq pl, 0x44, 1), (.updStatus src seq pl, 0x50, 1),
       (.updBegin src seq pl, 0x51, 2), (.updPut src seq pl, 0x52, 2), (.updVerify src seq pl, 0x53, 2), (.updLoad src seq pl, 0x54, 2),
       (.updArm src seq pl, 0x55, 2), (.updDisarm src seq pl, 0x56, 2), (.updCancel src seq pl, 0x57, 2), (.updRollback src seq pl, 0x58, 2),
       (.updRead src seq pl, 0x59, 1), (.updKeySet src seq pl, 0x5A, 3), (.sfStatus src seq pl, 0x60, 1), (.editOpen src seq pl, 0x61, 3),
       (.setLoad src seq pl, 0x62, 3), (.editCommit src seq pl, 0x63, 3), (.editAbort src seq pl, 0x64, 3), (.confirm src seq pl, 0x65, 3),
       (.setRead src seq pl, 0x66, 1), (.inspectOn src seq pl, 0x67, 3), (.inspectKeep src seq pl, 0x68, 3), (.inspectOff src seq pl, 0x69, 3),
       (.inspectCfg src seq pl, 0x6A, 3), (.dxStatus src seq pl, 0x70, 1), (.dxSwitch src seq pl, 0x71, 2), (.dxRestore src seq pl, 0x72, 2),
       (.sprStatus src seq pl, 0x73, 1), (.sprGraft src seq pl, 0x74, 2), (.sprRelease src seq pl, 0x75, 2), (.lgStatus src seq pl, 0x80, 1),
       (.lgRead src seq pl, 0x81, 1), (.calSet src seq pl, 0x82, 2), (.inspSet src seq pl, 0x83, 3)] →
    (s.m.hostUp = false → exec c s = .next s) ∧
    (s.m.hostUp = true → s.m.roleOf src < need → ∃ t, exec c s = .next t ∧ t.pending = s.pending ∧ Safety.Replied t.m src seq op ROLE [] ∧
      t.m.link.accepted.length = s.m.link.accepted.length + 1 ∧ Safety.OpKeeps s.m t.m [] ∧ { t.m with reg := s.m.reg, link := s.m.link } = s.m)) ∧
  (∀ (s : State) (src seq : Nat) (c : Instr) (op need : Nat), (c, op, need) ∈
      [(Instr.prgStatus src seq [], 0x20, 1), (.stmStatus src seq [], 0x40, 1), (.dxStatus src seq [], 0x70, 1), (.dxSwitch src seq [], 0x71, 2),
       (.sfStatus src seq [], 0x60, 1), (.markOp src seq [], 0x04, 2), (.updDisarm src seq [], 0x56, 2)] →
    s.m.hostUp = true → need ≤ s.m.roleOf src → s.m.fieldReach = false →
    ∃ t, exec c s = .next t ∧ t.pending = s.pending ∧ Safety.Replied t.m src seq op NOFIELD [] ∧ Safety.OpKeeps s.m t.m [] ∧
      { t.m with reg := s.m.reg, link := s.m.link } = s.m) ∧
  (∀ (s : State) (src seq : Nat) (pl : List Byte) (c : Instr) (op need k : Nat), (c, op, need) ∈
      [(Instr.markOp src seq pl, 0x04, 2), (.prgStatus src seq pl, 0x20, 1), (.imgRead src seq pl, 0x21, 1), (.paramBatch src seq pl, 0x22, 2),
       (.paramRead src seq pl, 0x23, 1), (.stnTest src seq pl, 0x24, 2), (.stmStatus src seq pl, 0x40, 1), (.stmLoad src seq pl, 0x42, 2),
       (.stmStop src seq pl, 0x43, 2), (.updDisarm src seq pl, 0x56, 2), (.updRollback src seq pl, 0x58, 2), (.updKeySet src seq pl, 0x5A, 3),
       (.sfStatus src seq pl, 0x60, 1), (.editOpen src seq pl, 0x61, 3), (.setLoad src seq pl, 0x62, 3), (.editCommit src seq pl, 0x63, 3),
       (.editAbort src seq pl, 0x64, 3), (.confirm src seq pl, 0x65, 3), (.setRead src seq pl, 0x66, 1), (.inspectOn src seq pl, 0x67, 3),
       (.inspectKeep src seq pl, 0x68, 3), (.inspectOff src seq pl, 0x69, 3), (.inspectCfg src seq pl, 0x6A, 3), (.dxStatus src seq pl, 0x70, 1),
       (.dxSwitch src seq pl, 0x71, 2), (.dxRestore src seq pl, 0x72, 2), (.sprStatus src seq pl, 0x73, 1), (.sprGraft src seq pl, 0x74, 2),
       (.sprRelease src seq pl, 0x75, 2)] →
    s.m.hostUp = true → need ≤ s.m.roleOf src → s.m.fieldReach = true → s.m.ticking = false → k = max 1 (ceilDiv pl.length 32) →
    ∃ t, exec c s = .next t ∧ t.pending = s.pending ∧
      (t.m.bar.msgs.drop s.m.bar.msgs.length).map (fun x => (x.toField, x.typ, x.cells, x.unsent, x.body)) =
        [(true, tCMD, k, k, Body.cmd { src := src, seq := seq, op := op, role := s.m.roleOf src, payload := pl })] ∧
      t.m.bar.msgs.take s.m.bar.msgs.length = s.m.bar.msgs ∧
      (t.m.link.accepted.drop s.m.link.accepted.length).map (fun a => (a.pkt.seq, a.pkt.op, a.reply)) = [(seq, op, none)] ∧
      Safety.OpKeeps s.m t.m [] ∧ { t.m with reg := s.m.reg, link := s.m.link, bar := s.m.bar } = s.m)

/-- Sessions, identity and role keys (R31, R32, R386, R387). It says that these complete: nop, ident, sessionOpen, sessionClose,
markOp, linkStatus, roleKeySet. -/
def Obligations.SessionOpcodes : Prop :=
  (∀ (s : State) (src seq : Nat) (pl : List Byte), s.m.hostUp = true → ∃ t, exec (.nop src seq pl) s = .next t ∧ t.pending = s.pending ∧
    Safety.Replied t.m src seq 0x00 OK pl ∧ Safety.OpKeeps s.m t.m [] ∧ { t.m with reg := s.m.reg, link := s.m.link } = s.m) ∧
  (∀ (s : State) (src seq : Nat) (m : Mach), s.m.hostUp = true → m = Safety.Taken s.m src seq 0x01 [] →
    ∃ t d, exec (.ident src seq []) s = .next t ∧ t.pending = s.pending ∧ Safety.Replied t.m src seq 0x01 OK d ∧ d.length = 56 ∧
      fieldAt d 0 4 = (m.w .DEV_ID).toNat ∧ fieldAt d 4 8 = m.q .DEV_SERIAL_LO ∧ fieldAt d 12 4 = (m.w .DEV_FW).toNat ∧
      fieldAt d 16 4 = (m.w .DEV_ADDR).toNat ∧ fieldAt d 32 8 = m.frame ∧ { t.m with link := m.link } = m) ∧
  (∀ (s : State) (src seq r j : Nat) (pl : List Byte) (m : Mach), s.m.hostUp = true → m = Safety.Taken s.m src seq 0x02 pl → src < 65536 → pl.length = 12 →
    r = fieldAt pl 0 1 → r ≤ 2 → fieldAt pl 1 3 = 0 → m.locked src = false → m.roleKey r ≠ 0 → fieldAt pl 4 8 = m.roleKey r → m.session src = none →
    (upTo 32).find? (fun j => !m.b F.ZL_SESS_VALID j) = some j → m.log.recs.length < 24064 →
    ∃ t, exec (.sessionOpen src seq pl) s = .next t ∧ t.pending = s.pending ∧
      Safety.Replied t.m src seq 0x02 OK (leBytes 1 r ++ leBytes 1 0 ++ leBytes 2 (m.g F.ZL_CFG_SESSTMO)) ∧
      t.m.b F.ZL_SESS_VALID j = true ∧ t.m.g F.ZL_SESS_ROLE j = r ∧ t.m.g F.ZL_SESS_SRC j = src ∧ t.m.g F.ZL_SESS_IDLE j = 0 ∧
      t.m.roleOf src = r + 1 ∧ Safety.Logged t.m 0x1009 src ∧ Safety.KeepsRegs m t.m [R.ZL_SESS.idx j 0] ∧
      { t.m with reg := m.reg, link := m.link, log := m.log } = m) ∧
  (∀ (s : State) (src seq r : Nat) (pl : List Byte) (m : Mach), s.m.hostUp = true → m = Safety.Taken s.m src seq 0x02 pl → pl.length = 12 →
    r = fieldAt pl 0 1 → r ≤ 2 → fieldAt pl 1 3 = 0 → m.locked src = false → (m.roleKey r = 0 ∨ fieldAt pl 4 8 ≠ m.roleKey r) →
    ∃ t, exec (.sessionOpen src seq pl) s = .next t ∧ t.pending = s.pending ∧ Safety.Replied t.m src seq 0x02 KEYREF [] ∧
      t.m.g F.DEV_ROLE_STAT_FAILS = satInc 65535 (m.g F.DEV_ROLE_STAT_FAILS) ∧
      (7 ≤ (m.roleFails.filter (fun f => f.1 == src && decide (m.log.sec < f.2 + 60))).length → t.m.locked src = true) ∧
      Safety.KeepsRegs m t.m [R.DEV_ROLE_STAT.idx 0 0, R.EV_LOST.idx 0 0, R.EV_STAT.idx 0 0]) ∧
  (∀ (s : State) (src seq : Nat) (pl : List Byte) (m : Mach), s.m.hostUp = true → m = Safety.Taken s.m src seq 0x02 pl → pl.length = 12 →
    fieldAt pl 0 1 ≤ 2 → fieldAt pl 1 3 = 0 → m.locked src = true →
    ∃ t, exec (.sessionOpen src seq pl) s = .next t ∧ t.pending = s.pending ∧ Safety.Replied t.m src seq 0x02 LOCKOUT [] ∧
      Safety.KeepsRegs m t.m [R.EV_LOST.idx 0 0, R.EV_STAT.idx 0 0]) ∧
  (∀ (s : State) (src seq j : Nat) (m : Mach), s.m.hostUp = true → m = Safety.Taken s.m src seq 0x03 [] → m.session src = some j →
    ∃ t, exec (.sessionClose src seq []) s = .next t ∧ t.pending = s.pending ∧ Safety.Replied t.m src seq 0x03 OK [] ∧ t.m.b F.ZL_SESS_VALID j = false) ∧
  (∀ (s : State) (src seq : Nat), Safety.MayRun s.m src 2 true → s.m.fabricUp = true →
    ∃ t, exec (.markOp src seq []) s = .next t ∧ t.pending = s.pending ∧ Safety.Replied t.m src seq 0x04 OK [] ∧
      ∃ e, t.m.bar.evq = s.m.bar.evq ++ [e] ∧ e.code = markCode ∧ e.src = 0x20 ∧ e.frame = s.m.frame) ∧
  (∀ (s : State) (src seq : Nat) (m : Mach), Safety.MayRun s.m src 1 false → m = Safety.Taken s.m src seq 0x05 [] →
    ∃ t, exec (.linkStatus src seq []) s = .next t ∧ t.pending = s.pending ∧ { t.m with link := m.link } = m ∧
      Safety.Replied t.m src seq 0x05 OK ((R.ZL_STAT :: [R.ZL_TIMING, R.ZL_CYCLE]).map (fun r => leBytes 4 (m.view (r.idx 0 0)).toNat) ++
        [leBytes 4 (m.view (R.ZL_DLY.idx 0 0)).toNat, leBytes 4 (m.view (R.ZL_PORT.idx 0 0)).toNat, leBytes 4 (m.view (R.ZL_PORT.idx 1 0)).toNat,
         leBytes 4 (m.view (R.ZL_DN.idx 0 0)).toNat, leBytes 4 (m.view (R.ZL_UP.idx 0 0)).toNat, leBytes 4 (m.view (R.ZL_CACHE.idx 0 0)).toNat]).flatten) ∧
  (∀ (s : State) (src seq r : Nat) (pl b : List Byte) (m : Mach), Safety.MayRun s.m src 3 true → m = Safety.Taken s.m src seq 0x06 pl → pl.length = 12 →
    r = fieldAt pl 0 1 → r ≤ 2 → fieldAt pl 1 3 = 0 → m.genInForce 7 = some b → fieldAt b (8 * r) 8 ≠ fieldAt pl 4 8 → m.sp.edit = none → m.sp.insp = none →
    ∃ t, exec (.roleKeySet src seq pl) s = .next t ∧ t.pending = s.pending ∧ Safety.Replied t.m src seq 0x06 OK [] ∧
      t.m.key = (m.genRewrite 7 (b.take (8 * r) ++ leBytes 8 (fieldAt pl 4 8) ++ b.drop (8 * r + 8))).key ∧
      (∀ j < 32, m.b F.ZL_SESS_VALID j = true → m.g F.ZL_SESS_ROLE j = r → t.m.b F.ZL_SESS_VALID j = false) ∧
      (∀ j < 32, m.g F.ZL_SESS_ROLE j ≠ r → t.m.w .ZL_SESS j = m.w .ZL_SESS j) ∧
      (r = 2 → t.m.b F.DEV_ROLE_STAT_COM_SET = decide (fieldAt pl 4 8 ≠ 0))) ∧
  (∀ (s : State) (src seq : Nat) (pl b : List Byte) (m : Mach), Safety.MayRun s.m src 0 true → m = Safety.Taken s.m src seq 0x06 pl → pl.length = 12 →
    s.m.b F.DEV_ROLE_STAT_COM_SET = false → bit src 15 = true → src / 64 % 16 = s.m.hxAddr / 64 → fieldAt pl 0 1 = 2 → fieldAt pl 1 3 = 0 →
    m.genInForce 7 = some b → fieldAt b 16 8 ≠ fieldAt pl 4 8 → m.sp.edit = none → m.sp.insp = none →
    ∃ t, exec (.roleKeySet src seq pl) s = .next t ∧ t.pending = s.pending ∧ Safety.Replied t.m src seq 0x06 OK [] ∧
      t.m.key = (m.genRewrite 7 (b.take 16 ++ leBytes 8 (fieldAt pl 4 8) ++ b.drop 24)).key ∧
      t.m.b F.DEV_ROLE_STAT_COM_SET = decide (fieldAt pl 4 8 ≠ 0)) ∧
  (∀ (s : State) (src seq : Nat) (m : Mach), s.m.hostUp = true → m = Safety.Taken s.m src seq 0x03 [] → m.session src = none →
    ∃ t, exec (.sessionClose src seq []) s = .next t ∧ t.pending = s.pending ∧ Safety.Replied t.m src seq 0x03 OK [] ∧ { t.m with link := m.link } = m)

/-- REG_READ and REG_READ_RANGE of any registers, whose 64-bit pairs read whole within the packet; REG_WRITE of one register and
of parameter cells, which are taken as one batch; a write to the safety blocks without the commissioner role is refused (R8,
R388, R389). It says that these complete: regRead, regReadRange, regWrite. -/
def Obligations.RegisterOpcodes : Prop :=
  (∀ (s : State) (src seq n : Nat) (pl : List Byte) (m : Mach) (l : List Nat), n = fieldAt pl 0 2 → l = (upTo n).map (fun k => fieldAt pl (4 + 2 * k) 2) →
    Safety.MayRun s.m src 1 (l.any inField) → m = Safety.Taken s.m src seq 0x10 pl → 0 < n → n ≤ 1000 → pl.length = 4 + 2 * n → fieldAt pl 2 2 = 0 →
    (∀ q ∈ s.m.latches, q.1 ≠ Who.key (.host 0 0)) →
    ∃ t, exec (.regRead src seq pl) s = .next t ∧ t.pending = s.pending ∧
      Safety.Replied t.m src seq 0x10 OK (l.map (fun i => leBytes 4 (m.view i).toNat)).flatten ∧
      { t.m with link := m.link } = Safety.PacketDone m (.host (s.m.roleOf src) src)) ∧
  (∀ (s : State) (src seq a n : Nat) (pl : List Byte) (m : Mach), a = fieldAt pl 0 2 → n = fieldAt pl 2 2 →
    Safety.MayRun s.m src 1 (inField a || inField (a + n - 1)) → m = Safety.Taken s.m src seq 0x11 pl → 0 < n → n ≤ 1000 → a + n ≤ 65536 → pl.length = 4 →
    (∀ q ∈ s.m.latches, q.1 ≠ Who.key (.host 0 0)) →
    ∃ t, exec (.regReadRange src seq pl) s = .next t ∧ t.pending = s.pending ∧
      Safety.Replied t.m src seq 0x11 OK ((upTo n).map (fun k => leBytes 4 (m.view (a + k)).toNat)).flatten ∧
      { t.m with link := m.link } = Safety.PacketDone m (.host (s.m.roleOf src) src)) ∧
  (∀ (s : State) (src seq i : Nat) (pl : List Byte) (m : Mach) (who : Who) (r : Mach × Bool), Safety.MayRun s.m src 2 (inField i) →
    m = Safety.Taken s.m src seq 0x12 pl → pl.length = 12 → fieldAt pl 0 2 = 1 → fieldAt pl 2 2 = 0 → fieldAt pl 4 2 = i → fieldAt pl 6 2 = 0 →
    i < 0x8000 → (i < 0x2800 ∨ 0x2C00 ≤ i ∨ 3 ≤ s.m.roleOf src ∧ m.b F.DEV_ROLE_STAT_COM_SET = true ∧ (i = 0x2800 ∨ m.editBy src = true)) →
    (m.inGap = false ∨ (regAt i).map (fun x => x.1) ≠ some .LP_PAGE) → who = .host (s.m.roleOf src) src →
    r = (Safety.PacketDone m who).regWrite who i (Word.of (fieldAt pl 8 4)) → r.1.link.accepted = m.link.accepted →
    ∃ t, exec (.regWrite src seq pl) s = .next t ∧ t.pending = s.pending ∧
      Safety.Replied t.m src seq 0x12 OK (leBytes 2 (if r.2 then 1 else 0) ++ leBytes 2 (if r.2 then 0 else 1) ++ leBytes 2 (if r.2 then 0 else i) ++ leBytes 2 0) ∧
      { t.m with link := r.1.link } = Safety.PacketDone r.1 who) ∧
  (∀ (s : State) (src seq n : Nat) (pl : List Byte) (m : Mach) (im : Image) (es : List (Nat × Nat)), Safety.MayRun s.m src 2 true →
    m = Safety.Taken s.m src seq 0x12 pl → n = fieldAt pl 0 2 → 0 < n → n ≤ 256 → pl.length = 4 + 8 * n → fieldAt pl 2 2 = 0 →
    (∀ k < n, fieldAt pl (6 + 8 * k) 2 = 0) → es = (upTo n).map (fun k => (fieldAt pl (4 + 8 * k) 2, fieldAt pl (8 + 8 * k) 4)) →
    (∀ e ∈ es, 0x8000 ≤ e.1) → m.inGap = false → m.scan.img = some im → batchRange im (es.map (fun e => (e.1 - 0x8000, sgn 32 e.2))) = false →
    m.upd.newScan = false → m.upd.go = false → m.scan.batches.length < 4 →
    ∃ t, exec (.regWrite src seq pl) s = .next t ∧ t.pending = s.pending ∧
      Safety.Replied t.m src seq 0x12 OK (leBytes 2 n ++ leBytes 2 0 ++ leBytes 2 0 ++ leBytes 2 (nextTicket m.scan.ticket)) ∧
      t.m.scan = { m.scan with ticket := nextTicket m.scan.ticket, batches := m.scan.batches ++ [{ ticket := nextTicket m.scan.ticket, frame := m.frame, entries := es.map (fun e => (e.1 - 0x8000, sgn 32 e.2)) }] } ∧
      { t.m with link := m.link, scan := m.scan } = Safety.PacketDone m (.host (s.m.roleOf src) src)) ∧
  (∀ (s : State) (src seq i : Nat) (pl : List Byte), Safety.MayRun s.m src 2 true → (s.m.roleOf src < 3 ∨ s.m.b F.DEV_ROLE_STAT_COM_SET = false) →
    fieldAt pl 0 2 = 1 → fieldAt pl 4 2 = i → 0x2800 ≤ i → i < 0x2C00 →
    ∃ t, exec (.regWrite src seq pl) s = .next t ∧ t.pending = s.pending ∧ Safety.Replied t.m src seq 0x12 ROLE [] ∧
      Safety.OpKeeps s.m t.m [] ∧ { t.m with reg := s.m.reg, link := s.m.link } = s.m)

/-- The program, its parameters and stations (R275, R282), and image staging (R398). It says that these complete: prgStatus,
imgRead, paramBatch, paramRead, stnTest, imgPut. -/
def Obligations.ProgramOpcodes : Prop :=
  (∀ (s : State) (src seq : Nat) (m : Mach), Safety.MayRun s.m src 1 true → m = Safety.Taken s.m src seq 0x20 [] →
    ∃ t d, exec (.prgStatus src seq []) s = .next t ∧ t.pending = s.pending ∧ Safety.Replied t.m src seq 0x20 OK d ∧ d.length = 44 ∧
      fieldAt d 0 4 = ((m.scan.img.map (fun i => i.imgid)).getD 0) % 2 ^ 32 ∧ fieldAt d 6 4 = m.scan.num % 2 ^ 32 ∧
      fieldAt d 4 1 = (if m.scan.img = none then 0 else if m.activeAp.isSome ∧ m.st ≠ stHELD then 1 else 2) ∧ fieldAt d 14 2 = m.scan.lastTicket % 65536 ∧
      fieldAt d 16 1 = m.scan.batches.length % 256 ∧ fieldAt d 18 8 = m.scan.lastApp % 2 ^ 64 ∧
      (∀ k < 64, bit (fieldAt d 26 8) k = (m.stnIds.contains k && (m.stn k).absent) ∧ bit (fieldAt d 34 8) k = (m.stnIds.contains k && (m.stn k).sync)) ∧ { t.m with link := m.link } = m) ∧
  (∀ (s : State) (src seq : Nat) (pl : List Byte) (m : Mach) (im : Image), Safety.MayRun s.m src 1 true → m = Safety.Taken s.m src seq 0x21 pl →
    pl.length = 6 → 0 < fieldAt pl 4 2 → fieldAt pl 4 2 ≤ 4000 → m.scan.img = some im → fieldAt pl 0 4 + fieldAt pl 4 2 ≤ im.raw.length →
    ∃ t, exec (.imgRead src seq pl) s = .next t ∧ t.pending = s.pending ∧
      Safety.Replied t.m src seq 0x21 OK (sliceB im.raw (fieldAt pl 0 4) (fieldAt pl 4 2)) ∧ { t.m with link := m.link } = m) ∧
  (∀ (s : State) (src seq n : Nat) (pl : List Byte) (m : Mach) (im : Image), Safety.MayRun s.m src 2 true → m = Safety.Taken s.m src seq 0x22 pl →
    n = fieldAt pl 4 2 → n ≤ 256 → pl.length = 8 + 8 * n → fieldAt pl 6 2 = 0 → (∀ i < n, fieldAt (pl.drop 8) (8 * i + 2) 2 = 0) → m.inGap = false →
    m.scan.img = some im → batchRange im (batchOf (pl.drop 8) n) = false → fieldAt pl 0 4 = im.imgid → m.upd.newScan = false → m.upd.go = false →
    m.scan.batches.length < 4 →
    ∃ t, exec (.paramBatch src seq pl) s = .next t ∧ t.pending = s.pending ∧ Safety.Replied t.m src seq 0x22 OK (leBytes 2 (nextTicket m.scan.ticket)) ∧
      t.m.scan = { m.scan with ticket := nextTicket m.scan.ticket, batches := m.scan.batches ++ [{ ticket := nextTicket m.scan.ticket, frame := m.frame, entries := batchOf (pl.drop 8) n }] } ∧
      { t.m with link := m.link, scan := m.scan } = m) ∧
  (∀ (s : State) (src seq a n : Nat) (pl : List Byte) (m : Mach), Safety.MayRun s.m src 1 true → m = Safety.Taken s.m src seq 0x23 pl → pl.length = 4 →
    a = fieldAt pl 0 2 → n = fieldAt pl 2 2 → 0 < n → n ≤ 1000 → a + n ≤ 32768 →
    ∃ t, exec (.paramRead src seq pl) s = .next t ∧ t.pending = s.pending ∧
      Safety.Replied t.m src seq 0x23 OK ((upTo n).map (fun i => leBytes 4 (m.word (0x8000 + a + i)).toNat)).flatten ∧ { t.m with link := m.link } = m) ∧
  (∀ (s : State) (src seq : Nat) (pl : List Byte) (m : Mach), Safety.MayRun s.m src 2 true → m = Safety.Taken s.m src seq 0x24 pl → pl.length = 12 →
    ∃ t, exec (.stnTest src seq pl) s = .next t ∧ t.pending = s.pending ∧ Safety.Replied t.m src seq 0x24 OK [] ∧
      (∀ k < 64, k ∈ m.stnIds → bit (fieldAt pl 0 8) k = true → fieldAt pl 8 4 ≠ 0 → t.m.stn k = { m.stn k with testReq := some (fieldAt pl 8 4) }) ∧
      (∀ k < 64, k ∈ m.stnIds → bit (fieldAt pl 0 8) k = true → fieldAt pl 8 4 = 0 → t.m.stn k = { m.stn k with until_ := none, testReq := none, mode := if (m.stn k).mode = 2 then 0 else (m.stn k).mode }) ∧
      (∀ k, (k ∉ m.stnIds ∨ bit (fieldAt pl 0 8) k = false) → t.m.stn k = m.stn k) ∧ { t.m with link := m.link, scan := m.scan } = m) ∧
  (∀ (s : State) (src seq : Nat) (pl : List Byte) (m : Mach), Safety.MayRun s.m src 2 false → m = Safety.Taken s.m src seq 0x25 pl → 5 ≤ pl.length →
    pl.length ≤ 4004 → fieldAt pl 0 4 + (pl.length - 4) ≤ 524288 →
    ∃ t, exec (.imgPut src seq pl) s = .next t ∧ t.pending = s.pending ∧ Safety.Replied t.m src seq 0x25 OK [] ∧
      t.m.scan = { m.scan with staged := cellsStore m.scan.staged (fieldAt pl 0 4) (pl.drop 4) } ∧ { t.m with link := m.link, scan := m.scan } = m)

/-- Streams: status, subscribers, loading, stopping, the history (R340, R344, R345). It says that these complete: stmStatus,
stmSubscribe, stmLoad, stmStop, stmFetch. -/
def Obligations.StreamOpcodes : Prop :=
  (∀ (s : State) (src seq : Nat) (m : Mach), Safety.MayRun s.m src 1 true → m = Safety.Taken s.m src seq 0x40 [] →
    ∃ t d, exec (.stmStatus src seq []) s = .next t ∧ t.pending = s.pending ∧ Safety.Replied t.m src seq 0x40 OK d ∧ d.length = 48 ∧
      fieldAt d 0 2 = m.g F.AQ_STAT_CFGID ∧ fieldAt d 4 1 = m.g F.AQ_STAT_ACTIVE ∧ fieldAt d 6 2 = m.aq.live.length % 65536 ∧ { t.m with link := m.link } = m) ∧
  (∀ (s : State) (src seq k : Nat) (pl : List Byte) (m : Mach), Safety.MayRun s.m src 1 false → m = Safety.Taken s.m src seq 0x41 pl → pl.length = 2 →
    k = fieldAt pl 0 1 → 0 < k → k ≤ 15 → fieldAt pl 1 1 = 0 → (m.aq.subs.filter (fun e => e.1 != src)).length < 16 →
    ∃ t, exec (.stmSubscribe src seq pl) s = .next t ∧ t.pending = s.pending ∧ Safety.Replied t.m src seq 0x41 OK [] ∧
      t.m.aq = { m.aq with subs := m.aq.subs.filter (fun e => e.1 != src) ++ [(src, k)] } ∧ { t.m with link := m.link, aq := m.aq } = m) ∧
  (∀ (s : State) (src seq : Nat) (pl : List Byte) (m : Mach), Safety.MayRun s.m src 2 true → m = Safety.Taken s.m src seq 0x42 pl → 20 ≤ pl.length →
    m.aq.pend = none → m.cfgRefused pl = false →
    ∃ t, exec (.stmLoad src seq pl) s = .next t ∧ t.pending = s.pending ∧
      Safety.Replied t.m src seq 0x42 OK (leBytes 8 (((m.frame + 16) / 1024 + 1) * 1024)) ∧ t.m.b F.AQ_STAT_PEND = true ∧
      t.m.aq = { m.aq with pend := some (pl, ((m.frame + 16) / 1024 + 1) * 1024) } ∧ t.m.key = (m.genRewrite 5 pl).key ∧
      Safety.KeepsRegs m t.m [R.AQ_STAT.idx 0 0] ∧ { t.m with reg := m.reg, link := m.link, aq := m.aq, key := m.key } = m) ∧
  (∀ (s : State) (src seq : Nat) (pl : List Byte) (m : Mach), Safety.MayRun s.m src 2 true → m = Safety.Taken s.m src seq 0x42 pl → 20 ≤ pl.length →
    m.aq.pend = none → m.cfgRefused pl = true →
    ∃ t, exec (.stmLoad src seq pl) s = .next t ∧ t.pending = s.pending ∧ Safety.Replied t.m src seq 0x42 CONFIG [] ∧ { t.m with link := m.link } = m) ∧
  (∀ (s : State) (src seq k : Nat) (pl : List Byte) (m : Mach), Safety.MayRun s.m src 2 true → m = Safety.Taken s.m src seq 0x43 pl → pl.length = 2 →
    k = fieldAt pl 0 1 → k ≤ 15 → fieldAt pl 1 1 = 0 →
    ∃ t, exec (.stmStop src seq pl) s = .next t ∧ t.pending = s.pending ∧ Safety.Replied t.m src seq 0x43 OK [] ∧
      (∀ i < 4, bit k i = true → (t.m.strm i).act = false) ∧ (∀ i < 4, bit k i = false → t.m.strm i = m.strm i) ∧
      (∀ i < 4, bit k i = true → (m.strm i).act = true → bit (t.m.g F.AQ_STAT_ACTIVE) i = false)) ∧
  (∀ (s : State) (src seq a n : Nat) (pl : List Byte) (m : Mach) (gs : List (List Byte)), Safety.MayRun s.m src 1 false →
    m = Safety.Taken s.m src seq 0x44 pl → pl.length = 8 → a = fieldAt pl 0 4 → n = fieldAt pl 4 1 → 0 < n → n ≤ 12 → fieldAt pl 5 3 = 0 →
    gs = (upTo n).filterMap (fun j => m.aq.hist.find? (fun b => ingotSeq b == (a + j) % 2 ^ 32)) →
    ∃ t, exec (.stmFetch src seq pl) s = .next t ∧ t.pending = s.pending ∧
      Safety.Replied t.m src seq 0x44 OK (leBytes 1 gs.length ++ leBytes 3 0 ++ gs.flatten) ∧ { t.m with link := m.link } = m)

/-- The event log, the ledger and the calendar through their opcodes (R354, R360, R361, R363). It says that these complete:
evStatus, evRead, evClear, lgStatus, lgRead, calSet, inspSet. -/
def Obligations.LogOpcodes : Prop :=
  (∀ (s : State) (src seq : Nat) (m : Mach), Safety.MayRun s.m src 1 false → m = Safety.Taken s.m src seq 0x30 [] →
    ∃ t d, exec (.evStatus src seq []) s = .next t ∧ t.pending = s.pending ∧ Safety.Replied t.m src seq 0x30 OK d ∧ d.length = 16 ∧
      fieldAt d 0 4 = m.log.recs.length % 2 ^ 32 ∧ fieldAt d 4 4 = m.g F.EV_LOST ∧ fieldAt d 8 4 = m.g F.EV_LOSTP ∧
      fieldAt d 12 1 = m.g F.EV_STAT_FULL + 2 * m.g F.EV_STAT_FULLP ∧ fieldAt d 13 1 = m.g F.EV_CFG_RATE ∧ { t.m with link := m.link } = m) ∧
  (∀ (s : State) (src seq a n : Nat) (pl : List Byte) (m : Mach) (rs : List Rec), Safety.MayRun s.m src 1 false → m = Safety.Taken s.m src seq 0x31 pl →
    pl.length = 8 → a = fieldAt pl 0 4 → n = fieldAt pl 4 2 → 0 < n → n ≤ 120 → fieldAt pl 6 2 = 0 → rs = (m.log.recs.drop a).take n →
    ∃ t, exec (.evRead src seq pl) s = .next t ∧ t.pending = s.pending ∧
      Safety.Replied t.m src seq 0x31 OK (leBytes 2 rs.length ++ leBytes 2 0 ++ (rs.map Rec.bytes).flatten) ∧ { t.m with link := m.link } = m) ∧
  (∀ (s : State) (src seq : Nat) (pl : List Byte) (m : Mach), Safety.MayRun s.m src 2 false → m = Safety.Taken s.m src seq 0x32 pl → pl.length = 4 →
    (m.log.anyPriv = false ∨ 3 ≤ s.m.roleOf src) → fieldAt pl 0 4 = m.log.recs.length →
    ∃ t r, exec (.evClear src seq pl) s = .next t ∧ t.pending = s.pending ∧ Safety.Replied t.m src seq 0x32 OK [] ∧ t.m.log.recs = [r] ∧ r.code = 1 ∧
      r.arg0 = m.log.recs.length ∧ r.arg1 = m.g F.EV_LOST ∧ t.m.g F.EV_LOST = 0 ∧ t.m.g F.EV_LOSTP = 0 ∧ t.m.b F.EV_STAT_FULL = false ∧
      t.m.b F.EV_STAT_FULLP = false ∧ Safety.KeepsRegs m t.m [R.EV_LOST.idx 0 0, R.EV_LOSTP.idx 0 0, R.EV_STAT.idx 0 0] ∧
      { t.m with reg := m.reg, link := m.link, log := m.log } = m) ∧
  (∀ (s : State) (src seq : Nat) (pl : List Byte) (m : Mach), Safety.MayRun s.m src 2 false → m = Safety.Taken s.m src seq 0x32 pl →
    m.log.anyPriv = true → s.m.roleOf src < 3 →
    ∃ t, exec (.evClear src seq pl) s = .next t ∧ t.pending = s.pending ∧ Safety.Replied t.m src seq 0x32 ROLE [] ∧ { t.m with link := m.link } = m) ∧
  (∀ (s : State) (src seq : Nat) (m : Mach), Safety.MayRun s.m src 1 false → m = Safety.Taken s.m src seq 0x80 [] →
    ∃ t d, exec (.lgStatus src seq []) s = .next t ∧ t.pending = s.pending ∧ Safety.Replied t.m src seq 0x80 OK d ∧ d.length = 28 ∧
      fieldAt d 4 8 = m.led.cal % 2 ^ 64 ∧ fieldAt d 12 8 = m.led.insp % 2 ^ 64 ∧ fieldAt d 20 4 = m.g F.LG_MIRROR ∧ { t.m with link := m.link } = m) ∧
  (∀ (s : State) (src seq a n : Nat) (pl : List Byte) (m : Mach), Safety.MayRun s.m src 1 false → m = Safety.Taken s.m src seq 0x81 pl → pl.length = 4 →
    a = fieldAt pl 0 2 → n = fieldAt pl 2 2 → 0 < n → a + n ≤ 256 →
    ∃ t, exec (.lgRead src seq pl) s = .next t ∧ t.pending = s.pending ∧
      Safety.Replied t.m src seq 0x81 OK ((upTo n).map (fun j => leBytes 8 (m.led.counter (a + j)))).flatten ∧ { t.m with link := m.link } = m) ∧
  (∀ (s : State) (src seq : Nat) (pl : List Byte) (m : Mach), Safety.MayRun s.m src 2 false → m = Safety.Taken s.m src seq 0x82 pl → pl.length = 8 →
    fieldAt pl 0 8 ≠ 0 → m.log.recs.length < 24064 →
    ∃ t, exec (.calSet src seq pl) s = .next t ∧ t.pending = s.pending ∧ Safety.Replied t.m src seq 0x82 OK (leBytes 8 m.led.cal) ∧
      t.m.led = { m.led with cal := fieldAt pl 0 8, calValid := true, due := true } ∧ Safety.Logged t.m 0x0003 (m.led.cal % 2 ^ 32) ∧
      { t.m with link := m.link, led := m.led, log := m.log } = m) ∧
  (∀ (s : State) (src seq : Nat) (pl : List Byte) (m : Mach), Safety.MayRun s.m src 3 false → m = Safety.Taken s.m src seq 0x83 pl → pl.length = 8 →
    ∃ t, exec (.inspSet src seq pl) s = .next t ∧ t.pending = s.pending ∧ Safety.Replied t.m src seq 0x83 OK (leBytes 8 m.led.insp) ∧
      t.m.led = { m.led with insp := fieldAt pl 0 8, due := true } ∧
      (fieldAt pl 0 8 ≠ m.led.insp → t.m.b F.LG_STAT_DUE = false ∧ t.m.b F.LG_STAT_OVERDUE = false) ∧
      (fieldAt pl 0 8 = m.led.insp → t.m.w .LG_STAT = m.w .LG_STAT) ∧
      (m.log.recs.length < 24064 → Safety.Logged t.m 0x0004 (m.led.insp % 2 ^ 32)) ∧ Safety.KeepsRegs m t.m [R.LG_STAT.idx 0 0] ∧
      { t.m with reg := m.reg, link := m.link, led := m.led, log := m.log } = m)

/-- The safety parameter set and the inspection mode through their opcodes (R243 to R256). It says that these complete:
sfStatus, editOpen, setLoad, editCommit, editAbort, confirm, setRead, inspectOn, inspectKeep, inspectOff, inspectCfg. -/
def Obligations.SafetyOpcodes : Prop :=
  (∀ (s : State) (src seq : Nat) (m : Mach), Safety.MayRun s.m src 1 true → m = Safety.Taken s.m src seq 0x60 [] →
    ∃ t d, exec (.sfStatus src seq []) s = .next t ∧ t.pending = s.pending ∧ Safety.Replied t.m src seq 0x60 OK d ∧ d.length = 48 ∧
      fieldAt d 0 1 = m.sp.setState % 256 ∧
      fieldAt d 1 1 = b2n m.sp.keyWrite.isSome + 2 * b2n m.sp.edit.isSome + 4 * b2n m.sp.insp.isSome + 8 * b2n m.sp.keyDiff ∧ { t.m with link := m.link } = m) ∧
  (∀ (s : State) (src seq : Nat) (m : Mach), Safety.MayRun s.m src 3 true → m = Safety.Taken s.m src seq 0x61 [] → m.b F.DEV_ROLE_STAT_COM_SET = true →
    m.sp.edit = none → m.sp.insp = none → m.pairsOff = true → m.sp.fault = false →
    ∃ t e, exec (.editOpen src seq []) s = .next t ∧ t.pending = s.pending ∧ Safety.Replied t.m src seq 0x61 OK [] ∧
      t.m.sp = { m.sp with edit := some (src, m.sp.t) } ∧ t.m.b F.SF_STAT_RUN = false ∧ t.m.g F.SF_PERMIT = 0 ∧
      (∀ f < 32, t.m.b F.SF_FN_STAT_PERMIT f = false) ∧ t.m.bar.evq = m.bar.evq ++ [e] ∧ e.code = 0x0B04 ∧ e.src = 2 ∧
      Safety.KeepsRegs m t.m ([R.SF_STAT.idx 0 0, R.SF_PERMIT.idx 0 0] ++ (upTo 32).map (fun f => R.SF_FN_STAT.idx f 0)) ∧
      { t.m with reg := m.reg, link := m.link, sp := m.sp, bar := m.bar } = m) ∧
  (∀ (s : State) (src seq : Nat) (m : Mach), Safety.MayRun s.m src 3 true → m = Safety.Taken s.m src seq 0x61 [] → m.b F.DEV_ROLE_STAT_COM_SET = true →
    (m.sp.edit ≠ none ∨ m.sp.insp ≠ none ∨ m.pairsOff = false ∨ m.sp.fault = true) →
    ∃ t, exec (.editOpen src seq []) s = .next t ∧ t.pending = s.pending ∧ Safety.Replied t.m src seq 0x61 WRONG_STATE [] ∧ { t.m with link := m.link } = m) ∧
  (∀ (s : State) (src seq o n : Nat) (pl : List Byte) (m : Mach), Safety.MayRun s.m src 3 true → m = Safety.Taken s.m src seq 0x62 pl →
    m.b F.DEV_ROLE_STAT_COM_SET = true → 0 < n → pl.length = 2 + 4 * n → o = fieldAt pl 0 2 → o % 4 = 0 → o + 4 * n ≤ 1480 → m.editBy src = true →
    ∃ t, exec (.setLoad src seq pl) s = .next t ∧ t.pending = s.pending ∧ Safety.Replied t.m src seq 0x62 OK [] ∧
      (∀ k < n, ∀ x, regAt (nth bodyIdx (o / 4 + k) 0) = some x → ∀ f ∈ x.1.flds, t.m.g f x.2.1 x.2.2 =
        (if f.acc = .RWS ∧ m.stores f x.2.1 (fld f (Word.of (fieldAt pl (2 + 4 * k) 4))) (Word.of (fieldAt pl (2 + 4 * k) 4)) then
          fld f (Word.of (fieldAt pl (2 + 4 * k) 4)) else m.g f x.2.1 x.2.2)) ∧
      t.m.sp = { m.sp with edit := some (src, m.sp.t) } ∧
      Safety.KeepsRegs m t.m ((upTo n).map (fun k => nth bodyIdx (o / 4 + k) 0)) ∧ { t.m with reg := m.reg, link := m.link, sp := m.sp } = m) ∧
  (∀ (s : State) (src seq : Nat) (m : Mach), Safety.MayRun s.m src 3 true → m = Safety.Taken s.m src seq 0x63 [] → m.b F.DEV_ROLE_STAT_COM_SET = true →
    m.editBy src = true → m.setBad = false →
    ∃ t e, exec (.editCommit src seq []) s = .next t ∧ t.pending = s.pending ∧ Safety.Replied t.m src seq 0x63 OK [] ∧
      t.m.sp = { m.sp with edit := none, setState := 2, image := m.newSet, keyWrite := some (m.sp.keyWrite.getD [] ++ [(0x70000, m.newSet), (0x70800, m.newSet)]) } ∧
      t.m.w .FRM_BUD 2 = Word.of (2 ^ 31 + t.m.spBudget % 2 ^ 19) ∧
      t.m.b F.DEV_STATE_HALLMARK_OK = false ∧ t.m.b F.SF_STAT_RUN = false ∧ t.m.bar.evq = m.bar.evq ++ [e] ∧ e.code = 0x0B05) ∧
  (∀ (s : State) (src seq : Nat) (m : Mach), Safety.MayRun s.m src 3 true → m = Safety.Taken s.m src seq 0x63 [] → m.b F.DEV_ROLE_STAT_COM_SET = true →
    m.editBy src = true → m.setBad = true →
    ∃ t, exec (.editCommit src seq []) s = .next t ∧ t.pending = s.pending ∧ Safety.Replied t.m src seq 0x63 CONFIG [] ∧ { t.m with link := m.link } = m) ∧
  (∀ (s : State) (src seq : Nat) (m : Mach), Safety.MayRun s.m src 3 true → m = Safety.Taken s.m src seq 0x64 [] → m.b F.DEV_ROLE_STAT_COM_SET = true →
    m.editBy src = true →
    ∃ t e, exec (.editAbort src seq []) s = .next t ∧ t.pending = s.pending ∧ Safety.Replied t.m src seq 0x64 OK [] ∧ t.m.sp.edit = none ∧
      e ∈ t.m.bar.evq ∧ e.code = 0x0B07 ∧ e.src = 2) ∧
  (∀ (s : State) (src seq on : Nat) (pl : List Byte) (m : Mach), Safety.MayRun s.m src 3 true → m = Safety.Taken s.m src seq 0x65 pl →
    m.b F.DEV_ROLE_STAT_COM_SET = true → pl.length = 32 → m.sp.setState = 2 → m.sp.edit = none → m.sp.insp = none → m.sp.keyWrite = none →
    m.sp.fault = false → sliceB pl 0 8 = sliceB m.sp.image 0x600 8 → fieldAt pl 8 4 = setRev m.sp.image →
    on = m.fnsOn.foldl (fun a f => a + 2 ^ f) 0 → on &&& fieldAt pl 28 4 = on →
    ∃ t e, exec (.confirm src seq pl) s = .next t ∧ t.pending = s.pending ∧ Safety.Replied t.m src seq 0x65 OK [] ∧ t.m.sp.setState = 3 ∧
      t.m.sp.image = m.confirmed src (fieldAt pl 28 4) (sliceB pl 12 16) ∧ t.m.sp.keyWrite = some [(0x70000, t.m.sp.image), (0x70800, t.m.sp.image)] ∧
      t.m.b F.DEV_STATE_HALLMARK_OK = true ∧ t.m.bar.evq = m.bar.evq ++ [e] ∧ e.code = 0x0B06 ∧ Safety.KeepsRegs m t.m [R.DEV_STATE.idx 0 0] ∧
      { t.m with reg := m.reg, link := m.link, sp := m.sp, bar := m.bar } = m) ∧
  (∀ (s : State) (src seq : Nat) (pl : List Byte) (m : Mach), Safety.MayRun s.m src 3 true → m = Safety.Taken s.m src seq 0x65 pl →
    m.b F.DEV_ROLE_STAT_COM_SET = true → pl.length = 32 → m.sp.setState = 2 → m.sp.edit = none → m.sp.insp = none → m.sp.keyWrite = none →
    m.sp.fault = false → sliceB pl 0 8 ≠ sliceB m.sp.image 0x600 8 →
    ∃ t e, exec (.confirm src seq pl) s = .next t ∧ t.pending = s.pending ∧ Safety.Replied t.m src seq 0x65 HALLMARK [] ∧
      t.m.bar.evq = m.bar.evq ++ [e] ∧ e.code = 0x0B03 ∧ { t.m with link := m.link, bar := m.bar } = m) ∧
  (∀ (s : State) (src seq n : Nat) (pl : List Byte) (m : Mach), Safety.MayRun s.m src 1 true → m = Safety.Taken s.m src seq 0x66 pl → pl.length = 5 →
    fieldAt pl 0 1 ≤ 1 → n = fieldAt pl 3 2 → 0 < n → fieldAt pl 1 2 + n ≤ 2048 →
    ∃ t, exec (.setRead src seq pl) s = .next t ∧ t.pending = s.pending ∧
      Safety.Replied t.m src seq 0x66 OK (sliceB (m.setCopy (fieldAt pl 0 1)) (fieldAt pl 1 2) n) ∧ { t.m with link := m.link } = m) ∧
  (∀ (s : State) (src seq : Nat) (m : Mach), Safety.MayRun s.m src 3 true → m = Safety.Taken s.m src seq 0x67 [] → m.b F.DEV_ROLE_STAT_COM_SET = true →
    m.sp.setState ≠ 3 → m.sp.edit = none → m.sp.insp = none → inspValid m.inspRecord = true → m.g F.ADC_EP_CFG_MODE (fieldAt m.inspRecord 2 1) ≠ 0 →
    m.b F.SF_STAT_FIRSTOK = true → m.sp.fault = false →
    ∃ t e, exec (.inspectOn src seq []) s = .next t ∧ t.pending = s.pending ∧ Safety.Replied t.m src seq 0x67 OK [] ∧
      t.m.sp = { m.sp with insp := t.m.sp.insp } ∧ t.m.sp.insp.map (fun i => (i.src, i.start, i.keep, i.pairs, i.port, i.vins, i.tmax, i.edmt, i.edm)) =
        some (src, m.sp.t, m.sp.t, fieldAt m.inspRecord 1 1, fieldAt m.inspRecord 2 1, fieldAt m.inspRecord 4 4, fieldAt m.inspRecord 8 2,
          fieldAt m.inspRecord 0xA 1, (upTo 8).map (fun k => fieldAt m.inspRecord (0xC + k) 1)) ∧ t.m.bar.evq = m.bar.evq ++ [e] ∧ e.code = 0x0B08 ∧
      { t.m with link := m.link, sp := m.sp, bar := m.bar } = m) ∧
  (∀ (s : State) (src seq : Nat) (m : Mach) (i : Insp), Safety.MayRun s.m src 3 true → m = Safety.Taken s.m src seq 0x68 [] →
    m.b F.DEV_ROLE_STAT_COM_SET = true → m.sp.insp = some i → i.src = src →
    ∃ t, exec (.inspectKeep src seq []) s = .next t ∧ t.pending = s.pending ∧ Safety.Replied t.m src seq 0x68 OK [] ∧
      t.m.sp = { m.sp with insp := some { i with keep := m.sp.t } } ∧ { t.m with link := m.link, sp := m.sp } = m) ∧
  (∀ (s : State) (src seq : Nat) (m : Mach) (i : Insp), Safety.MayRun s.m src 3 true → m = Safety.Taken s.m src seq 0x69 [] →
    m.b F.DEV_ROLE_STAT_COM_SET = true → m.sp.insp = some i → (m.sp.edit = none ∨ m.editBy src = true) →
    ∃ t e, exec (.inspectOff src seq []) s = .next t ∧ t.pending = s.pending ∧ Safety.Replied t.m src seq 0x69 OK [] ∧ t.m.sp.insp = none ∧
      (∀ k < 8, nth t.m.sp.cmds k false = false) ∧ t.m.bar.evq = m.bar.evq ++ [e] ∧ e.code = 0x0B09 ∧
      { t.m with link := m.link, sp := m.sp, bar := m.bar } = m) ∧
  (∀ (s : State) (src seq : Nat) (pl : List Byte) (m : Mach), Safety.MayRun s.m src 3 true → m = Safety.Taken s.m src seq 0x6A pl →
    m.b F.DEV_ROLE_STAT_COM_SET = true → inspValid pl = true → m.sp.insp = none → (m.sp.edit = none ∨ m.editBy src = true) →
    ∃ t, exec (.inspectCfg src seq pl) s = .next t ∧ t.pending = s.pending ∧ Safety.Replied t.m src seq 0x6A OK [] ∧
      t.m.sp = { m.sp with keyWrite := some (m.sp.keyWrite.getD [] ++ [(0x71000, pl), (0x71020, pl)]) } ∧ { t.m with link := m.link, sp := m.sp } = m)

/-- Duplex sides and spares through their opcodes (R296, R297, R301, R305). It says that these complete: dxStatus, dxSwitch,
dxRestore, sprStatus, sprGraft, sprRelease. -/
def Obligations.SpareOpcodes : Prop :=
  (∀ (s : State) (src seq : Nat) (m : Mach), Safety.MayRun s.m src 1 true → m = Safety.Taken s.m src seq 0x70 [] →
    ∃ t, exec (.dxStatus src seq []) s = .next t ∧ t.pending = s.pending ∧
      Safety.Replied t.m src seq 0x70 OK (leBytes 4 (m.w .DX_STAT).toNat ++ leBytes 4 (m.w .DX_SIDE 0).toNat ++ leBytes 4 (m.w .DX_SIDE 1).toNat ++
        leBytes 4 (m.w .DX_SYNC).toNat ++ leBytes 4 (m.w .DX_TBWAIT).toNat ++ leBytes 8 (m.q .DX_LASTFO_LO)) ∧ { t.m with link := m.link } = m) ∧
  (∀ (s : State) (src seq x : Nat) (m : Mach), Safety.MayRun s.m src 2 true → m = Safety.Taken s.m src seq 0x71 [] → m.inGap = false →
    m.updArmed = false → m.dx.switch = false → m.dx.change = none → m.otherSide = some x → m.side x = 2 →
    ∃ t, exec (.dxSwitch src seq []) s = .next t ∧ t.pending = s.pending ∧ Safety.Replied t.m src seq 0x71 OK [] ∧
      t.m.dx = { m.dx with switch := true } ∧ { t.m with link := m.link, dx := m.dx } = m) ∧
  (∀ (s : State) (src seq : Nat) (m : Mach), Safety.MayRun s.m src 2 true → m = Safety.Taken s.m src seq 0x71 [] → m.inGap = false →
    (m.updArmed = true ∨ m.dx.switch = true ∨ m.dx.change ≠ none ∨ m.otherSide.map m.side ≠ some 2) →
    ∃ t, exec (.dxSwitch src seq []) s = .next t ∧ t.pending = s.pending ∧ Safety.Replied t.m src seq 0x71 WRONG_STATE [] ∧ { t.m with link := m.link } = m) ∧
  (∀ (s : State) (src seq x : Nat) (pl : List Byte) (m : Mach), Safety.MayRun s.m src 2 true → m = Safety.Taken s.m src seq 0x72 pl → pl.length = 1 →
    x = fieldAt pl 0 1 → x < 2 → m.side x = 5 →
    ∃ t, exec (.dxRestore src seq pl) s = .next t ∧ t.pending = s.pending ∧ Safety.Replied t.m src seq 0x72 OK [] ∧ t.m.side x = 4 ∧
      t.m.side (1 - x) = m.side (1 - x) ∧ x ∉ t.m.dx.retired ∧ t.m.g F.DX_SIDE_TB24 x = 0 ∧ t.m.g F.DX_SIDE_RST24 x = 0 ∧
      Safety.KeepsRegs m t.m [R.DX_STAT.idx 0 0, R.DX_SIDE.idx 0 0, R.DX_SIDE.idx 1 0, R.DEV_ENG_RUN.idx 0 0] ∧
      { t.m with reg := m.reg, link := m.link, dx := m.dx } = m) ∧
  (∀ (s : State) (src seq a n : Nat) (pl : List Byte) (m : Mach), Safety.MayRun s.m src 1 true → m = Safety.Taken s.m src seq 0x73 pl → pl.length = 2 →
    a = fieldAt pl 0 1 → n = fieldAt pl 1 1 → 0 < n → a + n ≤ 36 →
    ∃ t, exec (.sprStatus src seq pl) s = .next t ∧ t.pending = s.pending ∧
      Safety.Replied t.m src seq 0x73 OK (leBytes 4 (m.w .SPR_STAT).toNat ++ ((upTo n).map (fun j => leBytes 4 (m.w .SPR_PART (a + j)).toNat)).flatten) ∧
      { t.m with link := m.link } = m) ∧
  (∀ (s : State) (src seq p g : Nat) (pl : List Byte) (m : Mach), Safety.MayRun s.m src 2 true → m = Safety.Taken s.m src seq 0x74 pl → pl.length = 12 →
    fieldAt pl 0 1 = 0 → fieldAt pl 1 1 = 0 → p = fieldAt pl 2 2 → (p ≤ 7 ∨ 9 ≤ p ∧ p ≤ 12) →
    g = (if fieldAt pl 4 8 = 0 then m.frame + 16 else fieldAt pl 4 8) → m.frame + 16 ≤ g → m.inGap = false →
    m.updArmed = false → m.graftable (p + 3) = true → m.graftChecks (p + 3) = true →
    ∃ t, exec (.sprGraft src seq pl) s = .next t ∧ t.pending = s.pending ∧ Safety.Replied t.m src seq 0x74 OK [] ∧
      t.m.spr = { m.spr with plans := m.spr.plans ++ [{ e := p + 3, g := g, kind := 2 }] } ∧ t.m.sprSt (spareOf (p + 3)) = 1 ∧
      t.m.sprFor (spareOf (p + 3)) = classIdx (p + 3) ∧ Safety.KeepsRegs m t.m [R.SPR_STAT.idx 0 0] ∧
      { t.m with reg := m.reg, link := m.link, spr := m.spr } = m) ∧
  (∀ (s : State) (src seq p : Nat) (pl : List Byte) (m : Mach), Safety.MayRun s.m src 2 true → m = Safety.Taken s.m src seq 0x74 pl → pl.length = 12 →
    fieldAt pl 0 1 = 1 → fieldAt pl 1 1 = 0 → p = fieldAt pl 2 2 → 14 ≤ p → p ≤ 30 → m.inGap = false → m.updArmed = false →
    m.g F.ADC_SLICE_STAT_STATE (p - 14) = 0 → m.spareSlice < 17 → m.adc.worn = [] →
    ∃ t, exec (.sprGraft src seq pl) s = .next t ∧ t.pending = s.pending ∧ Safety.Replied t.m src seq 0x74 OK [] ∧
      t.m.adc = { m.adc with worn := [(p - 14, 2)] } ∧ { t.m with link := m.link, adc := m.adc } = m) ∧
  (∀ (s : State) (src seq l : Nat) (pl : List Byte) (m : Mach), Safety.MayRun s.m src 2 true → m = Safety.Taken s.m src seq 0x74 pl → pl.length = 12 →
    fieldAt pl 0 1 = 2 → fieldAt pl 1 1 = 0 → fieldAt pl 2 2 = 31 + l → l < 4 → m.inGap = false → m.updArmed = false →
    m.laneOn l = true → m.laneSpare = true → m.bar.graftPend = none →
    ∃ t, exec (.sprGraft src seq pl) s = .next t ∧ t.pending = s.pending ∧ Safety.Replied t.m src seq 0x74 OK [] ∧
      t.m.laneOn l = false ∧ t.m.laneOn 4 = true ∧ t.m.g F.DEV_BAR_STAT_SPARE_FOR = l ∧ t.m.bar.graftPend = none ∧ t.m.g F.SPR_PART_STATE 35 = 2 ∧
      t.m.g F.SPR_PART_FOR 35 = 31 + l ∧ t.m.g F.SPR_PART_STATE (31 + l) = 3 ∧ t.m.g F.SPR_LOG_KIND = 2 ∧
      Safety.KeepsRegs m t.m [R.DEV_BAR_STAT.idx 0 0, R.SPR_PART.idx 35 0, R.SPR_PART.idx (31 + l) 0, R.SPR_LOG.idx 0 0] ∧
      { t.m with reg := m.reg, link := m.link, bar := m.bar, sets := m.sets } = m) ∧
  (∀ (s : State) (src seq row sp : Nat) (pl : List Byte) (m : Mach), Safety.MayRun s.m src 2 true → m = Safety.Taken s.m src seq 0x74 pl → pl.length = 12 →
    fieldAt pl 0 1 = 3 → fieldAt pl 1 1 = 0 → row = fieldAt pl 2 2 → row < 8192 → m.inGap = false → m.updArmed = false → m.mem.copying row = false →
    (∀ r ∈ m.mem.remap, r.1 ≠ row) → m.g F.MEM_BANK_STAT_SPARE_FREE (row / 2048) ≠ 0 → m.mem.freeSpare (row / 2048) = some sp →
    ∃ t, exec (.sprGraft src seq pl) s = .next t ∧ t.pending = s.pending ∧ Safety.Replied t.m src seq 0x74 OK [] ∧
      t.m.mem = { m.mem with copies := m.mem.copies ++ [(row, sp, 4)] } ∧
      t.m.g F.MEM_BANK_STAT_SPARE_FREE (row / 2048) = m.g F.MEM_BANK_STAT_SPARE_FREE (row / 2048) - 1 ∧
      Safety.KeepsRegs m t.m [R.MEM_BANK_STAT.idx (row / 2048) 0] ∧ { t.m with reg := m.reg, link := m.link, mem := m.mem } = m) ∧
  (∀ (s : State) (src seq p g e : Nat) (pl : List Byte) (m : Mach), Safety.MayRun s.m src 2 true → m = Safety.Taken s.m src seq 0x75 pl → pl.length = 10 →
    p = fieldAt pl 0 1 → fieldAt pl 1 1 = 0 → (p ≤ 7 ∨ 9 ≤ p ∧ p ≤ 12) → g = fieldAt pl 2 8 → m.frame + 16 ≤ g → m.inGap = false → m.updArmed = false → e = p + 3 →
    m.sprSt (spareOf e) = 2 → m.sprFor (spareOf e) = classIdx e → m.engRuns e = true → (∀ q ∈ m.spr.plans, q.e ≠ e) →
    ∃ t, exec (.sprRelease src seq pl) s = .next t ∧ t.pending = s.pending ∧ Safety.Replied t.m src seq 0x75 OK [] ∧
      t.m.spr = { m.spr with plans := m.spr.plans ++ [{ e := e, g := g, kind := 2, release := true }] } ∧ { t.m with link := m.link, spr := m.spr } = m)

/-- An update through its opcodes (R397 to R403, R411, R413). It says that these complete: updStatus, updBegin, updPut,
updVerify, updLoad, updArm, updDisarm, updCancel, updRollback, updRead, updKeySet. -/
def Obligations.UpdateOpcodes : Prop :=
  (∀ (s : State) (src seq : Nat) (m : Mach), Safety.MayRun s.m src 1 false → m = Safety.Taken s.m src seq 0x50 [] →
    ∃ t d, exec (.updStatus src seq []) s = .next t ∧ t.pending = s.pending ∧ Safety.Replied t.m src seq 0x50 OK d ∧ d.length = 44 ∧
      fieldAt d 0 4 = (m.w .UPD_STAT).toNat ∧ fieldAt d 4 4 = (m.w .UPD_MANID).toNat ∧ fieldAt d 28 4 = (m.w .UPD_ERR).toNat ∧
      fieldAt d 36 8 = m.updF ∧ { t.m with link := m.link } = m) ∧
  (∀ (s : State) (src seq st : Nat) (pl : List Byte) (m : Mach), Safety.MayRun s.m src 2 false → m = Safety.Taken s.m src seq 0x51 pl → pl.length = 8 →
    fieldAt pl 4 4 ≤ 134217728 → fieldAt pl 0 4 ≠ 0 → st = m.g F.UPD_STAT_STATE → st ≠ 3 → st ≠ 5 → st ≠ 6 →
    ∃ t, exec (.updBegin src seq pl) s = .next t ∧ t.pending = s.pending ∧ Safety.Replied t.m src seq 0x51 OK [] ∧ t.m.g F.UPD_STAT_STATE = 1 ∧
      t.m.g F.UPD_STAT_ACTCNT = m.g F.UPD_STAT_ACTCNT ∧ t.m.g F.UPD_MANID = fieldAt pl 0 4 ∧ t.m.g F.UPD_PROG = 0 ∧ t.m.upd.total = fieldAt pl 4 4 ∧
      t.m.upd.flash = [] ∧ t.m.upd.blocks = [] ∧ Safety.KeepsRegs m t.m [R.UPD_STAT.idx 0 0, R.UPD_MANID.idx 0 0, R.UPD_VER.idx 0 0, R.UPD_PROG.idx 0 0] ∧
      { t.m with reg := m.reg, link := m.link, upd := m.upd } = m) ∧
  (∀ (s : State) (src seq o n : Nat) (pl : List Byte) (m : Mach), Safety.MayRun s.m src 2 false → m = Safety.Taken s.m src seq 0x52 pl →
    o = fieldAt pl 4 4 → n = fieldAt pl 8 2 → 0 < n → n ≤ 2048 → pl.length = 16 + n → m.g F.UPD_STAT_STATE = 1 → fieldAt pl 0 4 = m.g F.UPD_MANID →
    o + n ≤ m.upd.total → o % 2048 = 0 → fieldAt pl 10 2 = 0 → fieldAt pl (12 + n) 4 = crc32c (sliceB pl 12 n) →
    ∃ t, exec (.updPut src seq pl) s = .next t ∧ t.pending = s.pending ∧ Safety.Replied t.m src seq 0x52 OK [] ∧
      t.m.upd.flash = cellsStore m.upd.flash o (sliceB pl 12 n) ∧ (min (o + 2048) m.upd.total ≤ o + n → o / 2048 ∈ t.m.upd.blocks) ∧
      (∀ k ∈ m.upd.blocks, k ∈ t.m.upd.blocks) ∧ Safety.KeepsRegs m t.m [R.UPD_PROG.idx 0 0] ∧ { t.m with reg := m.reg, link := m.link, upd := m.upd } = m) ∧
  (∀ (s : State) (src seq : Nat) (m : Mach), Safety.MayRun s.m src 2 false → m = Safety.Taken s.m src seq 0x53 [] → m.g F.UPD_STAT_STATE = 1 →
    m.upd.verify = false →
    ∃ t, exec (.updVerify src seq []) s = .next t ∧ t.pending = s.pending ∧ Safety.Replied t.m src seq 0x53 OK [] ∧ t.m.upd = { m.upd with verify := true } ∧
      t.m.g F.UPD_PROG = 0 ∧ Safety.KeepsRegs m t.m [R.UPD_PROG.idx 0 0] ∧ { t.m with reg := m.reg, link := m.link, upd := m.upd } = m) ∧
  (∀ (s : State) (src seq : Nat) (m : Mach), Safety.MayRun s.m src 2 false → m = Safety.Taken s.m src seq 0x54 [] → m.g F.UPD_STAT_STATE = 2 →
    (m.b F.UPD_STAT_SAFETY = false ∨ 3 ≤ s.m.roleOf src) →
    ∃ t, exec (.updLoad src seq []) s = .next t ∧ t.pending = s.pending ∧ Safety.Replied t.m src seq 0x54 OK [] ∧ t.m.g F.UPD_STAT_STATE = 3 ∧
      t.m.g F.UPD_PROG = 0 ∧ t.m.bar.msgs.take m.bar.msgs.length = m.bar.msgs ∧
      (t.m.bar.msgs.drop m.bar.msgs.length).map (fun x => (x.toField, x.typ, x.cells, x.body)) =
        [(true, tUPD, max 1 (ceilDiv m.upd.total 32), Body.upd m.upd.total)] ∧
      Safety.KeepsRegs m t.m [R.UPD_STAT.idx 0 0, R.UPD_PROG.idx 0 0] ∧ { t.m with reg := m.reg, link := m.link, bar := m.bar } = m) ∧
  (∀ (s : State) (src seq : Nat) (pl : List Byte) (m : Mach) (c : Instr) (op : Nat), Safety.MayRun s.m src 2 true → m = Safety.Taken s.m src seq op pl →
    (c, op) ∈ [(Instr.updLoad src seq pl, 0x54), (.updArm src seq pl, 0x55)] → m.b F.UPD_STAT_SAFETY = true → s.m.roleOf src < 3 →
    ∃ t, exec c s = .next t ∧ t.pending = s.pending ∧ Safety.Replied t.m src seq op ROLE [] ∧ { t.m with link := m.link } = m) ∧
  (∀ (s : State) (src seq f : Nat) (pl : List Byte) (m : Mach), Safety.MayRun s.m src 2 true → m = Safety.Taken s.m src seq 0x55 pl → pl.length = 8 →
    f = fieldAt pl 0 8 → m.st ≠ stBOOT → (m.b F.UPD_STAT_SAFETY = false ∨ 3 ≤ s.m.roleOf src) → m.frame + 64 ≤ f → f ≤ m.frame + 4000000 →
    m.g F.UPD_STAT_STATE = 4 → m.changePending = false →
    ∃ t, exec (.updArm src seq pl) s = .next t ∧ t.pending = s.pending ∧ Safety.Replied t.m src seq 0x55 OK [] ∧ t.m.g F.UPD_STAT_STATE = 5 ∧ t.m.updF = f ∧
      (∀ e < 19, t.m.gb F.UPD_REQ_ENG e = m.inReq e) ∧      (m.log.recs.length < 24064 → Safety.Logged t.m 0x1103 (m.g F.UPD_MANID))) ∧
  (∀ (s : State) (src seq f : Nat) (pl : List Byte) (m : Mach), Safety.MayRun s.m src 2 false → m = Safety.Taken s.m src seq 0x55 pl → pl.length = 8 →
    f = fieldAt pl 0 8 → m.st = stBOOT → (m.b F.UPD_STAT_SAFETY = false ∨ 3 ≤ s.m.roleOf src) → m.g F.UPD_STAT_STATE = 4 → m.changePending = false →
    ∃ t, exec (.updArm src seq pl) s = .next t ∧ t.pending = s.pending ∧ Safety.Replied t.m src seq 0x55 OK [] ∧ t.m.g F.UPD_STAT_STATE = 6 ∧ t.m.updF = f ∧
      t.m.upd = { m.upd with go := true } ∧ { t.m with reg := m.reg, link := m.link, upd := m.upd } = m) ∧
  (∀ (s : State) (src seq : Nat) (m : Mach), Safety.MayRun s.m src 2 true → m = Safety.Taken s.m src seq 0x56 [] → m.g F.UPD_STAT_STATE = 5 →
    ∃ t, exec (.updDisarm src seq []) s = .next t ∧ t.pending = s.pending ∧ Safety.Replied t.m src seq 0x56 OK [] ∧ t.m.g F.UPD_STAT_STATE = 4 ∧
      t.m.updF = 0 ∧ t.m.g F.UPD_ERR_CODE = 10 ∧ t.m.g F.UPD_ERR_WHERE = 255 ∧ t.m.g F.UPD_REQ_ENG = 0 ∧ t.m.g F.UPD_READY_ENG = 0 ∧ t.m.upd = m.upd ∧
      (m.log.recs.length < 24064 → Safety.Logged t.m 0x1105 (t.m.w .UPD_ERR).toNat)) ∧
  (∀ (s : State) (src seq st : Nat) (m : Mach), Safety.MayRun s.m src 2 false → m = Safety.Taken s.m src seq 0x57 [] → st = m.g F.UPD_STAT_STATE →
    (st = 1 ∨ st = 2 ∨ st = 4) →
    ∃ t, exec (.updCancel src seq []) s = .next t ∧ t.pending = s.pending ∧ Safety.Replied t.m src seq 0x57 OK [] ∧ t.m.g F.UPD_STAT_STATE = 0 ∧
      t.m.g F.UPD_STAT_ACTCNT = m.g F.UPD_STAT_ACTCNT ∧ t.m.g F.UPD_MANID = 0 ∧ t.m.upd.total = 0 ∧ t.m.upd.flash = [] ∧
      Safety.KeepsRegs m t.m [R.UPD_STAT.idx 0 0, R.UPD_MANID.idx 0 0, R.UPD_VER.idx 0 0, R.UPD_PROG.idx 0 0] ∧
      { t.m with reg := m.reg, link := m.link, upd := m.upd } = m) ∧
  (∀ (s : State) (src seq f : Nat) (pl : List Byte) (m : Mach), Safety.MayRun s.m src 2 true → m = Safety.Taken s.m src seq 0x58 pl → pl.length = 8 →
    f = fieldAt pl 0 8 → m.frame + 64 ≤ f → f ≤ m.frame + 4000000 → m.g F.UPD_STAT_STATE = 0 →
    (m.slotState m.otherSlot = 1 ∨ m.slotState m.otherSlot = 2) → m.rollbackArea ≠ none → m.changePending = false → m.rollbackReads = true →
    ∃ t, exec (.updRollback src seq pl) s = .next t ∧ t.pending = s.pending ∧ Safety.Replied t.m src seq 0x58 OK [] ∧ t.m.g F.UPD_STAT_STATE = 3 ∧
      t.m.b F.UPD_STAT_ROLLBACK = true ∧ t.m.upd = { m.upd with want := f } ∧ t.m.w .UPD_MANID = Word.of (m.slotInfo m.otherSlot).manid ∧
      Safety.KeepsRegs m t.m [R.UPD_STAT.idx 0 0, R.UPD_MANID.idx 0 0, R.UPD_PROG.idx 0 0] ∧ { t.m with reg := m.reg, link := m.link, upd := m.upd } = m) ∧
  (∀ (s : State) (src seq o n : Nat) (pl : List Byte) (m : Mach), Safety.MayRun s.m src 1 false → m = Safety.Taken s.m src seq 0x59 pl → pl.length = 8 →
    o = fieldAt pl 0 4 → n = fieldAt pl 4 2 → 0 < n → n ≤ 4000 → fieldAt pl 6 2 = 0 → o + n ≤ m.upd.total →
    ∃ t, exec (.updRead src seq pl) s = .next t ∧ t.pending = s.pending ∧ Safety.Replied t.m src seq 0x59 OK (m.staged_ o n) ∧ { t.m with link := m.link } = m) ∧
  (∀ (s : State) (src seq : Nat) (pl b : List Byte) (m : Mach), Safety.MayRun s.m src 3 true → m = Safety.Taken s.m src seq 0x5A pl → pl.length = 32 →
    m.genInForce 7 = some b →
    ∃ t, exec (.updKeySet src seq pl) s = .next t ∧ t.pending = s.pending ∧ Safety.Replied t.m src seq 0x5A OK [] ∧
      t.m.key = (m.genRewrite 7 (b.take 24 ++ pl)).key ∧ { t.m with link := m.link, key := m.key } = m)

/-- The steps of an update that end by themselves (R398 to R410): verification, loading, readiness, activation, completion. It
says that these complete: verifyComplete, loadComplete, readinessCheck, activationGo, activation, hxBankChange,
updateCompletion, slotProven, inPlaceRelease. -/
def Obligations.UpdateRows : Prop :=
  (∀ (s : State) (m : Mach), s.m.hostUp = true → s.m.upd.verify = true → s.m.g F.UPD_STAT_STATE = 1 → s.m.parts.find? (fun p => p.fromImg) = none →
    m = { s.m with upd := { s.m.upd with verify := false, imgData := [] } } →
    ∃ t, exec .verifyComplete s = .next t ∧ t.pending = s.pending ∧ t.m.upd = m.upd ∧
      (∀ c w, m.verifyFails = some (c, w) → c < 256 → w < 256 → t.m.g F.UPD_STAT_STATE = 1 ∧ t.m.g F.UPD_ERR_CODE = c ∧ t.m.g F.UPD_ERR_WHERE = w ∧
        (m.log.recs.length < 24064 → Safety.Logged t.m 0x1101 (t.m.w .UPD_ERR).toNat)) ∧
      (m.verifyFails = none → t.m.g F.UPD_STAT_STATE = 2 ∧ t.m.b F.UPD_STAT_SAFETY = (m.part 0x13).isSome ∧ t.m.b F.UPD_STAT_CFGONLY = !m.fullBundle ∧
        t.m.g F.UPD_PROG = m.upd.total % 2 ^ 32 ∧ (m.log.recs.length < 24064 → Safety.Logged t.m 0x1100 (m.g F.UPD_MANID))) ∧
      Safety.KeepsRegs m t.m [R.UPD_STAT.idx 0 0, R.UPD_VER.idx 0 0, R.UPD_PROG.idx 0 0, R.UPD_ERR.idx 0 0, R.EV_LOST.idx 0 0, R.EV_STAT.idx 0 0] ∧
      { t.m with reg := m.reg, log := m.log } = m) ∧
  (∀ (s : State), s.m.upd.verify = false → exec .verifyComplete s = .next s) ∧
  (∀ (s : State) (bad : List Nat) (ok : Bool), s.m.hostUp = true → s.m.g F.UPD_STAT_STATE = 3 → s.m.b F.UPD_STAT_ROLLBACK = false → s.m.fullBundle = false →
    ∃ t, exec (.loadComplete bad ok) s = .next t ∧ t.pending = s.pending ∧ t.m.g F.UPD_STAT_STATE = 4 ∧ t.m.b F.UPD_STAT_INPLACE = false ∧
      t.m.upd = { s.m.upd with inplace := [] } ∧ t.m.spr = s.m.spr ∧ t.m.g F.UPD_SHADOW_ENG = s.m.g F.UPD_SHADOW_ENG ∧
      (s.m.log.recs.length < 24064 → Safety.Logged t.m 0x1102 (s.m.g F.UPD_MANID))) ∧
  (∀ (s : State) (bad : List Nat), s.m.hostUp = true → s.m.g F.UPD_STAT_STATE = 3 → s.m.b F.UPD_STAT_ROLLBACK = false → s.m.fullBundle = true →
    ∃ t, exec (.loadComplete bad false) s = .next t ∧ t.pending = s.pending ∧ t.m.g F.UPD_STAT_STATE = 2 ∧ t.m.g F.UPD_ERR_CODE = 7 ∧
      t.m.g F.UPD_ERR_WHERE = 255 ∧ t.m.upd = s.m.upd ∧ t.m.mem = s.m.mem) ∧
  (∀ (s : State) (bad : List Nat) (ok : Bool), s.m.g F.UPD_STAT_STATE ≠ 3 → exec (.loadComplete bad ok) s = .next s) ∧
  (∀ (s : State), s.m.ticking = true → s.m.frame + 16 = s.m.updF → s.m.g F.UPD_STAT_STATE = 5 →
    ∃ t, exec .readinessCheck s = .next t ∧ t.pending = s.pending ∧
      ((∀ e < 19, bit s.m.reqNow e = true → bit s.m.readyNow e = true) → t.m.g F.UPD_STAT_STATE = 5 ∧ t.m.updF = s.m.updF ∧
        t.m.g F.UPD_REQ_ENG = s.m.reqNow % 2 ^ 19 ∧ t.m.g F.UPD_READY_ENG = s.m.readyNow % 2 ^ 19 ∧ t.m.upd = s.m.upd) ∧
      ((∃ e < 19, bit s.m.reqNow e = true ∧ bit s.m.readyNow e = false) → t.m.g F.UPD_STAT_STATE = 4 ∧ t.m.updF = 0 ∧ t.m.g F.UPD_ERR_CODE = 8)) ∧
  (∀ (s : State), s.m.ticking = true → s.m.frame + 1 = s.m.updF → s.m.g F.UPD_STAT_STATE = 5 →
    ∃ t, exec .activationGo s = .next t ∧ t.pending = s.pending ∧
      ((∀ e < 19, bit s.m.reqNow e = true → bit s.m.readyNow e = true ∧ s.m.gb F.UPD_READY_ENG e = true) →
        t.m.g F.UPD_STAT_STATE = 6 ∧ t.m.upd = { s.m.upd with go := true, hx := true } ∧ t.m.updF = s.m.updF) ∧
      ((∃ e < 19, bit s.m.reqNow e = true ∧ bit s.m.readyNow e = false) → t.m.g F.UPD_STAT_STATE = 4 ∧ t.m.updF = 0 ∧ t.m.g F.UPD_ERR_CODE = 9 ∧
        t.m.upd = s.m.upd)) ∧
  (∀ (s : State), (s.m.ticking = false ∨ s.m.updF ≤ s.m.frame) → exec .readinessCheck s = .next s ∧ exec .activationGo s = .next s) ∧
  (∀ (s : State), s.m.ticking = true → s.m.upd.newScan = false → s.m.upd.go = true → s.m.frame = s.m.updF →
    ∃ t, exec .activation s = .next t ∧ t.pending = s.pending ∧
      (∀ b, s.m.nextGen = some b → ∀ p, s.m.nextMach = some p → t.m.upd.newScan = true ∧ t.m.upd.img = some p.2 ∧
        t.m.upd.machs = machsOf ((genSect b 2).getD []) ∧ t.m.upd.go = true ∧ t.m.mem.mpu = p.1.mem.mpu ∧
        t.m.g F.UPD_STAT_ACTCNT = satInc 65535 (s.m.g F.UPD_STAT_ACTCNT)) ∧
      ((s.m.nextGen = none ∨ s.m.nextMach = none) → t = s)) ∧
  (∀ (s : State), s.m.upd.go = false → exec .activation s = .next s) ∧
  (∀ (s : State), exec .hxBankChange s = .next { s with m := { s.m with upd := { s.m.upd with hx := false } } }) ∧
  (∀ (s : State) (p : StartIn), s.m.upd.go = true → s.m.st ≠ stBOOT → s.m.ticking = true → s.m.updF ≤ s.m.frame →
    ∃ t, exec (.updateCompletion p) s = .next t ∧ t.pending = s.pending ∧ t.m.g F.UPD_STAT_STATE = 0 ∧ t.m.b F.UPD_STAT_SAFETY = false ∧
      t.m.b F.UPD_STAT_CFGONLY = false ∧ t.m.b F.UPD_STAT_ROLLBACK = false ∧ t.m.g F.UPD_MANID = 0 ∧ t.m.updF = 0 ∧ t.m.q .UPD_LASTF_LO = s.m.updF ∧
      t.m.upd.go = false ∧ t.m.upd.flash = [] ∧ t.m.upd.total = 0) ∧
  (∀ (s : State) (p : StartIn), s.m.upd.go = false → exec (.updateCompletion p) s = .next s) ∧
  (∀ (s : State) (k : Nat), s.m.ticking = true → s.m.upd.since + dayCycles ≤ s.m.now → k = s.m.g F.DEV_FW_SLOT → s.m.slotState k = 2 →
    ∃ t, exec .slotProven s = .next t ∧ t.pending = s.pending ∧ t.m.slotState k = 1 ∧ t.m.slotState (1 - k) = s.m.slotState (1 - k) ∧
      (s.m.hostUp = true → s.m.log.recs.length < 24064 → Safety.Logged t.m 0x1109 k) ∧
      Safety.KeepsRegs s.m t.m [R.UPD_BOOT.idx 0 0, R.EV_LOST.idx 0 0, R.EV_STAT.idx 0 0] ∧ { t.m with reg := s.m.reg, log := s.m.log } = s.m) ∧
  (∀ (s : State), s.m.now < s.m.upd.since + dayCycles → exec .slotProven s = .next s) ∧
  (∀ (s : State) (e : Nat), s.m.upd.go = false → s.m.ticking = true → s.m.upd.inplace.any (fun p => p.1 == e) = true →
    ∃ t, exec (.inPlaceRelease e) s = .next t ∧ t.pending = s.pending ∧ t.m.upd = { s.m.upd with inplace := s.m.upd.inplace.filter (fun p => p.1 != e) } ∧
      t.m.spr = { s.m.spr with plans := s.m.spr.plans ++ [{ e := e, g := s.m.frame + 16, kind := 3, release := true }] } ∧
      t.m.b F.UPD_STAT_INPLACE = !(s.m.upd.inplace.filter (fun p => p.1 != e)).isEmpty ∧
      { t.m with reg := s.m.reg, upd := s.m.upd, spr := s.m.spr, log := s.m.log } = s.m) ∧
  (∀ (s : State) (e : Nat), s.m.upd.inplace.any (fun p => p.1 == e) = false → exec (.inPlaceRelease e) s = .next s)

/-- Power (R417 to R431): both domains powering up, the loss of each one's supply, the journal, and the return to RESET. It says
that these complete: lfPowerUp, runningTimeout, hvPowerUp, powerFail, journalWriteComplete, powerRecovery, hostPowerLoss. -/
def Obligations.PowerRows : Prop :=
  (∀ (s : State) (p : StartIn), s.m.st = stRESET → ∃ t, exec (.lfPowerUp p) s = .next t ∧ t.pending = s.pending ∧ t.m.bar.running = true ∧
    (t.m.st = stBOOT ∨ t.m.st = stFIELD_START)) ∧
  (∀ (s : State) (p : StartIn), s.m.st = stRESET → idValid (s.m.keyBytes 0 64) = false → idValid (s.m.keyBytes 0x100 64) = false →
    ∃ t, exec (.lfPowerUp p) s = .next t ∧ t.pending = s.pending ∧ t.m.st = stBOOT ∧ t.m.w .DEV_ADDR = 0x3FF ∧ t.m.b F.DEV_STATE_KEY_OK = false ∧
      t.m.b F.PWR_STAT_LFOK = true ∧ t.m.b F.PWR_STAT_HOLDUP = true ∧ t.m.bar.running = true ∧ t.m.key = s.m.key ∧ t.m.log = s.m.log ∧ t.m.led = s.m.led) ∧
  (∀ (s : State) (p : StartIn), s.m.st ≠ stRESET → exec (.lfPowerUp p) s = .next s) ∧
  (∀ (s : State) (p : StartIn), s.m.st = stFIELD_START → s.m.pow.late = false → s.m.slotState (s.m.g F.DEV_FW_SLOT) ≠ 2 →
    ∃ t e, exec (.runningTimeout p) s = .next t ∧ t.pending = s.pending ∧ t.m.pow = { s.m.pow with late := true } ∧ t.m.bar.evq = s.m.bar.evq ++ [e] ∧
      e.code = 0x1200 ∧ e.arg0 = s.m.g F.DEV_FW_SLOT ∧ e.arg1 = 0xFFFFFFFF ∧ { t.m with pow := s.m.pow, bar := s.m.bar } = s.m) ∧
  (∀ (s : State) (p : StartIn), (s.m.st ≠ stFIELD_START ∨ s.m.pow.late = true) → exec (.runningTimeout p) s = .next s) ∧
  (∀ (s : State), s.m.pow.hst = 0 → s.m.st = stRESET → s.m.led.calValid = true →
    ∃ t, exec (.hvPowerUp false) s = .next t ∧ t.pending = s.pending ∧ t.m.pow = { s.m.pow with hst := 2, passed := false, ledDue := true } ∧
      t.m.hostUp = true ∧ t.m.led = { s.m.led with mirrSince := 0, mirrT := 0, mirrBusy := false } ∧ t.m.roleFails = [] ∧ t.m.lockouts = [] ∧
      t.m.bar = { s.m.bar with hostTim := none } ∧
      { t.m with reg := s.m.reg, led := s.m.led, pow := s.m.pow, bar := s.m.bar, roleFails := s.m.roleFails, lockouts := s.m.lockouts } = s.m) ∧
  (∀ (s : State), s.m.pow.hst = 0 → s.m.st = stRESET → s.m.log.recs.length < 24064 →
    ∃ t, exec (.hvPowerUp true) s = .next t ∧ t.pending = s.pending ∧ t.m.hostUp = true ∧ t.m.led = {} ∧ t.m.pow.calLost = true ∧
      Safety.Logged t.m 0x0009 (openArg 9 0)) ∧
  (∀ (s : State) (lost : Bool), s.m.pow.hst ≠ 0 → exec (.hvPowerUp lost) s = .next s) ∧
  (∀ (s : State) (c cause lf : Nat), s.m.st ≠ stRESET → s.m.st ≠ stPOWER_FAIL → s.m.pow.shut = none →
    ∃ t, exec (.powerFail c cause lf) s = .next t ∧ t.pending = s.pending ∧ t.m.st = stPOWER_FAIL ∧
      t.m.pow.cause = (if s.m.b F.PWR_STAT_SHUTOK then 3 else if cause = 2 then 2 else 1) ∧ t.m.pow.entry.2 = lf % 65536 ∧ t.m.sp.keyWrite = none ∧
      (∀ i < 96, t.m.drv i = false) ∧ (∀ k < 8, (t.m.pair k).cmd = false) ∧ (∀ k < 4, t.m.g F.CB_STAT_MODE k = 0) ∧
      (∀ g < 12, (s.m.grp g).used = true → t.m.g F.PWM_GRP_STAT_STATE g = 2 ∧ t.m.b F.PWM_GRP_STAT_ENOUT g = false) ∧ t.m.key = s.m.key ∧
      t.m.log = s.m.log ∧ t.m.led = s.m.led) ∧
  (∀ (s : State) (c cause lf : Nat), (s.m.st = stRESET ∨ s.m.st = stPOWER_FAIL) → exec (.powerFail c cause lf) s = .next s) ∧
  (∀ (s : State), s.m.st = stPOWER_FAIL → s.m.pow.cause ≠ 0 → journalOk (s.m.journalCopy 0) = false → journalOk (s.m.journalCopy 1) = false →
    ∃ t, exec .journalWriteComplete s = .next t ∧ t.pending = s.pending ∧ t.m.pow = { s.m.pow with cause := 0 } ∧
      t.m.key = (s.m.keyStore 0x6F000 (s.m.journalBytes s.m.pow.cause 1 s.m.pow.entry.1 s.m.pow.entry.2 s.m.evsPending)).key ∧
      { t.m with pow := s.m.pow, key := s.m.key } = s.m) ∧
  (∀ (s : State), (s.m.st ≠ stPOWER_FAIL ∨ s.m.pow.cause = 0) → exec .journalWriteComplete s = .next s) ∧
  (∀ (s : State), s.m.st = stPOWER_FAIL → s.m.pow.cause = 0 → ∃ t, exec .powerRecovery s = .next t ∧ t.pending = s.pending ∧ t.m.st = stRESET ∧
    t.m.ticking = false ∧ t.m.key = s.m.key ∧ t.m.log = s.m.log ∧ t.m.led = s.m.led ∧ t.m.bar.evq = [] ∧ t.m.mem.remap = s.m.mem.remap ∧
    t.m.pow.hst = s.m.pow.hst) ∧
  (∀ (s : State), (s.m.st ≠ stPOWER_FAIL ∨ s.m.pow.cause ≠ 0) → exec .powerRecovery s = .next s) ∧
  (∀ (s : State), s.m.pow.hst ≠ 0 → s.m.g F.UPD_STAT_STATE = 0 → ∃ t, exec .hostPowerLoss s = .next t ∧ t.pending = s.pending ∧ t.m.hostUp = false ∧
    t.m.gb F.DEV_ENG_RUN_RUN 18 = false ∧ (∀ j < 32, t.m.b F.ZL_SESS_VALID j = false) ∧ t.m.link.accepted = [] ∧ t.m.link.cache = [] ∧
    t.m.aq.live = [] ∧ t.m.aq.hist = [] ∧ t.m.aq.queue = s.m.aq.queue ∧ t.m.mem = s.m.mem ∧ t.m.trm = s.m.trm ∧ t.m.frame = s.m.frame) ∧
  (∀ (s : State), s.m.pow.hst = 0 → exec .hostPowerLoss s = .next s)
end

