-- ==== Sys2Proof/Laws/Bits.lean ====
section
/-! SUPPORT. Bit fields and byte order: what a field reads after a field was written, and numbers as bytes. -/

namespace Sys2Proof.Machine

open Sys2Proof

/-- The three parts of a number around a field [hi:lo]. -/
theorem split3 (n lo k : Nat) :
    n = 2 ^ (lo + k) * (n / 2 ^ (lo + k)) + (2 ^ lo * (n / 2 ^ lo % 2 ^ k) + n % 2 ^ lo) := by
  have h1 := Nat.div_add_mod n (2 ^ lo)
  have h2 := Nat.div_add_mod (n / 2 ^ lo) (2 ^ k)
  have h3 : n / 2 ^ lo / 2 ^ k = n / 2 ^ (lo + k) := by rw [Nat.div_div_eq_div_mul, ← Nat.pow_add]
  rw [h3] at h2
  have h4 : 2 ^ (lo + k) = 2 ^ lo * 2 ^ k := Nat.pow_add ..
  rw [h4, Nat.mul_assoc, ← Nat.add_assoc, ← Nat.mul_add, ← h4, h2, h1]

theorem getBits_eq (w : Word) (hi lo : Nat) : getBits w hi lo = w.toNat / 2 ^ lo % 2 ^ (hi + 1 - lo) := by
  simp [getBits, Nat.shiftRight_eq_div_pow]

theorem getBits_lt (w : Word) (hi lo : Nat) : getBits w hi lo < 2 ^ (hi + 1 - lo) :=
  Nat.mod_lt _ (Nat.two_pow_pos _)

/-- The bits of a word with a field replaced. -/
theorem setBits_testBit (w : Word) (hi lo v i : Nat) (hl : lo ≤ hi) (hh : hi < 32) :
    (setBits w hi lo v).toNat.testBit i =
      if i < lo then w.toNat.testBit i else if i ≤ hi then v.testBit (i - lo) else w.toNat.testBit i := by
  obtain ⟨k, rfl⟩ : ∃ k, hi = lo + k := ⟨hi - lo, by omega⟩
  have hk : lo + k + 1 - lo = k + 1 := by omega
  have hs := split3 w.toNat lo (k + 1)
  generalize hA : w.toNat / 2 ^ (lo + (k + 1)) = A at hs
  have hg : getBits w (lo + k) lo = w.toNat / 2 ^ lo % 2 ^ (k + 1) := by rw [getBits_eq, hk]
  generalize hG : w.toNat / 2 ^ lo % 2 ^ (k + 1) = G at hs hg
  generalize hR : w.toNat % 2 ^ lo = r at hs
  have hr : r < 2 ^ lo := by rw [← hR]; exact Nat.mod_lt _ (Nat.two_pow_pos _)
  have hv : v % 2 ^ (k + 1) < 2 ^ (k + 1) := Nat.mod_lt _ (Nat.two_pow_pos _)
  have hb : 2 ^ lo * (v % 2 ^ (k + 1)) + r < 2 ^ (lo + (k + 1)) := by
    rw [Nat.pow_add 2 lo (k + 1)]
    calc 2 ^ lo * (v % 2 ^ (k + 1)) + r < 2 ^ lo * (v % 2 ^ (k + 1)) + 2 ^ lo := by omega
      _ = 2 ^ lo * (v % 2 ^ (k + 1) + 1) := by rw [Nat.mul_add, Nat.mul_one]
      _ ≤ 2 ^ lo * 2 ^ (k + 1) := Nat.mul_le_mul_left _ hv
  have hnew : w.toNat - G * 2 ^ lo + v % 2 ^ (k + 1) * 2 ^ lo =
      2 ^ (lo + (k + 1)) * A + (2 ^ lo * (v % 2 ^ (k + 1)) + r) := by
    rw [Nat.mul_comm G, Nat.mul_comm _ (2 ^ lo)]; omega
  have hAlt : A < 2 ^ (32 - (lo + (k + 1))) := by
    rw [← hA]
    apply Nat.div_lt_of_lt_mul
    rw [← Nat.pow_add, Nat.add_sub_cancel' (by omega)]
    exact w.isLt
  have hlt : 2 ^ (lo + (k + 1)) * A + (2 ^ lo * (v % 2 ^ (k + 1)) + r) < 2 ^ 32 := by
    calc 2 ^ (lo + (k + 1)) * A + (2 ^ lo * (v % 2 ^ (k + 1)) + r)
        < 2 ^ (lo + (k + 1)) * A + 2 ^ (lo + (k + 1)) := by omega
      _ = 2 ^ (lo + (k + 1)) * (A + 1) := by rw [Nat.mul_add, Nat.mul_one]
      _ ≤ 2 ^ (lo + (k + 1)) * 2 ^ (32 - (lo + (k + 1))) := Nat.mul_le_mul_left _ hAlt
      _ = 2 ^ 32 := by rw [← Nat.pow_add, Nat.add_sub_cancel' (by omega)]
  have hW : (setBits w (lo + k) lo v).toNat = 2 ^ (lo + (k + 1)) * A + (2 ^ lo * (v % 2 ^ (k + 1)) + r) := by
    simp only [setBits, hk, hg, hnew, Word.of, BitVec.toNat_ofNat]
    exact Nat.mod_eq_of_lt hlt
  have hgl : 2 ^ lo * G + r < 2 ^ (lo + (k + 1)) := by
    have hG2 : G < 2 ^ (k + 1) := by rw [← hG]; exact Nat.mod_lt _ (Nat.two_pow_pos _)
    rw [Nat.pow_add 2 lo (k + 1)]
    calc 2 ^ lo * G + r < 2 ^ lo * G + 2 ^ lo := by omega
      _ = 2 ^ lo * (G + 1) := by rw [Nat.mul_add, Nat.mul_one]
      _ ≤ 2 ^ lo * 2 ^ (k + 1) := Nat.mul_le_mul_left _ hG2
  rw [hW, Nat.testBit_two_pow_mul_add _ hb]
  conv => rhs; rw [hs]
  rw [Nat.testBit_two_pow_mul_add _ hgl, Nat.testBit_two_pow_mul_add _ hr, Nat.testBit_two_pow_mul_add _ hr]
  by_cases h1 : i < lo
  · simp [h1, show i < lo + (k + 1) by omega]
  · by_cases h2 : i ≤ lo + k
    · have h3 : i < lo + (k + 1) := by omega
      have h4 : i - lo < k + 1 := by omega
      simp [h1, h2, h3, h4, Nat.testBit_mod_two_pow]
    · have h3 : ¬ i < lo + (k + 1) := by omega
      simp [h1, h2, h3]

/-- Reading the field written gives the low bits of the value. -/
theorem getBits_setBits_same (w : Word) (hi lo v : Nat) (hl : lo ≤ hi) (hh : hi < 32) :
    getBits (setBits w hi lo v) hi lo = v % 2 ^ (hi + 1 - lo) := by
  apply Nat.eq_of_testBit_eq
  intro i
  simp only [getBits, Nat.testBit_mod_two_pow, Nat.testBit_shiftRight, setBits_testBit w hi lo v _ hl hh]
  by_cases h : i < hi + 1 - lo
  · simp [h, show ¬ lo + i < lo by omega, show lo + i ≤ hi by omega]
  · simp [h]

/-- Reading a field that does not overlap gives what it gave before. -/
theorem getBits_setBits_ne (w : Word) (hi lo v hi' lo' : Nat) (hl : lo ≤ hi) (hh : hi < 32)
    (hd : hi' < lo ∨ hi < lo') : getBits (setBits w hi lo v) hi' lo' = getBits w hi' lo' := by
  apply Nat.eq_of_testBit_eq
  intro i
  simp only [getBits, Nat.testBit_mod_two_pow, Nat.testBit_shiftRight, setBits_testBit w hi lo v _ hl hh]
  by_cases h : i < hi' + 1 - lo'
  · rcases hd with hd | hd
    · simp [show lo' + i < lo by omega]
    · have h1 : ¬ lo' + i < lo := by omega
      have h2 : ¬ lo' + i ≤ hi := by omega
      simp [h1, h2]
  · simp [h]

theorem leBytes_length (k v : Nat) : (leBytes k v).length = k := by
  induction k generalizing v with
  | zero => rfl
  | succ k ih => simp [leBytes, ih]

/-- A number below 256^k is read back from its k bytes. -/
theorem leVal_leBytes (k v : Nat) (h : v < 256 ^ k) : leVal (leBytes k v) = v := by
  induction k generalizing v with
  | zero => simp [leBytes, leVal] at *; omega
  | succ k ih =>
    have h2 : v / 256 < 256 ^ k := by
      apply Nat.div_lt_of_lt_mul
      rw [Nat.pow_succ, Nat.mul_comm] at h
      exact h
    simp only [leBytes, leVal, ih _ h2, Byte.of, BitVec.toNat_ofNat]
    omega

/-- The model's bit test is the library's. -/
theorem bit_eq (n i : Nat) : bit n i = n.testBit i := by
  simp only [bit, Nat.testBit_eq_decide_div_mod_eq, Nat.shiftRight_eq_div_pow]; rfl
/-- Adding an even number's missing last bit, or taking an odd number's, changes no other bit. -/
theorem testBit_flip (q q' k : Nat) (h : q' / 2 = q / 2) : q'.testBit (k + 1) = q.testBit (k + 1) := by
  rw [Nat.testBit_succ, Nat.testBit_succ, h]
/-- The bits of a number in which one bit was set or cleared. -/
theorem setBit_testBit (n i : Nat) (b : Bool) (j : Nat) : (setBit n i b).testBit j = if j = i then b else n.testBit j := by
  have hp : 0 < 2 ^ i := Nat.two_pow_pos i
  have hn : n = 2 ^ i * (n / 2 ^ i) + n % 2 ^ i := (Nat.div_add_mod n (2 ^ i)).symm
  have hr : n % 2 ^ i < 2 ^ i := Nat.mod_lt _ hp
  have key : ∀ q', q' / 2 = n / 2 ^ i / 2 → (2 ^ i * q' + n % 2 ^ i).testBit j = if j = i then decide (q' % 2 = 1) else n.testBit j := by
    intro q' hq
    rw [Nat.testBit_two_pow_mul_add _ hr]
    by_cases h1 : j < i
    · have e : n.testBit j = (n % 2 ^ i).testBit j := by simp [Nat.testBit_mod_two_pow, h1]
      rw [if_pos h1, if_neg (Nat.ne_of_lt h1), e]
    · by_cases h2 : j = i
      · subst h2; simp [Nat.testBit_zero]
      · obtain ⟨k, hk⟩ : ∃ k, j - i = k + 1 := ⟨j - i - 1, by omega⟩
        have hj : j = i + (k + 1) := by omega
        rw [if_neg h1, if_neg h2, hk, testBit_flip _ _ _ hq, hj, Nat.testBit_div_two_pow]
        congr 1; omega
  have hb : bit n i = decide (n / 2 ^ i % 2 = 1) := by rw [bit_eq, Nat.testBit_eq_decide_div_mod_eq]
  have hz : n / 2 ^ i % 2 = 1 → 1 ≤ n / 2 ^ i := by
    intro h
    rcases Nat.eq_zero_or_pos (n / 2 ^ i) with h0 | h0
    · rw [h0] at h; simp at h
    · exact h0
  unfold setBit
  by_cases h : n / 2 ^ i % 2 = 1 <;> cases b <;> simp only [hb, h, decide_true, decide_false, if_true, if_false, Bool.false_eq_true]
  · have : n - 2 ^ i = 2 ^ i * (n / 2 ^ i - 1) + n % 2 ^ i := by
      have := hz h
      rw [Nat.mul_sub, Nat.mul_one]
      have h3 : 2 ^ i ≤ 2 ^ i * (n / 2 ^ i) := Nat.le_mul_of_pos_right _ this
      omega
    rw [this, key _ (by omega)]
    have : ¬ (n / 2 ^ i - 1) % 2 = 1 := by omega
    simp [this]
  · have := key _ rfl
    rw [← hn] at this; rw [this]; simp [h]
  · have := key _ rfl
    rw [← hn] at this; rw [this]; simp [h]
  · have e : n + 2 ^ i = 2 ^ i * (n / 2 ^ i + 1) + n % 2 ^ i := by rw [Nat.mul_add, Nat.mul_one]; omega
    rw [e, key _ (by omega)]
    have : (n / 2 ^ i + 1) % 2 = 1 := by omega
    simp [this]

theorem bit_setBit_same (n i : Nat) (b : Bool) : bit (setBit n i b) i = b := by simp [bit_eq, setBit_testBit]
theorem bit_setBit_ne (n i j : Nat) (b : Bool) (h : j ≠ i) : bit (setBit n i b) j = bit n j := by simp [bit_eq, setBit_testBit, h]
theorem bit_mod (n w k : Nat) (h : k < w) : bit (n % 2 ^ w) k = bit n k := by simp [bit_eq, Nat.testBit_mod_two_pow, h]
theorem b2n_bit0 (b : Bool) : bit (b2n b) 0 = b := by cases b <;> rfl

end Sys2Proof.Machine
end

