-- ==== Sys2Proof/Laws/Blocks.lean ====
section
/-! SUPPORT. What the evaluation of one block instance leaves, once for each number of outputs, and what writing an operand
changes (R257, R266). -/

namespace Sys2Proof.Machine

open Sys2Proof

/-- A command that evaluates an instance of the right TYPE answers what its evaluation leaves. -/
theorem exec_block {i : Instr} {s : State} {im : Image} {ip : InImg} {inst typ : Nat} {b : Blk} {f : BCtx → BCtx} {m : Mach}
    (h : Safety.BlockAt s.m im ip inst b typ) (e : exec i s = .next { s with m := s.m.evalOne typ inst f })
    (g : s.m.evalBlk im ip inst b f = m) : exec i s = .next { s with m := m } := by
  obtain ⟨h1, h2, h3, h4, h5⟩ := h
  rw [e]; simp only [Mach.evalOne, h1, h2, h3, h4, if_true, g]

@[simp] theorem BCtx.out_scan (c : BCtx) (j : Nat) (v : Int) :
    (c.out j v).m.scan = c.m.scan.put (nth c.b.ops (c.ni + j) 0) v := rfl
@[simp] theorem BCtx.out_st (c : BCtx) (j : Nat) (v : Int) : (c.out j v).st = c.st := rfl
@[simp] theorem BCtx.out_b (c : BCtx) (j : Nat) (v : Int) : (c.out j v).b = c.b := rfl
@[simp] theorem BCtx.out_ni (c : BCtx) (j : Nat) (v : Int) : (c.out j v).ni = c.ni := rfl
theorem BCtx.out_m (c : BCtx) (j : Nat) (v : Int) :
    (c.out j v).m = { c.m with scan := c.m.scan.put (nth c.b.ops (c.ni + j) 0) v } := rfl

/-- The machine that an evaluation ends in, from the context after the block function. -/
def BCtx.closed (c : BCtx) (k : Nat) (f : Nat) : Mach :=
  { c.m with scan := { c.m.scan with bst := smPut (fun _ => ({} : BSt)) c.m.scan.bst k { c.st with seen := true, fprev := f } } }

theorem Mach.evalBlk_closed (m : Mach) (im : Image) (ip : InImg) (k : Nat) (b : Blk) (f : BCtx → BCtx) :
    m.evalBlk im ip k b f = (f (m.blkCtx im ip k b)).closed k ip.f := rfl

theorem closed_out0 (c : BCtx) (st : BSt) : BCtx.closed ({ c with st := st } : BCtx) c.k c.ip.f = Safety.Evaluated c [] st := by
  simp only [BCtx.closed, Safety.Evaluated]
  rfl

theorem closed_out1 (c : BCtx) (st : BSt) (v : Int) : BCtx.closed (({ c with st := st } : BCtx).out 0 v) c.k c.ip.f = Safety.Evaluated c [v] st := by
  simp only [BCtx.closed, BCtx.out_m, Safety.Evaluated]
  rfl

theorem closed_out2 (c : BCtx) (st : BSt) (v w : Int) : BCtx.closed ((({ c with st := st } : BCtx).out 0 v).out 1 w) c.k c.ip.f = Safety.Evaluated c [v, w] st := by
  simp only [BCtx.closed, BCtx.out_m, Safety.Evaluated]
  rfl

theorem closed_out3 (c : BCtx) (st : BSt) (v w x : Int) : BCtx.closed (((({ c with st := st } : BCtx).out 0 v).out 1 w).out 2 x) c.k c.ip.f = Safety.Evaluated c [v, w, x] st := by
  simp only [BCtx.closed, BCtx.out_m, Safety.Evaluated]
  rfl

theorem closed_out4 (c : BCtx) (st : BSt) (v w x y : Int) : BCtx.closed ((((({ c with st := st } : BCtx).out 0 v).out 1 w).out 2 x).out 3 y) c.k c.ip.f = Safety.Evaluated c [v, w, x, y] st := by
  simp only [BCtx.closed, BCtx.out_m, Safety.Evaluated]
  rfl

/-- A block that writes no output. -/
theorem evalBlk_out0 (m : Mach) (im : Image) (ip : InImg) (k : Nat) (b : Blk) (f : BCtx → BCtx) (st : BSt)
    (h : f (m.blkCtx im ip k b) = ({ m.blkCtx im ip k b with st := st } : BCtx)) :
    m.evalBlk im ip k b f = Safety.Evaluated (m.blkCtx im ip k b) [] st := by
  rw [Mach.evalBlk_closed, h]; exact closed_out0 (m.blkCtx im ip k b) st

/-- A block that writes one output. -/
theorem evalBlk_out1 (m : Mach) (im : Image) (ip : InImg) (k : Nat) (b : Blk) (f : BCtx → BCtx) (st : BSt) (v : Int)
    (h : f (m.blkCtx im ip k b) = (({ m.blkCtx im ip k b with st := st } : BCtx).out 0 v)) :
    m.evalBlk im ip k b f = Safety.Evaluated (m.blkCtx im ip k b) [v] st := by
  rw [Mach.evalBlk_closed, h]; exact closed_out1 (m.blkCtx im ip k b) st v

/-- A block that writes two outputs. -/
theorem evalBlk_out2 (m : Mach) (im : Image) (ip : InImg) (k : Nat) (b : Blk) (f : BCtx → BCtx) (st : BSt) (v w : Int)
    (h : f (m.blkCtx im ip k b) = ((({ m.blkCtx im ip k b with st := st } : BCtx).out 0 v).out 1 w)) :
    m.evalBlk im ip k b f = Safety.Evaluated (m.blkCtx im ip k b) [v, w] st := by
  rw [Mach.evalBlk_closed, h]; exact closed_out2 (m.blkCtx im ip k b) st v w

/-- A block that writes three outputs. -/
theorem evalBlk_out3 (m : Mach) (im : Image) (ip : InImg) (k : Nat) (b : Blk) (f : BCtx → BCtx) (st : BSt) (v w x : Int)
    (h : f (m.blkCtx im ip k b) = (((({ m.blkCtx im ip k b with st := st } : BCtx).out 0 v).out 1 w).out 2 x)) :
    m.evalBlk im ip k b f = Safety.Evaluated (m.blkCtx im ip k b) [v, w, x] st := by
  rw [Mach.evalBlk_closed, h]; exact closed_out3 (m.blkCtx im ip k b) st v w x

/-- A block that writes four outputs. -/
theorem evalBlk_out4 (m : Mach) (im : Image) (ip : InImg) (k : Nat) (b : Blk) (f : BCtx → BCtx) (st : BSt) (v w x y : Int)
    (h : f (m.blkCtx im ip k b) = ((((({ m.blkCtx im ip k b with st := st } : BCtx).out 0 v).out 1 w).out 2 x).out 3 y)) :
    m.evalBlk im ip k b f = Safety.Evaluated (m.blkCtx im ip k b) [v, w, x, y] st := by
  rw [Mach.evalBlk_closed, h]; exact closed_out4 (m.blkCtx im ip k b) st v w x y

/-- An output word written is the word, its low 32 bits as a signed number (R266, R267). -/
theorem Scan.store_vars (k : Scan) (w : Nat) (v : Int) (h : opSpace w = 0) :
    (k.store w v).vars = smPut (fun _ => (0 : Int)) k.vars (opIdx w) (s32 (wrap 32 v)) := by simp [Scan.store, h]

/-- A write to a space that no operand may write changes nothing. -/
theorem Scan.put_readonly (k : Scan) (w : Nat) (v : Int) (h : opSpace w ≠ 0) (h4 : opSpace w ≠ 4) (h5 : opSpace w ≠ 5)
    (h6 : opSpace w ≠ 6) : k.put w v = k := by
  have e : ∀ x, k.store w x = k := by intro x; simp [Scan.store]
  simp [Scan.put, e]

/-- Writing an operand changes only the words of its own space. -/
theorem Scan.put_keeps (k : Scan) (w : Nat) (v : Int) :
    { k.put w v with vars := k.vars, term := k.term, ap := k.ap, stnOut := k.stnOut } = k := by
  have e : ∀ x, { k.store w x with vars := k.vars, term := k.term, ap := k.ap, stnOut := k.stnOut } = k := by
    intro x; simp only [Scan.store]; split <;> rfl
  simp only [Scan.put]; split <;> exact e _

end Sys2Proof.Machine
end

