-- ==== Sys2Proof/Laws/Sparse.lean ====
section
/-! SUPPORT. Sparse maps: reading after writing, and the canonical form that every operation keeps. -/

namespace Sys2Proof.Machine

open Sys2Proof

section
variable {β : Type}

@[simp] theorem smGet_nil (d : Nat → β) (k : Nat) : smGet d [] k = d k := rfl

theorem smGet_del_same (d : Nat → β) (l : List (Nat × β)) (k : Nat) : smGet d (smDel l k) k = d k := by
  induction l with
  | nil => rfl
  | cons p l ih =>
    obtain ⟨a, v⟩ := p
    by_cases h : a = k <;> simp [smDel, smGet, h, ih]

theorem smGet_del_ne (d : Nat → β) (l : List (Nat × β)) {k j : Nat} (h : j ≠ k) :
    smGet d (smDel l k) j = smGet d l j := by
  induction l with
  | nil => rfl
  | cons p l ih =>
    obtain ⟨a, v⟩ := p
    by_cases ha : a = k
    · subst ha
      have hj : ¬ a = j := fun e => h e.symm
      simp [smDel, smGet, ih, hj]
    · simp [smDel, smGet, ha, ih]

theorem smGet_ins_same (d : Nat → β) (l : List (Nat × β)) (k : Nat) (x : β) (hk : ∀ p ∈ l, p.1 ≠ k) :
    smGet d (smIns l k x) k = x := by
  induction l with
  | nil => simp [smIns, smGet]
  | cons p l ih =>
    obtain ⟨a, v⟩ := p
    have ha : ¬ a = k := hk (a, v) (by simp)
    by_cases hlt : k < a
    · simp [smIns, smGet, hlt]
    · simp [smIns, smGet, hlt, ha, ih (fun q hq => hk q (by simp [hq]))]

theorem smGet_ins_ne (d : Nat → β) (l : List (Nat × β)) {k j : Nat} (x : β) (h : j ≠ k) :
    smGet d (smIns l k x) j = smGet d l j := by
  have hk : ¬ k = j := fun e => h e.symm
  induction l with
  | nil => simp [smIns, smGet, hk]
  | cons p l ih =>
    obtain ⟨a, v⟩ := p
    by_cases hlt : k < a <;> simp [smIns, smGet, hlt, ih, hk]

theorem smDel_ne (l : List (Nat × β)) (k : Nat) : ∀ p ∈ smDel l k, p.1 ≠ k := by
  induction l with
  | nil => simp [smDel]
  | cons p l ih =>
    obtain ⟨a, v⟩ := p
    by_cases ha : a = k
    · simpa [smDel, ha] using ih
    · intro q hq
      simp only [smDel, ha, if_false, List.mem_cons] at hq
      rcases hq with rfl | hq
      · exact ha
      · exact ih q hq

theorem smDel_sub (l : List (Nat × β)) (k : Nat) : ∀ p ∈ smDel l k, p ∈ l := by
  induction l with
  | nil => simp [smDel]
  | cons p l ih =>
    obtain ⟨a, v⟩ := p
    intro q hq
    by_cases ha : a = k
    · simp only [smDel, ha, if_true] at hq
      exact List.mem_cons_of_mem _ (ih q hq)
    · simp only [smDel, ha, if_false, List.mem_cons] at hq
      rcases hq with rfl | hq
      · simp
      · exact List.mem_cons_of_mem _ (ih q hq)

theorem smIns_mem (l : List (Nat × β)) (k : Nat) (x : β) (q : Nat × β) (h : q ∈ smIns l k x) : q = (k, x) ∨ q ∈ l := by
  induction l with
  | nil => simpa [smIns] using h
  | cons p l ih =>
    obtain ⟨a, v⟩ := p
    by_cases hlt : k < a
    · simp only [smIns, hlt, if_true, List.mem_cons] at h
      rcases h with rfl | rfl | h <;> simp [*]
    · simp only [smIns, hlt, if_false, List.mem_cons] at h
      rcases h with rfl | h
      · simp
      · rcases ih h with rfl | h <;> simp [*]

variable [DecidableEq β]

/-- Reading the key written gives the value written. -/
@[simp] theorem smGet_smPut_same (d : Nat → β) (l : List (Nat × β)) (k : Nat) (x : β) :
    smGet d (smPut d l k x) k = x := by
  unfold smPut
  by_cases h : x = d k
  · simp [h, smGet_del_same]
  · simp [h, smGet_ins_same d _ k x (smDel_ne l k)]

/-- Reading another key gives what it gave before. -/
theorem smGet_smPut_ne (d : Nat → β) (l : List (Nat × β)) {k j : Nat} (x : β) (h : j ≠ k) :
    smGet d (smPut d l k x) j = smGet d l j := by
  unfold smPut
  by_cases hx : x = d k
  · simp [hx, smGet_del_ne d l h]
  · simp [hx, smGet_ins_ne d _ x h, smGet_del_ne d l h]

theorem smWf_cons (d : Nat → β) (k : Nat) (v : β) (l : List (Nat × β)) :
    smWf d ((k, v) :: l) = true ↔ v ≠ d k ∧ (∀ p ∈ l, k < p.1) ∧ smWf d l = true := by
  simp [smWf, and_assoc]

theorem smWf_smDel (d : Nat → β) (l : List (Nat × β)) (k : Nat) (h : smWf d l = true) : smWf d (smDel l k) = true := by
  induction l with
  | nil => rfl
  | cons p l ih =>
    obtain ⟨a, v⟩ := p
    rw [smWf_cons] at h
    obtain ⟨h1, h2, h3⟩ := h
    by_cases ha : a = k
    · simpa [smDel, ha] using ih h3
    · simp only [smDel, ha, if_false]
      rw [smWf_cons]
      exact ⟨h1, fun q hq => h2 q (smDel_sub l k q hq), ih h3⟩

theorem smWf_smIns (d : Nat → β) (l : List (Nat × β)) (k : Nat) (x : β) (h : smWf d l = true) (hx : x ≠ d k)
    (hk : ∀ p ∈ l, p.1 ≠ k) : smWf d (smIns l k x) = true := by
  induction l with
  | nil => simp [smIns, smWf, hx]
  | cons p l ih =>
    obtain ⟨a, v⟩ := p
    have h0 := h
    rw [smWf_cons] at h
    obtain ⟨h1, h2, h3⟩ := h
    by_cases hlt : k < a
    · simp only [smIns, hlt, if_true]
      rw [smWf_cons]
      refine ⟨hx, ?_, h0⟩
      intro q hq
      rcases List.mem_cons.mp hq with rfl | hq
      · exact hlt
      · exact Nat.lt_trans hlt (h2 q hq)
    · simp only [smIns, hlt, if_false]
      rw [smWf_cons]
      refine ⟨h1, ?_, ih h3 (fun q hq => hk q (by simp [hq]))⟩
      intro q hq
      have hak : a ≠ k := hk (a, v) (by simp)
      rcases smIns_mem l k x q hq with rfl | hq
      · show a < k; omega
      · exact h2 q hq

/-- A write keeps the canonical form. -/
theorem smWf_smPut (d : Nat → β) (l : List (Nat × β)) (k : Nat) (x : β) (h : smWf d l = true) :
    smWf d (smPut d l k x) = true := by
  unfold smPut
  by_cases hx : x = d k
  · simp [hx, smWf_smDel d l k h]
  · simp only [hx, if_false]
    exact smWf_smIns d _ k x (smWf_smDel d l k h) hx (smDel_ne l k)

/-- Dropping entries keeps the canonical form. -/
theorem smWf_filter (d : Nat → β) (l : List (Nat × β)) (p : Nat × β → Bool) (h : smWf d l = true) :
    smWf d (l.filter p) = true := by
  induction l with
  | nil => rfl
  | cons q l ih =>
    obtain ⟨a, v⟩ := q
    rw [smWf_cons] at h
    obtain ⟨h1, h2, h3⟩ := h
    by_cases hp : p (a, v) = true
    · rw [List.filter_cons_of_pos hp, smWf_cons]
      exact ⟨h1, fun q hq => h2 q (List.mem_filter.mp hq).1, ih h3⟩
    · rw [List.filter_cons_of_neg hp]
      exact ih h3

end

end Sys2Proof.Machine
end

