-- ==== Sys2Proof/Laws/State.lean ====
section
/-! SUPPORT. What each named update of the machine leaves: one equation for each field it does not change. -/

namespace Sys2Proof.Machine

open Sys2Proof

/-! ### `Mach.setWord` -/

section
variable (m : Mach) (idx : Nat) (v : Word)
@[simp] theorem Mach.setWord_free : (m.setWord idx v).free = m.free := rfl
@[simp] theorem Mach.setWord_cyc : (m.setWord idx v).cyc = m.cyc := rfl
@[simp] theorem Mach.setWord_phase : (m.setWord idx v).phase = m.phase := rfl
@[simp] theorem Mach.setWord_fclk : (m.setWord idx v).fclk = m.fclk := rfl
@[simp] theorem Mach.setWord_lock : (m.setWord idx v).lock = m.lock := rfl
@[simp] theorem Mach.setWord_ovrAt : (m.setWord idx v).ovrAt = m.ovrAt := rfl
@[simp] theorem Mach.setWord_failing : (m.setWord idx v).failing = m.failing := rfl
@[simp] theorem Mach.setWord_latches : (m.setWord idx v).latches = m.latches := rfl
@[simp] theorem Mach.setWord_held : (m.setWord idx v).held = m.held := rfl
@[simp] theorem Mach.setWord_viols : (m.setWord idx v).viols = m.viols := rfl
@[simp] theorem Mach.setWord_violAt : (m.setWord idx v).violAt = m.violAt := rfl
@[simp] theorem Mach.setWord_sets : (m.setWord idx v).sets = m.sets := rfl
@[simp] theorem Mach.setWord_roleFails : (m.setWord idx v).roleFails = m.roleFails := rfl
@[simp] theorem Mach.setWord_lockouts : (m.setWord idx v).lockouts = m.lockouts := rfl
@[simp] theorem Mach.setWord_bar : (m.setWord idx v).bar = m.bar := rfl
@[simp] theorem Mach.setWord_mem : (m.setWord idx v).mem = m.mem := rfl
@[simp] theorem Mach.setWord_trm : (m.setWord idx v).trm = m.trm := rfl
@[simp] theorem Mach.setWord_log : (m.setWord idx v).log = m.log := rfl
@[simp] theorem Mach.setWord_led : (m.setWord idx v).led = m.led := rfl
@[simp] theorem Mach.setWord_adc : (m.setWord idx v).adc = m.adc := rfl
@[simp] theorem Mach.setWord_ep : (m.setWord idx v).ep = m.ep := rfl
@[simp] theorem Mach.setWord_pwm : (m.setWord idx v).pwm = m.pwm := rfl
@[simp] theorem Mach.setWord_cells : (m.setWord idx v).cells = m.cells := rfl
@[simp] theorem Mach.setWord_fresh : (m.setWord idx v).fresh = m.fresh := rfl
@[simp] theorem Mach.setWord_slots : (m.setWord idx v).slots = m.slots := rfl
@[simp] theorem Mach.setWord_axes : (m.setWord idx v).axes = m.axes := rfl
@[simp] theorem Mach.setWord_stage : (m.setWord idx v).stage = m.stage := rfl
@[simp] theorem Mach.setWord_snap : (m.setWord idx v).snap = m.snap := rfl
@[simp] theorem Mach.setWord_scan : (m.setWord idx v).scan = m.scan := rfl
@[simp] theorem Mach.setWord_bus : (m.setWord idx v).bus = m.bus := rfl
@[simp] theorem Mach.setWord_key : (m.setWord idx v).key = m.key := rfl
@[simp] theorem Mach.setWord_gen : (m.setWord idx v).gen = m.gen := rfl
@[simp] theorem Mach.setWord_dx : (m.setWord idx v).dx = m.dx := rfl
@[simp] theorem Mach.setWord_link : (m.setWord idx v).link = m.link := rfl
@[simp] theorem Mach.setWord_sp : (m.setWord idx v).sp = m.sp := rfl
@[simp] theorem Mach.setWord_spSnap : (m.setWord idx v).spSnap = m.spSnap := rfl
@[simp] theorem Mach.setWord_spAfter : (m.setWord idx v).spAfter = m.spAfter := rfl
@[simp] theorem Mach.setWord_spr : (m.setWord idx v).spr = m.spr := rfl
@[simp] theorem Mach.setWord_pow : (m.setWord idx v).pow = m.pow := rfl
@[simp] theorem Mach.setWord_upd : (m.setWord idx v).upd = m.upd := rfl
@[simp] theorem Mach.setWord_aq : (m.setWord idx v).aq = m.aq := rfl
@[simp] theorem Mach.setWord_aqSnap : (m.setWord idx v).aqSnap = m.aqSnap := rfl
end

/-! ### `Mach.sw` -/

section
variable (m : Mach) (r : R) (v : Word) (i j : Nat)
@[simp] theorem Mach.sw_free : (m.sw r v i j).free = m.free := rfl
@[simp] theorem Mach.sw_cyc : (m.sw r v i j).cyc = m.cyc := rfl
@[simp] theorem Mach.sw_phase : (m.sw r v i j).phase = m.phase := rfl
@[simp] theorem Mach.sw_fclk : (m.sw r v i j).fclk = m.fclk := rfl
@[simp] theorem Mach.sw_lock : (m.sw r v i j).lock = m.lock := rfl
@[simp] theorem Mach.sw_ovrAt : (m.sw r v i j).ovrAt = m.ovrAt := rfl
@[simp] theorem Mach.sw_failing : (m.sw r v i j).failing = m.failing := rfl
@[simp] theorem Mach.sw_latches : (m.sw r v i j).latches = m.latches := rfl
@[simp] theorem Mach.sw_held : (m.sw r v i j).held = m.held := rfl
@[simp] theorem Mach.sw_viols : (m.sw r v i j).viols = m.viols := rfl
@[simp] theorem Mach.sw_violAt : (m.sw r v i j).violAt = m.violAt := rfl
@[simp] theorem Mach.sw_sets : (m.sw r v i j).sets = m.sets := rfl
@[simp] theorem Mach.sw_roleFails : (m.sw r v i j).roleFails = m.roleFails := rfl
@[simp] theorem Mach.sw_lockouts : (m.sw r v i j).lockouts = m.lockouts := rfl
@[simp] theorem Mach.sw_bar : (m.sw r v i j).bar = m.bar := rfl
@[simp] theorem Mach.sw_mem : (m.sw r v i j).mem = m.mem := rfl
@[simp] theorem Mach.sw_trm : (m.sw r v i j).trm = m.trm := rfl
@[simp] theorem Mach.sw_log : (m.sw r v i j).log = m.log := rfl
@[simp] theorem Mach.sw_led : (m.sw r v i j).led = m.led := rfl
@[simp] theorem Mach.sw_adc : (m.sw r v i j).adc = m.adc := rfl
@[simp] theorem Mach.sw_ep : (m.sw r v i j).ep = m.ep := rfl
@[simp] theorem Mach.sw_pwm : (m.sw r v i j).pwm = m.pwm := rfl
@[simp] theorem Mach.sw_cells : (m.sw r v i j).cells = m.cells := rfl
@[simp] theorem Mach.sw_fresh : (m.sw r v i j).fresh = m.fresh := rfl
@[simp] theorem Mach.sw_slots : (m.sw r v i j).slots = m.slots := rfl
@[simp] theorem Mach.sw_axes : (m.sw r v i j).axes = m.axes := rfl
@[simp] theorem Mach.sw_stage : (m.sw r v i j).stage = m.stage := rfl
@[simp] theorem Mach.sw_snap : (m.sw r v i j).snap = m.snap := rfl
@[simp] theorem Mach.sw_scan : (m.sw r v i j).scan = m.scan := rfl
@[simp] theorem Mach.sw_bus : (m.sw r v i j).bus = m.bus := rfl
@[simp] theorem Mach.sw_key : (m.sw r v i j).key = m.key := rfl
@[simp] theorem Mach.sw_gen : (m.sw r v i j).gen = m.gen := rfl
@[simp] theorem Mach.sw_dx : (m.sw r v i j).dx = m.dx := rfl
@[simp] theorem Mach.sw_link : (m.sw r v i j).link = m.link := rfl
@[simp] theorem Mach.sw_sp : (m.sw r v i j).sp = m.sp := rfl
@[simp] theorem Mach.sw_spSnap : (m.sw r v i j).spSnap = m.spSnap := rfl
@[simp] theorem Mach.sw_spAfter : (m.sw r v i j).spAfter = m.spAfter := rfl
@[simp] theorem Mach.sw_spr : (m.sw r v i j).spr = m.spr := rfl
@[simp] theorem Mach.sw_pow : (m.sw r v i j).pow = m.pow := rfl
@[simp] theorem Mach.sw_upd : (m.sw r v i j).upd = m.upd := rfl
@[simp] theorem Mach.sw_aq : (m.sw r v i j).aq = m.aq := rfl
@[simp] theorem Mach.sw_aqSnap : (m.sw r v i j).aqSnap = m.aqSnap := rfl
end

/-! ### `Mach.s` -/

section
variable (m : Mach) (f : Fd) (v i j : Nat)
@[simp] theorem Mach.s_free : (m.s f v i j).free = m.free := rfl
@[simp] theorem Mach.s_cyc : (m.s f v i j).cyc = m.cyc := rfl
@[simp] theorem Mach.s_phase : (m.s f v i j).phase = m.phase := rfl
@[simp] theorem Mach.s_fclk : (m.s f v i j).fclk = m.fclk := rfl
@[simp] theorem Mach.s_lock : (m.s f v i j).lock = m.lock := rfl
@[simp] theorem Mach.s_ovrAt : (m.s f v i j).ovrAt = m.ovrAt := rfl
@[simp] theorem Mach.s_failing : (m.s f v i j).failing = m.failing := rfl
@[simp] theorem Mach.s_latches : (m.s f v i j).latches = m.latches := rfl
@[simp] theorem Mach.s_held : (m.s f v i j).held = m.held := rfl
@[simp] theorem Mach.s_viols : (m.s f v i j).viols = m.viols := rfl
@[simp] theorem Mach.s_violAt : (m.s f v i j).violAt = m.violAt := rfl
@[simp] theorem Mach.s_sets : (m.s f v i j).sets = m.sets := rfl
@[simp] theorem Mach.s_roleFails : (m.s f v i j).roleFails = m.roleFails := rfl
@[simp] theorem Mach.s_lockouts : (m.s f v i j).lockouts = m.lockouts := rfl
@[simp] theorem Mach.s_bar : (m.s f v i j).bar = m.bar := rfl
@[simp] theorem Mach.s_mem : (m.s f v i j).mem = m.mem := rfl
@[simp] theorem Mach.s_trm : (m.s f v i j).trm = m.trm := rfl
@[simp] theorem Mach.s_log : (m.s f v i j).log = m.log := rfl
@[simp] theorem Mach.s_led : (m.s f v i j).led = m.led := rfl
@[simp] theorem Mach.s_adc : (m.s f v i j).adc = m.adc := rfl
@[simp] theorem Mach.s_ep : (m.s f v i j).ep = m.ep := rfl
@[simp] theorem Mach.s_pwm : (m.s f v i j).pwm = m.pwm := rfl
@[simp] theorem Mach.s_cells : (m.s f v i j).cells = m.cells := rfl
@[simp] theorem Mach.s_fresh : (m.s f v i j).fresh = m.fresh := rfl
@[simp] theorem Mach.s_slots : (m.s f v i j).slots = m.slots := rfl
@[simp] theorem Mach.s_axes : (m.s f v i j).axes = m.axes := rfl
@[simp] theorem Mach.s_stage : (m.s f v i j).stage = m.stage := rfl
@[simp] theorem Mach.s_snap : (m.s f v i j).snap = m.snap := rfl
@[simp] theorem Mach.s_scan : (m.s f v i j).scan = m.scan := rfl
@[simp] theorem Mach.s_bus : (m.s f v i j).bus = m.bus := rfl
@[simp] theorem Mach.s_key : (m.s f v i j).key = m.key := rfl
@[simp] theorem Mach.s_gen : (m.s f v i j).gen = m.gen := rfl
@[simp] theorem Mach.s_dx : (m.s f v i j).dx = m.dx := rfl
@[simp] theorem Mach.s_link : (m.s f v i j).link = m.link := rfl
@[simp] theorem Mach.s_sp : (m.s f v i j).sp = m.sp := rfl
@[simp] theorem Mach.s_spSnap : (m.s f v i j).spSnap = m.spSnap := rfl
@[simp] theorem Mach.s_spAfter : (m.s f v i j).spAfter = m.spAfter := rfl
@[simp] theorem Mach.s_spr : (m.s f v i j).spr = m.spr := rfl
@[simp] theorem Mach.s_pow : (m.s f v i j).pow = m.pow := rfl
@[simp] theorem Mach.s_upd : (m.s f v i j).upd = m.upd := rfl
@[simp] theorem Mach.s_aq : (m.s f v i j).aq = m.aq := rfl
@[simp] theorem Mach.s_aqSnap : (m.s f v i j).aqSnap = m.aqSnap := rfl
end

/-! ### `Mach.sb` -/

section
variable (m : Mach) (f : Fd) (v : Bool) (i j : Nat)
@[simp] theorem Mach.sb_free : (m.sb f v i j).free = m.free := rfl
@[simp] theorem Mach.sb_cyc : (m.sb f v i j).cyc = m.cyc := rfl
@[simp] theorem Mach.sb_phase : (m.sb f v i j).phase = m.phase := rfl
@[simp] theorem Mach.sb_fclk : (m.sb f v i j).fclk = m.fclk := rfl
@[simp] theorem Mach.sb_lock : (m.sb f v i j).lock = m.lock := rfl
@[simp] theorem Mach.sb_ovrAt : (m.sb f v i j).ovrAt = m.ovrAt := rfl
@[simp] theorem Mach.sb_failing : (m.sb f v i j).failing = m.failing := rfl
@[simp] theorem Mach.sb_latches : (m.sb f v i j).latches = m.latches := rfl
@[simp] theorem Mach.sb_held : (m.sb f v i j).held = m.held := rfl
@[simp] theorem Mach.sb_viols : (m.sb f v i j).viols = m.viols := rfl
@[simp] theorem Mach.sb_violAt : (m.sb f v i j).violAt = m.violAt := rfl
@[simp] theorem Mach.sb_sets : (m.sb f v i j).sets = m.sets := rfl
@[simp] theorem Mach.sb_roleFails : (m.sb f v i j).roleFails = m.roleFails := rfl
@[simp] theorem Mach.sb_lockouts : (m.sb f v i j).lockouts = m.lockouts := rfl
@[simp] theorem Mach.sb_bar : (m.sb f v i j).bar = m.bar := rfl
@[simp] theorem Mach.sb_mem : (m.sb f v i j).mem = m.mem := rfl
@[simp] theorem Mach.sb_trm : (m.sb f v i j).trm = m.trm := rfl
@[simp] theorem Mach.sb_log : (m.sb f v i j).log = m.log := rfl
@[simp] theorem Mach.sb_led : (m.sb f v i j).led = m.led := rfl
@[simp] theorem Mach.sb_adc : (m.sb f v i j).adc = m.adc := rfl
@[simp] theorem Mach.sb_ep : (m.sb f v i j).ep = m.ep := rfl
@[simp] theorem Mach.sb_pwm : (m.sb f v i j).pwm = m.pwm := rfl
@[simp] theorem Mach.sb_cells : (m.sb f v i j).cells = m.cells := rfl
@[simp] theorem Mach.sb_fresh : (m.sb f v i j).fresh = m.fresh := rfl
@[simp] theorem Mach.sb_slots : (m.sb f v i j).slots = m.slots := rfl
@[simp] theorem Mach.sb_axes : (m.sb f v i j).axes = m.axes := rfl
@[simp] theorem Mach.sb_stage : (m.sb f v i j).stage = m.stage := rfl
@[simp] theorem Mach.sb_snap : (m.sb f v i j).snap = m.snap := rfl
@[simp] theorem Mach.sb_scan : (m.sb f v i j).scan = m.scan := rfl
@[simp] theorem Mach.sb_bus : (m.sb f v i j).bus = m.bus := rfl
@[simp] theorem Mach.sb_key : (m.sb f v i j).key = m.key := rfl
@[simp] theorem Mach.sb_gen : (m.sb f v i j).gen = m.gen := rfl
@[simp] theorem Mach.sb_dx : (m.sb f v i j).dx = m.dx := rfl
@[simp] theorem Mach.sb_link : (m.sb f v i j).link = m.link := rfl
@[simp] theorem Mach.sb_sp : (m.sb f v i j).sp = m.sp := rfl
@[simp] theorem Mach.sb_spSnap : (m.sb f v i j).spSnap = m.spSnap := rfl
@[simp] theorem Mach.sb_spAfter : (m.sb f v i j).spAfter = m.spAfter := rfl
@[simp] theorem Mach.sb_spr : (m.sb f v i j).spr = m.spr := rfl
@[simp] theorem Mach.sb_pow : (m.sb f v i j).pow = m.pow := rfl
@[simp] theorem Mach.sb_upd : (m.sb f v i j).upd = m.upd := rfl
@[simp] theorem Mach.sb_aq : (m.sb f v i j).aq = m.aq := rfl
@[simp] theorem Mach.sb_aqSnap : (m.sb f v i j).aqSnap = m.aqSnap := rfl
end

/-! ### `Mach.si` -/

section
variable (m : Mach) (f : Fd) (v : Int) (i j : Nat)
@[simp] theorem Mach.si_free : (m.si f v i j).free = m.free := rfl
@[simp] theorem Mach.si_cyc : (m.si f v i j).cyc = m.cyc := rfl
@[simp] theorem Mach.si_phase : (m.si f v i j).phase = m.phase := rfl
@[simp] theorem Mach.si_fclk : (m.si f v i j).fclk = m.fclk := rfl
@[simp] theorem Mach.si_lock : (m.si f v i j).lock = m.lock := rfl
@[simp] theorem Mach.si_ovrAt : (m.si f v i j).ovrAt = m.ovrAt := rfl
@[simp] theorem Mach.si_failing : (m.si f v i j).failing = m.failing := rfl
@[simp] theorem Mach.si_latches : (m.si f v i j).latches = m.latches := rfl
@[simp] theorem Mach.si_held : (m.si f v i j).held = m.held := rfl
@[simp] theorem Mach.si_viols : (m.si f v i j).viols = m.viols := rfl
@[simp] theorem Mach.si_violAt : (m.si f v i j).violAt = m.violAt := rfl
@[simp] theorem Mach.si_sets : (m.si f v i j).sets = m.sets := rfl
@[simp] theorem Mach.si_roleFails : (m.si f v i j).roleFails = m.roleFails := rfl
@[simp] theorem Mach.si_lockouts : (m.si f v i j).lockouts = m.lockouts := rfl
@[simp] theorem Mach.si_bar : (m.si f v i j).bar = m.bar := rfl
@[simp] theorem Mach.si_mem : (m.si f v i j).mem = m.mem := rfl
@[simp] theorem Mach.si_trm : (m.si f v i j).trm = m.trm := rfl
@[simp] theorem Mach.si_log : (m.si f v i j).log = m.log := rfl
@[simp] theorem Mach.si_led : (m.si f v i j).led = m.led := rfl
@[simp] theorem Mach.si_adc : (m.si f v i j).adc = m.adc := rfl
@[simp] theorem Mach.si_ep : (m.si f v i j).ep = m.ep := rfl
@[simp] theorem Mach.si_pwm : (m.si f v i j).pwm = m.pwm := rfl
@[simp] theorem Mach.si_cells : (m.si f v i j).cells = m.cells := rfl
@[simp] theorem Mach.si_fresh : (m.si f v i j).fresh = m.fresh := rfl
@[simp] theorem Mach.si_slots : (m.si f v i j).slots = m.slots := rfl
@[simp] theorem Mach.si_axes : (m.si f v i j).axes = m.axes := rfl
@[simp] theorem Mach.si_stage : (m.si f v i j).stage = m.stage := rfl
@[simp] theorem Mach.si_snap : (m.si f v i j).snap = m.snap := rfl
@[simp] theorem Mach.si_scan : (m.si f v i j).scan = m.scan := rfl
@[simp] theorem Mach.si_bus : (m.si f v i j).bus = m.bus := rfl
@[simp] theorem Mach.si_key : (m.si f v i j).key = m.key := rfl
@[simp] theorem Mach.si_gen : (m.si f v i j).gen = m.gen := rfl
@[simp] theorem Mach.si_dx : (m.si f v i j).dx = m.dx := rfl
@[simp] theorem Mach.si_link : (m.si f v i j).link = m.link := rfl
@[simp] theorem Mach.si_sp : (m.si f v i j).sp = m.sp := rfl
@[simp] theorem Mach.si_spSnap : (m.si f v i j).spSnap = m.spSnap := rfl
@[simp] theorem Mach.si_spAfter : (m.si f v i j).spAfter = m.spAfter := rfl
@[simp] theorem Mach.si_spr : (m.si f v i j).spr = m.spr := rfl
@[simp] theorem Mach.si_pow : (m.si f v i j).pow = m.pow := rfl
@[simp] theorem Mach.si_upd : (m.si f v i j).upd = m.upd := rfl
@[simp] theorem Mach.si_aq : (m.si f v i j).aq = m.aq := rfl
@[simp] theorem Mach.si_aqSnap : (m.si f v i j).aqSnap = m.aqSnap := rfl
end

/-! ### `Mach.inc` -/

section
variable (m : Mach) (f : Fd) (mx i j : Nat)
@[simp] theorem Mach.inc_free : (m.inc f mx i j).free = m.free := rfl
@[simp] theorem Mach.inc_cyc : (m.inc f mx i j).cyc = m.cyc := rfl
@[simp] theorem Mach.inc_phase : (m.inc f mx i j).phase = m.phase := rfl
@[simp] theorem Mach.inc_fclk : (m.inc f mx i j).fclk = m.fclk := rfl
@[simp] theorem Mach.inc_lock : (m.inc f mx i j).lock = m.lock := rfl
@[simp] theorem Mach.inc_ovrAt : (m.inc f mx i j).ovrAt = m.ovrAt := rfl
@[simp] theorem Mach.inc_failing : (m.inc f mx i j).failing = m.failing := rfl
@[simp] theorem Mach.inc_latches : (m.inc f mx i j).latches = m.latches := rfl
@[simp] theorem Mach.inc_held : (m.inc f mx i j).held = m.held := rfl
@[simp] theorem Mach.inc_viols : (m.inc f mx i j).viols = m.viols := rfl
@[simp] theorem Mach.inc_violAt : (m.inc f mx i j).violAt = m.violAt := rfl
@[simp] theorem Mach.inc_sets : (m.inc f mx i j).sets = m.sets := rfl
@[simp] theorem Mach.inc_roleFails : (m.inc f mx i j).roleFails = m.roleFails := rfl
@[simp] theorem Mach.inc_lockouts : (m.inc f mx i j).lockouts = m.lockouts := rfl
@[simp] theorem Mach.inc_bar : (m.inc f mx i j).bar = m.bar := rfl
@[simp] theorem Mach.inc_mem : (m.inc f mx i j).mem = m.mem := rfl
@[simp] theorem Mach.inc_trm : (m.inc f mx i j).trm = m.trm := rfl
@[simp] theorem Mach.inc_log : (m.inc f mx i j).log = m.log := rfl
@[simp] theorem Mach.inc_led : (m.inc f mx i j).led = m.led := rfl
@[simp] theorem Mach.inc_adc : (m.inc f mx i j).adc = m.adc := rfl
@[simp] theorem Mach.inc_ep : (m.inc f mx i j).ep = m.ep := rfl
@[simp] theorem Mach.inc_pwm : (m.inc f mx i j).pwm = m.pwm := rfl
@[simp] theorem Mach.inc_cells : (m.inc f mx i j).cells = m.cells := rfl
@[simp] theorem Mach.inc_fresh : (m.inc f mx i j).fresh = m.fresh := rfl
@[simp] theorem Mach.inc_slots : (m.inc f mx i j).slots = m.slots := rfl
@[simp] theorem Mach.inc_axes : (m.inc f mx i j).axes = m.axes := rfl
@[simp] theorem Mach.inc_stage : (m.inc f mx i j).stage = m.stage := rfl
@[simp] theorem Mach.inc_snap : (m.inc f mx i j).snap = m.snap := rfl
@[simp] theorem Mach.inc_scan : (m.inc f mx i j).scan = m.scan := rfl
@[simp] theorem Mach.inc_bus : (m.inc f mx i j).bus = m.bus := rfl
@[simp] theorem Mach.inc_key : (m.inc f mx i j).key = m.key := rfl
@[simp] theorem Mach.inc_gen : (m.inc f mx i j).gen = m.gen := rfl
@[simp] theorem Mach.inc_dx : (m.inc f mx i j).dx = m.dx := rfl
@[simp] theorem Mach.inc_link : (m.inc f mx i j).link = m.link := rfl
@[simp] theorem Mach.inc_sp : (m.inc f mx i j).sp = m.sp := rfl
@[simp] theorem Mach.inc_spSnap : (m.inc f mx i j).spSnap = m.spSnap := rfl
@[simp] theorem Mach.inc_spAfter : (m.inc f mx i j).spAfter = m.spAfter := rfl
@[simp] theorem Mach.inc_spr : (m.inc f mx i j).spr = m.spr := rfl
@[simp] theorem Mach.inc_pow : (m.inc f mx i j).pow = m.pow := rfl
@[simp] theorem Mach.inc_upd : (m.inc f mx i j).upd = m.upd := rfl
@[simp] theorem Mach.inc_aq : (m.inc f mx i j).aq = m.aq := rfl
@[simp] theorem Mach.inc_aqSnap : (m.inc f mx i j).aqSnap = m.aqSnap := rfl
end

/-! ### `Mach.setb` -/

section
variable (m : Mach) (f : Fd) (k : Nat) (v : Bool) (i j : Nat)
@[simp] theorem Mach.setb_free : (m.setb f k v i j).free = m.free := rfl
@[simp] theorem Mach.setb_cyc : (m.setb f k v i j).cyc = m.cyc := rfl
@[simp] theorem Mach.setb_phase : (m.setb f k v i j).phase = m.phase := rfl
@[simp] theorem Mach.setb_fclk : (m.setb f k v i j).fclk = m.fclk := rfl
@[simp] theorem Mach.setb_lock : (m.setb f k v i j).lock = m.lock := rfl
@[simp] theorem Mach.setb_ovrAt : (m.setb f k v i j).ovrAt = m.ovrAt := rfl
@[simp] theorem Mach.setb_failing : (m.setb f k v i j).failing = m.failing := rfl
@[simp] theorem Mach.setb_latches : (m.setb f k v i j).latches = m.latches := rfl
@[simp] theorem Mach.setb_held : (m.setb f k v i j).held = m.held := rfl
@[simp] theorem Mach.setb_viols : (m.setb f k v i j).viols = m.viols := rfl
@[simp] theorem Mach.setb_violAt : (m.setb f k v i j).violAt = m.violAt := rfl
@[simp] theorem Mach.setb_sets : (m.setb f k v i j).sets = m.sets := rfl
@[simp] theorem Mach.setb_roleFails : (m.setb f k v i j).roleFails = m.roleFails := rfl
@[simp] theorem Mach.setb_lockouts : (m.setb f k v i j).lockouts = m.lockouts := rfl
@[simp] theorem Mach.setb_bar : (m.setb f k v i j).bar = m.bar := rfl
@[simp] theorem Mach.setb_mem : (m.setb f k v i j).mem = m.mem := rfl
@[simp] theorem Mach.setb_trm : (m.setb f k v i j).trm = m.trm := rfl
@[simp] theorem Mach.setb_log : (m.setb f k v i j).log = m.log := rfl
@[simp] theorem Mach.setb_led : (m.setb f k v i j).led = m.led := rfl
@[simp] theorem Mach.setb_adc : (m.setb f k v i j).adc = m.adc := rfl
@[simp] theorem Mach.setb_ep : (m.setb f k v i j).ep = m.ep := rfl
@[simp] theorem Mach.setb_pwm : (m.setb f k v i j).pwm = m.pwm := rfl
@[simp] theorem Mach.setb_cells : (m.setb f k v i j).cells = m.cells := rfl
@[simp] theorem Mach.setb_fresh : (m.setb f k v i j).fresh = m.fresh := rfl
@[simp] theorem Mach.setb_slots : (m.setb f k v i j).slots = m.slots := rfl
@[simp] theorem Mach.setb_axes : (m.setb f k v i j).axes = m.axes := rfl
@[simp] theorem Mach.setb_stage : (m.setb f k v i j).stage = m.stage := rfl
@[simp] theorem Mach.setb_snap : (m.setb f k v i j).snap = m.snap := rfl
@[simp] theorem Mach.setb_scan : (m.setb f k v i j).scan = m.scan := rfl
@[simp] theorem Mach.setb_bus : (m.setb f k v i j).bus = m.bus := rfl
@[simp] theorem Mach.setb_key : (m.setb f k v i j).key = m.key := rfl
@[simp] theorem Mach.setb_gen : (m.setb f k v i j).gen = m.gen := rfl
@[simp] theorem Mach.setb_dx : (m.setb f k v i j).dx = m.dx := rfl
@[simp] theorem Mach.setb_link : (m.setb f k v i j).link = m.link := rfl
@[simp] theorem Mach.setb_sp : (m.setb f k v i j).sp = m.sp := rfl
@[simp] theorem Mach.setb_spSnap : (m.setb f k v i j).spSnap = m.spSnap := rfl
@[simp] theorem Mach.setb_spAfter : (m.setb f k v i j).spAfter = m.spAfter := rfl
@[simp] theorem Mach.setb_spr : (m.setb f k v i j).spr = m.spr := rfl
@[simp] theorem Mach.setb_pow : (m.setb f k v i j).pow = m.pow := rfl
@[simp] theorem Mach.setb_upd : (m.setb f k v i j).upd = m.upd := rfl
@[simp] theorem Mach.setb_aq : (m.setb f k v i j).aq = m.aq := rfl
@[simp] theorem Mach.setb_aqSnap : (m.setb f k v i j).aqSnap = m.aqSnap := rfl
end

/-! ### `Mach.sq` -/

section
variable (m : Mach) (r : R) (v i : Nat)
@[simp] theorem Mach.sq_free : (m.sq r v i).free = m.free := rfl
@[simp] theorem Mach.sq_cyc : (m.sq r v i).cyc = m.cyc := rfl
@[simp] theorem Mach.sq_phase : (m.sq r v i).phase = m.phase := rfl
@[simp] theorem Mach.sq_fclk : (m.sq r v i).fclk = m.fclk := rfl
@[simp] theorem Mach.sq_lock : (m.sq r v i).lock = m.lock := rfl
@[simp] theorem Mach.sq_ovrAt : (m.sq r v i).ovrAt = m.ovrAt := rfl
@[simp] theorem Mach.sq_failing : (m.sq r v i).failing = m.failing := rfl
@[simp] theorem Mach.sq_latches : (m.sq r v i).latches = m.latches := rfl
@[simp] theorem Mach.sq_held : (m.sq r v i).held = m.held := rfl
@[simp] theorem Mach.sq_viols : (m.sq r v i).viols = m.viols := rfl
@[simp] theorem Mach.sq_violAt : (m.sq r v i).violAt = m.violAt := rfl
@[simp] theorem Mach.sq_sets : (m.sq r v i).sets = m.sets := rfl
@[simp] theorem Mach.sq_roleFails : (m.sq r v i).roleFails = m.roleFails := rfl
@[simp] theorem Mach.sq_lockouts : (m.sq r v i).lockouts = m.lockouts := rfl
@[simp] theorem Mach.sq_bar : (m.sq r v i).bar = m.bar := rfl
@[simp] theorem Mach.sq_mem : (m.sq r v i).mem = m.mem := rfl
@[simp] theorem Mach.sq_trm : (m.sq r v i).trm = m.trm := rfl
@[simp] theorem Mach.sq_log : (m.sq r v i).log = m.log := rfl
@[simp] theorem Mach.sq_led : (m.sq r v i).led = m.led := rfl
@[simp] theorem Mach.sq_adc : (m.sq r v i).adc = m.adc := rfl
@[simp] theorem Mach.sq_ep : (m.sq r v i).ep = m.ep := rfl
@[simp] theorem Mach.sq_pwm : (m.sq r v i).pwm = m.pwm := rfl
@[simp] theorem Mach.sq_cells : (m.sq r v i).cells = m.cells := rfl
@[simp] theorem Mach.sq_fresh : (m.sq r v i).fresh = m.fresh := rfl
@[simp] theorem Mach.sq_slots : (m.sq r v i).slots = m.slots := rfl
@[simp] theorem Mach.sq_axes : (m.sq r v i).axes = m.axes := rfl
@[simp] theorem Mach.sq_stage : (m.sq r v i).stage = m.stage := rfl
@[simp] theorem Mach.sq_snap : (m.sq r v i).snap = m.snap := rfl
@[simp] theorem Mach.sq_scan : (m.sq r v i).scan = m.scan := rfl
@[simp] theorem Mach.sq_bus : (m.sq r v i).bus = m.bus := rfl
@[simp] theorem Mach.sq_key : (m.sq r v i).key = m.key := rfl
@[simp] theorem Mach.sq_gen : (m.sq r v i).gen = m.gen := rfl
@[simp] theorem Mach.sq_dx : (m.sq r v i).dx = m.dx := rfl
@[simp] theorem Mach.sq_link : (m.sq r v i).link = m.link := rfl
@[simp] theorem Mach.sq_sp : (m.sq r v i).sp = m.sp := rfl
@[simp] theorem Mach.sq_spSnap : (m.sq r v i).spSnap = m.spSnap := rfl
@[simp] theorem Mach.sq_spAfter : (m.sq r v i).spAfter = m.spAfter := rfl
@[simp] theorem Mach.sq_spr : (m.sq r v i).spr = m.spr := rfl
@[simp] theorem Mach.sq_pow : (m.sq r v i).pow = m.pow := rfl
@[simp] theorem Mach.sq_upd : (m.sq r v i).upd = m.upd := rfl
@[simp] theorem Mach.sq_aq : (m.sq r v i).aq = m.aq := rfl
@[simp] theorem Mach.sq_aqSnap : (m.sq r v i).aqSnap = m.aqSnap := rfl
end

/-! ### `Mach.at` -/

section
variable (m : Mach) (c : Nat)
@[simp] theorem Mach.at_reg : (m.at c).reg = m.reg := rfl
@[simp] theorem Mach.at_free : (m.at c).free = m.free := rfl
@[simp] theorem Mach.at_phase : (m.at c).phase = m.phase := rfl
@[simp] theorem Mach.at_fclk : (m.at c).fclk = m.fclk := rfl
@[simp] theorem Mach.at_lock : (m.at c).lock = m.lock := rfl
@[simp] theorem Mach.at_ovrAt : (m.at c).ovrAt = m.ovrAt := rfl
@[simp] theorem Mach.at_failing : (m.at c).failing = m.failing := rfl
@[simp] theorem Mach.at_latches : (m.at c).latches = m.latches := rfl
@[simp] theorem Mach.at_held : (m.at c).held = m.held := rfl
@[simp] theorem Mach.at_viols : (m.at c).viols = m.viols := rfl
@[simp] theorem Mach.at_violAt : (m.at c).violAt = m.violAt := rfl
@[simp] theorem Mach.at_sets : (m.at c).sets = m.sets := rfl
@[simp] theorem Mach.at_roleFails : (m.at c).roleFails = m.roleFails := rfl
@[simp] theorem Mach.at_lockouts : (m.at c).lockouts = m.lockouts := rfl
@[simp] theorem Mach.at_bar : (m.at c).bar = m.bar := rfl
@[simp] theorem Mach.at_mem : (m.at c).mem = m.mem := rfl
@[simp] theorem Mach.at_trm : (m.at c).trm = m.trm := rfl
@[simp] theorem Mach.at_log : (m.at c).log = m.log := rfl
@[simp] theorem Mach.at_led : (m.at c).led = m.led := rfl
@[simp] theorem Mach.at_adc : (m.at c).adc = m.adc := rfl
@[simp] theorem Mach.at_ep : (m.at c).ep = m.ep := rfl
@[simp] theorem Mach.at_pwm : (m.at c).pwm = m.pwm := rfl
@[simp] theorem Mach.at_cells : (m.at c).cells = m.cells := rfl
@[simp] theorem Mach.at_fresh : (m.at c).fresh = m.fresh := rfl
@[simp] theorem Mach.at_slots : (m.at c).slots = m.slots := rfl
@[simp] theorem Mach.at_axes : (m.at c).axes = m.axes := rfl
@[simp] theorem Mach.at_stage : (m.at c).stage = m.stage := rfl
@[simp] theorem Mach.at_snap : (m.at c).snap = m.snap := rfl
@[simp] theorem Mach.at_scan : (m.at c).scan = m.scan := rfl
@[simp] theorem Mach.at_bus : (m.at c).bus = m.bus := rfl
@[simp] theorem Mach.at_key : (m.at c).key = m.key := rfl
@[simp] theorem Mach.at_gen : (m.at c).gen = m.gen := rfl
@[simp] theorem Mach.at_dx : (m.at c).dx = m.dx := rfl
@[simp] theorem Mach.at_link : (m.at c).link = m.link := rfl
@[simp] theorem Mach.at_sp : (m.at c).sp = m.sp := rfl
@[simp] theorem Mach.at_spSnap : (m.at c).spSnap = m.spSnap := rfl
@[simp] theorem Mach.at_spAfter : (m.at c).spAfter = m.spAfter := rfl
@[simp] theorem Mach.at_spr : (m.at c).spr = m.spr := rfl
@[simp] theorem Mach.at_pow : (m.at c).pow = m.pow := rfl
@[simp] theorem Mach.at_upd : (m.at c).upd = m.upd := rfl
@[simp] theorem Mach.at_aq : (m.at c).aq = m.aq := rfl
@[simp] theorem Mach.at_aqSnap : (m.at c).aqSnap = m.aqSnap := rfl
end

/-! ### `Mach.staged` -/

section
variable (m : Mach) (idx v : Nat)
@[simp] theorem Mach.staged_reg : (m.staged idx v).reg = m.reg := rfl
@[simp] theorem Mach.staged_free : (m.staged idx v).free = m.free := rfl
@[simp] theorem Mach.staged_cyc : (m.staged idx v).cyc = m.cyc := rfl
@[simp] theorem Mach.staged_phase : (m.staged idx v).phase = m.phase := rfl
@[simp] theorem Mach.staged_fclk : (m.staged idx v).fclk = m.fclk := rfl
@[simp] theorem Mach.staged_lock : (m.staged idx v).lock = m.lock := rfl
@[simp] theorem Mach.staged_ovrAt : (m.staged idx v).ovrAt = m.ovrAt := rfl
@[simp] theorem Mach.staged_failing : (m.staged idx v).failing = m.failing := rfl
@[simp] theorem Mach.staged_latches : (m.staged idx v).latches = m.latches := rfl
@[simp] theorem Mach.staged_held : (m.staged idx v).held = m.held := rfl
@[simp] theorem Mach.staged_viols : (m.staged idx v).viols = m.viols := rfl
@[simp] theorem Mach.staged_violAt : (m.staged idx v).violAt = m.violAt := rfl
@[simp] theorem Mach.staged_sets : (m.staged idx v).sets = m.sets := rfl
@[simp] theorem Mach.staged_roleFails : (m.staged idx v).roleFails = m.roleFails := rfl
@[simp] theorem Mach.staged_lockouts : (m.staged idx v).lockouts = m.lockouts := rfl
@[simp] theorem Mach.staged_bar : (m.staged idx v).bar = m.bar := rfl
@[simp] theorem Mach.staged_mem : (m.staged idx v).mem = m.mem := rfl
@[simp] theorem Mach.staged_trm : (m.staged idx v).trm = m.trm := rfl
@[simp] theorem Mach.staged_log : (m.staged idx v).log = m.log := rfl
@[simp] theorem Mach.staged_led : (m.staged idx v).led = m.led := rfl
@[simp] theorem Mach.staged_adc : (m.staged idx v).adc = m.adc := rfl
@[simp] theorem Mach.staged_ep : (m.staged idx v).ep = m.ep := rfl
@[simp] theorem Mach.staged_pwm : (m.staged idx v).pwm = m.pwm := rfl
@[simp] theorem Mach.staged_cells : (m.staged idx v).cells = m.cells := rfl
@[simp] theorem Mach.staged_fresh : (m.staged idx v).fresh = m.fresh := rfl
@[simp] theorem Mach.staged_slots : (m.staged idx v).slots = m.slots := rfl
@[simp] theorem Mach.staged_axes : (m.staged idx v).axes = m.axes := rfl
@[simp] theorem Mach.staged_snap : (m.staged idx v).snap = m.snap := rfl
@[simp] theorem Mach.staged_scan : (m.staged idx v).scan = m.scan := rfl
@[simp] theorem Mach.staged_bus : (m.staged idx v).bus = m.bus := rfl
@[simp] theorem Mach.staged_key : (m.staged idx v).key = m.key := rfl
@[simp] theorem Mach.staged_gen : (m.staged idx v).gen = m.gen := rfl
@[simp] theorem Mach.staged_dx : (m.staged idx v).dx = m.dx := rfl
@[simp] theorem Mach.staged_link : (m.staged idx v).link = m.link := rfl
@[simp] theorem Mach.staged_sp : (m.staged idx v).sp = m.sp := rfl
@[simp] theorem Mach.staged_spSnap : (m.staged idx v).spSnap = m.spSnap := rfl
@[simp] theorem Mach.staged_spAfter : (m.staged idx v).spAfter = m.spAfter := rfl
@[simp] theorem Mach.staged_spr : (m.staged idx v).spr = m.spr := rfl
@[simp] theorem Mach.staged_pow : (m.staged idx v).pow = m.pow := rfl
@[simp] theorem Mach.staged_upd : (m.staged idx v).upd = m.upd := rfl
@[simp] theorem Mach.staged_aq : (m.staged idx v).aq = m.aq := rfl
@[simp] theorem Mach.staged_aqSnap : (m.staged idx v).aqSnap = m.aqSnap := rfl
end

/-! ### `Mach.raise` -/

section
variable (m : Mach) (code src a0 a1 : Nat)
@[simp] theorem Mach.raise_reg : (m.raise code src a0 a1).reg = m.reg := rfl
@[simp] theorem Mach.raise_free : (m.raise code src a0 a1).free = m.free := rfl
@[simp] theorem Mach.raise_cyc : (m.raise code src a0 a1).cyc = m.cyc := rfl
@[simp] theorem Mach.raise_phase : (m.raise code src a0 a1).phase = m.phase := rfl
@[simp] theorem Mach.raise_fclk : (m.raise code src a0 a1).fclk = m.fclk := rfl
@[simp] theorem Mach.raise_lock : (m.raise code src a0 a1).lock = m.lock := rfl
@[simp] theorem Mach.raise_ovrAt : (m.raise code src a0 a1).ovrAt = m.ovrAt := rfl
@[simp] theorem Mach.raise_failing : (m.raise code src a0 a1).failing = m.failing := rfl
@[simp] theorem Mach.raise_latches : (m.raise code src a0 a1).latches = m.latches := rfl
@[simp] theorem Mach.raise_held : (m.raise code src a0 a1).held = m.held := rfl
@[simp] theorem Mach.raise_viols : (m.raise code src a0 a1).viols = m.viols := rfl
@[simp] theorem Mach.raise_violAt : (m.raise code src a0 a1).violAt = m.violAt := rfl
@[simp] theorem Mach.raise_sets : (m.raise code src a0 a1).sets = m.sets := rfl
@[simp] theorem Mach.raise_roleFails : (m.raise code src a0 a1).roleFails = m.roleFails := rfl
@[simp] theorem Mach.raise_lockouts : (m.raise code src a0 a1).lockouts = m.lockouts := rfl
@[simp] theorem Mach.raise_mem : (m.raise code src a0 a1).mem = m.mem := rfl
@[simp] theorem Mach.raise_trm : (m.raise code src a0 a1).trm = m.trm := rfl
@[simp] theorem Mach.raise_log : (m.raise code src a0 a1).log = m.log := rfl
@[simp] theorem Mach.raise_led : (m.raise code src a0 a1).led = m.led := rfl
@[simp] theorem Mach.raise_adc : (m.raise code src a0 a1).adc = m.adc := rfl
@[simp] theorem Mach.raise_ep : (m.raise code src a0 a1).ep = m.ep := rfl
@[simp] theorem Mach.raise_pwm : (m.raise code src a0 a1).pwm = m.pwm := rfl
@[simp] theorem Mach.raise_cells : (m.raise code src a0 a1).cells = m.cells := rfl
@[simp] theorem Mach.raise_fresh : (m.raise code src a0 a1).fresh = m.fresh := rfl
@[simp] theorem Mach.raise_slots : (m.raise code src a0 a1).slots = m.slots := rfl
@[simp] theorem Mach.raise_axes : (m.raise code src a0 a1).axes = m.axes := rfl
@[simp] theorem Mach.raise_stage : (m.raise code src a0 a1).stage = m.stage := rfl
@[simp] theorem Mach.raise_snap : (m.raise code src a0 a1).snap = m.snap := rfl
@[simp] theorem Mach.raise_scan : (m.raise code src a0 a1).scan = m.scan := rfl
@[simp] theorem Mach.raise_bus : (m.raise code src a0 a1).bus = m.bus := rfl
@[simp] theorem Mach.raise_key : (m.raise code src a0 a1).key = m.key := rfl
@[simp] theorem Mach.raise_gen : (m.raise code src a0 a1).gen = m.gen := rfl
@[simp] theorem Mach.raise_dx : (m.raise code src a0 a1).dx = m.dx := rfl
@[simp] theorem Mach.raise_link : (m.raise code src a0 a1).link = m.link := rfl
@[simp] theorem Mach.raise_sp : (m.raise code src a0 a1).sp = m.sp := rfl
@[simp] theorem Mach.raise_spSnap : (m.raise code src a0 a1).spSnap = m.spSnap := rfl
@[simp] theorem Mach.raise_spAfter : (m.raise code src a0 a1).spAfter = m.spAfter := rfl
@[simp] theorem Mach.raise_spr : (m.raise code src a0 a1).spr = m.spr := rfl
@[simp] theorem Mach.raise_pow : (m.raise code src a0 a1).pow = m.pow := rfl
@[simp] theorem Mach.raise_upd : (m.raise code src a0 a1).upd = m.upd := rfl
@[simp] theorem Mach.raise_aq : (m.raise code src a0 a1).aq = m.aq := rfl
@[simp] theorem Mach.raise_aqSnap : (m.raise code src a0 a1).aqSnap = m.aqSnap := rfl
end

/-! ### `Mach.count` -/

section
variable (m : Mach) (i k : Nat)
@[simp] theorem Mach.count_reg : (m.count i k).reg = m.reg := rfl
@[simp] theorem Mach.count_free : (m.count i k).free = m.free := rfl
@[simp] theorem Mach.count_cyc : (m.count i k).cyc = m.cyc := rfl
@[simp] theorem Mach.count_phase : (m.count i k).phase = m.phase := rfl
@[simp] theorem Mach.count_fclk : (m.count i k).fclk = m.fclk := rfl
@[simp] theorem Mach.count_lock : (m.count i k).lock = m.lock := rfl
@[simp] theorem Mach.count_ovrAt : (m.count i k).ovrAt = m.ovrAt := rfl
@[simp] theorem Mach.count_failing : (m.count i k).failing = m.failing := rfl
@[simp] theorem Mach.count_latches : (m.count i k).latches = m.latches := rfl
@[simp] theorem Mach.count_held : (m.count i k).held = m.held := rfl
@[simp] theorem Mach.count_viols : (m.count i k).viols = m.viols := rfl
@[simp] theorem Mach.count_violAt : (m.count i k).violAt = m.violAt := rfl
@[simp] theorem Mach.count_sets : (m.count i k).sets = m.sets := rfl
@[simp] theorem Mach.count_roleFails : (m.count i k).roleFails = m.roleFails := rfl
@[simp] theorem Mach.count_lockouts : (m.count i k).lockouts = m.lockouts := rfl
@[simp] theorem Mach.count_mem : (m.count i k).mem = m.mem := rfl
@[simp] theorem Mach.count_trm : (m.count i k).trm = m.trm := rfl
@[simp] theorem Mach.count_log : (m.count i k).log = m.log := rfl
@[simp] theorem Mach.count_led : (m.count i k).led = m.led := rfl
@[simp] theorem Mach.count_adc : (m.count i k).adc = m.adc := rfl
@[simp] theorem Mach.count_ep : (m.count i k).ep = m.ep := rfl
@[simp] theorem Mach.count_pwm : (m.count i k).pwm = m.pwm := rfl
@[simp] theorem Mach.count_cells : (m.count i k).cells = m.cells := rfl
@[simp] theorem Mach.count_fresh : (m.count i k).fresh = m.fresh := rfl
@[simp] theorem Mach.count_slots : (m.count i k).slots = m.slots := rfl
@[simp] theorem Mach.count_axes : (m.count i k).axes = m.axes := rfl
@[simp] theorem Mach.count_stage : (m.count i k).stage = m.stage := rfl
@[simp] theorem Mach.count_snap : (m.count i k).snap = m.snap := rfl
@[simp] theorem Mach.count_scan : (m.count i k).scan = m.scan := rfl
@[simp] theorem Mach.count_bus : (m.count i k).bus = m.bus := rfl
@[simp] theorem Mach.count_key : (m.count i k).key = m.key := rfl
@[simp] theorem Mach.count_gen : (m.count i k).gen = m.gen := rfl
@[simp] theorem Mach.count_dx : (m.count i k).dx = m.dx := rfl
@[simp] theorem Mach.count_link : (m.count i k).link = m.link := rfl
@[simp] theorem Mach.count_sp : (m.count i k).sp = m.sp := rfl
@[simp] theorem Mach.count_spSnap : (m.count i k).spSnap = m.spSnap := rfl
@[simp] theorem Mach.count_spAfter : (m.count i k).spAfter = m.spAfter := rfl
@[simp] theorem Mach.count_spr : (m.count i k).spr = m.spr := rfl
@[simp] theorem Mach.count_pow : (m.count i k).pow = m.pow := rfl
@[simp] theorem Mach.count_upd : (m.count i k).upd = m.upd := rfl
@[simp] theorem Mach.count_aq : (m.count i k).aq = m.aq := rfl
@[simp] theorem Mach.count_aqSnap : (m.count i k).aqSnap = m.aqSnap := rfl
end

/-! ### `Mach.noteSet` -/

section
variable (m : Mach) (f : Fd) (k i j : Nat) (ev : Nat × Nat × Nat × Nat)
@[simp] theorem Mach.noteSet_reg : (m.noteSet f k i j ev).reg = m.reg := by
  unfold Mach.noteSet; split <;> rfl
@[simp] theorem Mach.noteSet_free : (m.noteSet f k i j ev).free = m.free := by
  unfold Mach.noteSet; split <;> rfl
@[simp] theorem Mach.noteSet_cyc : (m.noteSet f k i j ev).cyc = m.cyc := by
  unfold Mach.noteSet; split <;> rfl
@[simp] theorem Mach.noteSet_phase : (m.noteSet f k i j ev).phase = m.phase := by
  unfold Mach.noteSet; split <;> rfl
@[simp] theorem Mach.noteSet_fclk : (m.noteSet f k i j ev).fclk = m.fclk := by
  unfold Mach.noteSet; split <;> rfl
@[simp] theorem Mach.noteSet_lock : (m.noteSet f k i j ev).lock = m.lock := by
  unfold Mach.noteSet; split <;> rfl
@[simp] theorem Mach.noteSet_ovrAt : (m.noteSet f k i j ev).ovrAt = m.ovrAt := by
  unfold Mach.noteSet; split <;> rfl
@[simp] theorem Mach.noteSet_failing : (m.noteSet f k i j ev).failing = m.failing := by
  unfold Mach.noteSet; split <;> rfl
@[simp] theorem Mach.noteSet_latches : (m.noteSet f k i j ev).latches = m.latches := by
  unfold Mach.noteSet; split <;> rfl
@[simp] theorem Mach.noteSet_held : (m.noteSet f k i j ev).held = m.held := by
  unfold Mach.noteSet; split <;> rfl
@[simp] theorem Mach.noteSet_viols : (m.noteSet f k i j ev).viols = m.viols := by
  unfold Mach.noteSet; split <;> rfl
@[simp] theorem Mach.noteSet_violAt : (m.noteSet f k i j ev).violAt = m.violAt := by
  unfold Mach.noteSet; split <;> rfl
@[simp] theorem Mach.noteSet_roleFails : (m.noteSet f k i j ev).roleFails = m.roleFails := by
  unfold Mach.noteSet; split <;> rfl
@[simp] theorem Mach.noteSet_lockouts : (m.noteSet f k i j ev).lockouts = m.lockouts := by
  unfold Mach.noteSet; split <;> rfl
@[simp] theorem Mach.noteSet_bar : (m.noteSet f k i j ev).bar = m.bar := by
  unfold Mach.noteSet; split <;> rfl
@[simp] theorem Mach.noteSet_mem : (m.noteSet f k i j ev).mem = m.mem := by
  unfold Mach.noteSet; split <;> rfl
@[simp] theorem Mach.noteSet_trm : (m.noteSet f k i j ev).trm = m.trm := by
  unfold Mach.noteSet; split <;> rfl
@[simp] theorem Mach.noteSet_log : (m.noteSet f k i j ev).log = m.log := by
  unfold Mach.noteSet; split <;> rfl
@[simp] theorem Mach.noteSet_led : (m.noteSet f k i j ev).led = m.led := by
  unfold Mach.noteSet; split <;> rfl
@[simp] theorem Mach.noteSet_adc : (m.noteSet f k i j ev).adc = m.adc := by
  unfold Mach.noteSet; split <;> rfl
@[simp] theorem Mach.noteSet_ep : (m.noteSet f k i j ev).ep = m.ep := by
  unfold Mach.noteSet; split <;> rfl
@[simp] theorem Mach.noteSet_pwm : (m.noteSet f k i j ev).pwm = m.pwm := by
  unfold Mach.noteSet; split <;> rfl
@[simp] theorem Mach.noteSet_cells : (m.noteSet f k i j ev).cells = m.cells := by
  unfold Mach.noteSet; split <;> rfl
@[simp] theorem Mach.noteSet_fresh : (m.noteSet f k i j ev).fresh = m.fresh := by
  unfold Mach.noteSet; split <;> rfl
@[simp] theorem Mach.noteSet_slots : (m.noteSet f k i j ev).slots = m.slots := by
  unfold Mach.noteSet; split <;> rfl
@[simp] theorem Mach.noteSet_axes : (m.noteSet f k i j ev).axes = m.axes := by
  unfold Mach.noteSet; split <;> rfl
@[simp] theorem Mach.noteSet_stage : (m.noteSet f k i j ev).stage = m.stage := by
  unfold Mach.noteSet; split <;> rfl
@[simp] theorem Mach.noteSet_snap : (m.noteSet f k i j ev).snap = m.snap := by
  unfold Mach.noteSet; split <;> rfl
@[simp] theorem Mach.noteSet_scan : (m.noteSet f k i j ev).scan = m.scan := by
  unfold Mach.noteSet; split <;> rfl
@[simp] theorem Mach.noteSet_bus : (m.noteSet f k i j ev).bus = m.bus := by
  unfold Mach.noteSet; split <;> rfl
@[simp] theorem Mach.noteSet_key : (m.noteSet f k i j ev).key = m.key := by
  unfold Mach.noteSet; split <;> rfl
@[simp] theorem Mach.noteSet_gen : (m.noteSet f k i j ev).gen = m.gen := by
  unfold Mach.noteSet; split <;> rfl
@[simp] theorem Mach.noteSet_dx : (m.noteSet f k i j ev).dx = m.dx := by
  unfold Mach.noteSet; split <;> rfl
@[simp] theorem Mach.noteSet_link : (m.noteSet f k i j ev).link = m.link := by
  unfold Mach.noteSet; split <;> rfl
@[simp] theorem Mach.noteSet_sp : (m.noteSet f k i j ev).sp = m.sp := by
  unfold Mach.noteSet; split <;> rfl
@[simp] theorem Mach.noteSet_spSnap : (m.noteSet f k i j ev).spSnap = m.spSnap := by
  unfold Mach.noteSet; split <;> rfl
@[simp] theorem Mach.noteSet_spAfter : (m.noteSet f k i j ev).spAfter = m.spAfter := by
  unfold Mach.noteSet; split <;> rfl
@[simp] theorem Mach.noteSet_spr : (m.noteSet f k i j ev).spr = m.spr := by
  unfold Mach.noteSet; split <;> rfl
@[simp] theorem Mach.noteSet_pow : (m.noteSet f k i j ev).pow = m.pow := by
  unfold Mach.noteSet; split <;> rfl
@[simp] theorem Mach.noteSet_upd : (m.noteSet f k i j ev).upd = m.upd := by
  unfold Mach.noteSet; split <;> rfl
@[simp] theorem Mach.noteSet_aq : (m.noteSet f k i j ev).aq = m.aq := by
  unfold Mach.noteSet; split <;> rfl
@[simp] theorem Mach.noteSet_aqSnap : (m.noteSet f k i j ev).aqSnap = m.aqSnap := by
  unfold Mach.noteSet; split <;> rfl
end

/-! ### `Mach.setBitW` -/

section
variable (m : Mach) (f : Fd) (k i j : Nat)
@[simp] theorem Mach.setBitW_free : (m.setBitW f k i j).free = m.free := by
  simp [Mach.setBitW]
@[simp] theorem Mach.setBitW_cyc : (m.setBitW f k i j).cyc = m.cyc := by
  simp [Mach.setBitW]
@[simp] theorem Mach.setBitW_phase : (m.setBitW f k i j).phase = m.phase := by
  simp [Mach.setBitW]
@[simp] theorem Mach.setBitW_fclk : (m.setBitW f k i j).fclk = m.fclk := by
  simp [Mach.setBitW]
@[simp] theorem Mach.setBitW_lock : (m.setBitW f k i j).lock = m.lock := by
  simp [Mach.setBitW]
@[simp] theorem Mach.setBitW_ovrAt : (m.setBitW f k i j).ovrAt = m.ovrAt := by
  simp [Mach.setBitW]
@[simp] theorem Mach.setBitW_failing : (m.setBitW f k i j).failing = m.failing := by
  simp [Mach.setBitW]
@[simp] theorem Mach.setBitW_latches : (m.setBitW f k i j).latches = m.latches := by
  simp [Mach.setBitW]
@[simp] theorem Mach.setBitW_held : (m.setBitW f k i j).held = m.held := by
  simp [Mach.setBitW]
@[simp] theorem Mach.setBitW_viols : (m.setBitW f k i j).viols = m.viols := by
  simp [Mach.setBitW]
@[simp] theorem Mach.setBitW_violAt : (m.setBitW f k i j).violAt = m.violAt := by
  simp [Mach.setBitW]
@[simp] theorem Mach.setBitW_roleFails : (m.setBitW f k i j).roleFails = m.roleFails := by
  simp [Mach.setBitW]
@[simp] theorem Mach.setBitW_lockouts : (m.setBitW f k i j).lockouts = m.lockouts := by
  simp [Mach.setBitW]
@[simp] theorem Mach.setBitW_bar : (m.setBitW f k i j).bar = m.bar := by
  simp [Mach.setBitW]
@[simp] theorem Mach.setBitW_mem : (m.setBitW f k i j).mem = m.mem := by
  simp [Mach.setBitW]
@[simp] theorem Mach.setBitW_trm : (m.setBitW f k i j).trm = m.trm := by
  simp [Mach.setBitW]
@[simp] theorem Mach.setBitW_log : (m.setBitW f k i j).log = m.log := by
  simp [Mach.setBitW]
@[simp] theorem Mach.setBitW_led : (m.setBitW f k i j).led = m.led := by
  simp [Mach.setBitW]
@[simp] theorem Mach.setBitW_adc : (m.setBitW f k i j).adc = m.adc := by
  simp [Mach.setBitW]
@[simp] theorem Mach.setBitW_ep : (m.setBitW f k i j).ep = m.ep := by
  simp [Mach.setBitW]
@[simp] theorem Mach.setBitW_pwm : (m.setBitW f k i j).pwm = m.pwm := by
  simp [Mach.setBitW]
@[simp] theorem Mach.setBitW_cells : (m.setBitW f k i j).cells = m.cells := by
  simp [Mach.setBitW]
@[simp] theorem Mach.setBitW_fresh : (m.setBitW f k i j).fresh = m.fresh := by
  simp [Mach.setBitW]
@[simp] theorem Mach.setBitW_slots : (m.setBitW f k i j).slots = m.slots := by
  simp [Mach.setBitW]
@[simp] theorem Mach.setBitW_axes : (m.setBitW f k i j).axes = m.axes := by
  simp [Mach.setBitW]
@[simp] theorem Mach.setBitW_stage : (m.setBitW f k i j).stage = m.stage := by
  simp [Mach.setBitW]
@[simp] theorem Mach.setBitW_snap : (m.setBitW f k i j).snap = m.snap := by
  simp [Mach.setBitW]
@[simp] theorem Mach.setBitW_scan : (m.setBitW f k i j).scan = m.scan := by
  simp [Mach.setBitW]
@[simp] theorem Mach.setBitW_bus : (m.setBitW f k i j).bus = m.bus := by
  simp [Mach.setBitW]
@[simp] theorem Mach.setBitW_key : (m.setBitW f k i j).key = m.key := by
  simp [Mach.setBitW]
@[simp] theorem Mach.setBitW_gen : (m.setBitW f k i j).gen = m.gen := by
  simp [Mach.setBitW]
@[simp] theorem Mach.setBitW_dx : (m.setBitW f k i j).dx = m.dx := by
  simp [Mach.setBitW]
@[simp] theorem Mach.setBitW_link : (m.setBitW f k i j).link = m.link := by
  simp [Mach.setBitW]
@[simp] theorem Mach.setBitW_sp : (m.setBitW f k i j).sp = m.sp := by
  simp [Mach.setBitW]
@[simp] theorem Mach.setBitW_spSnap : (m.setBitW f k i j).spSnap = m.spSnap := by
  simp [Mach.setBitW]
@[simp] theorem Mach.setBitW_spAfter : (m.setBitW f k i j).spAfter = m.spAfter := by
  simp [Mach.setBitW]
@[simp] theorem Mach.setBitW_spr : (m.setBitW f k i j).spr = m.spr := by
  simp [Mach.setBitW]
@[simp] theorem Mach.setBitW_pow : (m.setBitW f k i j).pow = m.pow := by
  simp [Mach.setBitW]
@[simp] theorem Mach.setBitW_upd : (m.setBitW f k i j).upd = m.upd := by
  simp [Mach.setBitW]
@[simp] theorem Mach.setBitW_aq : (m.setBitW f k i j).aq = m.aq := by
  simp [Mach.setBitW]
@[simp] theorem Mach.setBitW_aqSnap : (m.setBitW f k i j).aqSnap = m.aqSnap := by
  simp [Mach.setBitW]
end

/-! ### Registers after an update of other state -/

section
variable (x : Mach) (a0 : Nat) (a1 : Nat) (a2 : Phase) (a3 : Nat) (a4 : Lock) (a5 : List (Nat × Nat)) (a6 : List Nat) (a7 : List (Nat × Nat × Word)) (a8 : List (Nat × Nat × Word)) (a9 : List (Nat × Nat × Nat × Nat × Nat)) (a10 : Nat) (a11 : List SetNow) (a12 : List (Nat × Nat)) (a13 : List (Nat × Nat)) (a14 : Barrier) (a15 : Mem) (a16 : Trm) (a17 : Log) (a18 : Ledger) (a19 : Adc) (a20 : List Ep) (a21 : List Pwm) (a22 : List (Nat × Word × Bool)) (a23 : List (Nat × Word × Bool)) (a24 : List (Nat × Slot)) (a25 : List (Nat × Axis)) (a26 : List (Nat × Word)) (a27 : Snap) (a28 : Scan) (a29 : List Bus) (a30 : List Host.Cell) (a31 : Option Nat) (a32 : Dx) (a33 : Link) (a34 : Sp) (a35 : Sp) (a36 : Sp) (a37 : Spare) (a38 : Pow) (a39 : Upd) (a40 : Aq) (a41 : Aq)

@[simp] theorem Mach.mk_word (k : Nat) :
    (Mach.mk x.reg a0 a1 a2 a3 a4 a5 a6 a7 a8 a9 a10 a11 a12 a13 a14 a15 a16 a17 a18 a19 a20 a21 a22 a23 a24 a25 a26 a27 a28 a29 a30 a31 a32 a33 a34 a35 a36 a37 a38 a39 a40 a41).word k = x.word k := rfl
@[simp] theorem Mach.mk_w (r : R) (i j : Nat) :
    (Mach.mk x.reg a0 a1 a2 a3 a4 a5 a6 a7 a8 a9 a10 a11 a12 a13 a14 a15 a16 a17 a18 a19 a20 a21 a22 a23 a24 a25 a26 a27 a28 a29 a30 a31 a32 a33 a34 a35 a36 a37 a38 a39 a40 a41).w r i j = x.w r i j := rfl
@[simp] theorem Mach.mk_g (f : Fd) (i j : Nat) :
    (Mach.mk x.reg a0 a1 a2 a3 a4 a5 a6 a7 a8 a9 a10 a11 a12 a13 a14 a15 a16 a17 a18 a19 a20 a21 a22 a23 a24 a25 a26 a27 a28 a29 a30 a31 a32 a33 a34 a35 a36 a37 a38 a39 a40 a41).g f i j = x.g f i j := rfl
@[simp] theorem Mach.mk_b (f : Fd) (i j : Nat) :
    (Mach.mk x.reg a0 a1 a2 a3 a4 a5 a6 a7 a8 a9 a10 a11 a12 a13 a14 a15 a16 a17 a18 a19 a20 a21 a22 a23 a24 a25 a26 a27 a28 a29 a30 a31 a32 a33 a34 a35 a36 a37 a38 a39 a40 a41).b f i j = x.b f i j := rfl
@[simp] theorem Mach.mk_gb (f : Fd) (k i j : Nat) :
    (Mach.mk x.reg a0 a1 a2 a3 a4 a5 a6 a7 a8 a9 a10 a11 a12 a13 a14 a15 a16 a17 a18 a19 a20 a21 a22 a23 a24 a25 a26 a27 a28 a29 a30 a31 a32 a33 a34 a35 a36 a37 a38 a39 a40 a41).gb f k i j = x.gb f k i j := rfl

end

end Sys2Proof.Machine
end

