-- ==== Sys2Proof/Laws/Regs.lean ====
section
/-! SUPPORT. Reading a register or a field after one was written, and the operations that write none. -/

namespace Sys2Proof.Machine

open Sys2Proof

section
variable (m : Mach)

@[simp] theorem Mach.word_setWord_same (k : Nat) (v : Word) : (m.setWord k v).word k = v := by
  simp [Mach.word, Mach.setWord]

theorem Mach.word_setWord_ne {k j : Nat} (v : Word) (h : j ≠ k) : (m.setWord k v).word j = m.word j := by
  simp [Mach.word, Mach.setWord, smGet_smPut_ne _ _ _ h]

theorem Mach.word_s_ne (f : Fd) (v i j : Nat) {k : Nat} (h : k ≠ f.reg.idx i j) : (m.s f v i j).word k = m.word k :=
  m.word_setWord_ne _ h

/-- A field reads the low bits of what was stored in it. -/
theorem Mach.g_s_same (f : Fd) (v i j : Nat) (hl : f.lo ≤ f.hi) (hh : f.hi < 32) :
    (m.s f v i j).g f i j = v % 2 ^ (f.hi + 1 - f.lo) := by
  simp [Mach.g, Mach.s, Mach.sw, Mach.w, getBits_setBits_same _ _ _ _ hl hh]

/-- Storing a field leaves the fields of other registers. -/
theorem Mach.g_s_ne (f f' : Fd) (v i j i' j' : Nat) (h : f'.reg.idx i' j' ≠ f.reg.idx i j) :
    (m.s f v i j).g f' i' j' = m.g f' i' j' := by
  simp [Mach.g, Mach.w, m.word_s_ne f v i j h]

/-- Storing a field leaves the other fields of its register. -/
theorem Mach.g_s_disj (f f' : Fd) (v i j : Nat) (hr : f'.reg = f.reg) (hl : f.lo ≤ f.hi) (hh : f.hi < 32)
    (hd : f'.hi < f.lo ∨ f.hi < f'.lo) : (m.s f v i j).g f' i j = m.g f' i j := by
  simp [Mach.g, Mach.w, Mach.s, Mach.sw, hr, getBits_setBits_ne _ _ _ _ _ _ hl hh hd]

/-- A one-bit field reads the bit stored. -/
theorem Mach.b_sb_same (f : Fd) (v : Bool) (i j : Nat) (hl : f.lo = f.hi) (hh : f.hi < 32) :
    (m.sb f v i j).b f i j = v := by
  have h := m.g_s_same f (b2n v) i j (by omega) hh
  simp only [Mach.b, Mach.sb, h, hl, show f.hi + 1 - f.hi = 1 by omega]
  cases v <;> simp [b2n]

theorem Mach.b_sb_ne (f f' : Fd) (v : Bool) (i j i' j' : Nat) (h : f'.reg.idx i' j' ≠ f.reg.idx i j) :
    (m.sb f v i j).b f' i' j' = m.b f' i' j' := by
  simp [Mach.b, Mach.sb, m.g_s_ne f f' (b2n v) i j i' j' h]

theorem Mach.word_sw (r : R) (v : Word) (i j k : Nat) : (m.sw r v i j).word k = (m.setWord (r.idx i j) v).word k := rfl
theorem Mach.word_sw_ne (r : R) (v : Word) (i j : Nat) {k : Nat} (h : k ≠ r.idx i j) : (m.sw r v i j).word k = m.word k :=
  m.word_setWord_ne _ h
theorem Mach.w_sw_same (r : R) (v : Word) (i j : Nat) : (m.sw r v i j).w r i j = v := m.word_setWord_same _ _
theorem Mach.w_sw_ne (r r' : R) (v : Word) (i j i' j' : Nat) (h : r'.idx i' j' ≠ r.idx i j) :
    (m.sw r v i j).w r' i' j' = m.w r' i' j' := m.word_setWord_ne _ h
theorem Mach.g_sw_same (f : Fd) (v : Word) (i j : Nat) : (m.sw f.reg v i j).g f i j = getBits v f.hi f.lo := by
  simp [Mach.g, Mach.w_sw_same]
theorem Mach.g_sw_ne (r : R) (f' : Fd) (v : Word) (i j i' j' : Nat) (h : f'.reg.idx i' j' ≠ r.idx i j) :
    (m.sw r v i j).g f' i' j' = m.g f' i' j' := by simp [Mach.g, m.w_sw_ne _ _ _ _ _ _ _ h]
theorem Mach.g_setWord_ne (f : Fd) (k : Nat) (v : Word) (i j : Nat) (h : f.reg.idx i j ≠ k) :
    (m.setWord k v).g f i j = m.g f i j := by simp [Mach.g, Mach.w, m.word_setWord_ne _ h]
theorem Mach.w_s_ne (f : Fd) (r : R) (v i j i' j' : Nat) (h : r.idx i' j' ≠ f.reg.idx i j) :
    (m.s f v i j).w r i' j' = m.w r i' j' := m.word_s_ne f v i j h

@[simp] theorem Mach.at_word (c k : Nat) : (m.at c).word k = m.word k := rfl
@[simp] theorem Mach.at_w (c : Nat) (r : R) (i j : Nat) : (m.at c).w r i j = m.w r i j := rfl
@[simp] theorem Mach.at_g (c : Nat) (f : Fd) (i j : Nat) : (m.at c).g f i j = m.g f i j := rfl
@[simp] theorem Mach.at_b (c : Nat) (f : Fd) (i j : Nat) : (m.at c).b f i j = m.b f i j := rfl
@[simp] theorem Mach.at_cyc (c : Nat) : (m.at c).cyc = c := rfl

@[simp] theorem Mach.raise_word (c a b d k : Nat) : (m.raise c a b d).word k = m.word k := rfl
@[simp] theorem Mach.raise_w (c a b d : Nat) (r : R) (i j : Nat) : (m.raise c a b d).w r i j = m.w r i j := rfl
@[simp] theorem Mach.raise_g (c a b d : Nat) (f : Fd) (i j : Nat) : (m.raise c a b d).g f i j = m.g f i j := rfl
@[simp] theorem Mach.raise_b (c a b d : Nat) (f : Fd) (i j : Nat) : (m.raise c a b d).b f i j = m.b f i j := rfl

/-- An event raised waits last in the queue of the EVT messages, with its stamp (R349). -/
theorem Mach.raise_evq (c a b d : Nat) : (m.raise c a b d).bar.evq = m.bar.evq ++
    [{ code := c, src := a, arg0 := b % 2 ^ 32, arg1 := d % 2 ^ 32, frame := m.frame, sub := stampWord m.L m.cyc }] := rfl

@[simp] theorem Mach.count_word (a b k : Nat) : (m.count a b).word k = m.word k := rfl
@[simp] theorem Mach.count_g (a b : Nat) (f : Fd) (i j : Nat) : (m.count a b).g f i j = m.g f i j := rfl
@[simp] theorem Mach.count_b (a b : Nat) (f : Fd) (i j : Nat) : (m.count a b).b f i j = m.b f i j := rfl

@[simp] theorem Mach.staged_word (a b k : Nat) : (m.staged a b).word k = m.word k := rfl
@[simp] theorem Mach.staged_g (a b : Nat) (f : Fd) (i j : Nat) : (m.staged a b).g f i j = m.g f i j := rfl

@[simp] theorem Mach.noteSet_word (f : Fd) (k i j : Nat) (e : Nat × Nat × Nat × Nat) (n : Nat) :
    (m.noteSet f k i j e).word n = m.word n := by simp [Mach.word]
@[simp] theorem Mach.noteSet_w (f : Fd) (k i j : Nat) (e : Nat × Nat × Nat × Nat) (r : R) (a b : Nat) :
    (m.noteSet f k i j e).w r a b = m.w r a b := by simp [Mach.w]
@[simp] theorem Mach.noteSet_g (f : Fd) (k i j : Nat) (e : Nat × Nat × Nat × Nat) (f' : Fd) (a b : Nat) :
    (m.noteSet f k i j e).g f' a b = m.g f' a b := by simp [Mach.g]
@[simp] theorem Mach.noteSet_b (f : Fd) (k i j : Nat) (e : Nat × Nat × Nat × Nat) (f' : Fd) (a b : Nat) :
    (m.noteSet f k i j e).b f' a b = m.b f' a b := by simp [Mach.b]

theorem Mach.setBitW_word_ne (f : Fd) (k i j : Nat) {n : Nat} (h : n ≠ f.reg.idx i j) :
    (m.setBitW f k i j).word n = m.word n := by
  simp [Mach.setBitW, Mach.setb, Mach.word_s_ne _ f _ i j h]

/-- The registers' canonical form is kept by a write (R6: a register at its reset value is not listed). -/
theorem Mach.setWord_wf (k : Nat) (v : Word) (h : smWf resetAt m.reg = true) : smWf resetAt (m.setWord k v).reg = true :=
  smWf_smPut _ _ _ _ h

theorem Mach.resetRegs_wf (p : Nat → Bool) (h : smWf resetAt m.reg = true) : smWf resetAt (m.resetRegs p).reg = true :=
  smWf_filter _ _ _ h

end

/-- The index of an instance, by the register's base and strides (R25). -/
theorem R.idx_eq (r : R) (i j : Nat) : r.idx i j = r.base + i * r.dims.2.1 + j * r.dims.2.2.2 := rfl

/-- Two events' worth of a saturating counter: it never falls and never passes its limit (R446). -/
theorem satInc_le (mx v : Nat) (h : v ≤ mx) : v ≤ satInc mx v ∧ satInc mx v ≤ mx := by
  unfold satInc; split <;> omega

/-! ### One bit of a field -/

section
variable (m : Mach)
theorem Mach.gb_setb_same (f : Fd) (k : Nat) (v : Bool) (i j : Nat) (hl : f.lo ≤ f.hi) (hh : f.hi < 32) (hk : k < f.hi + 1 - f.lo) :
    (m.setb f k v i j).gb f k i j = v := by
  simp [Mach.gb, Mach.setb, m.g_s_same f _ i j hl hh, bit_mod _ _ _ hk, bit_setBit_same]
theorem Mach.gb_setb_other (f : Fd) (k k' : Nat) (v : Bool) (i j : Nat) (hl : f.lo ≤ f.hi) (hh : f.hi < 32) (hk : k' < f.hi + 1 - f.lo)
    (hne : k' ≠ k) : (m.setb f k v i j).gb f k' i j = m.gb f k' i j := by
  simp [Mach.gb, Mach.setb, m.g_s_same f _ i j hl hh, bit_mod _ _ _ hk, bit_setBit_ne _ _ _ _ hne]
theorem Mach.b_eq_gb (f : Fd) (i j : Nat) (hl : f.lo = f.hi) : m.b f i j = m.gb f 0 i j := by
  have : m.g f i j < 2 := by
    have := getBits_lt (m.w f.reg i j) f.hi f.lo
    rw [hl, show f.hi + 1 - f.hi = 1 by omega] at this
    simpa [Mach.g, hl] using this
  simp only [Mach.b, Mach.gb, bit]
  rcases (show m.g f i j = 0 ∨ m.g f i j = 1 by omega) with h | h <;> simp [h]
theorem Mach.b_setb_same (f : Fd) (v : Bool) (i j : Nat) (hl : f.lo = f.hi) (hh : f.hi < 32) : (m.setb f 0 v i j).b f i j = v := by
  rw [Mach.b_eq_gb _ _ _ _ hl]; exact m.gb_setb_same f 0 v i j (by omega) hh (by omega)
/-- A W1C bit that is set reads 1. -/
theorem Mach.b_setBitW_same (f : Fd) (i j : Nat) (hl : f.lo = f.hi) (hh : f.hi < 32) : (m.setBitW f 0 i j).b f i j = true :=
  (m.noteSet f 0 i j (0, 0, 0, 0)).b_setb_same f true i j hl hh
theorem Mach.gb_setBitW_same (f : Fd) (k i j : Nat) (hl : f.lo ≤ f.hi) (hh : f.hi < 32) (hk : k < f.hi + 1 - f.lo) :
    (m.setBitW f k i j).gb f k i j = true :=
  (m.noteSet f k i j (0, 0, 0, 0)).gb_setb_same f k true i j hl hh hk
theorem Mach.g_setBitW_ne (f f' : Fd) (k i j i' j' : Nat) (h : f'.reg.idx i' j' ≠ f.reg.idx i j) :
    (m.setBitW f k i j).g f' i' j' = m.g f' i' j' := by simp [Mach.g, Mach.w, m.setBitW_word_ne f k i j h]
theorem Mach.g_setBitW_disj (f f' : Fd) (k i j : Nat) (hr : f'.reg = f.reg) (hl : f.lo ≤ f.hi) (hh : f.hi < 32)
    (hd : f'.hi < f.lo ∨ f.hi < f'.lo) : (m.setBitW f k i j).g f' i j = m.g f' i j := by
  simp [Mach.setBitW, Mach.setb, Mach.g_s_disj _ f f' _ i j hr hl hh hd]
end

end Sys2Proof.Machine
end

