-- ==== Sys2Proof/Laws/Index.lean ====
section
/-! SUPPORT. The index of every register, by its instance numbers (R25). -/

namespace Sys2Proof.Machine

open Sys2Proof

@[simp] theorem idx_DEV_ID (i j : Nat) : R.idx .DEV_ID i j = 0x0000 + i * 1 + j * 1 := rfl
@[simp] theorem idx_DEV_SERIAL_LO (i j : Nat) : R.idx .DEV_SERIAL_LO i j = 0x0001 + i * 1 + j * 1 := rfl
@[simp] theorem idx_DEV_SERIAL_HI (i j : Nat) : R.idx .DEV_SERIAL_HI i j = 0x0002 + i * 1 + j * 1 := rfl
@[simp] theorem idx_DEV_FW (i j : Nat) : R.idx .DEV_FW i j = 0x0003 + i * 1 + j * 1 := rfl
@[simp] theorem idx_DEV_ADDR (i j : Nat) : R.idx .DEV_ADDR i j = 0x0004 + i * 1 + j * 1 := rfl
@[simp] theorem idx_DEV_CTL (i j : Nat) : R.idx .DEV_CTL i j = 0x0010 + i * 1 + j * 1 := rfl
@[simp] theorem idx_DEV_STATE (i j : Nat) : R.idx .DEV_STATE i j = 0x0011 + i * 1 + j * 1 := rfl
@[simp] theorem idx_DEV_ENG_RUN (i j : Nat) : R.idx .DEV_ENG_RUN i j = 0x0012 + i * 1 + j * 1 := rfl
@[simp] theorem idx_DEV_ENG_FAULT (i j : Nat) : R.idx .DEV_ENG_FAULT i j = 0x0013 + i * 1 + j * 1 := rfl
@[simp] theorem idx_DEV_OWN_VIOL (i j : Nat) : R.idx .DEV_OWN_VIOL i j = 0x0014 + i * 1 + j * 1 := rfl
@[simp] theorem idx_DEV_BAR_STAT (i j : Nat) : R.idx .DEV_BAR_STAT i j = 0x0020 + i * 1 + j * 1 := rfl
@[simp] theorem idx_DEV_BAR_ERR (i j : Nat) : R.idx .DEV_BAR_ERR i j = 0x0021 + i * 1 + j * 1 := rfl
@[simp] theorem idx_DEV_ROLE_STAT (i j : Nat) : R.idx .DEV_ROLE_STAT i j = 0x0030 + i * 1 + j * 1 := rfl
@[simp] theorem idx_DEV_SCRATCH (i j : Nat) : R.idx .DEV_SCRATCH i j = 0x00FF + i * 1 + j * 1 := rfl
@[simp] theorem idx_FRM_CTL (i j : Nat) : R.idx .FRM_CTL i j = 0x0100 + i * 1 + j * 1 := rfl
@[simp] theorem idx_FRM_STAT (i j : Nat) : R.idx .FRM_STAT i j = 0x0101 + i * 1 + j * 1 := rfl
@[simp] theorem idx_FRM_LEN (i j : Nat) : R.idx .FRM_LEN i j = 0x0102 + i * 1 + j * 1 := rfl
@[simp] theorem idx_FRM_CNT_LO (i j : Nat) : R.idx .FRM_CNT_LO i j = 0x0103 + i * 1 + j * 1 := rfl
@[simp] theorem idx_FRM_CNT_HI (i j : Nat) : R.idx .FRM_CNT_HI i j = 0x0104 + i * 1 + j * 1 := rfl
@[simp] theorem idx_FRM_SUB (i j : Nat) : R.idx .FRM_SUB i j = 0x0105 + i * 1 + j * 1 := rfl
@[simp] theorem idx_FRM_LOCK_OFS (i j : Nat) : R.idx .FRM_LOCK_OFS i j = 0x0106 + i * 1 + j * 1 := rfl
@[simp] theorem idx_FRM_LOCK_ERR (i j : Nat) : R.idx .FRM_LOCK_ERR i j = 0x0107 + i * 1 + j * 1 := rfl
@[simp] theorem idx_FRM_SYST_LO (i j : Nat) : R.idx .FRM_SYST_LO i j = 0x0108 + i * 1 + j * 1 := rfl
@[simp] theorem idx_FRM_SYST_HI (i j : Nat) : R.idx .FRM_SYST_HI i j = 0x0109 + i * 1 + j * 1 := rfl
@[simp] theorem idx_FRM_OVR_CFG (i j : Nat) : R.idx .FRM_OVR_CFG i j = 0x010A + i * 1 + j * 1 := rfl
@[simp] theorem idx_FRM_BUD (i j : Nat) : R.idx .FRM_BUD i j = 0x0110 + i * 1 + j * 1 := rfl
@[simp] theorem idx_FRM_USE (i j : Nat) : R.idx .FRM_USE i j = 0x0130 + i * 1 + j * 1 := rfl
@[simp] theorem idx_FRM_PEAK (i j : Nat) : R.idx .FRM_PEAK i j = 0x0150 + i * 1 + j * 1 := rfl
@[simp] theorem idx_FRM_OVR (i j : Nat) : R.idx .FRM_OVR i j = 0x0170 + i * 1 + j * 1 := rfl
@[simp] theorem idx_MEM_ARB_CFG (i j : Nat) : R.idx .MEM_ARB_CFG i j = 0x0200 + i * 1 + j * 1 := rfl
@[simp] theorem idx_MEM_STAT (i j : Nat) : R.idx .MEM_STAT i j = 0x0201 + i * 1 + j * 1 := rfl
@[simp] theorem idx_MEM_ECC_CFG (i j : Nat) : R.idx .MEM_ECC_CFG i j = 0x0202 + i * 1 + j * 1 := rfl
@[simp] theorem idx_MEM_CLR (i j : Nat) : R.idx .MEM_CLR i j = 0x0203 + i * 1 + j * 1 := rfl
@[simp] theorem idx_MEM_BANK_STAT (i j : Nat) : R.idx .MEM_BANK_STAT i j = 0x0204 + i * 1 + j * 1 := rfl
@[simp] theorem idx_MEM_ERR_ADDR (i j : Nat) : R.idx .MEM_ERR_ADDR i j = 0x0208 + i * 1 + j * 1 := rfl
@[simp] theorem idx_MEM_SCRUB (i j : Nat) : R.idx .MEM_SCRUB i j = 0x020C + i * 1 + j * 1 := rfl
@[simp] theorem idx_MEM_ARB_PEAK (i j : Nat) : R.idx .MEM_ARB_PEAK i j = 0x0210 + i * 1 + j * 1 := rfl
@[simp] theorem idx_MEM_REV_CNT (i j : Nat) : R.idx .MEM_REV_CNT i j = 0x0214 + i * 1 + j * 1 := rfl
@[simp] theorem idx_MEM_BOUND (i j : Nat) : R.idx .MEM_BOUND i j = 0x0218 + i * 1 + j * 1 := rfl
@[simp] theorem idx_MEM_MPU_SEL (i j : Nat) : R.idx .MEM_MPU_SEL i j = 0x0220 + i * 1 + j * 1 := rfl
@[simp] theorem idx_MEM_MPU_VIOL (i j : Nat) : R.idx .MEM_MPU_VIOL i j = 0x0221 + i * 1 + j * 1 := rfl
@[simp] theorem idx_MEM_MPU_VADDR (i j : Nat) : R.idx .MEM_MPU_VADDR i j = 0x0222 + i * 1 + j * 1 := rfl
@[simp] theorem idx_MEM_MPU_BASE (i j : Nat) : R.idx .MEM_MPU_BASE i j = 0x0240 + i * 2 + j * 1 := rfl
@[simp] theorem idx_MEM_MPU_LIM (i j : Nat) : R.idx .MEM_MPU_LIM i j = 0x0241 + i * 2 + j * 1 := rfl
@[simp] theorem idx_MEM_DMA_CTL (i j : Nat) : R.idx .MEM_DMA_CTL i j = 0x0300 + i * 4 + j * 1 := rfl
@[simp] theorem idx_MEM_DMA_DESC (i j : Nat) : R.idx .MEM_DMA_DESC i j = 0x0301 + i * 4 + j * 1 := rfl
@[simp] theorem idx_MEM_DMA_STAT (i j : Nat) : R.idx .MEM_DMA_STAT i j = 0x0302 + i * 4 + j * 1 := rfl
@[simp] theorem idx_MEM_DMA_ERR (i j : Nat) : R.idx .MEM_DMA_ERR i j = 0x0303 + i * 4 + j * 1 := rfl
@[simp] theorem idx_TRM_CTL (i j : Nat) : R.idx .TRM_CTL i j = 0x0400 + i * 1 + j * 1 := rfl
@[simp] theorem idx_TRM_STAT (i j : Nat) : R.idx .TRM_STAT i j = 0x0401 + i * 1 + j * 1 := rfl
@[simp] theorem idx_TRM_CHK_CFG (i j : Nat) : R.idx .TRM_CHK_CFG i j = 0x0402 + i * 1 + j * 1 := rfl
@[simp] theorem idx_TRM_IN (i j : Nat) : R.idx .TRM_IN i j = 0x0404 + i * 1 + j * 1 := rfl
@[simp] theorem idx_TRM_RAW (i j : Nat) : R.idx .TRM_RAW i j = 0x0408 + i * 1 + j * 1 := rfl
@[simp] theorem idx_TRM_OUT (i j : Nat) : R.idx .TRM_OUT i j = 0x040C + i * 1 + j * 1 := rfl
@[simp] theorem idx_TRM_DRV (i j : Nat) : R.idx .TRM_DRV i j = 0x0410 + i * 1 + j * 1 := rfl
@[simp] theorem idx_TRM_FSUM (i j : Nat) : R.idx .TRM_FSUM i j = 0x0414 + i * 1 + j * 1 := rfl
@[simp] theorem idx_TRM_GRP_CFG (i j : Nat) : R.idx .TRM_GRP_CFG i j = 0x0420 + i * 1 + j * 1 := rfl
@[simp] theorem idx_TRM_GRP_STAT (i j : Nat) : R.idx .TRM_GRP_STAT i j = 0x0428 + i * 1 + j * 1 := rfl
@[simp] theorem idx_TRM_CFG (i j : Nat) : R.idx .TRM_CFG i j = 0x0500 + i * 1 + j * 1 := rfl
@[simp] theorem idx_TRM_TSTAT (i j : Nat) : R.idx .TRM_TSTAT i j = 0x0580 + i * 1 + j * 1 := rfl
@[simp] theorem idx_TRM_VOLT (i j : Nat) : R.idx .TRM_VOLT i j = 0x0600 + i * 1 + j * 1 := rfl
@[simp] theorem idx_ADC_CTL (i j : Nat) : R.idx .ADC_CTL i j = 0x0800 + i * 1 + j * 1 := rfl
@[simp] theorem idx_ADC_STAT (i j : Nat) : R.idx .ADC_STAT i j = 0x0801 + i * 1 + j * 1 := rfl
@[simp] theorem idx_ADC_REF_CFG (i j : Nat) : R.idx .ADC_REF_CFG i j = 0x0802 + i * 1 + j * 1 := rfl
@[simp] theorem idx_ADC_REF_STAT (i j : Nat) : R.idx .ADC_REF_STAT i j = 0x0803 + i * 1 + j * 1 := rfl
@[simp] theorem idx_ADC_ANNEAL_CFG (i j : Nat) : R.idx .ADC_ANNEAL_CFG i j = 0x0804 + i * 1 + j * 1 := rfl
@[simp] theorem idx_ADC_ANNEAL_STAT (i j : Nat) : R.idx .ADC_ANNEAL_STAT i j = 0x0805 + i * 1 + j * 1 := rfl
@[simp] theorem idx_ADC_ROLE_CFG (i j : Nat) : R.idx .ADC_ROLE_CFG i j = 0x0810 + i * 1 + j * 1 := rfl
@[simp] theorem idx_ADC_MASK_LO (i j : Nat) : R.idx .ADC_MASK_LO i j = 0x0820 + i * 2 + j * 1 := rfl
@[simp] theorem idx_ADC_MASK_HI (i j : Nat) : R.idx .ADC_MASK_HI i j = 0x0821 + i * 2 + j * 1 := rfl
@[simp] theorem idx_ADC_ROLE_TRG (i j : Nat) : R.idx .ADC_ROLE_TRG i j = 0x0840 + i * 1 + j * 1 := rfl
@[simp] theorem idx_ADC_ROLE_STAT (i j : Nat) : R.idx .ADC_ROLE_STAT i j = 0x0850 + i * 1 + j * 1 := rfl
@[simp] theorem idx_ADC_SLICE_STAT (i j : Nat) : R.idx .ADC_SLICE_STAT i j = 0x0860 + i * 1 + j * 1 := rfl
@[simp] theorem idx_ADC_CH_CFG (i j : Nat) : R.idx .ADC_CH_CFG i j = 0x0880 + i * 1 + j * 1 := rfl
@[simp] theorem idx_ADC_RES (i j : Nat) : R.idx .ADC_RES i j = 0x08C0 + i * 1 + j * 1 := rfl
@[simp] theorem idx_ADC_TC_LIM (i j : Nat) : R.idx .ADC_TC_LIM i j = 0x0900 + i * 1 + j * 1 := rfl
@[simp] theorem idx_ADC_EP_CFG (i j : Nat) : R.idx .ADC_EP_CFG i j = 0x0A00 + i * 16 + j * 1 := rfl
@[simp] theorem idx_ADC_EP_SSI (i j : Nat) : R.idx .ADC_EP_SSI i j = 0x0A01 + i * 16 + j * 1 := rfl
@[simp] theorem idx_ADC_EP_POS (i j : Nat) : R.idx .ADC_EP_POS i j = 0x0A02 + i * 16 + j * 1 := rfl
@[simp] theorem idx_ADC_EP_IDX (i j : Nat) : R.idx .ADC_EP_IDX i j = 0x0A03 + i * 16 + j * 1 := rfl
@[simp] theorem idx_ADC_EP_EDGE (i j : Nat) : R.idx .ADC_EP_EDGE i j = 0x0A04 + i * 16 + j * 1 := rfl
@[simp] theorem idx_ADC_EP_STAT (i j : Nat) : R.idx .ADC_EP_STAT i j = 0x0A05 + i * 16 + j * 1 := rfl
@[simp] theorem idx_PWM_CTL (i j : Nat) : R.idx .PWM_CTL i j = 0x0C00 + i * 1 + j * 1 := rfl
@[simp] theorem idx_PWM_STAT (i j : Nat) : R.idx .PWM_STAT i j = 0x0C01 + i * 1 + j * 1 := rfl
@[simp] theorem idx_PWM_ANNEAL_CFG (i j : Nat) : R.idx .PWM_ANNEAL_CFG i j = 0x0C02 + i * 1 + j * 1 := rfl
@[simp] theorem idx_PWM_ANNEAL_STAT (i j : Nat) : R.idx .PWM_ANNEAL_STAT i j = 0x0C03 + i * 1 + j * 1 := rfl
@[simp] theorem idx_PWM_GRP_CFG (i j : Nat) : R.idx .PWM_GRP_CFG i j = 0x0C40 + i * 16 + j * 1 := rfl
@[simp] theorem idx_PWM_GRP_TIME (i j : Nat) : R.idx .PWM_GRP_TIME i j = 0x0C41 + i * 16 + j * 1 := rfl
@[simp] theorem idx_PWM_GRP_PHASE (i j : Nat) : R.idx .PWM_GRP_PHASE i j = 0x0C42 + i * 16 + j * 1 := rfl
@[simp] theorem idx_PWM_GRP_TOP (i j : Nat) : R.idx .PWM_GRP_TOP i j = 0x0C43 + i * 16 + j * 1 := rfl
@[simp] theorem idx_PWM_GRP_CTL (i j : Nat) : R.idx .PWM_GRP_CTL i j = 0x0C44 + i * 16 + j * 1 := rfl
@[simp] theorem idx_PWM_GRP_STAT (i j : Nat) : R.idx .PWM_GRP_STAT i j = 0x0C45 + i * 16 + j * 1 := rfl
@[simp] theorem idx_PWM_GRP_ACT (i j : Nat) : R.idx .PWM_GRP_ACT i j = 0x0C46 + i * 16 + j * 1 := rfl
@[simp] theorem idx_PWM_GRP_CNT (i j : Nat) : R.idx .PWM_GRP_CNT i j = 0x0C47 + i * 16 + j * 1 := rfl
@[simp] theorem idx_PWM_CMP (i j : Nat) : R.idx .PWM_CMP i j = 0x0C48 + i * 16 + j * 1 := rfl
@[simp] theorem idx_PWM_CMP_ACT (i j : Nat) : R.idx .PWM_CMP_ACT i j = 0x0C4C + i * 16 + j * 1 := rfl
@[simp] theorem idx_PWM_DL_STAT (i j : Nat) : R.idx .PWM_DL_STAT i j = 0x0D00 + i * 16 + j * 1 := rfl
@[simp] theorem idx_LP_CFG (i j : Nat) : R.idx .LP_CFG i j = 0x1000 + i * 16 + j * 1 := rfl
@[simp] theorem idx_LP_SRC0 (i j : Nat) : R.idx .LP_SRC0 i j = 0x1001 + i * 16 + j * 1 := rfl
@[simp] theorem idx_LP_SRC1 (i j : Nat) : R.idx .LP_SRC1 i j = 0x1002 + i * 16 + j * 1 := rfl
@[simp] theorem idx_LP_SRC2 (i j : Nat) : R.idx .LP_SRC2 i j = 0x1003 + i * 16 + j * 1 := rfl
@[simp] theorem idx_LP_KR (i j : Nat) : R.idx .LP_KR i j = 0x1004 + i * 16 + j * 1 := rfl
@[simp] theorem idx_LP_KX (i j : Nat) : R.idx .LP_KX i j = 0x1005 + i * 16 + j * 1 := rfl
@[simp] theorem idx_LP_KF (i j : Nat) : R.idx .LP_KF i j = 0x1006 + i * 16 + j * 1 := rfl
@[simp] theorem idx_LP_HI (i j : Nat) : R.idx .LP_HI i j = 0x1007 + i * 16 + j * 1 := rfl
@[simp] theorem idx_LP_LO (i j : Nat) : R.idx .LP_LO i j = 0x1008 + i * 16 + j * 1 := rfl
@[simp] theorem idx_LP_PAGE (i j : Nat) : R.idx .LP_PAGE i j = 0x1009 + i * 16 + j * 1 := rfl
@[simp] theorem idx_LP_STATE (i j : Nat) : R.idx .LP_STATE i j = 0x100A + i * 16 + j * 1 := rfl
@[simp] theorem idx_LP_VEC (i j : Nat) : R.idx .LP_VEC i j = 0x100B + i * 16 + j * 1 := rfl
@[simp] theorem idx_LP_CTL (i j : Nat) : R.idx .LP_CTL i j = 0x100C + i * 16 + j * 1 := rfl
@[simp] theorem idx_LP_STAT (i j : Nat) : R.idx .LP_STAT i j = 0x100D + i * 16 + j * 1 := rfl
@[simp] theorem idx_LP_Y (i j : Nat) : R.idx .LP_Y i j = 0x100E + i * 16 + j * 1 := rfl
@[simp] theorem idx_LP_E (i j : Nat) : R.idx .LP_E i j = 0x100F + i * 16 + j * 1 := rfl
@[simp] theorem idx_MG_CFG (i j : Nat) : R.idx .MG_CFG i j = 0x2000 + i * 64 + j * 1 := rfl
@[simp] theorem idx_MG_FB (i j : Nat) : R.idx .MG_FB i j = 0x2001 + i * 64 + j * 1 := rfl
@[simp] theorem idx_MG_CTL (i j : Nat) : R.idx .MG_CTL i j = 0x2002 + i * 64 + j * 1 := rfl
@[simp] theorem idx_MG_STAT (i j : Nat) : R.idx .MG_STAT i j = 0x2003 + i * 64 + j * 1 := rfl
@[simp] theorem idx_MG_TGT_LO (i j : Nat) : R.idx .MG_TGT_LO i j = 0x2004 + i * 64 + j * 1 := rfl
@[simp] theorem idx_MG_TGT_HI (i j : Nat) : R.idx .MG_TGT_HI i j = 0x2005 + i * 64 + j * 1 := rfl
@[simp] theorem idx_MG_VMAX_LO (i j : Nat) : R.idx .MG_VMAX_LO i j = 0x2006 + i * 64 + j * 1 := rfl
@[simp] theorem idx_MG_VMAX_HI (i j : Nat) : R.idx .MG_VMAX_HI i j = 0x2007 + i * 64 + j * 1 := rfl
@[simp] theorem idx_MG_AMAX_LO (i j : Nat) : R.idx .MG_AMAX_LO i j = 0x2008 + i * 64 + j * 1 := rfl
@[simp] theorem idx_MG_AMAX_HI (i j : Nat) : R.idx .MG_AMAX_HI i j = 0x2009 + i * 64 + j * 1 := rfl
@[simp] theorem idx_MG_JMAX_LO (i j : Nat) : R.idx .MG_JMAX_LO i j = 0x200A + i * 64 + j * 1 := rfl
@[simp] theorem idx_MG_JMAX_HI (i j : Nat) : R.idx .MG_JMAX_HI i j = 0x200B + i * 64 + j * 1 := rfl
@[simp] theorem idx_MG_AQS_LO (i j : Nat) : R.idx .MG_AQS_LO i j = 0x200C + i * 64 + j * 1 := rfl
@[simp] theorem idx_MG_AQS_HI (i j : Nat) : R.idx .MG_AQS_HI i j = 0x200D + i * 64 + j * 1 := rfl
@[simp] theorem idx_MG_JQS_LO (i j : Nat) : R.idx .MG_JQS_LO i j = 0x200E + i * 64 + j * 1 := rfl
@[simp] theorem idx_MG_JQS_HI (i j : Nat) : R.idx .MG_JQS_HI i j = 0x200F + i * 64 + j * 1 := rfl
@[simp] theorem idx_MG_SMIN_LO (i j : Nat) : R.idx .MG_SMIN_LO i j = 0x2010 + i * 64 + j * 1 := rfl
@[simp] theorem idx_MG_SMIN_HI (i j : Nat) : R.idx .MG_SMIN_HI i j = 0x2011 + i * 64 + j * 1 := rfl
@[simp] theorem idx_MG_SMAX_LO (i j : Nat) : R.idx .MG_SMAX_LO i j = 0x2012 + i * 64 + j * 1 := rfl
@[simp] theorem idx_MG_SMAX_HI (i j : Nat) : R.idx .MG_SMAX_HI i j = 0x2013 + i * 64 + j * 1 := rfl
@[simp] theorem idx_MG_POS_LO (i j : Nat) : R.idx .MG_POS_LO i j = 0x2014 + i * 64 + j * 1 := rfl
@[simp] theorem idx_MG_POS_HI (i j : Nat) : R.idx .MG_POS_HI i j = 0x2015 + i * 64 + j * 1 := rfl
@[simp] theorem idx_MG_VEL_LO (i j : Nat) : R.idx .MG_VEL_LO i j = 0x2016 + i * 64 + j * 1 := rfl
@[simp] theorem idx_MG_VEL_HI (i j : Nat) : R.idx .MG_VEL_HI i j = 0x2017 + i * 64 + j * 1 := rfl
@[simp] theorem idx_MG_ACC_LO (i j : Nat) : R.idx .MG_ACC_LO i j = 0x2018 + i * 64 + j * 1 := rfl
@[simp] theorem idx_MG_ACC_HI (i j : Nat) : R.idx .MG_ACC_HI i j = 0x2019 + i * 64 + j * 1 := rfl
@[simp] theorem idx_MG_JRK_LO (i j : Nat) : R.idx .MG_JRK_LO i j = 0x201A + i * 64 + j * 1 := rfl
@[simp] theorem idx_MG_JRK_HI (i j : Nat) : R.idx .MG_JRK_HI i j = 0x201B + i * 64 + j * 1 := rfl
@[simp] theorem idx_MG_STOP_LO (i j : Nat) : R.idx .MG_STOP_LO i j = 0x201C + i * 64 + j * 1 := rfl
@[simp] theorem idx_MG_STOP_HI (i j : Nat) : R.idx .MG_STOP_HI i j = 0x201D + i * 64 + j * 1 := rfl
@[simp] theorem idx_MG_QPOS_LO (i j : Nat) : R.idx .MG_QPOS_LO i j = 0x201E + i * 64 + j * 1 := rfl
@[simp] theorem idx_MG_QPOS_HI (i j : Nat) : R.idx .MG_QPOS_HI i j = 0x201F + i * 64 + j * 1 := rfl
@[simp] theorem idx_MG_QRES (i j : Nat) : R.idx .MG_QRES i j = 0x2020 + i * 64 + j * 1 := rfl
@[simp] theorem idx_MG_FERRLIM (i j : Nat) : R.idx .MG_FERRLIM i j = 0x2021 + i * 64 + j * 1 := rfl
@[simp] theorem idx_MG_FBPOS_LO (i j : Nat) : R.idx .MG_FBPOS_LO i j = 0x2022 + i * 64 + j * 1 := rfl
@[simp] theorem idx_MG_FBPOS_HI (i j : Nat) : R.idx .MG_FBPOS_HI i j = 0x2023 + i * 64 + j * 1 := rfl
@[simp] theorem idx_MG_REFPOS_LO (i j : Nat) : R.idx .MG_REFPOS_LO i j = 0x2024 + i * 64 + j * 1 := rfl
@[simp] theorem idx_MG_REFPOS_HI (i j : Nat) : R.idx .MG_REFPOS_HI i j = 0x2025 + i * 64 + j * 1 := rfl
@[simp] theorem idx_MG_CAPPOS_LO (i j : Nat) : R.idx .MG_CAPPOS_LO i j = 0x2026 + i * 64 + j * 1 := rfl
@[simp] theorem idx_MG_CAPPOS_HI (i j : Nat) : R.idx .MG_CAPPOS_HI i j = 0x2027 + i * 64 + j * 1 := rfl
@[simp] theorem idx_MG_FBK (i j : Nat) : R.idx .MG_FBK i j = 0x2028 + i * 64 + j * 1 := rfl
@[simp] theorem idx_MG_ILIM (i j : Nat) : R.idx .MG_ILIM i j = 0x2029 + i * 64 + j * 1 := rfl
@[simp] theorem idx_MG_GOV (i j : Nat) : R.idx .MG_GOV i j = 0x202A + i * 64 + j * 1 := rfl
@[simp] theorem idx_MG_MASS (i j : Nat) : R.idx .MG_MASS i j = 0x202B + i * 64 + j * 1 := rfl
@[simp] theorem idx_MG_MPC (i j : Nat) : R.idx .MG_MPC i j = 0x202C + i * 64 + j * 1 := rfl
@[simp] theorem idx_MG_GOVSTAT (i j : Nat) : R.idx .MG_GOVSTAT i j = 0x202D + i * 64 + j * 1 := rfl
@[simp] theorem idx_MG_STEP_CFG (i j : Nat) : R.idx .MG_STEP_CFG i j = 0x202E + i * 64 + j * 1 := rfl
@[simp] theorem idx_MG_STEP_CELL (i j : Nat) : R.idx .MG_STEP_CELL i j = 0x202F + i * 64 + j * 1 := rfl
@[simp] theorem idx_MG_STEP_VDC (i j : Nat) : R.idx .MG_STEP_VDC i j = 0x2030 + i * 64 + j * 1 := rfl
@[simp] theorem idx_MG_STEP_KP (i j : Nat) : R.idx .MG_STEP_KP i j = 0x2031 + i * 64 + j * 1 := rfl
@[simp] theorem idx_MG_STEP_KI (i j : Nat) : R.idx .MG_STEP_KI i j = 0x2032 + i * 64 + j * 1 := rfl
@[simp] theorem idx_MG_STEP_RS (i j : Nat) : R.idx .MG_STEP_RS i j = 0x2033 + i * 64 + j * 1 := rfl
@[simp] theorem idx_MG_STEP_LS (i j : Nat) : R.idx .MG_STEP_LS i j = 0x2034 + i * 64 + j * 1 := rfl
@[simp] theorem idx_MG_STEP_KE (i j : Nat) : R.idx .MG_STEP_KE i j = 0x2035 + i * 64 + j * 1 := rfl
@[simp] theorem idx_MG_STEP_I (i j : Nat) : R.idx .MG_STEP_I i j = 0x2036 + i * 64 + j * 1 := rfl
@[simp] theorem idx_MG_STEP_LD (i j : Nat) : R.idx .MG_STEP_LD i j = 0x2037 + i * 64 + j * 1 := rfl
@[simp] theorem idx_MG_STALL (i j : Nat) : R.idx .MG_STALL i j = 0x2038 + i * 64 + j * 1 := rfl
@[simp] theorem idx_MG_REFCFG (i j : Nat) : R.idx .MG_REFCFG i j = 0x2039 + i * 64 + j * 1 := rfl
@[simp] theorem idx_MG_STEP_STAT (i j : Nat) : R.idx .MG_STEP_STAT i j = 0x203A + i * 64 + j * 1 := rfl
@[simp] theorem idx_MG_STATE (i j : Nat) : R.idx .MG_STATE i j = 0x203B + i * 64 + j * 1 := rfl
@[simp] theorem idx_SF_CTL (i j : Nat) : R.idx .SF_CTL i j = 0x2800 + i * 1 + j * 1 := rfl
@[simp] theorem idx_SF_STAT (i j : Nat) : R.idx .SF_STAT i j = 0x2801 + i * 1 + j * 1 := rfl
@[simp] theorem idx_SF_ASSAY (i j : Nat) : R.idx .SF_ASSAY i j = 0x2802 + i * 1 + j * 1 := rfl
@[simp] theorem idx_SF_CLK (i j : Nat) : R.idx .SF_CLK i j = 0x2803 + i * 1 + j * 1 := rfl
@[simp] theorem idx_SF_DEG_CFG (i j : Nat) : R.idx .SF_DEG_CFG i j = 0x2804 + i * 1 + j * 1 := rfl
@[simp] theorem idx_SF_TP_CFG (i j : Nat) : R.idx .SF_TP_CFG i j = 0x2805 + i * 1 + j * 1 := rfl
@[simp] theorem idx_SF_SI_STATE (i j : Nat) : R.idx .SF_SI_STATE i j = 0x2806 + i * 1 + j * 1 := rfl
@[simp] theorem idx_SF_SI_FAULT (i j : Nat) : R.idx .SF_SI_FAULT i j = 0x2807 + i * 1 + j * 1 := rfl
@[simp] theorem idx_SF_PERMIT (i j : Nat) : R.idx .SF_PERMIT i j = 0x2808 + i * 1 + j * 1 := rfl
@[simp] theorem idx_SF_DEGRADED (i j : Nat) : R.idx .SF_DEGRADED i j = 0x2809 + i * 1 + j * 1 := rfl
@[simp] theorem idx_SF_FAILED (i j : Nat) : R.idx .SF_FAILED i j = 0x280A + i * 1 + j * 1 := rfl
@[simp] theorem idx_SF_SI_CFG (i j : Nat) : R.idx .SF_SI_CFG i j = 0x2810 + i * 1 + j * 1 := rfl
@[simp] theorem idx_SF_SO_CFG (i j : Nat) : R.idx .SF_SO_CFG i j = 0x2820 + i * 1 + j * 1 := rfl
@[simp] theorem idx_SF_SO_STAT (i j : Nat) : R.idx .SF_SO_STAT i j = 0x2828 + i * 1 + j * 1 := rfl
@[simp] theorem idx_SF_MON_CFG (i j : Nat) : R.idx .SF_MON_CFG i j = 0x2830 + i * 4 + j * 1 := rfl
@[simp] theorem idx_SF_MON_K (i j : Nat) : R.idx .SF_MON_K i j = 0x2831 + i * 4 + j * 1 := rfl
@[simp] theorem idx_SF_MON_TOL (i j : Nat) : R.idx .SF_MON_TOL i j = 0x2832 + i * 4 + j * 1 := rfl
@[simp] theorem idx_SF_MON_SPD (i j : Nat) : R.idx .SF_MON_SPD i j = 0x2850 + i * 4 + j * 1 := rfl
@[simp] theorem idx_SF_MON_POS (i j : Nat) : R.idx .SF_MON_POS i j = 0x2851 + i * 4 + j * 1 := rfl
@[simp] theorem idx_SF_MON_DIFF (i j : Nat) : R.idx .SF_MON_DIFF i j = 0x2852 + i * 4 + j * 1 := rfl
@[simp] theorem idx_SF_MON_STAT (i j : Nat) : R.idx .SF_MON_STAT i j = 0x2853 + i * 4 + j * 1 := rfl
@[simp] theorem idx_SF_FN_CFG (i j : Nat) : R.idx .SF_FN_CFG i j = 0x2900 + i * 16 + j * 1 := rfl
@[simp] theorem idx_SF_TERM_A (i j : Nat) : R.idx .SF_TERM_A i j = 0x2901 + i * 16 + j * 2 := rfl
@[simp] theorem idx_SF_TERM_B (i j : Nat) : R.idx .SF_TERM_B i j = 0x2902 + i * 16 + j * 2 := rfl
@[simp] theorem idx_SF_FN_DEG (i j : Nat) : R.idx .SF_FN_DEG i j = 0x2909 + i * 16 + j * 1 := rfl
@[simp] theorem idx_SF_FN_STAT (i j : Nat) : R.idx .SF_FN_STAT i j = 0x290A + i * 16 + j * 1 := rfl
@[simp] theorem idx_DX_CFG (i j : Nat) : R.idx .DX_CFG i j = 0x2C00 + i * 1 + j * 1 := rfl
@[simp] theorem idx_DX_STAT (i j : Nat) : R.idx .DX_STAT i j = 0x2C01 + i * 1 + j * 1 := rfl
@[simp] theorem idx_DX_SIDE (i j : Nat) : R.idx .DX_SIDE i j = 0x2C02 + i * 1 + j * 1 := rfl
@[simp] theorem idx_DX_SYNC (i j : Nat) : R.idx .DX_SYNC i j = 0x2C04 + i * 1 + j * 1 := rfl
@[simp] theorem idx_DX_TBWAIT (i j : Nat) : R.idx .DX_TBWAIT i j = 0x2C05 + i * 1 + j * 1 := rfl
@[simp] theorem idx_DX_LASTFO_LO (i j : Nat) : R.idx .DX_LASTFO_LO i j = 0x2C06 + i * 1 + j * 1 := rfl
@[simp] theorem idx_DX_LASTFO_HI (i j : Nat) : R.idx .DX_LASTFO_HI i j = 0x2C07 + i * 1 + j * 1 := rfl
@[simp] theorem idx_SPR_STAT (i j : Nat) : R.idx .SPR_STAT i j = 0x2E00 + i * 1 + j * 1 := rfl
@[simp] theorem idx_SPR_WEAR_CFG (i j : Nat) : R.idx .SPR_WEAR_CFG i j = 0x2E01 + i * 1 + j * 1 := rfl
@[simp] theorem idx_SPR_FLASH_CFG (i j : Nat) : R.idx .SPR_FLASH_CFG i j = 0x2E02 + i * 1 + j * 1 := rfl
@[simp] theorem idx_SPR_LOG (i j : Nat) : R.idx .SPR_LOG i j = 0x2E03 + i * 1 + j * 1 := rfl
@[simp] theorem idx_SPR_PART (i j : Nat) : R.idx .SPR_PART i j = 0x2E40 + i * 1 + j * 1 := rfl
@[simp] theorem idx_PWR_CTL (i j : Nat) : R.idx .PWR_CTL i j = 0x2F00 + i * 1 + j * 1 := rfl
@[simp] theorem idx_PWR_STAT (i j : Nat) : R.idx .PWR_STAT i j = 0x2F01 + i * 1 + j * 1 := rfl
@[simp] theorem idx_PWR_CFG (i j : Nat) : R.idx .PWR_CFG i j = 0x2F02 + i * 1 + j * 1 := rfl
@[simp] theorem idx_PWR_LF (i j : Nat) : R.idx .PWR_LF i j = 0x2F03 + i * 1 + j * 1 := rfl
@[simp] theorem idx_PWR_HOST (i j : Nat) : R.idx .PWR_HOST i j = 0x2F04 + i * 1 + j * 1 := rfl
@[simp] theorem idx_PWR_CAUSE (i j : Nat) : R.idx .PWR_CAUSE i j = 0x2F05 + i * 1 + j * 1 := rfl
@[simp] theorem idx_PWR_JFRAME_LO (i j : Nat) : R.idx .PWR_JFRAME_LO i j = 0x2F06 + i * 1 + j * 1 := rfl
@[simp] theorem idx_PWR_JFRAME_HI (i j : Nat) : R.idx .PWR_JFRAME_HI i j = 0x2F07 + i * 1 + j * 1 := rfl
@[simp] theorem idx_PWR_ERST (i j : Nat) : R.idx .PWR_ERST i j = 0x2F10 + i * 1 + j * 1 := rfl
@[simp] theorem idx_CB_CTL (i j : Nat) : R.idx .CB_CTL i j = 0x3000 + i * 1024 + j * 1 := rfl
@[simp] theorem idx_CB_STAT (i j : Nat) : R.idx .CB_STAT i j = 0x3001 + i * 1024 + j * 1 := rfl
@[simp] theorem idx_CB_ERR (i j : Nat) : R.idx .CB_ERR i j = 0x3002 + i * 1024 + j * 1 := rfl
@[simp] theorem idx_CB_NBT (i j : Nat) : R.idx .CB_NBT i j = 0x3003 + i * 1024 + j * 1 := rfl
@[simp] theorem idx_CB_DBT (i j : Nat) : R.idx .CB_DBT i j = 0x3004 + i * 1024 + j * 1 := rfl
@[simp] theorem idx_CB_TT_CFG (i j : Nat) : R.idx .CB_TT_CFG i j = 0x3005 + i * 1024 + j * 1 := rfl
@[simp] theorem idx_CB_TT_STAT (i j : Nat) : R.idx .CB_TT_STAT i j = 0x3006 + i * 1024 + j * 1 := rfl
@[simp] theorem idx_CB_CNT (i j : Nat) : R.idx .CB_CNT i j = 0x3007 + i * 1024 + j * 1 := rfl
@[simp] theorem idx_CB_MCNT (i j : Nat) : R.idx .CB_MCNT i j = 0x3008 + i * 1024 + j * 1 := rfl
@[simp] theorem idx_CB_WAKE_ID (i j : Nat) : R.idx .CB_WAKE_ID i j = 0x3009 + i * 1024 + j * 1 := rfl
@[simp] theorem idx_CB_WAKE_IDM (i j : Nat) : R.idx .CB_WAKE_IDM i j = 0x300A + i * 1024 + j * 1 := rfl
@[simp] theorem idx_CB_WAKE_DLC (i j : Nat) : R.idx .CB_WAKE_DLC i j = 0x300B + i * 1024 + j * 1 := rfl
@[simp] theorem idx_CB_WAKE_D0 (i j : Nat) : R.idx .CB_WAKE_D0 i j = 0x300C + i * 1024 + j * 1 := rfl
@[simp] theorem idx_CB_WAKE_D1 (i j : Nat) : R.idx .CB_WAKE_D1 i j = 0x300D + i * 1024 + j * 1 := rfl
@[simp] theorem idx_CB_NEWDAT (i j : Nat) : R.idx .CB_NEWDAT i j = 0x3010 + i * 1024 + j * 1 := rfl
@[simp] theorem idx_CB_COL (i j : Nat) : R.idx .CB_COL i j = 0x3040 + i * 1024 + j * 1 := rfl
@[simp] theorem idx_CB_BUF_CFG (i j : Nat) : R.idx .CB_BUF_CFG i j = 0x3080 + i * 1024 + j * 1 := rfl
@[simp] theorem idx_CB_BUF_ID (i j : Nat) : R.idx .CB_BUF_ID i j = 0x3100 + i * 1024 + j * 1 := rfl
@[simp] theorem idx_CB_BUF_STAT (i j : Nat) : R.idx .CB_BUF_STAT i j = 0x3180 + i * 1024 + j * 1 := rfl
@[simp] theorem idx_CB_DATA (i j : Nat) : R.idx .CB_DATA i j = 0x3200 + i * 1024 + j * 1 := rfl
@[simp] theorem idx_AQ_CTL (i j : Nat) : R.idx .AQ_CTL i j = 0x4000 + i * 1 + j * 1 := rfl
@[simp] theorem idx_AQ_STAT (i j : Nat) : R.idx .AQ_STAT i j = 0x4001 + i * 1 + j * 1 := rfl
@[simp] theorem idx_AQ_SEQ (i j : Nat) : R.idx .AQ_SEQ i j = 0x4002 + i * 1 + j * 1 := rfl
@[simp] theorem idx_AQ_QUEUE (i j : Nat) : R.idx .AQ_QUEUE i j = 0x4003 + i * 1 + j * 1 := rfl
@[simp] theorem idx_AQ_WIN (i j : Nat) : R.idx .AQ_WIN i j = 0x4004 + i * 1 + j * 1 := rfl
@[simp] theorem idx_AQ_STM_STAT (i j : Nat) : R.idx .AQ_STM_STAT i j = 0x4008 + i * 1 + j * 1 := rfl
@[simp] theorem idx_AQ_TRG_STAT (i j : Nat) : R.idx .AQ_TRG_STAT i j = 0x4010 + i * 1 + j * 1 := rfl
@[simp] theorem idx_AQ_STM_CFG (i j : Nat) : R.idx .AQ_STM_CFG i j = 0x4020 + i * 1 + j * 1 := rfl
@[simp] theorem idx_AQ_SRC (i j : Nat) : R.idx .AQ_SRC i j = 0x4100 + i * 128 + j * 2 := rfl
@[simp] theorem idx_AQ_SRCPH (i j : Nat) : R.idx .AQ_SRCPH i j = 0x4101 + i * 128 + j * 2 := rfl
@[simp] theorem idx_AQ_TRG_CFG (i j : Nat) : R.idx .AQ_TRG_CFG i j = 0x4300 + i * 4 + j * 1 := rfl
@[simp] theorem idx_AQ_TRG_LVL (i j : Nat) : R.idx .AQ_TRG_LVL i j = 0x4301 + i * 4 + j * 1 := rfl
@[simp] theorem idx_AQ_TRG_HYS (i j : Nat) : R.idx .AQ_TRG_HYS i j = 0x4302 + i * 4 + j * 1 := rfl
@[simp] theorem idx_AQ_TRG_TIM (i j : Nat) : R.idx .AQ_TRG_TIM i j = 0x4303 + i * 4 + j * 1 := rfl
@[simp] theorem idx_EV_CFG (i j : Nat) : R.idx .EV_CFG i j = 0x4400 + i * 1 + j * 1 := rfl
@[simp] theorem idx_EV_STAT (i j : Nat) : R.idx .EV_STAT i j = 0x4401 + i * 1 + j * 1 := rfl
@[simp] theorem idx_EV_LOST (i j : Nat) : R.idx .EV_LOST i j = 0x4402 + i * 1 + j * 1 := rfl
@[simp] theorem idx_EV_LOSTP (i j : Nat) : R.idx .EV_LOSTP i j = 0x4403 + i * 1 + j * 1 := rfl
@[simp] theorem idx_EV_CURSOR (i j : Nat) : R.idx .EV_CURSOR i j = 0x4404 + i * 1 + j * 1 := rfl
@[simp] theorem idx_EV_WIN (i j : Nat) : R.idx .EV_WIN i j = 0x4480 + i * 8 + j * 1 := rfl
@[simp] theorem idx_LG_STAT (i j : Nat) : R.idx .LG_STAT i j = 0x4500 + i * 1 + j * 1 := rfl
@[simp] theorem idx_LG_CAL_LO (i j : Nat) : R.idx .LG_CAL_LO i j = 0x4501 + i * 1 + j * 1 := rfl
@[simp] theorem idx_LG_CAL_HI (i j : Nat) : R.idx .LG_CAL_HI i j = 0x4502 + i * 1 + j * 1 := rfl
@[simp] theorem idx_LG_INSP_LO (i j : Nat) : R.idx .LG_INSP_LO i j = 0x4503 + i * 1 + j * 1 := rfl
@[simp] theorem idx_LG_INSP_HI (i j : Nat) : R.idx .LG_INSP_HI i j = 0x4504 + i * 1 + j * 1 := rfl
@[simp] theorem idx_LG_CFG (i j : Nat) : R.idx .LG_CFG i j = 0x4505 + i * 1 + j * 1 := rfl
@[simp] theorem idx_LG_MIRROR (i j : Nat) : R.idx .LG_MIRROR i j = 0x4506 + i * 1 + j * 1 := rfl
@[simp] theorem idx_LG_WEAR (i j : Nat) : R.idx .LG_WEAR i j = 0x4580 + i * 1 + j * 1 := rfl
@[simp] theorem idx_LG_CNT_LO (i j : Nat) : R.idx .LG_CNT_LO i j = 0x4600 + i * 2 + j * 1 := rfl
@[simp] theorem idx_LG_CNT_HI (i j : Nat) : R.idx .LG_CNT_HI i j = 0x4601 + i * 2 + j * 1 := rfl
@[simp] theorem idx_ZL_CFG (i j : Nat) : R.idx .ZL_CFG i j = 0x4800 + i * 1 + j * 1 := rfl
@[simp] theorem idx_ZL_STAT (i j : Nat) : R.idx .ZL_STAT i j = 0x4801 + i * 1 + j * 1 := rfl
@[simp] theorem idx_ZL_TIMING (i j : Nat) : R.idx .ZL_TIMING i j = 0x4802 + i * 1 + j * 1 := rfl
@[simp] theorem idx_ZL_CYCLE (i j : Nat) : R.idx .ZL_CYCLE i j = 0x4803 + i * 1 + j * 1 := rfl
@[simp] theorem idx_ZL_SYST_LO (i j : Nat) : R.idx .ZL_SYST_LO i j = 0x4804 + i * 1 + j * 1 := rfl
@[simp] theorem idx_ZL_SYST_HI (i j : Nat) : R.idx .ZL_SYST_HI i j = 0x4805 + i * 1 + j * 1 := rfl
@[simp] theorem idx_ZL_DLY (i j : Nat) : R.idx .ZL_DLY i j = 0x4806 + i * 1 + j * 1 := rfl
@[simp] theorem idx_ZL_PORT (i j : Nat) : R.idx .ZL_PORT i j = 0x4807 + i * 1 + j * 1 := rfl
@[simp] theorem idx_ZL_DN (i j : Nat) : R.idx .ZL_DN i j = 0x4809 + i * 1 + j * 1 := rfl
@[simp] theorem idx_ZL_UP (i j : Nat) : R.idx .ZL_UP i j = 0x480A + i * 1 + j * 1 := rfl
@[simp] theorem idx_ZL_CACHE (i j : Nat) : R.idx .ZL_CACHE i j = 0x480B + i * 1 + j * 1 := rfl
@[simp] theorem idx_ZL_SESS (i j : Nat) : R.idx .ZL_SESS i j = 0x4810 + i * 1 + j * 1 := rfl
@[simp] theorem idx_UPD_STAT (i j : Nat) : R.idx .UPD_STAT i j = 0x4A00 + i * 1 + j * 1 := rfl
@[simp] theorem idx_UPD_MANID (i j : Nat) : R.idx .UPD_MANID i j = 0x4A01 + i * 1 + j * 1 := rfl
@[simp] theorem idx_UPD_VER (i j : Nat) : R.idx .UPD_VER i j = 0x4A02 + i * 1 + j * 1 := rfl
@[simp] theorem idx_UPD_FRAME_LO (i j : Nat) : R.idx .UPD_FRAME_LO i j = 0x4A03 + i * 1 + j * 1 := rfl
@[simp] theorem idx_UPD_FRAME_HI (i j : Nat) : R.idx .UPD_FRAME_HI i j = 0x4A04 + i * 1 + j * 1 := rfl
@[simp] theorem idx_UPD_REQ (i j : Nat) : R.idx .UPD_REQ i j = 0x4A05 + i * 1 + j * 1 := rfl
@[simp] theorem idx_UPD_READY (i j : Nat) : R.idx .UPD_READY i j = 0x4A06 + i * 1 + j * 1 := rfl
@[simp] theorem idx_UPD_SHADOW (i j : Nat) : R.idx .UPD_SHADOW i j = 0x4A07 + i * 1 + j * 1 := rfl
@[simp] theorem idx_UPD_PROG (i j : Nat) : R.idx .UPD_PROG i j = 0x4A08 + i * 1 + j * 1 := rfl
@[simp] theorem idx_UPD_ERR (i j : Nat) : R.idx .UPD_ERR i j = 0x4A09 + i * 1 + j * 1 := rfl
@[simp] theorem idx_UPD_BOOT (i j : Nat) : R.idx .UPD_BOOT i j = 0x4A0A + i * 1 + j * 1 := rfl
@[simp] theorem idx_UPD_LASTF_LO (i j : Nat) : R.idx .UPD_LASTF_LO i j = 0x4A0B + i * 1 + j * 1 := rfl
@[simp] theorem idx_UPD_LASTF_HI (i j : Nat) : R.idx .UPD_LASTF_HI i j = 0x4A0C + i * 1 + j * 1 := rfl
@[simp] theorem idx_PRM_CELL (i j : Nat) : R.idx .PRM_CELL i j = 0x8000 + i * 1 + j * 1 := rfl

end Sys2Proof.Machine
end

