-- ==== Sys2Proof/Laws/Each.lean ====
section
/-! SUPPORT. Folding an operation over a list of instances (`each`): what holds of every step holds of the whole. -/

namespace Sys2Proof.Machine

open Sys2Proof

section
variable {α σ β : Type}

@[simp] theorem each_nil (s : σ) (f : σ → α → σ) : each [] s f = s := rfl
@[simp] theorem each_cons (a : α) (l : List α) (s : σ) (f : σ → α → σ) : each (a :: l) s f = each l (f s a) f := rfl
theorem each_append (l k : List α) (s : σ) (f : σ → α → σ) : each (l ++ k) s f = each k (each l s f) f := by
  simp [each]

/-- A property that every step keeps holds at the end. -/
theorem each_inv (P : σ → Prop) (l : List α) (s : σ) (f : σ → α → σ) (h : ∀ x, ∀ a ∈ l, P x → P (f x a)) (h0 : P s) :
    P (each l s f) := by
  induction l generalizing s with
  | nil => exact h0
  | cons a l ih => exact ih _ (fun x b hb => h x b (by simp [hb])) (h s a (by simp) h0)

/-- A view that every step keeps is the same at the end. -/
theorem each_keeps (g : σ → β) (l : List α) (s : σ) (f : σ → α → σ) (h : ∀ x, ∀ a ∈ l, g (f x a) = g x) :
    g (each l s f) = g s :=
  each_inv (fun x => g x = g s) l s f (fun x a ha hx => (h x a ha).trans hx) rfl

/-- What one step establishes and the others keep holds at the end. -/
theorem each_hit (P : σ → Prop) (l : List α) (s : σ) (f : σ → α → σ) (a : α) (ha : a ∈ l) (h1 : ∀ x, P (f x a))
    (h : ∀ x, ∀ b ∈ l, P x → P (f x b)) : P (each l s f) := by
  induction l generalizing s with
  | nil => simp at ha
  | cons b l ih =>
    rcases List.mem_cons.1 ha with rfl | ha'
    · exact each_inv P l _ f (fun x c hc => h x c (by simp [hc])) (h1 s)
    · exact ih _ ha' (fun x c hc => h x c (by simp [hc]))

end

theorem mem_upTo {n k : Nat} : k ∈ upTo n ↔ k < n := by simp [upTo]

/-- A register word that no step writes is the same after all. -/
theorem each_word {α : Type} (l : List α) (m : Mach) (f : Mach → α → Mach) (k : Nat) (h : ∀ x, ∀ a ∈ l, (f x a).word k = x.word k) :
    (each l m f).word k = m.word k := each_keeps (fun x => x.word k) l m f h

end Sys2Proof.Machine
end

