-- ==== Sys2Proof/Laws/Fields.lean ====
section
/-! SUPPORT. The register and the bits of every field. -/

namespace Sys2Proof.Machine.F

open Sys2Proof.Machine

@[simp] theorem DEV_ID_PART_reg : DEV_ID_PART.reg = .DEV_ID := rfl
@[simp] theorem DEV_ID_PART_hi : DEV_ID_PART.hi = 31 := rfl
@[simp] theorem DEV_ID_PART_lo : DEV_ID_PART.lo = 16 := rfl
@[simp] theorem DEV_ID_ISSUE_reg : DEV_ID_ISSUE.reg = .DEV_ID := rfl
@[simp] theorem DEV_ID_ISSUE_hi : DEV_ID_ISSUE.hi = 15 := rfl
@[simp] theorem DEV_ID_ISSUE_lo : DEV_ID_ISSUE.lo = 8 := rfl
@[simp] theorem DEV_ID_VARIANT_reg : DEV_ID_VARIANT.reg = .DEV_ID := rfl
@[simp] theorem DEV_ID_VARIANT_hi : DEV_ID_VARIANT.hi = 7 := rfl
@[simp] theorem DEV_ID_VARIANT_lo : DEV_ID_VARIANT.lo = 4 := rfl
@[simp] theorem DEV_SERIAL_LO_reg : DEV_SERIAL_LO.reg = .DEV_SERIAL_LO := rfl
@[simp] theorem DEV_SERIAL_LO_hi : DEV_SERIAL_LO.hi = 31 := rfl
@[simp] theorem DEV_SERIAL_LO_lo : DEV_SERIAL_LO.lo = 0 := rfl
@[simp] theorem DEV_SERIAL_HI_reg : DEV_SERIAL_HI.reg = .DEV_SERIAL_HI := rfl
@[simp] theorem DEV_SERIAL_HI_hi : DEV_SERIAL_HI.hi = 31 := rfl
@[simp] theorem DEV_SERIAL_HI_lo : DEV_SERIAL_HI.lo = 0 := rfl
@[simp] theorem DEV_FW_SLOT_reg : DEV_FW_SLOT.reg = .DEV_FW := rfl
@[simp] theorem DEV_FW_SLOT_hi : DEV_FW_SLOT.hi = 31 := rfl
@[simp] theorem DEV_FW_SLOT_lo : DEV_FW_SLOT.lo = 31 := rfl
@[simp] theorem DEV_FW_MAJOR_reg : DEV_FW_MAJOR.reg = .DEV_FW := rfl
@[simp] theorem DEV_FW_MAJOR_hi : DEV_FW_MAJOR.hi = 23 := rfl
@[simp] theorem DEV_FW_MAJOR_lo : DEV_FW_MAJOR.lo = 16 := rfl
@[simp] theorem DEV_FW_MINOR_reg : DEV_FW_MINOR.reg = .DEV_FW := rfl
@[simp] theorem DEV_FW_MINOR_hi : DEV_FW_MINOR.hi = 15 := rfl
@[simp] theorem DEV_FW_MINOR_lo : DEV_FW_MINOR.lo = 8 := rfl
@[simp] theorem DEV_FW_BUILD_reg : DEV_FW_BUILD.reg = .DEV_FW := rfl
@[simp] theorem DEV_FW_BUILD_hi : DEV_FW_BUILD.hi = 7 := rfl
@[simp] theorem DEV_FW_BUILD_lo : DEV_FW_BUILD.lo = 0 := rfl
@[simp] theorem DEV_ADDR_RING_reg : DEV_ADDR_RING.reg = .DEV_ADDR := rfl
@[simp] theorem DEV_ADDR_RING_hi : DEV_ADDR_RING.hi = 9 := rfl
@[simp] theorem DEV_ADDR_RING_lo : DEV_ADDR_RING.lo = 6 := rfl
@[simp] theorem DEV_ADDR_NODE_reg : DEV_ADDR_NODE.reg = .DEV_ADDR := rfl
@[simp] theorem DEV_ADDR_NODE_hi : DEV_ADDR_NODE.hi = 5 := rfl
@[simp] theorem DEV_ADDR_NODE_lo : DEV_ADDR_NODE.lo = 0 := rfl
@[simp] theorem DEV_CTL_KEY_reg : DEV_CTL_KEY.reg = .DEV_CTL := rfl
@[simp] theorem DEV_CTL_KEY_hi : DEV_CTL_KEY.hi = 31 := rfl
@[simp] theorem DEV_CTL_KEY_lo : DEV_CTL_KEY.lo = 16 := rfl
@[simp] theorem DEV_CTL_MARK_reg : DEV_CTL_MARK.reg = .DEV_CTL := rfl
@[simp] theorem DEV_CTL_MARK_hi : DEV_CTL_MARK.hi = 1 := rfl
@[simp] theorem DEV_CTL_MARK_lo : DEV_CTL_MARK.lo = 1 := rfl
@[simp] theorem DEV_CTL_HOST_RST_reg : DEV_CTL_HOST_RST.reg = .DEV_CTL := rfl
@[simp] theorem DEV_CTL_HOST_RST_hi : DEV_CTL_HOST_RST.hi = 0 := rfl
@[simp] theorem DEV_CTL_HOST_RST_lo : DEV_CTL_HOST_RST.lo = 0 := rfl
@[simp] theorem DEV_STATE_STANDBY_OK_reg : DEV_STATE_STANDBY_OK.reg = .DEV_STATE := rfl
@[simp] theorem DEV_STATE_STANDBY_OK_hi : DEV_STATE_STANDBY_OK.hi = 10 := rfl
@[simp] theorem DEV_STATE_STANDBY_OK_lo : DEV_STATE_STANDBY_OK.lo = 10 := rfl
@[simp] theorem DEV_STATE_HALLMARK_OK_reg : DEV_STATE_HALLMARK_OK.reg = .DEV_STATE := rfl
@[simp] theorem DEV_STATE_HALLMARK_OK_hi : DEV_STATE_HALLMARK_OK.hi = 9 := rfl
@[simp] theorem DEV_STATE_HALLMARK_OK_lo : DEV_STATE_HALLMARK_OK.lo = 9 := rfl
@[simp] theorem DEV_STATE_KEY_OK_reg : DEV_STATE_KEY_OK.reg = .DEV_STATE := rfl
@[simp] theorem DEV_STATE_KEY_OK_hi : DEV_STATE_KEY_OK.hi = 8 := rfl
@[simp] theorem DEV_STATE_KEY_OK_lo : DEV_STATE_KEY_OK.lo = 8 := rfl
@[simp] theorem DEV_STATE_STATE_reg : DEV_STATE_STATE.reg = .DEV_STATE := rfl
@[simp] theorem DEV_STATE_STATE_hi : DEV_STATE_STATE.hi = 3 := rfl
@[simp] theorem DEV_STATE_STATE_lo : DEV_STATE_STATE.lo = 0 := rfl
@[simp] theorem DEV_ENG_RUN_RUN_reg : DEV_ENG_RUN_RUN.reg = .DEV_ENG_RUN := rfl
@[simp] theorem DEV_ENG_RUN_RUN_hi : DEV_ENG_RUN_RUN.hi = 18 := rfl
@[simp] theorem DEV_ENG_RUN_RUN_lo : DEV_ENG_RUN_RUN.lo = 0 := rfl
@[simp] theorem DEV_ENG_FAULT_FAULT_reg : DEV_ENG_FAULT_FAULT.reg = .DEV_ENG_FAULT := rfl
@[simp] theorem DEV_ENG_FAULT_FAULT_hi : DEV_ENG_FAULT_FAULT.hi = 18 := rfl
@[simp] theorem DEV_ENG_FAULT_FAULT_lo : DEV_ENG_FAULT_FAULT.lo = 0 := rfl
@[simp] theorem DEV_OWN_VIOL_VALID_reg : DEV_OWN_VIOL_VALID.reg = .DEV_OWN_VIOL := rfl
@[simp] theorem DEV_OWN_VIOL_VALID_hi : DEV_OWN_VIOL_VALID.hi = 31 := rfl
@[simp] theorem DEV_OWN_VIOL_VALID_lo : DEV_OWN_VIOL_VALID.lo = 31 := rfl
@[simp] theorem DEV_OWN_VIOL_COUNT_reg : DEV_OWN_VIOL_COUNT.reg = .DEV_OWN_VIOL := rfl
@[simp] theorem DEV_OWN_VIOL_COUNT_hi : DEV_OWN_VIOL_COUNT.hi = 30 := rfl
@[simp] theorem DEV_OWN_VIOL_COUNT_lo : DEV_OWN_VIOL_COUNT.lo = 28 := rfl
@[simp] theorem DEV_OWN_VIOL_KIND_reg : DEV_OWN_VIOL_KIND.reg = .DEV_OWN_VIOL := rfl
@[simp] theorem DEV_OWN_VIOL_KIND_hi : DEV_OWN_VIOL_KIND.hi = 27 := rfl
@[simp] theorem DEV_OWN_VIOL_KIND_lo : DEV_OWN_VIOL_KIND.lo = 26 := rfl
@[simp] theorem DEV_OWN_VIOL_ENGINE_reg : DEV_OWN_VIOL_ENGINE.reg = .DEV_OWN_VIOL := rfl
@[simp] theorem DEV_OWN_VIOL_ENGINE_hi : DEV_OWN_VIOL_ENGINE.hi = 25 := rfl
@[simp] theorem DEV_OWN_VIOL_ENGINE_lo : DEV_OWN_VIOL_ENGINE.lo = 21 := rfl
@[simp] theorem DEV_OWN_VIOL_INDEX_reg : DEV_OWN_VIOL_INDEX.reg = .DEV_OWN_VIOL := rfl
@[simp] theorem DEV_OWN_VIOL_INDEX_hi : DEV_OWN_VIOL_INDEX.hi = 15 := rfl
@[simp] theorem DEV_OWN_VIOL_INDEX_lo : DEV_OWN_VIOL_INDEX.lo = 0 := rfl
@[simp] theorem DEV_BAR_STAT_SPARE_FOR_reg : DEV_BAR_STAT_SPARE_FOR.reg = .DEV_BAR_STAT := rfl
@[simp] theorem DEV_BAR_STAT_SPARE_FOR_hi : DEV_BAR_STAT_SPARE_FOR.hi = 18 := rfl
@[simp] theorem DEV_BAR_STAT_SPARE_FOR_lo : DEV_BAR_STAT_SPARE_FOR.lo = 16 := rfl
@[simp] theorem DEV_BAR_STAT_FAILED_reg : DEV_BAR_STAT_FAILED.reg = .DEV_BAR_STAT := rfl
@[simp] theorem DEV_BAR_STAT_FAILED_hi : DEV_BAR_STAT_FAILED.hi = 12 := rfl
@[simp] theorem DEV_BAR_STAT_FAILED_lo : DEV_BAR_STAT_FAILED.lo = 8 := rfl
@[simp] theorem DEV_BAR_STAT_INSERV_reg : DEV_BAR_STAT_INSERV.reg = .DEV_BAR_STAT := rfl
@[simp] theorem DEV_BAR_STAT_INSERV_hi : DEV_BAR_STAT_INSERV.hi = 4 := rfl
@[simp] theorem DEV_BAR_STAT_INSERV_lo : DEV_BAR_STAT_INSERV.lo = 0 := rfl
@[simp] theorem DEV_BAR_ERR_RESENT_reg : DEV_BAR_ERR_RESENT.reg = .DEV_BAR_ERR := rfl
@[simp] theorem DEV_BAR_ERR_RESENT_hi : DEV_BAR_ERR_RESENT.hi = 31 := rfl
@[simp] theorem DEV_BAR_ERR_RESENT_lo : DEV_BAR_ERR_RESENT.lo = 16 := rfl
@[simp] theorem DEV_BAR_ERR_CRCERR_reg : DEV_BAR_ERR_CRCERR.reg = .DEV_BAR_ERR := rfl
@[simp] theorem DEV_BAR_ERR_CRCERR_hi : DEV_BAR_ERR_CRCERR.hi = 15 := rfl
@[simp] theorem DEV_BAR_ERR_CRCERR_lo : DEV_BAR_ERR_CRCERR.lo = 0 := rfl
@[simp] theorem DEV_ROLE_STAT_FAILS_reg : DEV_ROLE_STAT_FAILS.reg = .DEV_ROLE_STAT := rfl
@[simp] theorem DEV_ROLE_STAT_FAILS_hi : DEV_ROLE_STAT_FAILS.hi = 31 := rfl
@[simp] theorem DEV_ROLE_STAT_FAILS_lo : DEV_ROLE_STAT_FAILS.lo = 16 := rfl
@[simp] theorem DEV_ROLE_STAT_COM_SET_reg : DEV_ROLE_STAT_COM_SET.reg = .DEV_ROLE_STAT := rfl
@[simp] theorem DEV_ROLE_STAT_COM_SET_hi : DEV_ROLE_STAT_COM_SET.hi = 2 := rfl
@[simp] theorem DEV_ROLE_STAT_COM_SET_lo : DEV_ROLE_STAT_COM_SET.lo = 2 := rfl
@[simp] theorem DEV_ROLE_STAT_MNT_SET_reg : DEV_ROLE_STAT_MNT_SET.reg = .DEV_ROLE_STAT := rfl
@[simp] theorem DEV_ROLE_STAT_MNT_SET_hi : DEV_ROLE_STAT_MNT_SET.hi = 1 := rfl
@[simp] theorem DEV_ROLE_STAT_MNT_SET_lo : DEV_ROLE_STAT_MNT_SET.lo = 1 := rfl
@[simp] theorem DEV_ROLE_STAT_OBS_SET_reg : DEV_ROLE_STAT_OBS_SET.reg = .DEV_ROLE_STAT := rfl
@[simp] theorem DEV_ROLE_STAT_OBS_SET_hi : DEV_ROLE_STAT_OBS_SET.hi = 0 := rfl
@[simp] theorem DEV_ROLE_STAT_OBS_SET_lo : DEV_ROLE_STAT_OBS_SET.lo = 0 := rfl
@[simp] theorem DEV_SCRATCH_reg : DEV_SCRATCH.reg = .DEV_SCRATCH := rfl
@[simp] theorem DEV_SCRATCH_hi : DEV_SCRATCH.hi = 31 := rfl
@[simp] theorem DEV_SCRATCH_lo : DEV_SCRATCH.lo = 0 := rfl
@[simp] theorem FRM_CTL_LOCK_reg : FRM_CTL_LOCK.reg = .FRM_CTL := rfl
@[simp] theorem FRM_CTL_LOCK_hi : FRM_CTL_LOCK.hi = 0 := rfl
@[simp] theorem FRM_CTL_LOCK_lo : FRM_CTL_LOCK.lo = 0 := rfl
@[simp] theorem FRM_STAT_LOCK_REFUSED_reg : FRM_STAT_LOCK_REFUSED.reg = .FRM_STAT := rfl
@[simp] theorem FRM_STAT_LOCK_REFUSED_hi : FRM_STAT_LOCK_REFUSED.hi = 5 := rfl
@[simp] theorem FRM_STAT_LOCK_REFUSED_lo : FRM_STAT_LOCK_REFUSED.lo = 5 := rfl
@[simp] theorem FRM_STAT_HOLDOVER_reg : FRM_STAT_HOLDOVER.reg = .FRM_STAT := rfl
@[simp] theorem FRM_STAT_HOLDOVER_hi : FRM_STAT_HOLDOVER.hi = 4 := rfl
@[simp] theorem FRM_STAT_HOLDOVER_lo : FRM_STAT_HOLDOVER.lo = 4 := rfl
@[simp] theorem FRM_STAT_LOCKED_reg : FRM_STAT_LOCKED.reg = .FRM_STAT := rfl
@[simp] theorem FRM_STAT_LOCKED_hi : FRM_STAT_LOCKED.hi = 3 := rfl
@[simp] theorem FRM_STAT_LOCKED_lo : FRM_STAT_LOCKED.lo = 3 := rfl
@[simp] theorem FRM_STAT_ACQUIRING_reg : FRM_STAT_ACQUIRING.reg = .FRM_STAT := rfl
@[simp] theorem FRM_STAT_ACQUIRING_hi : FRM_STAT_ACQUIRING.hi = 2 := rfl
@[simp] theorem FRM_STAT_ACQUIRING_lo : FRM_STAT_ACQUIRING.lo = 2 := rfl
@[simp] theorem FRM_STAT_OVR_ANY_reg : FRM_STAT_OVR_ANY.reg = .FRM_STAT := rfl
@[simp] theorem FRM_STAT_OVR_ANY_hi : FRM_STAT_OVR_ANY.hi = 1 := rfl
@[simp] theorem FRM_STAT_OVR_ANY_lo : FRM_STAT_OVR_ANY.lo = 1 := rfl
@[simp] theorem FRM_STAT_RUN_reg : FRM_STAT_RUN.reg = .FRM_STAT := rfl
@[simp] theorem FRM_STAT_RUN_hi : FRM_STAT_RUN.hi = 0 := rfl
@[simp] theorem FRM_STAT_RUN_lo : FRM_STAT_RUN.lo = 0 := rfl
@[simp] theorem FRM_LEN_PDIV_reg : FRM_LEN_PDIV.reg = .FRM_LEN := rfl
@[simp] theorem FRM_LEN_PDIV_hi : FRM_LEN_PDIV.hi = 26 := rfl
@[simp] theorem FRM_LEN_PDIV_lo : FRM_LEN_PDIV.lo = 24 := rfl
@[simp] theorem FRM_LEN_LEN_reg : FRM_LEN_LEN.reg = .FRM_LEN := rfl
@[simp] theorem FRM_LEN_LEN_hi : FRM_LEN_LEN.hi = 18 := rfl
@[simp] theorem FRM_LEN_LEN_lo : FRM_LEN_LEN.lo = 0 := rfl
@[simp] theorem FRM_CNT_LO_reg : FRM_CNT_LO.reg = .FRM_CNT_LO := rfl
@[simp] theorem FRM_CNT_LO_hi : FRM_CNT_LO.hi = 31 := rfl
@[simp] theorem FRM_CNT_LO_lo : FRM_CNT_LO.lo = 0 := rfl
@[simp] theorem FRM_CNT_HI_reg : FRM_CNT_HI.reg = .FRM_CNT_HI := rfl
@[simp] theorem FRM_CNT_HI_hi : FRM_CNT_HI.hi = 31 := rfl
@[simp] theorem FRM_CNT_HI_lo : FRM_CNT_HI.lo = 0 := rfl
@[simp] theorem FRM_SUB_PDIV_reg : FRM_SUB_PDIV.reg = .FRM_SUB := rfl
@[simp] theorem FRM_SUB_PDIV_hi : FRM_SUB_PDIV.hi = 18 := rfl
@[simp] theorem FRM_SUB_PDIV_lo : FRM_SUB_PDIV.lo = 16 := rfl
@[simp] theorem FRM_SUB_SUB_reg : FRM_SUB_SUB.reg = .FRM_SUB := rfl
@[simp] theorem FRM_SUB_SUB_hi : FRM_SUB_SUB.hi = 13 := rfl
@[simp] theorem FRM_SUB_SUB_lo : FRM_SUB_SUB.lo = 0 := rfl
@[simp] theorem FRM_LOCK_OFS_OFS_reg : FRM_LOCK_OFS_OFS.reg = .FRM_LOCK_OFS := rfl
@[simp] theorem FRM_LOCK_OFS_OFS_hi : FRM_LOCK_OFS_OFS.hi = 18 := rfl
@[simp] theorem FRM_LOCK_OFS_OFS_lo : FRM_LOCK_OFS_OFS.lo = 0 := rfl
@[simp] theorem FRM_LOCK_ERR_reg : FRM_LOCK_ERR.reg = .FRM_LOCK_ERR := rfl
@[simp] theorem FRM_LOCK_ERR_hi : FRM_LOCK_ERR.hi = 31 := rfl
@[simp] theorem FRM_LOCK_ERR_lo : FRM_LOCK_ERR.lo = 0 := rfl
@[simp] theorem FRM_SYST_LO_reg : FRM_SYST_LO.reg = .FRM_SYST_LO := rfl
@[simp] theorem FRM_SYST_LO_hi : FRM_SYST_LO.hi = 31 := rfl
@[simp] theorem FRM_SYST_LO_lo : FRM_SYST_LO.lo = 0 := rfl
@[simp] theorem FRM_SYST_HI_reg : FRM_SYST_HI.reg = .FRM_SYST_HI := rfl
@[simp] theorem FRM_SYST_HI_hi : FRM_SYST_HI.hi = 31 := rfl
@[simp] theorem FRM_SYST_HI_lo : FRM_SYST_HI.lo = 0 := rfl
@[simp] theorem FRM_OVR_CFG_WIN_reg : FRM_OVR_CFG_WIN.reg = .FRM_OVR_CFG := rfl
@[simp] theorem FRM_OVR_CFG_WIN_hi : FRM_OVR_CFG_WIN.hi = 15 := rfl
@[simp] theorem FRM_OVR_CFG_WIN_lo : FRM_OVR_CFG_WIN.lo = 8 := rfl
@[simp] theorem FRM_OVR_CFG_CONSEC_reg : FRM_OVR_CFG_CONSEC.reg = .FRM_OVR_CFG := rfl
@[simp] theorem FRM_OVR_CFG_CONSEC_hi : FRM_OVR_CFG_CONSEC.hi = 3 := rfl
@[simp] theorem FRM_OVR_CFG_CONSEC_lo : FRM_OVR_CFG_CONSEC.lo = 0 := rfl
@[simp] theorem FRM_BUD_VALID_reg : FRM_BUD_VALID.reg = .FRM_BUD := rfl
@[simp] theorem FRM_BUD_VALID_hi : FRM_BUD_VALID.hi = 31 := rfl
@[simp] theorem FRM_BUD_VALID_lo : FRM_BUD_VALID.lo = 31 := rfl
@[simp] theorem FRM_BUD_BUDGET_reg : FRM_BUD_BUDGET.reg = .FRM_BUD := rfl
@[simp] theorem FRM_BUD_BUDGET_hi : FRM_BUD_BUDGET.hi = 18 := rfl
@[simp] theorem FRM_BUD_BUDGET_lo : FRM_BUD_BUDGET.lo = 0 := rfl
@[simp] theorem FRM_USE_LAST_reg : FRM_USE_LAST.reg = .FRM_USE := rfl
@[simp] theorem FRM_USE_LAST_hi : FRM_USE_LAST.hi = 18 := rfl
@[simp] theorem FRM_USE_LAST_lo : FRM_USE_LAST.lo = 0 := rfl
@[simp] theorem FRM_PEAK_CLR_reg : FRM_PEAK_CLR.reg = .FRM_PEAK := rfl
@[simp] theorem FRM_PEAK_CLR_hi : FRM_PEAK_CLR.hi = 31 := rfl
@[simp] theorem FRM_PEAK_CLR_lo : FRM_PEAK_CLR.lo = 31 := rfl
@[simp] theorem FRM_PEAK_PEAK_reg : FRM_PEAK_PEAK.reg = .FRM_PEAK := rfl
@[simp] theorem FRM_PEAK_PEAK_hi : FRM_PEAK_PEAK.hi = 18 := rfl
@[simp] theorem FRM_PEAK_PEAK_lo : FRM_PEAK_PEAK.lo = 0 := rfl
@[simp] theorem FRM_OVR_TOTAL_reg : FRM_OVR_TOTAL.reg = .FRM_OVR := rfl
@[simp] theorem FRM_OVR_TOTAL_hi : FRM_OVR_TOTAL.hi = 31 := rfl
@[simp] theorem FRM_OVR_TOTAL_lo : FRM_OVR_TOTAL.lo = 16 := rfl
@[simp] theorem FRM_OVR_WINCNT_reg : FRM_OVR_WINCNT.reg = .FRM_OVR := rfl
@[simp] theorem FRM_OVR_WINCNT_hi : FRM_OVR_WINCNT.hi = 15 := rfl
@[simp] theorem FRM_OVR_WINCNT_lo : FRM_OVR_WINCNT.lo = 8 := rfl
@[simp] theorem FRM_OVR_RUN_reg : FRM_OVR_RUN.reg = .FRM_OVR := rfl
@[simp] theorem FRM_OVR_RUN_hi : FRM_OVR_RUN.hi = 3 := rfl
@[simp] theorem FRM_OVR_RUN_lo : FRM_OVR_RUN.lo = 0 := rfl
@[simp] theorem MEM_ARB_CFG_TMO_reg : MEM_ARB_CFG_TMO.reg = .MEM_ARB_CFG := rfl
@[simp] theorem MEM_ARB_CFG_TMO_hi : MEM_ARB_CFG_TMO.hi = 31 := rfl
@[simp] theorem MEM_ARB_CFG_TMO_lo : MEM_ARB_CFG_TMO.lo = 16 := rfl
@[simp] theorem MEM_ARB_CFG_FAIR_reg : MEM_ARB_CFG_FAIR.reg = .MEM_ARB_CFG := rfl
@[simp] theorem MEM_ARB_CFG_FAIR_hi : MEM_ARB_CFG_FAIR.hi = 4 := rfl
@[simp] theorem MEM_ARB_CFG_FAIR_lo : MEM_ARB_CFG_FAIR.lo = 0 := rfl
@[simp] theorem MEM_STAT_TMO_ANY_reg : MEM_STAT_TMO_ANY.reg = .MEM_STAT := rfl
@[simp] theorem MEM_STAT_TMO_ANY_hi : MEM_STAT_TMO_ANY.hi = 3 := rfl
@[simp] theorem MEM_STAT_TMO_ANY_lo : MEM_STAT_TMO_ANY.lo = 3 := rfl
@[simp] theorem MEM_STAT_MPU_ANY_reg : MEM_STAT_MPU_ANY.reg = .MEM_STAT := rfl
@[simp] theorem MEM_STAT_MPU_ANY_hi : MEM_STAT_MPU_ANY.hi = 2 := rfl
@[simp] theorem MEM_STAT_MPU_ANY_lo : MEM_STAT_MPU_ANY.lo = 2 := rfl
@[simp] theorem MEM_STAT_DED_ANY_reg : MEM_STAT_DED_ANY.reg = .MEM_STAT := rfl
@[simp] theorem MEM_STAT_DED_ANY_hi : MEM_STAT_DED_ANY.hi = 1 := rfl
@[simp] theorem MEM_STAT_DED_ANY_lo : MEM_STAT_DED_ANY.lo = 1 := rfl
@[simp] theorem MEM_STAT_CE_ANY_reg : MEM_STAT_CE_ANY.reg = .MEM_STAT := rfl
@[simp] theorem MEM_STAT_CE_ANY_hi : MEM_STAT_CE_ANY.hi = 0 := rfl
@[simp] theorem MEM_STAT_CE_ANY_lo : MEM_STAT_CE_ANY.lo = 0 := rfl
@[simp] theorem MEM_ECC_CFG_SCRUB_reg : MEM_ECC_CFG_SCRUB.reg = .MEM_ECC_CFG := rfl
@[simp] theorem MEM_ECC_CFG_SCRUB_hi : MEM_ECC_CFG_SCRUB.hi = 8 := rfl
@[simp] theorem MEM_ECC_CFG_SCRUB_lo : MEM_ECC_CFG_SCRUB.lo = 8 := rfl
@[simp] theorem MEM_ECC_CFG_CE_GRAFT_reg : MEM_ECC_CFG_CE_GRAFT.reg = .MEM_ECC_CFG := rfl
@[simp] theorem MEM_ECC_CFG_CE_GRAFT_hi : MEM_ECC_CFG_CE_GRAFT.hi = 7 := rfl
@[simp] theorem MEM_ECC_CFG_CE_GRAFT_lo : MEM_ECC_CFG_CE_GRAFT.lo = 0 := rfl
@[simp] theorem MEM_CLR_PEAKS_reg : MEM_CLR_PEAKS.reg = .MEM_CLR := rfl
@[simp] theorem MEM_CLR_PEAKS_hi : MEM_CLR_PEAKS.hi = 0 := rfl
@[simp] theorem MEM_CLR_PEAKS_lo : MEM_CLR_PEAKS.lo = 0 := rfl
@[simp] theorem MEM_BANK_STAT_CE_reg : MEM_BANK_STAT_CE.reg = .MEM_BANK_STAT := rfl
@[simp] theorem MEM_BANK_STAT_CE_hi : MEM_BANK_STAT_CE.hi = 31 := rfl
@[simp] theorem MEM_BANK_STAT_CE_lo : MEM_BANK_STAT_CE.lo = 16 := rfl
@[simp] theorem MEM_BANK_STAT_DED_reg : MEM_BANK_STAT_DED.reg = .MEM_BANK_STAT := rfl
@[simp] theorem MEM_BANK_STAT_DED_hi : MEM_BANK_STAT_DED.hi = 15 := rfl
@[simp] theorem MEM_BANK_STAT_DED_lo : MEM_BANK_STAT_DED.lo = 8 := rfl
@[simp] theorem MEM_BANK_STAT_SPARE_FREE_reg : MEM_BANK_STAT_SPARE_FREE.reg = .MEM_BANK_STAT := rfl
@[simp] theorem MEM_BANK_STAT_SPARE_FREE_hi : MEM_BANK_STAT_SPARE_FREE.hi = 6 := rfl
@[simp] theorem MEM_BANK_STAT_SPARE_FREE_lo : MEM_BANK_STAT_SPARE_FREE.lo = 0 := rfl
@[simp] theorem MEM_ERR_ADDR_VALID_reg : MEM_ERR_ADDR_VALID.reg = .MEM_ERR_ADDR := rfl
@[simp] theorem MEM_ERR_ADDR_VALID_hi : MEM_ERR_ADDR_VALID.hi = 31 := rfl
@[simp] theorem MEM_ERR_ADDR_VALID_lo : MEM_ERR_ADDR_VALID.lo = 31 := rfl
@[simp] theorem MEM_ERR_ADDR_KIND_reg : MEM_ERR_ADDR_KIND.reg = .MEM_ERR_ADDR := rfl
@[simp] theorem MEM_ERR_ADDR_KIND_hi : MEM_ERR_ADDR_KIND.hi = 30 := rfl
@[simp] theorem MEM_ERR_ADDR_KIND_lo : MEM_ERR_ADDR_KIND.lo = 29 := rfl
@[simp] theorem MEM_ERR_ADDR_REQ_reg : MEM_ERR_ADDR_REQ.reg = .MEM_ERR_ADDR := rfl
@[simp] theorem MEM_ERR_ADDR_REQ_hi : MEM_ERR_ADDR_REQ.hi = 28 := rfl
@[simp] theorem MEM_ERR_ADDR_REQ_lo : MEM_ERR_ADDR_REQ.lo = 23 := rfl
@[simp] theorem MEM_ERR_ADDR_SPARE_reg : MEM_ERR_ADDR_SPARE.reg = .MEM_ERR_ADDR := rfl
@[simp] theorem MEM_ERR_ADDR_SPARE_hi : MEM_ERR_ADDR_SPARE.hi = 21 := rfl
@[simp] theorem MEM_ERR_ADDR_SPARE_lo : MEM_ERR_ADDR_SPARE.lo = 21 := rfl
@[simp] theorem MEM_ERR_ADDR_ADDR_reg : MEM_ERR_ADDR_ADDR.reg = .MEM_ERR_ADDR := rfl
@[simp] theorem MEM_ERR_ADDR_ADDR_hi : MEM_ERR_ADDR_ADDR.hi = 20 := rfl
@[simp] theorem MEM_ERR_ADDR_ADDR_lo : MEM_ERR_ADDR_ADDR.lo = 3 := rfl
@[simp] theorem MEM_SCRUB_LASTPASS_reg : MEM_SCRUB_LASTPASS.reg = .MEM_SCRUB := rfl
@[simp] theorem MEM_SCRUB_LASTPASS_hi : MEM_SCRUB_LASTPASS.hi = 31 := rfl
@[simp] theorem MEM_SCRUB_LASTPASS_lo : MEM_SCRUB_LASTPASS.lo = 16 := rfl
@[simp] theorem MEM_SCRUB_ROW_reg : MEM_SCRUB_ROW.reg = .MEM_SCRUB := rfl
@[simp] theorem MEM_SCRUB_ROW_hi : MEM_SCRUB_ROW.hi = 11 := rfl
@[simp] theorem MEM_SCRUB_ROW_lo : MEM_SCRUB_ROW.lo = 0 := rfl
@[simp] theorem MEM_ARB_PEAK_PEAKL_reg : MEM_ARB_PEAK_PEAKL.reg = .MEM_ARB_PEAK := rfl
@[simp] theorem MEM_ARB_PEAK_PEAKL_hi : MEM_ARB_PEAK_PEAKL.hi = 31 := rfl
@[simp] theorem MEM_ARB_PEAK_PEAKL_lo : MEM_ARB_PEAK_PEAKL.lo = 16 := rfl
@[simp] theorem MEM_ARB_PEAK_PEAK0_reg : MEM_ARB_PEAK_PEAK0.reg = .MEM_ARB_PEAK := rfl
@[simp] theorem MEM_ARB_PEAK_PEAK0_hi : MEM_ARB_PEAK_PEAK0.hi = 15 := rfl
@[simp] theorem MEM_ARB_PEAK_PEAK0_lo : MEM_ARB_PEAK_PEAK0.lo = 0 := rfl
@[simp] theorem MEM_REV_CNT_reg : MEM_REV_CNT.reg = .MEM_REV_CNT := rfl
@[simp] theorem MEM_REV_CNT_hi : MEM_REV_CNT.hi = 31 := rfl
@[simp] theorem MEM_REV_CNT_lo : MEM_REV_CNT.lo = 0 := rfl
@[simp] theorem MEM_BOUND_WL_reg : MEM_BOUND_WL.reg = .MEM_BOUND := rfl
@[simp] theorem MEM_BOUND_WL_hi : MEM_BOUND_WL.hi = 31 := rfl
@[simp] theorem MEM_BOUND_WL_lo : MEM_BOUND_WL.lo = 16 := rfl
@[simp] theorem MEM_BOUND_W0_reg : MEM_BOUND_W0.reg = .MEM_BOUND := rfl
@[simp] theorem MEM_BOUND_W0_hi : MEM_BOUND_W0.hi = 15 := rfl
@[simp] theorem MEM_BOUND_W0_lo : MEM_BOUND_W0.lo = 0 := rfl
@[simp] theorem MEM_MPU_SEL_REQ_reg : MEM_MPU_SEL_REQ.reg = .MEM_MPU_SEL := rfl
@[simp] theorem MEM_MPU_SEL_REQ_hi : MEM_MPU_SEL_REQ.hi = 5 := rfl
@[simp] theorem MEM_MPU_SEL_REQ_lo : MEM_MPU_SEL_REQ.lo = 0 := rfl
@[simp] theorem MEM_MPU_VIOL_VALID_reg : MEM_MPU_VIOL_VALID.reg = .MEM_MPU_VIOL := rfl
@[simp] theorem MEM_MPU_VIOL_VALID_hi : MEM_MPU_VIOL_VALID.hi = 31 := rfl
@[simp] theorem MEM_MPU_VIOL_VALID_lo : MEM_MPU_VIOL_VALID.lo = 31 := rfl
@[simp] theorem MEM_MPU_VIOL_COUNT_reg : MEM_MPU_VIOL_COUNT.reg = .MEM_MPU_VIOL := rfl
@[simp] theorem MEM_MPU_VIOL_COUNT_hi : MEM_MPU_VIOL_COUNT.hi = 30 := rfl
@[simp] theorem MEM_MPU_VIOL_COUNT_lo : MEM_MPU_VIOL_COUNT.lo = 28 := rfl
@[simp] theorem MEM_MPU_VIOL_WRITE_reg : MEM_MPU_VIOL_WRITE.reg = .MEM_MPU_VIOL := rfl
@[simp] theorem MEM_MPU_VIOL_WRITE_hi : MEM_MPU_VIOL_WRITE.hi = 27 := rfl
@[simp] theorem MEM_MPU_VIOL_WRITE_lo : MEM_MPU_VIOL_WRITE.lo = 27 := rfl
@[simp] theorem MEM_MPU_VIOL_REQ_reg : MEM_MPU_VIOL_REQ.reg = .MEM_MPU_VIOL := rfl
@[simp] theorem MEM_MPU_VIOL_REQ_hi : MEM_MPU_VIOL_REQ.hi = 25 := rfl
@[simp] theorem MEM_MPU_VIOL_REQ_lo : MEM_MPU_VIOL_REQ.lo = 20 := rfl
@[simp] theorem MEM_MPU_VADDR_reg : MEM_MPU_VADDR.reg = .MEM_MPU_VADDR := rfl
@[simp] theorem MEM_MPU_VADDR_hi : MEM_MPU_VADDR.hi = 31 := rfl
@[simp] theorem MEM_MPU_VADDR_lo : MEM_MPU_VADDR.lo = 0 := rfl
@[simp] theorem MEM_MPU_BASE_BASE_reg : MEM_MPU_BASE_BASE.reg = .MEM_MPU_BASE := rfl
@[simp] theorem MEM_MPU_BASE_BASE_hi : MEM_MPU_BASE_BASE.hi = 31 := rfl
@[simp] theorem MEM_MPU_BASE_BASE_lo : MEM_MPU_BASE_BASE.lo = 8 := rfl
@[simp] theorem MEM_MPU_LIM_LIM_reg : MEM_MPU_LIM_LIM.reg = .MEM_MPU_LIM := rfl
@[simp] theorem MEM_MPU_LIM_LIM_hi : MEM_MPU_LIM_LIM.hi = 31 := rfl
@[simp] theorem MEM_MPU_LIM_LIM_lo : MEM_MPU_LIM_LIM.lo = 8 := rfl
@[simp] theorem MEM_MPU_LIM_W_reg : MEM_MPU_LIM_W.reg = .MEM_MPU_LIM := rfl
@[simp] theorem MEM_MPU_LIM_W_hi : MEM_MPU_LIM_W.hi = 2 := rfl
@[simp] theorem MEM_MPU_LIM_W_lo : MEM_MPU_LIM_W.lo = 2 := rfl
@[simp] theorem MEM_MPU_LIM_RD_reg : MEM_MPU_LIM_RD.reg = .MEM_MPU_LIM := rfl
@[simp] theorem MEM_MPU_LIM_RD_hi : MEM_MPU_LIM_RD.hi = 1 := rfl
@[simp] theorem MEM_MPU_LIM_RD_lo : MEM_MPU_LIM_RD.lo = 1 := rfl
@[simp] theorem MEM_MPU_LIM_EN_reg : MEM_MPU_LIM_EN.reg = .MEM_MPU_LIM := rfl
@[simp] theorem MEM_MPU_LIM_EN_hi : MEM_MPU_LIM_EN.hi = 0 := rfl
@[simp] theorem MEM_MPU_LIM_EN_lo : MEM_MPU_LIM_EN.lo = 0 := rfl
@[simp] theorem MEM_DMA_CTL_TRIG_reg : MEM_DMA_CTL_TRIG.reg = .MEM_DMA_CTL := rfl
@[simp] theorem MEM_DMA_CTL_TRIG_hi : MEM_DMA_CTL_TRIG.hi = 5 := rfl
@[simp] theorem MEM_DMA_CTL_TRIG_lo : MEM_DMA_CTL_TRIG.lo = 4 := rfl
@[simp] theorem MEM_DMA_CTL_STOP_reg : MEM_DMA_CTL_STOP.reg = .MEM_DMA_CTL := rfl
@[simp] theorem MEM_DMA_CTL_STOP_hi : MEM_DMA_CTL_STOP.hi = 1 := rfl
@[simp] theorem MEM_DMA_CTL_STOP_lo : MEM_DMA_CTL_STOP.lo = 1 := rfl
@[simp] theorem MEM_DMA_CTL_GO_reg : MEM_DMA_CTL_GO.reg = .MEM_DMA_CTL := rfl
@[simp] theorem MEM_DMA_CTL_GO_hi : MEM_DMA_CTL_GO.hi = 0 := rfl
@[simp] theorem MEM_DMA_CTL_GO_lo : MEM_DMA_CTL_GO.lo = 0 := rfl
@[simp] theorem MEM_DMA_DESC_DESC_reg : MEM_DMA_DESC_DESC.reg = .MEM_DMA_DESC := rfl
@[simp] theorem MEM_DMA_DESC_DESC_hi : MEM_DMA_DESC_DESC.hi = 31 := rfl
@[simp] theorem MEM_DMA_DESC_DESC_lo : MEM_DMA_DESC_DESC.lo = 3 := rfl
@[simp] theorem MEM_DMA_STAT_STATE_reg : MEM_DMA_STAT_STATE.reg = .MEM_DMA_STAT := rfl
@[simp] theorem MEM_DMA_STAT_STATE_hi : MEM_DMA_STAT_STATE.hi = 31 := rfl
@[simp] theorem MEM_DMA_STAT_STATE_lo : MEM_DMA_STAT_STATE.lo = 28 := rfl
@[simp] theorem MEM_DMA_STAT_FAIRONLY_reg : MEM_DMA_STAT_FAIRONLY.reg = .MEM_DMA_STAT := rfl
@[simp] theorem MEM_DMA_STAT_FAIRONLY_hi : MEM_DMA_STAT_FAIRONLY.hi = 24 := rfl
@[simp] theorem MEM_DMA_STAT_FAIRONLY_lo : MEM_DMA_STAT_FAIRONLY.lo = 24 := rfl
@[simp] theorem MEM_DMA_STAT_REV_reg : MEM_DMA_STAT_REV.reg = .MEM_DMA_STAT := rfl
@[simp] theorem MEM_DMA_STAT_REV_hi : MEM_DMA_STAT_REV.hi = 23 := rfl
@[simp] theorem MEM_DMA_STAT_REV_lo : MEM_DMA_STAT_REV.lo = 16 := rfl
@[simp] theorem MEM_DMA_STAT_POS_reg : MEM_DMA_STAT_POS.reg = .MEM_DMA_STAT := rfl
@[simp] theorem MEM_DMA_STAT_POS_hi : MEM_DMA_STAT_POS.hi = 12 := rfl
@[simp] theorem MEM_DMA_STAT_POS_lo : MEM_DMA_STAT_POS.lo = 0 := rfl
@[simp] theorem MEM_DMA_ERR_reg : MEM_DMA_ERR.reg = .MEM_DMA_ERR := rfl
@[simp] theorem MEM_DMA_ERR_hi : MEM_DMA_ERR.hi = 31 := rfl
@[simp] theorem MEM_DMA_ERR_lo : MEM_DMA_ERR.lo = 0 := rfl
@[simp] theorem TRM_CTL_CLRALL_reg : TRM_CTL_CLRALL.reg = .TRM_CTL := rfl
@[simp] theorem TRM_CTL_CLRALL_hi : TRM_CTL_CLRALL.hi = 0 := rfl
@[simp] theorem TRM_CTL_CLRALL_lo : TRM_CTL_CLRALL.lo = 0 := rfl
@[simp] theorem TRM_STAT_OFFT_T_reg : TRM_STAT_OFFT_T.reg = .TRM_STAT := rfl
@[simp] theorem TRM_STAT_OFFT_T_hi : TRM_STAT_OFFT_T.hi = 30 := rfl
@[simp] theorem TRM_STAT_OFFT_T_lo : TRM_STAT_OFFT_T.lo = 24 := rfl
@[simp] theorem TRM_STAT_VISIT_reg : TRM_STAT_VISIT.reg = .TRM_STAT := rfl
@[simp] theorem TRM_STAT_VISIT_hi : TRM_STAT_VISIT.hi = 19 := rfl
@[simp] theorem TRM_STAT_VISIT_lo : TRM_STAT_VISIT.lo = 16 := rfl
@[simp] theorem TRM_STAT_GFAULT_reg : TRM_STAT_GFAULT.reg = .TRM_STAT := rfl
@[simp] theorem TRM_STAT_GFAULT_hi : TRM_STAT_GFAULT.hi = 5 := rfl
@[simp] theorem TRM_STAT_GFAULT_lo : TRM_STAT_GFAULT.lo = 0 := rfl
@[simp] theorem TRM_CHK_CFG_SETTLE_reg : TRM_CHK_CFG_SETTLE.reg = .TRM_CHK_CFG := rfl
@[simp] theorem TRM_CHK_CFG_SETTLE_hi : TRM_CHK_CFG_SETTLE.hi = 7 := rfl
@[simp] theorem TRM_CHK_CFG_SETTLE_lo : TRM_CHK_CFG_SETTLE.lo = 0 := rfl
@[simp] theorem TRM_IN_reg : TRM_IN.reg = .TRM_IN := rfl
@[simp] theorem TRM_IN_hi : TRM_IN.hi = 31 := rfl
@[simp] theorem TRM_IN_lo : TRM_IN.lo = 0 := rfl
@[simp] theorem TRM_RAW_reg : TRM_RAW.reg = .TRM_RAW := rfl
@[simp] theorem TRM_RAW_hi : TRM_RAW.hi = 31 := rfl
@[simp] theorem TRM_RAW_lo : TRM_RAW.lo = 0 := rfl
@[simp] theorem TRM_OUT_reg : TRM_OUT.reg = .TRM_OUT := rfl
@[simp] theorem TRM_OUT_hi : TRM_OUT.hi = 31 := rfl
@[simp] theorem TRM_OUT_lo : TRM_OUT.lo = 0 := rfl
@[simp] theorem TRM_DRV_reg : TRM_DRV.reg = .TRM_DRV := rfl
@[simp] theorem TRM_DRV_hi : TRM_DRV.hi = 31 := rfl
@[simp] theorem TRM_DRV_lo : TRM_DRV.lo = 0 := rfl
@[simp] theorem TRM_FSUM_reg : TRM_FSUM.reg = .TRM_FSUM := rfl
@[simp] theorem TRM_FSUM_hi : TRM_FSUM.hi = 31 := rfl
@[simp] theorem TRM_FSUM_lo : TRM_FSUM.lo = 0 := rfl
@[simp] theorem TRM_GRP_CFG_WDOG_reg : TRM_GRP_CFG_WDOG.reg = .TRM_GRP_CFG := rfl
@[simp] theorem TRM_GRP_CFG_WDOG_hi : TRM_GRP_CFG_WDOG.hi = 15 := rfl
@[simp] theorem TRM_GRP_CFG_WDOG_lo : TRM_GRP_CFG_WDOG.lo = 0 := rfl
@[simp] theorem TRM_GRP_STAT_OSV_reg : TRM_GRP_STAT_OSV.reg = .TRM_GRP_STAT := rfl
@[simp] theorem TRM_GRP_STAT_OSV_hi : TRM_GRP_STAT_OSV.hi = 31 := rfl
@[simp] theorem TRM_GRP_STAT_OSV_lo : TRM_GRP_STAT_OSV.lo = 16 := rfl
@[simp] theorem TRM_GRP_STAT_WDEXP_reg : TRM_GRP_STAT_WDEXP.reg = .TRM_GRP_STAT := rfl
@[simp] theorem TRM_GRP_STAT_WDEXP_hi : TRM_GRP_STAT_WDEXP.hi = 11 := rfl
@[simp] theorem TRM_GRP_STAT_WDEXP_lo : TRM_GRP_STAT_WDEXP.lo = 11 := rfl
@[simp] theorem TRM_GRP_STAT_WDEVT_reg : TRM_GRP_STAT_WDEVT.reg = .TRM_GRP_STAT := rfl
@[simp] theorem TRM_GRP_STAT_WDEVT_hi : TRM_GRP_STAT_WDEVT.hi = 10 := rfl
@[simp] theorem TRM_GRP_STAT_WDEVT_lo : TRM_GRP_STAT_WDEVT.lo = 10 := rfl
@[simp] theorem TRM_GRP_STAT_BAND_reg : TRM_GRP_STAT_BAND.reg = .TRM_GRP_STAT := rfl
@[simp] theorem TRM_GRP_STAT_BAND_hi : TRM_GRP_STAT_BAND.hi = 9 := rfl
@[simp] theorem TRM_GRP_STAT_BAND_lo : TRM_GRP_STAT_BAND.lo = 8 := rfl
@[simp] theorem TRM_CFG_FILT_reg : TRM_CFG_FILT.reg = .TRM_CFG := rfl
@[simp] theorem TRM_CFG_FILT_hi : TRM_CFG_FILT.hi = 23 := rfl
@[simp] theorem TRM_CFG_FILT_lo : TRM_CFG_FILT.lo = 16 := rfl
@[simp] theorem TRM_CFG_SAFE_reg : TRM_CFG_SAFE.reg = .TRM_CFG := rfl
@[simp] theorem TRM_CFG_SAFE_hi : TRM_CFG_SAFE.hi = 11 := rfl
@[simp] theorem TRM_CFG_SAFE_lo : TRM_CFG_SAFE.lo = 10 := rfl
@[simp] theorem TRM_CFG_OFFT_reg : TRM_CFG_OFFT.reg = .TRM_CFG := rfl
@[simp] theorem TRM_CFG_OFFT_hi : TRM_CFG_OFFT.hi = 9 := rfl
@[simp] theorem TRM_CFG_OFFT_lo : TRM_CFG_OFFT.lo = 9 := rfl
@[simp] theorem TRM_CFG_CROSSCHK_reg : TRM_CFG_CROSSCHK.reg = .TRM_CFG := rfl
@[simp] theorem TRM_CFG_CROSSCHK_hi : TRM_CFG_CROSSCHK.hi = 8 := rfl
@[simp] theorem TRM_CFG_CROSSCHK_lo : TRM_CFG_CROSSCHK.lo = 8 := rfl
@[simp] theorem TRM_CFG_TYPE_reg : TRM_CFG_TYPE.reg = .TRM_CFG := rfl
@[simp] theorem TRM_CFG_TYPE_hi : TRM_CFG_TYPE.hi = 4 := rfl
@[simp] theorem TRM_CFG_TYPE_lo : TRM_CFG_TYPE.lo = 4 := rfl
@[simp] theorem TRM_CFG_MODE_reg : TRM_CFG_MODE.reg = .TRM_CFG := rfl
@[simp] theorem TRM_CFG_MODE_hi : TRM_CFG_MODE.hi = 2 := rfl
@[simp] theorem TRM_CFG_MODE_lo : TRM_CFG_MODE.lo = 0 := rfl
@[simp] theorem TRM_TSTAT_PARTNER_reg : TRM_TSTAT_PARTNER.reg = .TRM_TSTAT := rfl
@[simp] theorem TRM_TSTAT_PARTNER_hi : TRM_TSTAT_PARTNER.hi = 22 := rfl
@[simp] theorem TRM_TSTAT_PARTNER_lo : TRM_TSTAT_PARTNER.lo = 16 := rfl
@[simp] theorem TRM_TSTAT_CROSS_reg : TRM_TSTAT_CROSS.reg = .TRM_TSTAT := rfl
@[simp] theorem TRM_TSTAT_CROSS_hi : TRM_TSTAT_CROSS.hi = 8 := rfl
@[simp] theorem TRM_TSTAT_CROSS_lo : TRM_TSTAT_CROSS.lo = 8 := rfl
@[simp] theorem TRM_TSTAT_OPEN_reg : TRM_TSTAT_OPEN.reg = .TRM_TSTAT := rfl
@[simp] theorem TRM_TSTAT_OPEN_hi : TRM_TSTAT_OPEN.hi = 7 := rfl
@[simp] theorem TRM_TSTAT_OPEN_lo : TRM_TSTAT_OPEN.lo = 7 := rfl
@[simp] theorem TRM_TSTAT_EXT_HIGH_reg : TRM_TSTAT_EXT_HIGH.reg = .TRM_TSTAT := rfl
@[simp] theorem TRM_TSTAT_EXT_HIGH_hi : TRM_TSTAT_EXT_HIGH.hi = 6 := rfl
@[simp] theorem TRM_TSTAT_EXT_HIGH_lo : TRM_TSTAT_EXT_HIGH.lo = 6 := rfl
@[simp] theorem TRM_TSTAT_OFFT_FAIL_reg : TRM_TSTAT_OFFT_FAIL.reg = .TRM_TSTAT := rfl
@[simp] theorem TRM_TSTAT_OFFT_FAIL_hi : TRM_TSTAT_OFFT_FAIL.hi = 5 := rfl
@[simp] theorem TRM_TSTAT_OFFT_FAIL_lo : TRM_TSTAT_OFFT_FAIL.lo = 5 := rfl
@[simp] theorem TRM_TSTAT_RB_LOW_reg : TRM_TSTAT_RB_LOW.reg = .TRM_TSTAT := rfl
@[simp] theorem TRM_TSTAT_RB_LOW_hi : TRM_TSTAT_RB_LOW.hi = 4 := rfl
@[simp] theorem TRM_TSTAT_RB_LOW_lo : TRM_TSTAT_RB_LOW.lo = 4 := rfl
@[simp] theorem TRM_TSTAT_THERMAL_reg : TRM_TSTAT_THERMAL.reg = .TRM_TSTAT := rfl
@[simp] theorem TRM_TSTAT_THERMAL_hi : TRM_TSTAT_THERMAL.hi = 3 := rfl
@[simp] theorem TRM_TSTAT_THERMAL_lo : TRM_TSTAT_THERMAL.lo = 3 := rfl
@[simp] theorem TRM_TSTAT_OVERLOAD_reg : TRM_TSTAT_OVERLOAD.reg = .TRM_TSTAT := rfl
@[simp] theorem TRM_TSTAT_OVERLOAD_hi : TRM_TSTAT_OVERLOAD.hi = 2 := rfl
@[simp] theorem TRM_TSTAT_OVERLOAD_lo : TRM_TSTAT_OVERLOAD.lo = 2 := rfl
@[simp] theorem TRM_TSTAT_SETTLED_reg : TRM_TSTAT_SETTLED.reg = .TRM_TSTAT := rfl
@[simp] theorem TRM_TSTAT_SETTLED_hi : TRM_TSTAT_SETTLED.hi = 1 := rfl
@[simp] theorem TRM_TSTAT_SETTLED_lo : TRM_TSTAT_SETTLED.lo = 1 := rfl
@[simp] theorem TRM_TSTAT_DRV_reg : TRM_TSTAT_DRV.reg = .TRM_TSTAT := rfl
@[simp] theorem TRM_TSTAT_DRV_hi : TRM_TSTAT_DRV.hi = 0 := rfl
@[simp] theorem TRM_TSTAT_DRV_lo : TRM_TSTAT_DRV.lo = 0 := rfl
@[simp] theorem TRM_VOLT_FRAME_reg : TRM_VOLT_FRAME.reg = .TRM_VOLT := rfl
@[simp] theorem TRM_VOLT_FRAME_hi : TRM_VOLT_FRAME.hi = 31 := rfl
@[simp] theorem TRM_VOLT_FRAME_lo : TRM_VOLT_FRAME.lo = 16 := rfl
@[simp] theorem TRM_VOLT_MV_reg : TRM_VOLT_MV.reg = .TRM_VOLT := rfl
@[simp] theorem TRM_VOLT_MV_hi : TRM_VOLT_MV.hi = 15 := rfl
@[simp] theorem TRM_VOLT_MV_lo : TRM_VOLT_MV.lo = 0 := rfl
@[simp] theorem ADC_CTL_STEP_reg : ADC_CTL_STEP.reg = .ADC_CTL := rfl
@[simp] theorem ADC_CTL_STEP_hi : ADC_CTL_STEP.hi = 0 := rfl
@[simp] theorem ADC_CTL_STEP_lo : ADC_CTL_STEP.lo = 0 := rfl
@[simp] theorem ADC_STAT_TCFAIL_reg : ADC_STAT_TCFAIL.reg = .ADC_STAT := rfl
@[simp] theorem ADC_STAT_TCFAIL_hi : ADC_STAT_TCFAIL.hi = 23 := rfl
@[simp] theorem ADC_STAT_TCFAIL_lo : ADC_STAT_TCFAIL.lo = 16 := rfl
@[simp] theorem ADC_STAT_REFNS_ANY_reg : ADC_STAT_REFNS_ANY.reg = .ADC_STAT := rfl
@[simp] theorem ADC_STAT_REFNS_ANY_hi : ADC_STAT_REFNS_ANY.hi = 5 := rfl
@[simp] theorem ADC_STAT_REFNS_ANY_lo : ADC_STAT_REFNS_ANY.lo = 5 := rfl
@[simp] theorem ADC_STAT_TRGMISS_ANY_reg : ADC_STAT_TRGMISS_ANY.reg = .ADC_STAT := rfl
@[simp] theorem ADC_STAT_TRGMISS_ANY_hi : ADC_STAT_TRGMISS_ANY.hi = 4 := rfl
@[simp] theorem ADC_STAT_TRGMISS_ANY_lo : ADC_STAT_TRGMISS_ANY.lo = 4 := rfl
@[simp] theorem ADC_STAT_SUS_ANY_reg : ADC_STAT_SUS_ANY.reg = .ADC_STAT := rfl
@[simp] theorem ADC_STAT_SUS_ANY_hi : ADC_STAT_SUS_ANY.hi = 3 := rfl
@[simp] theorem ADC_STAT_SUS_ANY_lo : ADC_STAT_SUS_ANY.lo = 3 := rfl
@[simp] theorem ADC_STAT_OVR_ANY_reg : ADC_STAT_OVR_ANY.reg = .ADC_STAT := rfl
@[simp] theorem ADC_STAT_OVR_ANY_hi : ADC_STAT_OVR_ANY.hi = 2 := rfl
@[simp] theorem ADC_STAT_OVR_ANY_lo : ADC_STAT_OVR_ANY.lo = 2 := rfl
@[simp] theorem ADC_STAT_NOSPARE_reg : ADC_STAT_NOSPARE.reg = .ADC_STAT := rfl
@[simp] theorem ADC_STAT_NOSPARE_hi : ADC_STAT_NOSPARE.hi = 1 := rfl
@[simp] theorem ADC_STAT_NOSPARE_lo : ADC_STAT_NOSPARE.lo = 1 := rfl
@[simp] theorem ADC_STAT_RUN_reg : ADC_STAT_RUN.reg = .ADC_STAT := rfl
@[simp] theorem ADC_STAT_RUN_hi : ADC_STAT_RUN.hi = 0 := rfl
@[simp] theorem ADC_STAT_RUN_lo : ADC_STAT_RUN.lo = 0 := rfl
@[simp] theorem ADC_REF_CFG_SETTLE_reg : ADC_REF_CFG_SETTLE.reg = .ADC_REF_CFG := rfl
@[simp] theorem ADC_REF_CFG_SETTLE_hi : ADC_REF_CFG_SETTLE.hi = 15 := rfl
@[simp] theorem ADC_REF_CFG_SETTLE_lo : ADC_REF_CFG_SETTLE.lo = 8 := rfl
@[simp] theorem ADC_REF_CFG_AVS_EN_reg : ADC_REF_CFG_AVS_EN.reg = .ADC_REF_CFG := rfl
@[simp] theorem ADC_REF_CFG_AVS_EN_hi : ADC_REF_CFG_AVS_EN.hi = 1 := rfl
@[simp] theorem ADC_REF_CFG_AVS_EN_lo : ADC_REF_CFG_AVS_EN.lo = 1 := rfl
@[simp] theorem ADC_REF_CFG_EXT_EN_reg : ADC_REF_CFG_EXT_EN.reg = .ADC_REF_CFG := rfl
@[simp] theorem ADC_REF_CFG_EXT_EN_hi : ADC_REF_CFG_EXT_EN.hi = 0 := rfl
@[simp] theorem ADC_REF_CFG_EXT_EN_lo : ADC_REF_CFG_EXT_EN.lo = 0 := rfl
@[simp] theorem ADC_REF_STAT_AVS_ILIM_reg : ADC_REF_STAT_AVS_ILIM.reg = .ADC_REF_STAT := rfl
@[simp] theorem ADC_REF_STAT_AVS_ILIM_hi : ADC_REF_STAT_AVS_ILIM.hi = 4 := rfl
@[simp] theorem ADC_REF_STAT_AVS_ILIM_lo : ADC_REF_STAT_AVS_ILIM.lo = 4 := rfl
@[simp] theorem ADC_REF_STAT_AVS_OK_reg : ADC_REF_STAT_AVS_OK.reg = .ADC_REF_STAT := rfl
@[simp] theorem ADC_REF_STAT_AVS_OK_hi : ADC_REF_STAT_AVS_OK.hi = 2 := rfl
@[simp] theorem ADC_REF_STAT_AVS_OK_lo : ADC_REF_STAT_AVS_OK.lo = 2 := rfl
@[simp] theorem ADC_REF_STAT_EXT_OK_reg : ADC_REF_STAT_EXT_OK.reg = .ADC_REF_STAT := rfl
@[simp] theorem ADC_REF_STAT_EXT_OK_hi : ADC_REF_STAT_EXT_OK.hi = 1 := rfl
@[simp] theorem ADC_REF_STAT_EXT_OK_lo : ADC_REF_STAT_EXT_OK.lo = 1 := rfl
@[simp] theorem ADC_REF_STAT_INT_OK_reg : ADC_REF_STAT_INT_OK.reg = .ADC_REF_STAT := rfl
@[simp] theorem ADC_REF_STAT_INT_OK_hi : ADC_REF_STAT_INT_OK.hi = 0 := rfl
@[simp] theorem ADC_REF_STAT_INT_OK_lo : ADC_REF_STAT_INT_OK.lo = 0 := rfl
@[simp] theorem ADC_ANNEAL_CFG_DWELL_reg : ADC_ANNEAL_CFG_DWELL.reg = .ADC_ANNEAL_CFG := rfl
@[simp] theorem ADC_ANNEAL_CFG_DWELL_hi : ADC_ANNEAL_CFG_DWELL.hi = 31 := rfl
@[simp] theorem ADC_ANNEAL_CFG_DWELL_lo : ADC_ANNEAL_CFG_DWELL.lo = 16 := rfl
@[simp] theorem ADC_ANNEAL_CFG_TOL_reg : ADC_ANNEAL_CFG_TOL.reg = .ADC_ANNEAL_CFG := rfl
@[simp] theorem ADC_ANNEAL_CFG_TOL_hi : ADC_ANNEAL_CFG_TOL.hi = 15 := rfl
@[simp] theorem ADC_ANNEAL_CFG_TOL_lo : ADC_ANNEAL_CFG_TOL.lo = 8 := rfl
@[simp] theorem ADC_ANNEAL_CFG_EN_reg : ADC_ANNEAL_CFG_EN.reg = .ADC_ANNEAL_CFG := rfl
@[simp] theorem ADC_ANNEAL_CFG_EN_hi : ADC_ANNEAL_CFG_EN.hi = 0 := rfl
@[simp] theorem ADC_ANNEAL_CFG_EN_lo : ADC_ANNEAL_CFG_EN.lo = 0 := rfl
@[simp] theorem ADC_ANNEAL_STAT_SPARE_reg : ADC_ANNEAL_STAT_SPARE.reg = .ADC_ANNEAL_STAT := rfl
@[simp] theorem ADC_ANNEAL_STAT_SPARE_hi : ADC_ANNEAL_STAT_SPARE.hi = 31 := rfl
@[simp] theorem ADC_ANNEAL_STAT_SPARE_lo : ADC_ANNEAL_STAT_SPARE.lo = 27 := rfl
@[simp] theorem ADC_ANNEAL_STAT_NEXTROLE_reg : ADC_ANNEAL_STAT_NEXTROLE.reg = .ADC_ANNEAL_STAT := rfl
@[simp] theorem ADC_ANNEAL_STAT_NEXTROLE_hi : ADC_ANNEAL_STAT_NEXTROLE.hi = 26 := rfl
@[simp] theorem ADC_ANNEAL_STAT_NEXTROLE_lo : ADC_ANNEAL_STAT_NEXTROLE.lo = 23 := rfl
@[simp] theorem ADC_ANNEAL_STAT_RETRY_reg : ADC_ANNEAL_STAT_RETRY.reg = .ADC_ANNEAL_STAT := rfl
@[simp] theorem ADC_ANNEAL_STAT_RETRY_hi : ADC_ANNEAL_STAT_RETRY.hi = 18 := rfl
@[simp] theorem ADC_ANNEAL_STAT_RETRY_lo : ADC_ANNEAL_STAT_RETRY.lo = 18 := rfl
@[simp] theorem ADC_ANNEAL_STAT_PHASE_reg : ADC_ANNEAL_STAT_PHASE.reg = .ADC_ANNEAL_STAT := rfl
@[simp] theorem ADC_ANNEAL_STAT_PHASE_hi : ADC_ANNEAL_STAT_PHASE.hi = 17 := rfl
@[simp] theorem ADC_ANNEAL_STAT_PHASE_lo : ADC_ANNEAL_STAT_PHASE.lo = 16 := rfl
@[simp] theorem ADC_ANNEAL_STAT_COUNT_reg : ADC_ANNEAL_STAT_COUNT.reg = .ADC_ANNEAL_STAT := rfl
@[simp] theorem ADC_ANNEAL_STAT_COUNT_hi : ADC_ANNEAL_STAT_COUNT.hi = 15 := rfl
@[simp] theorem ADC_ANNEAL_STAT_COUNT_lo : ADC_ANNEAL_STAT_COUNT.lo = 0 := rfl
@[simp] theorem ADC_ROLE_CFG_BURST_reg : ADC_ROLE_CFG_BURST.reg = .ADC_ROLE_CFG := rfl
@[simp] theorem ADC_ROLE_CFG_BURST_hi : ADC_ROLE_CFG_BURST.hi = 15 := rfl
@[simp] theorem ADC_ROLE_CFG_BURST_lo : ADC_ROLE_CFG_BURST.lo = 12 := rfl
@[simp] theorem ADC_ROLE_CFG_EDGE_reg : ADC_ROLE_CFG_EDGE.reg = .ADC_ROLE_CFG := rfl
@[simp] theorem ADC_ROLE_CFG_EDGE_hi : ADC_ROLE_CFG_EDGE.hi = 9 := rfl
@[simp] theorem ADC_ROLE_CFG_EDGE_lo : ADC_ROLE_CFG_EDGE.lo = 8 := rfl
@[simp] theorem ADC_ROLE_CFG_GROUP_reg : ADC_ROLE_CFG_GROUP.reg = .ADC_ROLE_CFG := rfl
@[simp] theorem ADC_ROLE_CFG_GROUP_hi : ADC_ROLE_CFG_GROUP.hi = 7 := rfl
@[simp] theorem ADC_ROLE_CFG_GROUP_lo : ADC_ROLE_CFG_GROUP.lo = 4 := rfl
@[simp] theorem ADC_ROLE_CFG_PAIR_reg : ADC_ROLE_CFG_PAIR.reg = .ADC_ROLE_CFG := rfl
@[simp] theorem ADC_ROLE_CFG_PAIR_hi : ADC_ROLE_CFG_PAIR.hi = 3 := rfl
@[simp] theorem ADC_ROLE_CFG_PAIR_lo : ADC_ROLE_CFG_PAIR.lo = 3 := rfl
@[simp] theorem ADC_ROLE_CFG_TRIG_reg : ADC_ROLE_CFG_TRIG.reg = .ADC_ROLE_CFG := rfl
@[simp] theorem ADC_ROLE_CFG_TRIG_hi : ADC_ROLE_CFG_TRIG.hi = 1 := rfl
@[simp] theorem ADC_ROLE_CFG_TRIG_lo : ADC_ROLE_CFG_TRIG.lo = 0 := rfl
@[simp] theorem ADC_MASK_LO_reg : ADC_MASK_LO.reg = .ADC_MASK_LO := rfl
@[simp] theorem ADC_MASK_LO_hi : ADC_MASK_LO.hi = 31 := rfl
@[simp] theorem ADC_MASK_LO_lo : ADC_MASK_LO.lo = 0 := rfl
@[simp] theorem ADC_MASK_HI_MASK_reg : ADC_MASK_HI_MASK.reg = .ADC_MASK_HI := rfl
@[simp] theorem ADC_MASK_HI_MASK_hi : ADC_MASK_HI_MASK.hi = 23 := rfl
@[simp] theorem ADC_MASK_HI_MASK_lo : ADC_MASK_HI_MASK.lo = 0 := rfl
@[simp] theorem ADC_ROLE_TRG_PER_reg : ADC_ROLE_TRG_PER.reg = .ADC_ROLE_TRG := rfl
@[simp] theorem ADC_ROLE_TRG_PER_hi : ADC_ROLE_TRG_PER.hi = 31 := rfl
@[simp] theorem ADC_ROLE_TRG_PER_lo : ADC_ROLE_TRG_PER.lo = 16 := rfl
@[simp] theorem ADC_ROLE_TRG_OFS_reg : ADC_ROLE_TRG_OFS.reg = .ADC_ROLE_TRG := rfl
@[simp] theorem ADC_ROLE_TRG_OFS_hi : ADC_ROLE_TRG_OFS.hi = 15 := rfl
@[simp] theorem ADC_ROLE_TRG_OFS_lo : ADC_ROLE_TRG_OFS.lo = 0 := rfl
@[simp] theorem ADC_ROLE_STAT_SLICE_reg : ADC_ROLE_STAT_SLICE.reg = .ADC_ROLE_STAT := rfl
@[simp] theorem ADC_ROLE_STAT_SLICE_hi : ADC_ROLE_STAT_SLICE.hi = 31 := rfl
@[simp] theorem ADC_ROLE_STAT_SLICE_lo : ADC_ROLE_STAT_SLICE.lo = 27 := rfl
@[simp] theorem ADC_ROLE_STAT_BUSY_reg : ADC_ROLE_STAT_BUSY.reg = .ADC_ROLE_STAT := rfl
@[simp] theorem ADC_ROLE_STAT_BUSY_hi : ADC_ROLE_STAT_BUSY.hi = 16 := rfl
@[simp] theorem ADC_ROLE_STAT_BUSY_lo : ADC_ROLE_STAT_BUSY.lo = 16 := rfl
@[simp] theorem ADC_ROLE_STAT_TRGMISS_reg : ADC_ROLE_STAT_TRGMISS.reg = .ADC_ROLE_STAT := rfl
@[simp] theorem ADC_ROLE_STAT_TRGMISS_hi : ADC_ROLE_STAT_TRGMISS.hi = 15 := rfl
@[simp] theorem ADC_ROLE_STAT_TRGMISS_lo : ADC_ROLE_STAT_TRGMISS.lo = 0 := rfl
@[simp] theorem ADC_SLICE_STAT_STATE_reg : ADC_SLICE_STAT_STATE.reg = .ADC_SLICE_STAT := rfl
@[simp] theorem ADC_SLICE_STAT_STATE_hi : ADC_SLICE_STAT_STATE.hi = 31 := rfl
@[simp] theorem ADC_SLICE_STAT_STATE_lo : ADC_SLICE_STAT_STATE.lo = 29 := rfl
@[simp] theorem ADC_SLICE_STAT_ROLE_reg : ADC_SLICE_STAT_ROLE.reg = .ADC_SLICE_STAT := rfl
@[simp] theorem ADC_SLICE_STAT_ROLE_hi : ADC_SLICE_STAT_ROLE.hi = 27 := rfl
@[simp] theorem ADC_SLICE_STAT_ROLE_lo : ADC_SLICE_STAT_ROLE.lo = 24 := rfl
@[simp] theorem ADC_SLICE_STAT_GAIN_reg : ADC_SLICE_STAT_GAIN.reg = .ADC_SLICE_STAT := rfl
@[simp] theorem ADC_SLICE_STAT_GAIN_hi : ADC_SLICE_STAT_GAIN.hi = 15 := rfl
@[simp] theorem ADC_SLICE_STAT_GAIN_lo : ADC_SLICE_STAT_GAIN.lo = 8 := rfl
@[simp] theorem ADC_SLICE_STAT_OFS_reg : ADC_SLICE_STAT_OFS.reg = .ADC_SLICE_STAT := rfl
@[simp] theorem ADC_SLICE_STAT_OFS_hi : ADC_SLICE_STAT_OFS.hi = 7 := rfl
@[simp] theorem ADC_SLICE_STAT_OFS_lo : ADC_SLICE_STAT_OFS.lo = 0 := rfl
@[simp] theorem ADC_CH_CFG_REF_reg : ADC_CH_CFG_REF.reg = .ADC_CH_CFG := rfl
@[simp] theorem ADC_CH_CFG_REF_hi : ADC_CH_CFG_REF.hi = 5 := rfl
@[simp] theorem ADC_CH_CFG_REF_lo : ADC_CH_CFG_REF.lo = 4 := rfl
@[simp] theorem ADC_CH_CFG_RANGE_reg : ADC_CH_CFG_RANGE.reg = .ADC_CH_CFG := rfl
@[simp] theorem ADC_CH_CFG_RANGE_hi : ADC_CH_CFG_RANGE.hi = 1 := rfl
@[simp] theorem ADC_CH_CFG_RANGE_lo : ADC_CH_CFG_RANGE.lo = 0 := rfl
@[simp] theorem ADC_RES_OVR_reg : ADC_RES_OVR.reg = .ADC_RES := rfl
@[simp] theorem ADC_RES_OVR_hi : ADC_RES_OVR.hi = 31 := rfl
@[simp] theorem ADC_RES_OVR_lo : ADC_RES_OVR.lo = 31 := rfl
@[simp] theorem ADC_RES_SUS_reg : ADC_RES_SUS.reg = .ADC_RES := rfl
@[simp] theorem ADC_RES_SUS_hi : ADC_RES_SUS.hi = 30 := rfl
@[simp] theorem ADC_RES_SUS_lo : ADC_RES_SUS.lo = 30 := rfl
@[simp] theorem ADC_RES_REFNS_reg : ADC_RES_REFNS.reg = .ADC_RES := rfl
@[simp] theorem ADC_RES_REFNS_hi : ADC_RES_REFNS.hi = 29 := rfl
@[simp] theorem ADC_RES_REFNS_lo : ADC_RES_REFNS.lo = 29 := rfl
@[simp] theorem ADC_RES_STALE_reg : ADC_RES_STALE.reg = .ADC_RES := rfl
@[simp] theorem ADC_RES_STALE_hi : ADC_RES_STALE.hi = 28 := rfl
@[simp] theorem ADC_RES_STALE_lo : ADC_RES_STALE.lo = 28 := rfl
@[simp] theorem ADC_RES_CNT_reg : ADC_RES_CNT.reg = .ADC_RES := rfl
@[simp] theorem ADC_RES_CNT_hi : ADC_RES_CNT.hi = 27 := rfl
@[simp] theorem ADC_RES_CNT_lo : ADC_RES_CNT.lo = 24 := rfl
@[simp] theorem ADC_RES_SLICE_reg : ADC_RES_SLICE.reg = .ADC_RES := rfl
@[simp] theorem ADC_RES_SLICE_hi : ADC_RES_SLICE.hi = 20 := rfl
@[simp] theorem ADC_RES_SLICE_lo : ADC_RES_SLICE.lo = 16 := rfl
@[simp] theorem ADC_RES_CODE_reg : ADC_RES_CODE.reg = .ADC_RES := rfl
@[simp] theorem ADC_RES_CODE_hi : ADC_RES_CODE.hi = 15 := rfl
@[simp] theorem ADC_RES_CODE_lo : ADC_RES_CODE.lo = 0 := rfl
@[simp] theorem ADC_TC_LIM_HI_reg : ADC_TC_LIM_HI.reg = .ADC_TC_LIM := rfl
@[simp] theorem ADC_TC_LIM_HI_hi : ADC_TC_LIM_HI.hi = 31 := rfl
@[simp] theorem ADC_TC_LIM_HI_lo : ADC_TC_LIM_HI.lo = 16 := rfl
@[simp] theorem ADC_TC_LIM_LO_reg : ADC_TC_LIM_LO.reg = .ADC_TC_LIM := rfl
@[simp] theorem ADC_TC_LIM_LO_hi : ADC_TC_LIM_LO.hi = 15 := rfl
@[simp] theorem ADC_TC_LIM_LO_lo : ADC_TC_LIM_LO.lo = 0 := rfl
@[simp] theorem ADC_EP_CFG_FILT_reg : ADC_EP_CFG_FILT.reg = .ADC_EP_CFG := rfl
@[simp] theorem ADC_EP_CFG_FILT_hi : ADC_EP_CFG_FILT.hi = 11 := rfl
@[simp] theorem ADC_EP_CFG_FILT_lo : ADC_EP_CFG_FILT.lo = 8 := rfl
@[simp] theorem ADC_EP_CFG_INV_reg : ADC_EP_CFG_INV.reg = .ADC_EP_CFG := rfl
@[simp] theorem ADC_EP_CFG_INV_hi : ADC_EP_CFG_INV.hi = 7 := rfl
@[simp] theorem ADC_EP_CFG_INV_lo : ADC_EP_CFG_INV.lo = 7 := rfl
@[simp] theorem ADC_EP_CFG_ZCAP_reg : ADC_EP_CFG_ZCAP.reg = .ADC_EP_CFG := rfl
@[simp] theorem ADC_EP_CFG_ZCAP_hi : ADC_EP_CFG_ZCAP.hi = 3 := rfl
@[simp] theorem ADC_EP_CFG_ZCAP_lo : ADC_EP_CFG_ZCAP.lo = 3 := rfl
@[simp] theorem ADC_EP_CFG_MODE_reg : ADC_EP_CFG_MODE.reg = .ADC_EP_CFG := rfl
@[simp] theorem ADC_EP_CFG_MODE_hi : ADC_EP_CFG_MODE.hi = 2 := rfl
@[simp] theorem ADC_EP_CFG_MODE_lo : ADC_EP_CFG_MODE.lo = 0 := rfl
@[simp] theorem ADC_EP_SSI_EVERY_reg : ADC_EP_SSI_EVERY.reg = .ADC_EP_SSI := rfl
@[simp] theorem ADC_EP_SSI_EVERY_hi : ADC_EP_SSI_EVERY.hi = 31 := rfl
@[simp] theorem ADC_EP_SSI_EVERY_lo : ADC_EP_SSI_EVERY.lo = 28 := rfl
@[simp] theorem ADC_EP_SSI_MONO_reg : ADC_EP_SSI_MONO.reg = .ADC_EP_SSI := rfl
@[simp] theorem ADC_EP_SSI_MONO_hi : ADC_EP_SSI_MONO.hi = 27 := rfl
@[simp] theorem ADC_EP_SSI_MONO_lo : ADC_EP_SSI_MONO.lo = 20 := rfl
@[simp] theorem ADC_EP_SSI_CLKDIV_reg : ADC_EP_SSI_CLKDIV.reg = .ADC_EP_SSI := rfl
@[simp] theorem ADC_EP_SSI_CLKDIV_hi : ADC_EP_SSI_CLKDIV.hi = 19 := rfl
@[simp] theorem ADC_EP_SSI_CLKDIV_lo : ADC_EP_SSI_CLKDIV.lo = 8 := rfl
@[simp] theorem ADC_EP_SSI_ERRBIT_reg : ADC_EP_SSI_ERRBIT.reg = .ADC_EP_SSI := rfl
@[simp] theorem ADC_EP_SSI_ERRBIT_hi : ADC_EP_SSI_ERRBIT.hi = 7 := rfl
@[simp] theorem ADC_EP_SSI_ERRBIT_lo : ADC_EP_SSI_ERRBIT.lo = 7 := rfl
@[simp] theorem ADC_EP_SSI_GRAY_reg : ADC_EP_SSI_GRAY.reg = .ADC_EP_SSI := rfl
@[simp] theorem ADC_EP_SSI_GRAY_hi : ADC_EP_SSI_GRAY.hi = 6 := rfl
@[simp] theorem ADC_EP_SSI_GRAY_lo : ADC_EP_SSI_GRAY.lo = 6 := rfl
@[simp] theorem ADC_EP_SSI_BITS_reg : ADC_EP_SSI_BITS.reg = .ADC_EP_SSI := rfl
@[simp] theorem ADC_EP_SSI_BITS_hi : ADC_EP_SSI_BITS.hi = 5 := rfl
@[simp] theorem ADC_EP_SSI_BITS_lo : ADC_EP_SSI_BITS.lo = 0 := rfl
@[simp] theorem ADC_EP_POS_reg : ADC_EP_POS.reg = .ADC_EP_POS := rfl
@[simp] theorem ADC_EP_POS_hi : ADC_EP_POS.hi = 31 := rfl
@[simp] theorem ADC_EP_POS_lo : ADC_EP_POS.lo = 0 := rfl
@[simp] theorem ADC_EP_IDX_reg : ADC_EP_IDX.reg = .ADC_EP_IDX := rfl
@[simp] theorem ADC_EP_IDX_hi : ADC_EP_IDX.hi = 31 := rfl
@[simp] theorem ADC_EP_IDX_lo : ADC_EP_IDX.lo = 0 := rfl
@[simp] theorem ADC_EP_EDGE_NONE_reg : ADC_EP_EDGE_NONE.reg = .ADC_EP_EDGE := rfl
@[simp] theorem ADC_EP_EDGE_NONE_hi : ADC_EP_EDGE_NONE.hi = 31 := rfl
@[simp] theorem ADC_EP_EDGE_NONE_lo : ADC_EP_EDGE_NONE.lo = 31 := rfl
@[simp] theorem ADC_EP_EDGE_PREV_reg : ADC_EP_EDGE_PREV.reg = .ADC_EP_EDGE := rfl
@[simp] theorem ADC_EP_EDGE_PREV_hi : ADC_EP_EDGE_PREV.hi = 30 := rfl
@[simp] theorem ADC_EP_EDGE_PREV_lo : ADC_EP_EDGE_PREV.lo = 30 := rfl
@[simp] theorem ADC_EP_EDGE_SUB_reg : ADC_EP_EDGE_SUB.reg = .ADC_EP_EDGE := rfl
@[simp] theorem ADC_EP_EDGE_SUB_hi : ADC_EP_EDGE_SUB.hi = 13 := rfl
@[simp] theorem ADC_EP_EDGE_SUB_lo : ADC_EP_EDGE_SUB.lo = 0 := rfl
@[simp] theorem ADC_EP_STAT_AMP_reg : ADC_EP_STAT_AMP.reg = .ADC_EP_STAT := rfl
@[simp] theorem ADC_EP_STAT_AMP_hi : ADC_EP_STAT_AMP.hi = 31 := rfl
@[simp] theorem ADC_EP_STAT_AMP_lo : ADC_EP_STAT_AMP.lo = 16 := rfl
@[simp] theorem ADC_EP_STAT_VALID_reg : ADC_EP_STAT_VALID.reg = .ADC_EP_STAT := rfl
@[simp] theorem ADC_EP_STAT_VALID_hi : ADC_EP_STAT_VALID.hi = 7 := rfl
@[simp] theorem ADC_EP_STAT_VALID_lo : ADC_EP_STAT_VALID.lo = 7 := rfl
@[simp] theorem ADC_EP_STAT_OLD_reg : ADC_EP_STAT_OLD.reg = .ADC_EP_STAT := rfl
@[simp] theorem ADC_EP_STAT_OLD_hi : ADC_EP_STAT_OLD.hi = 6 := rfl
@[simp] theorem ADC_EP_STAT_OLD_lo : ADC_EP_STAT_OLD.lo = 6 := rfl
@[simp] theorem ADC_EP_STAT_SSIERR_reg : ADC_EP_STAT_SSIERR.reg = .ADC_EP_STAT := rfl
@[simp] theorem ADC_EP_STAT_SSIERR_hi : ADC_EP_STAT_SSIERR.hi = 5 := rfl
@[simp] theorem ADC_EP_STAT_SSIERR_lo : ADC_EP_STAT_SSIERR.lo = 5 := rfl
@[simp] theorem ADC_EP_STAT_AMPERR_reg : ADC_EP_STAT_AMPERR.reg = .ADC_EP_STAT := rfl
@[simp] theorem ADC_EP_STAT_AMPERR_hi : ADC_EP_STAT_AMPERR.hi = 4 := rfl
@[simp] theorem ADC_EP_STAT_AMPERR_lo : ADC_EP_STAT_AMPERR.lo = 4 := rfl
@[simp] theorem ADC_EP_STAT_ILLEGAL_reg : ADC_EP_STAT_ILLEGAL.reg = .ADC_EP_STAT := rfl
@[simp] theorem ADC_EP_STAT_ILLEGAL_hi : ADC_EP_STAT_ILLEGAL.hi = 3 := rfl
@[simp] theorem ADC_EP_STAT_ILLEGAL_lo : ADC_EP_STAT_ILLEGAL.lo = 3 := rfl
@[simp] theorem ADC_EP_STAT_LINE_reg : ADC_EP_STAT_LINE.reg = .ADC_EP_STAT := rfl
@[simp] theorem ADC_EP_STAT_LINE_hi : ADC_EP_STAT_LINE.hi = 2 := rfl
@[simp] theorem ADC_EP_STAT_LINE_lo : ADC_EP_STAT_LINE.lo = 2 := rfl
@[simp] theorem ADC_EP_STAT_ZSEEN_reg : ADC_EP_STAT_ZSEEN.reg = .ADC_EP_STAT := rfl
@[simp] theorem ADC_EP_STAT_ZSEEN_hi : ADC_EP_STAT_ZSEEN.hi = 1 := rfl
@[simp] theorem ADC_EP_STAT_ZSEEN_lo : ADC_EP_STAT_ZSEEN.lo = 1 := rfl
@[simp] theorem PWM_CTL_CLRCNT_reg : PWM_CTL_CLRCNT.reg = .PWM_CTL := rfl
@[simp] theorem PWM_CTL_CLRCNT_hi : PWM_CTL_CLRCNT.hi = 0 := rfl
@[simp] theorem PWM_CTL_CLRCNT_lo : PWM_CTL_CLRCNT.lo = 0 := rfl
@[simp] theorem PWM_STAT_GFAULT_reg : PWM_STAT_GFAULT.reg = .PWM_STAT := rfl
@[simp] theorem PWM_STAT_GFAULT_hi : PWM_STAT_GFAULT.hi = 27 := rfl
@[simp] theorem PWM_STAT_GFAULT_lo : PWM_STAT_GFAULT.lo = 16 := rfl
@[simp] theorem PWM_STAT_NOSPARE_reg : PWM_STAT_NOSPARE.reg = .PWM_STAT := rfl
@[simp] theorem PWM_STAT_NOSPARE_hi : PWM_STAT_NOSPARE.hi = 3 := rfl
@[simp] theorem PWM_STAT_NOSPARE_lo : PWM_STAT_NOSPARE.lo = 3 := rfl
@[simp] theorem PWM_STAT_BADWR_ANY_reg : PWM_STAT_BADWR_ANY.reg = .PWM_STAT := rfl
@[simp] theorem PWM_STAT_BADWR_ANY_hi : PWM_STAT_BADWR_ANY.hi = 2 := rfl
@[simp] theorem PWM_STAT_BADWR_ANY_lo : PWM_STAT_BADWR_ANY.lo = 2 := rfl
@[simp] theorem PWM_STAT_RESCALED_ANY_reg : PWM_STAT_RESCALED_ANY.reg = .PWM_STAT := rfl
@[simp] theorem PWM_STAT_RESCALED_ANY_hi : PWM_STAT_RESCALED_ANY.hi = 1 := rfl
@[simp] theorem PWM_STAT_RESCALED_ANY_lo : PWM_STAT_RESCALED_ANY.lo = 1 := rfl
@[simp] theorem PWM_STAT_RUN_reg : PWM_STAT_RUN.reg = .PWM_STAT := rfl
@[simp] theorem PWM_STAT_RUN_hi : PWM_STAT_RUN.hi = 0 := rfl
@[simp] theorem PWM_STAT_RUN_lo : PWM_STAT_RUN.lo = 0 := rfl
@[simp] theorem PWM_ANNEAL_CFG_DWELL_reg : PWM_ANNEAL_CFG_DWELL.reg = .PWM_ANNEAL_CFG := rfl
@[simp] theorem PWM_ANNEAL_CFG_DWELL_hi : PWM_ANNEAL_CFG_DWELL.hi = 31 := rfl
@[simp] theorem PWM_ANNEAL_CFG_DWELL_lo : PWM_ANNEAL_CFG_DWELL.lo = 16 := rfl
@[simp] theorem PWM_ANNEAL_CFG_EN_reg : PWM_ANNEAL_CFG_EN.reg = .PWM_ANNEAL_CFG := rfl
@[simp] theorem PWM_ANNEAL_CFG_EN_hi : PWM_ANNEAL_CFG_EN.hi = 0 := rfl
@[simp] theorem PWM_ANNEAL_CFG_EN_lo : PWM_ANNEAL_CFG_EN.lo = 0 := rfl
@[simp] theorem PWM_ANNEAL_STAT_PHASE_reg : PWM_ANNEAL_STAT_PHASE.reg = .PWM_ANNEAL_STAT := rfl
@[simp] theorem PWM_ANNEAL_STAT_PHASE_hi : PWM_ANNEAL_STAT_PHASE.hi = 17 := rfl
@[simp] theorem PWM_ANNEAL_STAT_PHASE_lo : PWM_ANNEAL_STAT_PHASE.lo = 16 := rfl
@[simp] theorem PWM_ANNEAL_STAT_COUNT_reg : PWM_ANNEAL_STAT_COUNT.reg = .PWM_ANNEAL_STAT := rfl
@[simp] theorem PWM_ANNEAL_STAT_COUNT_hi : PWM_ANNEAL_STAT_COUNT.hi = 15 := rfl
@[simp] theorem PWM_ANNEAL_STAT_COUNT_lo : PWM_ANNEAL_STAT_COUNT.lo = 0 := rfl
@[simp] theorem PWM_GRP_CFG_GFFILT_reg : PWM_GRP_CFG_GFFILT.reg = .PWM_GRP_CFG := rfl
@[simp] theorem PWM_GRP_CFG_GFFILT_hi : PWM_GRP_CFG_GFFILT.hi = 31 := rfl
@[simp] theorem PWM_GRP_CFG_GFFILT_lo : PWM_GRP_CFG_GFFILT.lo = 24 := rfl
@[simp] theorem PWM_GRP_CFG_OWNER_reg : PWM_GRP_CFG_OWNER.reg = .PWM_GRP_CFG := rfl
@[simp] theorem PWM_GRP_CFG_OWNER_hi : PWM_GRP_CFG_OWNER.hi = 17 := rfl
@[simp] theorem PWM_GRP_CFG_OWNER_lo : PWM_GRP_CFG_OWNER.lo = 16 := rfl
@[simp] theorem PWM_GRP_CFG_LOAD_reg : PWM_GRP_CFG_LOAD.reg = .PWM_GRP_CFG := rfl
@[simp] theorem PWM_GRP_CFG_LOAD_hi : PWM_GRP_CFG_LOAD.hi = 9 := rfl
@[simp] theorem PWM_GRP_CFG_LOAD_lo : PWM_GRP_CFG_LOAD.lo = 8 := rfl
@[simp] theorem PWM_GRP_CFG_SAFE_reg : PWM_GRP_CFG_SAFE.reg = .PWM_GRP_CFG := rfl
@[simp] theorem PWM_GRP_CFG_SAFE_hi : PWM_GRP_CFG_SAFE.hi = 5 := rfl
@[simp] theorem PWM_GRP_CFG_SAFE_lo : PWM_GRP_CFG_SAFE.lo = 4 := rfl
@[simp] theorem PWM_GRP_CFG_SYNC_reg : PWM_GRP_CFG_SYNC.reg = .PWM_GRP_CFG := rfl
@[simp] theorem PWM_GRP_CFG_SYNC_hi : PWM_GRP_CFG_SYNC.hi = 1 := rfl
@[simp] theorem PWM_GRP_CFG_SYNC_lo : PWM_GRP_CFG_SYNC.lo = 1 := rfl
@[simp] theorem PWM_GRP_CFG_POL_reg : PWM_GRP_CFG_POL.reg = .PWM_GRP_CFG := rfl
@[simp] theorem PWM_GRP_CFG_POL_hi : PWM_GRP_CFG_POL.hi = 0 := rfl
@[simp] theorem PWM_GRP_CFG_POL_lo : PWM_GRP_CFG_POL.lo = 0 := rfl
@[simp] theorem PWM_GRP_TIME_MINP_reg : PWM_GRP_TIME_MINP.reg = .PWM_GRP_TIME := rfl
@[simp] theorem PWM_GRP_TIME_MINP_hi : PWM_GRP_TIME_MINP.hi = 31 := rfl
@[simp] theorem PWM_GRP_TIME_MINP_lo : PWM_GRP_TIME_MINP.lo = 16 := rfl
@[simp] theorem PWM_GRP_TIME_DT_reg : PWM_GRP_TIME_DT.reg = .PWM_GRP_TIME := rfl
@[simp] theorem PWM_GRP_TIME_DT_hi : PWM_GRP_TIME_DT.hi = 15 := rfl
@[simp] theorem PWM_GRP_TIME_DT_lo : PWM_GRP_TIME_DT.lo = 0 := rfl
@[simp] theorem PWM_GRP_PHASE_PHASE_reg : PWM_GRP_PHASE_PHASE.reg = .PWM_GRP_PHASE := rfl
@[simp] theorem PWM_GRP_PHASE_PHASE_hi : PWM_GRP_PHASE_PHASE.hi = 20 := rfl
@[simp] theorem PWM_GRP_PHASE_PHASE_lo : PWM_GRP_PHASE_PHASE.lo = 0 := rfl
@[simp] theorem PWM_GRP_TOP_TOP_reg : PWM_GRP_TOP_TOP.reg = .PWM_GRP_TOP := rfl
@[simp] theorem PWM_GRP_TOP_TOP_hi : PWM_GRP_TOP_TOP.hi = 19 := rfl
@[simp] theorem PWM_GRP_TOP_TOP_lo : PWM_GRP_TOP_TOP.lo = 0 := rfl
@[simp] theorem PWM_GRP_CTL_EN_reg : PWM_GRP_CTL_EN.reg = .PWM_GRP_CTL := rfl
@[simp] theorem PWM_GRP_CTL_EN_hi : PWM_GRP_CTL_EN.hi = 0 := rfl
@[simp] theorem PWM_GRP_CTL_EN_lo : PWM_GRP_CTL_EN.lo = 0 := rfl
@[simp] theorem PWM_GRP_STAT_FAULT_reg : PWM_GRP_STAT_FAULT.reg = .PWM_GRP_STAT := rfl
@[simp] theorem PWM_GRP_STAT_FAULT_hi : PWM_GRP_STAT_FAULT.hi = 31 := rfl
@[simp] theorem PWM_GRP_STAT_FAULT_lo : PWM_GRP_STAT_FAULT.lo = 31 := rfl
@[simp] theorem PWM_GRP_STAT_GFIN_reg : PWM_GRP_STAT_GFIN.reg = .PWM_GRP_STAT := rfl
@[simp] theorem PWM_GRP_STAT_GFIN_hi : PWM_GRP_STAT_GFIN.hi = 30 := rfl
@[simp] theorem PWM_GRP_STAT_GFIN_lo : PWM_GRP_STAT_GFIN.lo = 30 := rfl
@[simp] theorem PWM_GRP_STAT_ENOUT_reg : PWM_GRP_STAT_ENOUT.reg = .PWM_GRP_STAT := rfl
@[simp] theorem PWM_GRP_STAT_ENOUT_hi : PWM_GRP_STAT_ENOUT.hi = 29 := rfl
@[simp] theorem PWM_GRP_STAT_ENOUT_lo : PWM_GRP_STAT_ENOUT.lo = 29 := rfl
@[simp] theorem PWM_GRP_STAT_STATE_reg : PWM_GRP_STAT_STATE.reg = .PWM_GRP_STAT := rfl
@[simp] theorem PWM_GRP_STAT_STATE_hi : PWM_GRP_STAT_STATE.hi = 28 := rfl
@[simp] theorem PWM_GRP_STAT_STATE_lo : PWM_GRP_STAT_STATE.lo = 27 := rfl
@[simp] theorem PWM_GRP_STAT_RESCALED_reg : PWM_GRP_STAT_RESCALED.reg = .PWM_GRP_STAT := rfl
@[simp] theorem PWM_GRP_STAT_RESCALED_hi : PWM_GRP_STAT_RESCALED.hi = 26 := rfl
@[simp] theorem PWM_GRP_STAT_RESCALED_lo : PWM_GRP_STAT_RESCALED.lo = 26 := rfl
@[simp] theorem PWM_GRP_STAT_BADWR_reg : PWM_GRP_STAT_BADWR.reg = .PWM_GRP_STAT := rfl
@[simp] theorem PWM_GRP_STAT_BADWR_hi : PWM_GRP_STAT_BADWR.hi = 25 := rfl
@[simp] theorem PWM_GRP_STAT_BADWR_lo : PWM_GRP_STAT_BADWR.lo = 25 := rfl
@[simp] theorem PWM_GRP_STAT_SYNCLAG_reg : PWM_GRP_STAT_SYNCLAG.reg = .PWM_GRP_STAT := rfl
@[simp] theorem PWM_GRP_STAT_SYNCLAG_hi : PWM_GRP_STAT_SYNCLAG.hi = 24 := rfl
@[simp] theorem PWM_GRP_STAT_SYNCLAG_lo : PWM_GRP_STAT_SYNCLAG.lo = 24 := rfl
@[simp] theorem PWM_GRP_ACT_TOP_reg : PWM_GRP_ACT_TOP.reg = .PWM_GRP_ACT := rfl
@[simp] theorem PWM_GRP_ACT_TOP_hi : PWM_GRP_ACT_TOP.hi = 19 := rfl
@[simp] theorem PWM_GRP_ACT_TOP_lo : PWM_GRP_ACT_TOP.lo = 0 := rfl
@[simp] theorem PWM_GRP_CNT_SUPP_reg : PWM_GRP_CNT_SUPP.reg = .PWM_GRP_CNT := rfl
@[simp] theorem PWM_GRP_CNT_SUPP_hi : PWM_GRP_CNT_SUPP.hi = 31 := rfl
@[simp] theorem PWM_GRP_CNT_SUPP_lo : PWM_GRP_CNT_SUPP.lo = 16 := rfl
@[simp] theorem PWM_GRP_CNT_SKIP_reg : PWM_GRP_CNT_SKIP.reg = .PWM_GRP_CNT := rfl
@[simp] theorem PWM_GRP_CNT_SKIP_hi : PWM_GRP_CNT_SKIP.hi = 15 := rfl
@[simp] theorem PWM_GRP_CNT_SKIP_lo : PWM_GRP_CNT_SKIP.lo = 0 := rfl
@[simp] theorem PWM_CMP_reg : PWM_CMP.reg = .PWM_CMP := rfl
@[simp] theorem PWM_CMP_hi : PWM_CMP.hi = 31 := rfl
@[simp] theorem PWM_CMP_lo : PWM_CMP.lo = 0 := rfl
@[simp] theorem PWM_CMP_ACT_reg : PWM_CMP_ACT.reg = .PWM_CMP_ACT := rfl
@[simp] theorem PWM_CMP_ACT_hi : PWM_CMP_ACT.hi = 31 := rfl
@[simp] theorem PWM_CMP_ACT_lo : PWM_CMP_ACT.lo = 0 := rfl
@[simp] theorem PWM_DL_STAT_STATE_reg : PWM_DL_STAT_STATE.reg = .PWM_DL_STAT := rfl
@[simp] theorem PWM_DL_STAT_STATE_hi : PWM_DL_STAT_STATE.hi = 31 := rfl
@[simp] theorem PWM_DL_STAT_STATE_lo : PWM_DL_STAT_STATE.lo = 29 := rfl
@[simp] theorem PWM_DL_STAT_OUT_reg : PWM_DL_STAT_OUT.reg = .PWM_DL_STAT := rfl
@[simp] theorem PWM_DL_STAT_OUT_hi : PWM_DL_STAT_OUT.hi = 27 := rfl
@[simp] theorem PWM_DL_STAT_OUT_lo : PWM_DL_STAT_OUT.lo = 24 := rfl
@[simp] theorem PWM_DL_STAT_ERR_reg : PWM_DL_STAT_ERR.reg = .PWM_DL_STAT := rfl
@[simp] theorem PWM_DL_STAT_ERR_hi : PWM_DL_STAT_ERR.hi = 15 := rfl
@[simp] theorem PWM_DL_STAT_ERR_lo : PWM_DL_STAT_ERR.lo = 8 := rfl
@[simp] theorem LP_CFG_PH_reg : LP_CFG_PH.reg = .LP_CFG := rfl
@[simp] theorem LP_CFG_PH_hi : LP_CFG_PH.hi = 30 := rfl
@[simp] theorem LP_CFG_PH_lo : LP_CFG_PH.lo = 24 := rfl
@[simp] theorem LP_CFG_DIV_reg : LP_CFG_DIV.reg = .LP_CFG := rfl
@[simp] theorem LP_CFG_DIV_hi : LP_CFG_DIV.hi = 22 := rfl
@[simp] theorem LP_CFG_DIV_lo : LP_CFG_DIV.lo = 20 := rfl
@[simp] theorem LP_CFG_STOPY_reg : LP_CFG_STOPY.reg = .LP_CFG := rfl
@[simp] theorem LP_CFG_STOPY_hi : LP_CFG_STOPY.hi = 17 := rfl
@[simp] theorem LP_CFG_STOPY_lo : LP_CFG_STOPY.lo = 16 := rfl
@[simp] theorem LP_CFG_STALEACT_reg : LP_CFG_STALEACT.reg = .LP_CFG := rfl
@[simp] theorem LP_CFG_STALEACT_hi : LP_CFG_STALEACT.hi = 12 := rfl
@[simp] theorem LP_CFG_STALEACT_lo : LP_CFG_STALEACT.lo = 12 := rfl
@[simp] theorem LP_CFG_SCHABS_reg : LP_CFG_SCHABS.reg = .LP_CFG := rfl
@[simp] theorem LP_CFG_SCHABS_hi : LP_CFG_SCHABS.hi = 9 := rfl
@[simp] theorem LP_CFG_SCHABS_lo : LP_CFG_SCHABS.lo = 9 := rfl
@[simp] theorem LP_CFG_SCHMODE_reg : LP_CFG_SCHMODE.reg = .LP_CFG := rfl
@[simp] theorem LP_CFG_SCHMODE_hi : LP_CFG_SCHMODE.hi = 8 := rfl
@[simp] theorem LP_CFG_SCHMODE_lo : LP_CFG_SCHMODE.lo = 8 := rfl
@[simp] theorem LP_CFG_SET_reg : LP_CFG_SET.reg = .LP_CFG := rfl
@[simp] theorem LP_CFG_SET_hi : LP_CFG_SET.hi = 7 := rfl
@[simp] theorem LP_CFG_SET_lo : LP_CFG_SET.lo = 6 := rfl
@[simp] theorem LP_CFG_TABLE_reg : LP_CFG_TABLE.reg = .LP_CFG := rfl
@[simp] theorem LP_CFG_TABLE_hi : LP_CFG_TABLE.hi = 5 := rfl
@[simp] theorem LP_CFG_TABLE_lo : LP_CFG_TABLE.lo = 5 := rfl
@[simp] theorem LP_CFG_TYPE_reg : LP_CFG_TYPE.reg = .LP_CFG := rfl
@[simp] theorem LP_CFG_TYPE_hi : LP_CFG_TYPE.hi = 2 := rfl
@[simp] theorem LP_CFG_TYPE_lo : LP_CFG_TYPE.lo = 0 := rfl
@[simp] theorem LP_SRC0_FB_reg : LP_SRC0_FB.reg = .LP_SRC0 := rfl
@[simp] theorem LP_SRC0_FB_hi : LP_SRC0_FB.hi = 31 := rfl
@[simp] theorem LP_SRC0_FB_lo : LP_SRC0_FB.lo = 16 := rfl
@[simp] theorem LP_SRC0_REF_reg : LP_SRC0_REF.reg = .LP_SRC0 := rfl
@[simp] theorem LP_SRC0_REF_hi : LP_SRC0_REF.hi = 15 := rfl
@[simp] theorem LP_SRC0_REF_lo : LP_SRC0_REF.lo = 0 := rfl
@[simp] theorem LP_SRC1_SCHED_reg : LP_SRC1_SCHED.reg = .LP_SRC1 := rfl
@[simp] theorem LP_SRC1_SCHED_hi : LP_SRC1_SCHED.hi = 31 := rfl
@[simp] theorem LP_SRC1_SCHED_lo : LP_SRC1_SCHED.lo = 16 := rfl
@[simp] theorem LP_SRC1_FF_reg : LP_SRC1_FF.reg = .LP_SRC1 := rfl
@[simp] theorem LP_SRC1_FF_hi : LP_SRC1_FF.hi = 15 := rfl
@[simp] theorem LP_SRC1_FF_lo : LP_SRC1_FF.lo = 0 := rfl
@[simp] theorem LP_SRC2_STALEMAX_reg : LP_SRC2_STALEMAX.reg = .LP_SRC2 := rfl
@[simp] theorem LP_SRC2_STALEMAX_hi : LP_SRC2_STALEMAX.hi = 31 := rfl
@[simp] theorem LP_SRC2_STALEMAX_lo : LP_SRC2_STALEMAX.lo = 24 := rfl
@[simp] theorem LP_SRC2_LIM_reg : LP_SRC2_LIM.reg = .LP_SRC2 := rfl
@[simp] theorem LP_SRC2_LIM_hi : LP_SRC2_LIM.hi = 15 := rfl
@[simp] theorem LP_SRC2_LIM_lo : LP_SRC2_LIM.lo = 0 := rfl
@[simp] theorem LP_KR_reg : LP_KR.reg = .LP_KR := rfl
@[simp] theorem LP_KR_hi : LP_KR.hi = 31 := rfl
@[simp] theorem LP_KR_lo : LP_KR.lo = 0 := rfl
@[simp] theorem LP_KX_reg : LP_KX.reg = .LP_KX := rfl
@[simp] theorem LP_KX_hi : LP_KX.hi = 31 := rfl
@[simp] theorem LP_KX_lo : LP_KX.lo = 0 := rfl
@[simp] theorem LP_KF_reg : LP_KF.reg = .LP_KF := rfl
@[simp] theorem LP_KF_hi : LP_KF.hi = 31 := rfl
@[simp] theorem LP_KF_lo : LP_KF.lo = 0 := rfl
@[simp] theorem LP_HI_reg : LP_HI.reg = .LP_HI := rfl
@[simp] theorem LP_HI_hi : LP_HI.hi = 31 := rfl
@[simp] theorem LP_HI_lo : LP_HI.lo = 0 := rfl
@[simp] theorem LP_LO_reg : LP_LO.reg = .LP_LO := rfl
@[simp] theorem LP_LO_hi : LP_LO.hi = 31 := rfl
@[simp] theorem LP_LO_lo : LP_LO.lo = 0 := rfl
@[simp] theorem LP_PAGE_SEL_reg : LP_PAGE_SEL.reg = .LP_PAGE := rfl
@[simp] theorem LP_PAGE_SEL_hi : LP_PAGE_SEL.hi = 31 := rfl
@[simp] theorem LP_PAGE_SEL_lo : LP_PAGE_SEL.lo = 31 := rfl
@[simp] theorem LP_PAGE_PAGE1_reg : LP_PAGE_PAGE1.reg = .LP_PAGE := rfl
@[simp] theorem LP_PAGE_PAGE1_hi : LP_PAGE_PAGE1.hi = 27 := rfl
@[simp] theorem LP_PAGE_PAGE1_lo : LP_PAGE_PAGE1.lo = 16 := rfl
@[simp] theorem LP_PAGE_PAGE0_reg : LP_PAGE_PAGE0.reg = .LP_PAGE := rfl
@[simp] theorem LP_PAGE_PAGE0_hi : LP_PAGE_PAGE0.hi = 11 := rfl
@[simp] theorem LP_PAGE_PAGE0_lo : LP_PAGE_PAGE0.lo = 0 := rfl
@[simp] theorem LP_STATE_COPYB_reg : LP_STATE_COPYB.reg = .LP_STATE := rfl
@[simp] theorem LP_STATE_COPYB_hi : LP_STATE_COPYB.hi = 30 := rfl
@[simp] theorem LP_STATE_COPYB_lo : LP_STATE_COPYB.lo = 16 := rfl
@[simp] theorem LP_STATE_COPYA_reg : LP_STATE_COPYA.reg = .LP_STATE := rfl
@[simp] theorem LP_STATE_COPYA_hi : LP_STATE_COPYA.hi = 14 := rfl
@[simp] theorem LP_STATE_COPYA_lo : LP_STATE_COPYA.lo = 0 := rfl
@[simp] theorem LP_VEC_GROUP_reg : LP_VEC_GROUP.reg = .LP_VEC := rfl
@[simp] theorem LP_VEC_GROUP_hi : LP_VEC_GROUP.hi = 31 := rfl
@[simp] theorem LP_VEC_GROUP_lo : LP_VEC_GROUP.lo = 28 := rfl
@[simp] theorem LP_VEC_PBK_reg : LP_VEC_PBK.reg = .LP_VEC := rfl
@[simp] theorem LP_VEC_PBK_hi : LP_VEC_PBK.hi = 24 := rfl
@[simp] theorem LP_VEC_PBK_lo : LP_VEC_PBK.lo = 20 := rfl
@[simp] theorem LP_VEC_ADV_reg : LP_VEC_ADV.reg = .LP_VEC := rfl
@[simp] theorem LP_VEC_ADV_hi : LP_VEC_ADV.hi = 17 := rfl
@[simp] theorem LP_VEC_ADV_lo : LP_VEC_ADV.lo = 12 := rfl
@[simp] theorem LP_VEC_PORT_reg : LP_VEC_PORT.reg = .LP_VEC := rfl
@[simp] theorem LP_VEC_PORT_hi : LP_VEC_PORT.hi = 10 := rfl
@[simp] theorem LP_VEC_PORT_lo : LP_VEC_PORT.lo = 8 := rfl
@[simp] theorem LP_VEC_ANGSRC_reg : LP_VEC_ANGSRC.reg = .LP_VEC := rfl
@[simp] theorem LP_VEC_ANGSRC_hi : LP_VEC_ANGSRC.hi = 0 := rfl
@[simp] theorem LP_VEC_ANGSRC_lo : LP_VEC_ANGSRC.lo = 0 := rfl
@[simp] theorem LP_CTL_RESTART_reg : LP_CTL_RESTART.reg = .LP_CTL := rfl
@[simp] theorem LP_CTL_RESTART_hi : LP_CTL_RESTART.hi = 2 := rfl
@[simp] theorem LP_CTL_RESTART_lo : LP_CTL_RESTART.lo = 2 := rfl
@[simp] theorem LP_CTL_HOLD_reg : LP_CTL_HOLD.reg = .LP_CTL := rfl
@[simp] theorem LP_CTL_HOLD_hi : LP_CTL_HOLD.hi = 1 := rfl
@[simp] theorem LP_CTL_HOLD_lo : LP_CTL_HOLD.lo = 1 := rfl
@[simp] theorem LP_CTL_EN_reg : LP_CTL_EN.reg = .LP_CTL := rfl
@[simp] theorem LP_CTL_EN_hi : LP_CTL_EN.hi = 0 := rfl
@[simp] theorem LP_CTL_EN_lo : LP_CTL_EN.lo = 0 := rfl
@[simp] theorem LP_STAT_FAULT_reg : LP_STAT_FAULT.reg = .LP_STAT := rfl
@[simp] theorem LP_STAT_FAULT_hi : LP_STAT_FAULT.hi = 31 := rfl
@[simp] theorem LP_STAT_FAULT_lo : LP_STAT_FAULT.lo = 31 := rfl
@[simp] theorem LP_STAT_PAGEERR_reg : LP_STAT_PAGEERR.reg = .LP_STAT := rfl
@[simp] theorem LP_STAT_PAGEERR_hi : LP_STAT_PAGEERR.hi = 30 := rfl
@[simp] theorem LP_STAT_PAGEERR_lo : LP_STAT_PAGEERR.lo = 30 := rfl
@[simp] theorem LP_STAT_VDCLOW_reg : LP_STAT_VDCLOW.reg = .LP_STAT := rfl
@[simp] theorem LP_STAT_VDCLOW_hi : LP_STAT_VDCLOW.hi = 29 := rfl
@[simp] theorem LP_STAT_VDCLOW_lo : LP_STAT_VDCLOW.lo = 29 := rfl
@[simp] theorem LP_STAT_VLIM_reg : LP_STAT_VLIM.reg = .LP_STAT := rfl
@[simp] theorem LP_STAT_VLIM_hi : LP_STAT_VLIM.hi = 28 := rfl
@[simp] theorem LP_STAT_VLIM_lo : LP_STAT_VLIM.lo = 28 := rfl
@[simp] theorem LP_STAT_REGION_reg : LP_STAT_REGION.reg = .LP_STAT := rfl
@[simp] theorem LP_STAT_REGION_hi : LP_STAT_REGION.hi = 27 := rfl
@[simp] theorem LP_STAT_REGION_lo : LP_STAT_REGION.lo = 26 := rfl
@[simp] theorem LP_STAT_HELD_reg : LP_STAT_HELD.reg = .LP_STAT := rfl
@[simp] theorem LP_STAT_HELD_hi : LP_STAT_HELD.hi = 25 := rfl
@[simp] theorem LP_STAT_HELD_lo : LP_STAT_HELD.lo = 25 := rfl
@[simp] theorem LP_STAT_CLAMP_reg : LP_STAT_CLAMP.reg = .LP_STAT := rfl
@[simp] theorem LP_STAT_CLAMP_hi : LP_STAT_CLAMP.hi = 24 := rfl
@[simp] theorem LP_STAT_CLAMP_lo : LP_STAT_CLAMP.lo = 24 := rfl
@[simp] theorem LP_STAT_STALE_reg : LP_STAT_STALE.reg = .LP_STAT := rfl
@[simp] theorem LP_STAT_STALE_hi : LP_STAT_STALE.hi = 23 := rfl
@[simp] theorem LP_STAT_STALE_lo : LP_STAT_STALE.lo = 23 := rfl
@[simp] theorem LP_STAT_RUNNING_reg : LP_STAT_RUNNING.reg = .LP_STAT := rfl
@[simp] theorem LP_STAT_RUNNING_hi : LP_STAT_RUNNING.hi = 22 := rfl
@[simp] theorem LP_STAT_RUNNING_lo : LP_STAT_RUNNING.lo = 22 := rfl
@[simp] theorem LP_STAT_SELACT_reg : LP_STAT_SELACT.reg = .LP_STAT := rfl
@[simp] theorem LP_STAT_SELACT_hi : LP_STAT_SELACT.hi = 21 := rfl
@[simp] theorem LP_STAT_SELACT_lo : LP_STAT_SELACT.lo = 21 := rfl
@[simp] theorem LP_STAT_HALF_reg : LP_STAT_HALF.reg = .LP_STAT := rfl
@[simp] theorem LP_STAT_HALF_hi : LP_STAT_HALF.hi = 20 := rfl
@[simp] theorem LP_STAT_HALF_lo : LP_STAT_HALF.lo = 20 := rfl
@[simp] theorem LP_STAT_REGCHG_reg : LP_STAT_REGCHG.reg = .LP_STAT := rfl
@[simp] theorem LP_STAT_REGCHG_hi : LP_STAT_REGCHG.hi = 15 := rfl
@[simp] theorem LP_STAT_REGCHG_lo : LP_STAT_REGCHG.lo = 8 := rfl
@[simp] theorem LP_STAT_STALERUN_reg : LP_STAT_STALERUN.reg = .LP_STAT := rfl
@[simp] theorem LP_STAT_STALERUN_hi : LP_STAT_STALERUN.hi = 7 := rfl
@[simp] theorem LP_STAT_STALERUN_lo : LP_STAT_STALERUN.lo = 0 := rfl
@[simp] theorem LP_Y_reg : LP_Y.reg = .LP_Y := rfl
@[simp] theorem LP_Y_hi : LP_Y.hi = 31 := rfl
@[simp] theorem LP_Y_lo : LP_Y.lo = 0 := rfl
@[simp] theorem LP_E_reg : LP_E.reg = .LP_E := rfl
@[simp] theorem LP_E_hi : LP_E.hi = 31 := rfl
@[simp] theorem LP_E_lo : LP_E.lo = 0 := rfl
@[simp] theorem MG_CFG_REVDWELL_reg : MG_CFG_REVDWELL.reg = .MG_CFG := rfl
@[simp] theorem MG_CFG_REVDWELL_hi : MG_CFG_REVDWELL.hi = 31 := rfl
@[simp] theorem MG_CFG_REVDWELL_lo : MG_CFG_REVDWELL.lo = 24 := rfl
@[simp] theorem MG_CFG_AFRAC_reg : MG_CFG_AFRAC.reg = .MG_CFG := rfl
@[simp] theorem MG_CFG_AFRAC_hi : MG_CFG_AFRAC.hi = 23 := rfl
@[simp] theorem MG_CFG_AFRAC_lo : MG_CFG_AFRAC.lo = 16 := rfl
@[simp] theorem MG_CFG_GOVDIR_reg : MG_CFG_GOVDIR.reg = .MG_CFG := rfl
@[simp] theorem MG_CFG_GOVDIR_hi : MG_CFG_GOVDIR.hi = 9 := rfl
@[simp] theorem MG_CFG_GOVDIR_lo : MG_CFG_GOVDIR.lo = 8 := rfl
@[simp] theorem MG_CFG_GOV_reg : MG_CFG_GOV.reg = .MG_CFG := rfl
@[simp] theorem MG_CFG_GOV_hi : MG_CFG_GOV.hi = 6 := rfl
@[simp] theorem MG_CFG_GOV_lo : MG_CFG_GOV.lo = 6 := rfl
@[simp] theorem MG_CFG_REVSTOP_reg : MG_CFG_REVSTOP.reg = .MG_CFG := rfl
@[simp] theorem MG_CFG_REVSTOP_hi : MG_CFG_REVSTOP.hi = 5 := rfl
@[simp] theorem MG_CFG_REVSTOP_lo : MG_CFG_REVSTOP.lo = 5 := rfl
@[simp] theorem MG_CFG_OVS_reg : MG_CFG_OVS.reg = .MG_CFG := rfl
@[simp] theorem MG_CFG_OVS_hi : MG_CFG_OVS.hi = 4 := rfl
@[simp] theorem MG_CFG_OVS_lo : MG_CFG_OVS.lo = 4 := rfl
@[simp] theorem MG_CFG_TYPE_reg : MG_CFG_TYPE.reg = .MG_CFG := rfl
@[simp] theorem MG_CFG_TYPE_hi : MG_CFG_TYPE.hi = 2 := rfl
@[simp] theorem MG_CFG_TYPE_lo : MG_CFG_TYPE.lo = 0 := rfl
@[simp] theorem MG_FB_INIT_reg : MG_FB_INIT.reg = .MG_FB := rfl
@[simp] theorem MG_FB_INIT_hi : MG_FB_INIT.hi = 9 := rfl
@[simp] theorem MG_FB_INIT_lo : MG_FB_INIT.lo = 9 := rfl
@[simp] theorem MG_FB_FBEN_reg : MG_FB_FBEN.reg = .MG_FB := rfl
@[simp] theorem MG_FB_FBEN_hi : MG_FB_FBEN.hi = 8 := rfl
@[simp] theorem MG_FB_FBEN_lo : MG_FB_FBEN.lo = 8 := rfl
@[simp] theorem MG_FB_PORT_reg : MG_FB_PORT.reg = .MG_FB := rfl
@[simp] theorem MG_FB_PORT_hi : MG_FB_PORT.hi = 2 := rfl
@[simp] theorem MG_FB_PORT_lo : MG_FB_PORT.lo = 0 := rfl
@[simp] theorem MG_CTL_REFMODE_reg : MG_CTL_REFMODE.reg = .MG_CTL := rfl
@[simp] theorem MG_CTL_REFMODE_hi : MG_CTL_REFMODE.hi = 5 := rfl
@[simp] theorem MG_CTL_REFMODE_lo : MG_CTL_REFMODE.lo = 5 := rfl
@[simp] theorem MG_CTL_REFDIR_reg : MG_CTL_REFDIR.reg = .MG_CTL := rfl
@[simp] theorem MG_CTL_REFDIR_hi : MG_CTL_REFDIR.hi = 4 := rfl
@[simp] theorem MG_CTL_REFDIR_lo : MG_CTL_REFDIR.lo = 4 := rfl
@[simp] theorem MG_CTL_REF_reg : MG_CTL_REF.reg = .MG_CTL := rfl
@[simp] theorem MG_CTL_REF_hi : MG_CTL_REF.hi = 3 := rfl
@[simp] theorem MG_CTL_REF_lo : MG_CTL_REF.lo = 3 := rfl
@[simp] theorem MG_CTL_QSTOP_reg : MG_CTL_QSTOP.reg = .MG_CTL := rfl
@[simp] theorem MG_CTL_QSTOP_hi : MG_CTL_QSTOP.hi = 2 := rfl
@[simp] theorem MG_CTL_QSTOP_lo : MG_CTL_QSTOP.lo = 2 := rfl
@[simp] theorem MG_CTL_HOLD_reg : MG_CTL_HOLD.reg = .MG_CTL := rfl
@[simp] theorem MG_CTL_HOLD_hi : MG_CTL_HOLD.hi = 1 := rfl
@[simp] theorem MG_CTL_HOLD_lo : MG_CTL_HOLD.lo = 1 := rfl
@[simp] theorem MG_CTL_EN_reg : MG_CTL_EN.reg = .MG_CTL := rfl
@[simp] theorem MG_CTL_EN_hi : MG_CTL_EN.hi = 0 := rfl
@[simp] theorem MG_CTL_EN_lo : MG_CTL_EN.lo = 0 := rfl
@[simp] theorem MG_STAT_FAULT_reg : MG_STAT_FAULT.reg = .MG_STAT := rfl
@[simp] theorem MG_STAT_FAULT_hi : MG_STAT_FAULT.hi = 31 := rfl
@[simp] theorem MG_STAT_FAULT_lo : MG_STAT_FAULT.lo = 31 := rfl
@[simp] theorem MG_STAT_RUNNING_reg : MG_STAT_RUNNING.reg = .MG_STAT := rfl
@[simp] theorem MG_STAT_RUNNING_hi : MG_STAT_RUNNING.hi = 30 := rfl
@[simp] theorem MG_STAT_RUNNING_lo : MG_STAT_RUNNING.lo = 30 := rfl
@[simp] theorem MG_STAT_INPOS_reg : MG_STAT_INPOS.reg = .MG_STAT := rfl
@[simp] theorem MG_STAT_INPOS_hi : MG_STAT_INPOS.hi = 29 := rfl
@[simp] theorem MG_STAT_INPOS_lo : MG_STAT_INPOS.lo = 29 := rfl
@[simp] theorem MG_STAT_MOVING_reg : MG_STAT_MOVING.reg = .MG_STAT := rfl
@[simp] theorem MG_STAT_MOVING_hi : MG_STAT_MOVING.hi = 28 := rfl
@[simp] theorem MG_STAT_MOVING_lo : MG_STAT_MOVING.lo = 28 := rfl
@[simp] theorem MG_STAT_REFD_reg : MG_STAT_REFD.reg = .MG_STAT := rfl
@[simp] theorem MG_STAT_REFD_hi : MG_STAT_REFD.hi = 27 := rfl
@[simp] theorem MG_STAT_REFD_lo : MG_STAT_REFD.lo = 27 := rfl
@[simp] theorem MG_STAT_REFBUSY_reg : MG_STAT_REFBUSY.reg = .MG_STAT := rfl
@[simp] theorem MG_STAT_REFBUSY_hi : MG_STAT_REFBUSY.hi = 26 := rfl
@[simp] theorem MG_STAT_REFBUSY_lo : MG_STAT_REFBUSY.lo = 26 := rfl
@[simp] theorem MG_STAT_HOLDACT_reg : MG_STAT_HOLDACT.reg = .MG_STAT := rfl
@[simp] theorem MG_STAT_HOLDACT_hi : MG_STAT_HOLDACT.hi = 25 := rfl
@[simp] theorem MG_STAT_HOLDACT_lo : MG_STAT_HOLDACT.lo = 25 := rfl
@[simp] theorem MG_STAT_QSTOPACT_reg : MG_STAT_QSTOPACT.reg = .MG_STAT := rfl
@[simp] theorem MG_STAT_QSTOPACT_hi : MG_STAT_QSTOPACT.hi = 24 := rfl
@[simp] theorem MG_STAT_QSTOPACT_lo : MG_STAT_QSTOPACT.lo = 24 := rfl
@[simp] theorem MG_STAT_GOVV_reg : MG_STAT_GOVV.reg = .MG_STAT := rfl
@[simp] theorem MG_STAT_GOVV_hi : MG_STAT_GOVV.hi = 23 := rfl
@[simp] theorem MG_STAT_GOVV_lo : MG_STAT_GOVV.lo = 23 := rfl
@[simp] theorem MG_STAT_GOVA_reg : MG_STAT_GOVA.reg = .MG_STAT := rfl
@[simp] theorem MG_STAT_GOVA_hi : MG_STAT_GOVA.hi = 22 := rfl
@[simp] theorem MG_STAT_GOVA_lo : MG_STAT_GOVA.lo = 22 := rfl
@[simp] theorem MG_STAT_LIMTRANS_reg : MG_STAT_LIMTRANS.reg = .MG_STAT := rfl
@[simp] theorem MG_STAT_LIMTRANS_hi : MG_STAT_LIMTRANS.hi = 21 := rfl
@[simp] theorem MG_STAT_LIMTRANS_lo : MG_STAT_LIMTRANS.lo = 21 := rfl
@[simp] theorem MG_STAT_FLAGS_reg : MG_STAT_FLAGS.reg = .MG_STAT := rfl
@[simp] theorem MG_STAT_FLAGS_hi : MG_STAT_FLAGS.hi = 20 := rfl
@[simp] theorem MG_STAT_FLAGS_lo : MG_STAT_FLAGS.lo = 20 := rfl
@[simp] theorem MG_STAT_VDCLOW_reg : MG_STAT_VDCLOW.reg = .MG_STAT := rfl
@[simp] theorem MG_STAT_VDCLOW_hi : MG_STAT_VDCLOW.hi = 16 := rfl
@[simp] theorem MG_STAT_VDCLOW_lo : MG_STAT_VDCLOW.lo = 16 := rfl
@[simp] theorem MG_STAT_TGTREF_reg : MG_STAT_TGTREF.reg = .MG_STAT := rfl
@[simp] theorem MG_STAT_TGTREF_hi : MG_STAT_TGTREF.hi = 15 := rfl
@[simp] theorem MG_STAT_TGTREF_lo : MG_STAT_TGTREF.lo = 15 := rfl
@[simp] theorem MG_STAT_TGTLIM_reg : MG_STAT_TGTLIM.reg = .MG_STAT := rfl
@[simp] theorem MG_STAT_TGTLIM_hi : MG_STAT_TGTLIM.hi = 14 := rfl
@[simp] theorem MG_STAT_TGTLIM_lo : MG_STAT_TGTLIM.lo = 14 := rfl
@[simp] theorem MG_STAT_MISS_reg : MG_STAT_MISS.reg = .MG_STAT := rfl
@[simp] theorem MG_STAT_MISS_hi : MG_STAT_MISS.hi = 13 := rfl
@[simp] theorem MG_STAT_MISS_lo : MG_STAT_MISS.lo = 13 := rfl
@[simp] theorem MG_STAT_FERR_reg : MG_STAT_FERR.reg = .MG_STAT := rfl
@[simp] theorem MG_STAT_FERR_hi : MG_STAT_FERR.hi = 12 := rfl
@[simp] theorem MG_STAT_FERR_lo : MG_STAT_FERR.lo = 12 := rfl
@[simp] theorem MG_STAT_FBLOST_reg : MG_STAT_FBLOST.reg = .MG_STAT := rfl
@[simp] theorem MG_STAT_FBLOST_hi : MG_STAT_FBLOST.hi = 11 := rfl
@[simp] theorem MG_STAT_FBLOST_lo : MG_STAT_FBLOST.lo = 11 := rfl
@[simp] theorem MG_STAT_STALL_reg : MG_STAT_STALL.reg = .MG_STAT := rfl
@[simp] theorem MG_STAT_STALL_hi : MG_STAT_STALL.hi = 10 := rfl
@[simp] theorem MG_STAT_STALL_lo : MG_STAT_STALL.lo = 10 := rfl
@[simp] theorem MG_STAT_SOFTLIM_reg : MG_STAT_SOFTLIM.reg = .MG_STAT := rfl
@[simp] theorem MG_STAT_SOFTLIM_hi : MG_STAT_SOFTLIM.hi = 9 := rfl
@[simp] theorem MG_STAT_SOFTLIM_lo : MG_STAT_SOFTLIM.lo = 9 := rfl
@[simp] theorem MG_STAT_REFFAIL_reg : MG_STAT_REFFAIL.reg = .MG_STAT := rfl
@[simp] theorem MG_STAT_REFFAIL_hi : MG_STAT_REFFAIL.hi = 8 := rfl
@[simp] theorem MG_STAT_REFFAIL_lo : MG_STAT_REFFAIL.lo = 8 := rfl
@[simp] theorem MG_STAT_EOVER_reg : MG_STAT_EOVER.reg = .MG_STAT := rfl
@[simp] theorem MG_STAT_EOVER_hi : MG_STAT_EOVER.hi = 7 := rfl
@[simp] theorem MG_STAT_EOVER_lo : MG_STAT_EOVER.lo = 7 := rfl
@[simp] theorem MG_TGT_LO_reg : MG_TGT_LO.reg = .MG_TGT_LO := rfl
@[simp] theorem MG_TGT_LO_hi : MG_TGT_LO.hi = 31 := rfl
@[simp] theorem MG_TGT_LO_lo : MG_TGT_LO.lo = 0 := rfl
@[simp] theorem MG_TGT_HI_reg : MG_TGT_HI.reg = .MG_TGT_HI := rfl
@[simp] theorem MG_TGT_HI_hi : MG_TGT_HI.hi = 31 := rfl
@[simp] theorem MG_TGT_HI_lo : MG_TGT_HI.lo = 0 := rfl
@[simp] theorem MG_VMAX_LO_reg : MG_VMAX_LO.reg = .MG_VMAX_LO := rfl
@[simp] theorem MG_VMAX_LO_hi : MG_VMAX_LO.hi = 31 := rfl
@[simp] theorem MG_VMAX_LO_lo : MG_VMAX_LO.lo = 0 := rfl
@[simp] theorem MG_VMAX_HI_reg : MG_VMAX_HI.reg = .MG_VMAX_HI := rfl
@[simp] theorem MG_VMAX_HI_hi : MG_VMAX_HI.hi = 31 := rfl
@[simp] theorem MG_VMAX_HI_lo : MG_VMAX_HI.lo = 0 := rfl
@[simp] theorem MG_AMAX_LO_reg : MG_AMAX_LO.reg = .MG_AMAX_LO := rfl
@[simp] theorem MG_AMAX_LO_hi : MG_AMAX_LO.hi = 31 := rfl
@[simp] theorem MG_AMAX_LO_lo : MG_AMAX_LO.lo = 0 := rfl
@[simp] theorem MG_AMAX_HI_reg : MG_AMAX_HI.reg = .MG_AMAX_HI := rfl
@[simp] theorem MG_AMAX_HI_hi : MG_AMAX_HI.hi = 31 := rfl
@[simp] theorem MG_AMAX_HI_lo : MG_AMAX_HI.lo = 0 := rfl
@[simp] theorem MG_JMAX_LO_reg : MG_JMAX_LO.reg = .MG_JMAX_LO := rfl
@[simp] theorem MG_JMAX_LO_hi : MG_JMAX_LO.hi = 31 := rfl
@[simp] theorem MG_JMAX_LO_lo : MG_JMAX_LO.lo = 0 := rfl
@[simp] theorem MG_JMAX_HI_reg : MG_JMAX_HI.reg = .MG_JMAX_HI := rfl
@[simp] theorem MG_JMAX_HI_hi : MG_JMAX_HI.hi = 31 := rfl
@[simp] theorem MG_JMAX_HI_lo : MG_JMAX_HI.lo = 0 := rfl
@[simp] theorem MG_AQS_LO_reg : MG_AQS_LO.reg = .MG_AQS_LO := rfl
@[simp] theorem MG_AQS_LO_hi : MG_AQS_LO.hi = 31 := rfl
@[simp] theorem MG_AQS_LO_lo : MG_AQS_LO.lo = 0 := rfl
@[simp] theorem MG_AQS_HI_reg : MG_AQS_HI.reg = .MG_AQS_HI := rfl
@[simp] theorem MG_AQS_HI_hi : MG_AQS_HI.hi = 31 := rfl
@[simp] theorem MG_AQS_HI_lo : MG_AQS_HI.lo = 0 := rfl
@[simp] theorem MG_JQS_LO_reg : MG_JQS_LO.reg = .MG_JQS_LO := rfl
@[simp] theorem MG_JQS_LO_hi : MG_JQS_LO.hi = 31 := rfl
@[simp] theorem MG_JQS_LO_lo : MG_JQS_LO.lo = 0 := rfl
@[simp] theorem MG_JQS_HI_reg : MG_JQS_HI.reg = .MG_JQS_HI := rfl
@[simp] theorem MG_JQS_HI_hi : MG_JQS_HI.hi = 31 := rfl
@[simp] theorem MG_JQS_HI_lo : MG_JQS_HI.lo = 0 := rfl
@[simp] theorem MG_SMIN_LO_reg : MG_SMIN_LO.reg = .MG_SMIN_LO := rfl
@[simp] theorem MG_SMIN_LO_hi : MG_SMIN_LO.hi = 31 := rfl
@[simp] theorem MG_SMIN_LO_lo : MG_SMIN_LO.lo = 0 := rfl
@[simp] theorem MG_SMIN_HI_reg : MG_SMIN_HI.reg = .MG_SMIN_HI := rfl
@[simp] theorem MG_SMIN_HI_hi : MG_SMIN_HI.hi = 31 := rfl
@[simp] theorem MG_SMIN_HI_lo : MG_SMIN_HI.lo = 0 := rfl
@[simp] theorem MG_SMAX_LO_reg : MG_SMAX_LO.reg = .MG_SMAX_LO := rfl
@[simp] theorem MG_SMAX_LO_hi : MG_SMAX_LO.hi = 31 := rfl
@[simp] theorem MG_SMAX_LO_lo : MG_SMAX_LO.lo = 0 := rfl
@[simp] theorem MG_SMAX_HI_reg : MG_SMAX_HI.reg = .MG_SMAX_HI := rfl
@[simp] theorem MG_SMAX_HI_hi : MG_SMAX_HI.hi = 31 := rfl
@[simp] theorem MG_SMAX_HI_lo : MG_SMAX_HI.lo = 0 := rfl
@[simp] theorem MG_POS_LO_reg : MG_POS_LO.reg = .MG_POS_LO := rfl
@[simp] theorem MG_POS_LO_hi : MG_POS_LO.hi = 31 := rfl
@[simp] theorem MG_POS_LO_lo : MG_POS_LO.lo = 0 := rfl
@[simp] theorem MG_POS_HI_reg : MG_POS_HI.reg = .MG_POS_HI := rfl
@[simp] theorem MG_POS_HI_hi : MG_POS_HI.hi = 31 := rfl
@[simp] theorem MG_POS_HI_lo : MG_POS_HI.lo = 0 := rfl
@[simp] theorem MG_VEL_LO_reg : MG_VEL_LO.reg = .MG_VEL_LO := rfl
@[simp] theorem MG_VEL_LO_hi : MG_VEL_LO.hi = 31 := rfl
@[simp] theorem MG_VEL_LO_lo : MG_VEL_LO.lo = 0 := rfl
@[simp] theorem MG_VEL_HI_reg : MG_VEL_HI.reg = .MG_VEL_HI := rfl
@[simp] theorem MG_VEL_HI_hi : MG_VEL_HI.hi = 31 := rfl
@[simp] theorem MG_VEL_HI_lo : MG_VEL_HI.lo = 0 := rfl
@[simp] theorem MG_ACC_LO_reg : MG_ACC_LO.reg = .MG_ACC_LO := rfl
@[simp] theorem MG_ACC_LO_hi : MG_ACC_LO.hi = 31 := rfl
@[simp] theorem MG_ACC_LO_lo : MG_ACC_LO.lo = 0 := rfl
@[simp] theorem MG_ACC_HI_reg : MG_ACC_HI.reg = .MG_ACC_HI := rfl
@[simp] theorem MG_ACC_HI_hi : MG_ACC_HI.hi = 31 := rfl
@[simp] theorem MG_ACC_HI_lo : MG_ACC_HI.lo = 0 := rfl
@[simp] theorem MG_JRK_LO_reg : MG_JRK_LO.reg = .MG_JRK_LO := rfl
@[simp] theorem MG_JRK_LO_hi : MG_JRK_LO.hi = 31 := rfl
@[simp] theorem MG_JRK_LO_lo : MG_JRK_LO.lo = 0 := rfl
@[simp] theorem MG_JRK_HI_reg : MG_JRK_HI.reg = .MG_JRK_HI := rfl
@[simp] theorem MG_JRK_HI_hi : MG_JRK_HI.hi = 31 := rfl
@[simp] theorem MG_JRK_HI_lo : MG_JRK_HI.lo = 0 := rfl
@[simp] theorem MG_STOP_LO_reg : MG_STOP_LO.reg = .MG_STOP_LO := rfl
@[simp] theorem MG_STOP_LO_hi : MG_STOP_LO.hi = 31 := rfl
@[simp] theorem MG_STOP_LO_lo : MG_STOP_LO.lo = 0 := rfl
@[simp] theorem MG_STOP_HI_reg : MG_STOP_HI.reg = .MG_STOP_HI := rfl
@[simp] theorem MG_STOP_HI_hi : MG_STOP_HI.hi = 31 := rfl
@[simp] theorem MG_STOP_HI_lo : MG_STOP_HI.lo = 0 := rfl
@[simp] theorem MG_QPOS_LO_reg : MG_QPOS_LO.reg = .MG_QPOS_LO := rfl
@[simp] theorem MG_QPOS_LO_hi : MG_QPOS_LO.hi = 31 := rfl
@[simp] theorem MG_QPOS_LO_lo : MG_QPOS_LO.lo = 0 := rfl
@[simp] theorem MG_QPOS_HI_reg : MG_QPOS_HI.reg = .MG_QPOS_HI := rfl
@[simp] theorem MG_QPOS_HI_hi : MG_QPOS_HI.hi = 31 := rfl
@[simp] theorem MG_QPOS_HI_lo : MG_QPOS_HI.lo = 0 := rfl
@[simp] theorem MG_QRES_VALID_reg : MG_QRES_VALID.reg = .MG_QRES := rfl
@[simp] theorem MG_QRES_VALID_hi : MG_QRES_VALID.hi = 31 := rfl
@[simp] theorem MG_QRES_VALID_lo : MG_QRES_VALID.lo = 31 := rfl
@[simp] theorem MG_QRES_REACH_reg : MG_QRES_REACH.reg = .MG_QRES := rfl
@[simp] theorem MG_QRES_REACH_hi : MG_QRES_REACH.hi = 30 := rfl
@[simp] theorem MG_QRES_REACH_lo : MG_QRES_REACH.lo = 30 := rfl
@[simp] theorem MG_QRES_LIMIT_reg : MG_QRES_LIMIT.reg = .MG_QRES := rfl
@[simp] theorem MG_QRES_LIMIT_hi : MG_QRES_LIMIT.hi = 29 := rfl
@[simp] theorem MG_QRES_LIMIT_lo : MG_QRES_LIMIT.lo = 29 := rfl
@[simp] theorem MG_QRES_ETA_reg : MG_QRES_ETA.reg = .MG_QRES := rfl
@[simp] theorem MG_QRES_ETA_hi : MG_QRES_ETA.hi = 23 := rfl
@[simp] theorem MG_QRES_ETA_lo : MG_QRES_ETA.lo = 0 := rfl
@[simp] theorem MG_FERRLIM_reg : MG_FERRLIM.reg = .MG_FERRLIM := rfl
@[simp] theorem MG_FERRLIM_hi : MG_FERRLIM.hi = 31 := rfl
@[simp] theorem MG_FERRLIM_lo : MG_FERRLIM.lo = 0 := rfl
@[simp] theorem MG_FBPOS_LO_reg : MG_FBPOS_LO.reg = .MG_FBPOS_LO := rfl
@[simp] theorem MG_FBPOS_LO_hi : MG_FBPOS_LO.hi = 31 := rfl
@[simp] theorem MG_FBPOS_LO_lo : MG_FBPOS_LO.lo = 0 := rfl
@[simp] theorem MG_FBPOS_HI_reg : MG_FBPOS_HI.reg = .MG_FBPOS_HI := rfl
@[simp] theorem MG_FBPOS_HI_hi : MG_FBPOS_HI.hi = 31 := rfl
@[simp] theorem MG_FBPOS_HI_lo : MG_FBPOS_HI.lo = 0 := rfl
@[simp] theorem MG_REFPOS_LO_reg : MG_REFPOS_LO.reg = .MG_REFPOS_LO := rfl
@[simp] theorem MG_REFPOS_LO_hi : MG_REFPOS_LO.hi = 31 := rfl
@[simp] theorem MG_REFPOS_LO_lo : MG_REFPOS_LO.lo = 0 := rfl
@[simp] theorem MG_REFPOS_HI_reg : MG_REFPOS_HI.reg = .MG_REFPOS_HI := rfl
@[simp] theorem MG_REFPOS_HI_hi : MG_REFPOS_HI.hi = 31 := rfl
@[simp] theorem MG_REFPOS_HI_lo : MG_REFPOS_HI.lo = 0 := rfl
@[simp] theorem MG_CAPPOS_LO_reg : MG_CAPPOS_LO.reg = .MG_CAPPOS_LO := rfl
@[simp] theorem MG_CAPPOS_LO_hi : MG_CAPPOS_LO.hi = 31 := rfl
@[simp] theorem MG_CAPPOS_LO_lo : MG_CAPPOS_LO.lo = 0 := rfl
@[simp] theorem MG_CAPPOS_HI_reg : MG_CAPPOS_HI.reg = .MG_CAPPOS_HI := rfl
@[simp] theorem MG_CAPPOS_HI_hi : MG_CAPPOS_HI.hi = 31 := rfl
@[simp] theorem MG_CAPPOS_HI_lo : MG_CAPPOS_HI.lo = 0 := rfl
@[simp] theorem MG_FBK_reg : MG_FBK.reg = .MG_FBK := rfl
@[simp] theorem MG_FBK_hi : MG_FBK.hi = 31 := rfl
@[simp] theorem MG_FBK_lo : MG_FBK.lo = 0 := rfl
@[simp] theorem MG_ILIM_reg : MG_ILIM.reg = .MG_ILIM := rfl
@[simp] theorem MG_ILIM_hi : MG_ILIM.hi = 31 := rfl
@[simp] theorem MG_ILIM_lo : MG_ILIM.lo = 0 := rfl
@[simp] theorem MG_GOV_ECAP_reg : MG_GOV_ECAP.reg = .MG_GOV := rfl
@[simp] theorem MG_GOV_ECAP_hi : MG_GOV_ECAP.hi = 31 := rfl
@[simp] theorem MG_GOV_ECAP_lo : MG_GOV_ECAP.lo = 16 := rfl
@[simp] theorem MG_GOV_FCAP_reg : MG_GOV_FCAP.reg = .MG_GOV := rfl
@[simp] theorem MG_GOV_FCAP_hi : MG_GOV_FCAP.hi = 15 := rfl
@[simp] theorem MG_GOV_FCAP_lo : MG_GOV_FCAP.lo = 0 := rfl
@[simp] theorem MG_MASS_MASS_reg : MG_MASS_MASS.reg = .MG_MASS := rfl
@[simp] theorem MG_MASS_MASS_hi : MG_MASS_MASS.hi = 31 := rfl
@[simp] theorem MG_MASS_MASS_lo : MG_MASS_MASS.lo = 16 := rfl
@[simp] theorem MG_MASS_FUNIT_reg : MG_MASS_FUNIT.reg = .MG_MASS := rfl
@[simp] theorem MG_MASS_FUNIT_hi : MG_MASS_FUNIT.hi = 15 := rfl
@[simp] theorem MG_MASS_FUNIT_lo : MG_MASS_FUNIT.lo = 0 := rfl
@[simp] theorem MG_MPC_reg : MG_MPC.reg = .MG_MPC := rfl
@[simp] theorem MG_MPC_hi : MG_MPC.hi = 31 := rfl
@[simp] theorem MG_MPC_lo : MG_MPC.lo = 0 := rfl
@[simp] theorem MG_GOVSTAT_EPLAN_reg : MG_GOVSTAT_EPLAN.reg = .MG_GOVSTAT := rfl
@[simp] theorem MG_GOVSTAT_EPLAN_hi : MG_GOVSTAT_EPLAN.hi = 31 := rfl
@[simp] theorem MG_GOVSTAT_EPLAN_lo : MG_GOVSTAT_EPLAN.lo = 16 := rfl
@[simp] theorem MG_GOVSTAT_EMEAS_reg : MG_GOVSTAT_EMEAS.reg = .MG_GOVSTAT := rfl
@[simp] theorem MG_GOVSTAT_EMEAS_hi : MG_GOVSTAT_EMEAS.hi = 15 := rfl
@[simp] theorem MG_GOVSTAT_EMEAS_lo : MG_GOVSTAT_EMEAS.lo = 0 := rfl
@[simp] theorem MG_STEP_CFG_VK_reg : MG_STEP_CFG_VK.reg = .MG_STEP_CFG := rfl
@[simp] theorem MG_STEP_CFG_VK_hi : MG_STEP_CFG_VK.hi = 31 := rfl
@[simp] theorem MG_STEP_CFG_VK_lo : MG_STEP_CFG_VK.lo = 16 := rfl
@[simp] theorem MG_STEP_CFG_GROUP_reg : MG_STEP_CFG_GROUP.reg = .MG_STEP_CFG := rfl
@[simp] theorem MG_STEP_CFG_GROUP_hi : MG_STEP_CFG_GROUP.hi = 11 := rfl
@[simp] theorem MG_STEP_CFG_GROUP_lo : MG_STEP_CFG_GROUP.lo = 8 := rfl
@[simp] theorem MG_STEP_CFG_KMAX_reg : MG_STEP_CFG_KMAX.reg = .MG_STEP_CFG := rfl
@[simp] theorem MG_STEP_CFG_KMAX_hi : MG_STEP_CFG_KMAX.hi = 3 := rfl
@[simp] theorem MG_STEP_CFG_KMAX_lo : MG_STEP_CFG_KMAX.lo = 0 := rfl
@[simp] theorem MG_STEP_CELL_IB_reg : MG_STEP_CELL_IB.reg = .MG_STEP_CELL := rfl
@[simp] theorem MG_STEP_CELL_IB_hi : MG_STEP_CELL_IB.hi = 31 := rfl
@[simp] theorem MG_STEP_CELL_IB_lo : MG_STEP_CELL_IB.lo = 16 := rfl
@[simp] theorem MG_STEP_CELL_IA_reg : MG_STEP_CELL_IA.reg = .MG_STEP_CELL := rfl
@[simp] theorem MG_STEP_CELL_IA_hi : MG_STEP_CELL_IA.hi = 15 := rfl
@[simp] theorem MG_STEP_CELL_IA_lo : MG_STEP_CELL_IA.lo = 0 := rfl
@[simp] theorem MG_STEP_VDC_VDC_reg : MG_STEP_VDC_VDC.reg = .MG_STEP_VDC := rfl
@[simp] theorem MG_STEP_VDC_VDC_hi : MG_STEP_VDC_VDC.hi = 15 := rfl
@[simp] theorem MG_STEP_VDC_VDC_lo : MG_STEP_VDC_VDC.lo = 0 := rfl
@[simp] theorem MG_STEP_KP_reg : MG_STEP_KP.reg = .MG_STEP_KP := rfl
@[simp] theorem MG_STEP_KP_hi : MG_STEP_KP.hi = 31 := rfl
@[simp] theorem MG_STEP_KP_lo : MG_STEP_KP.lo = 0 := rfl
@[simp] theorem MG_STEP_KI_reg : MG_STEP_KI.reg = .MG_STEP_KI := rfl
@[simp] theorem MG_STEP_KI_hi : MG_STEP_KI.hi = 31 := rfl
@[simp] theorem MG_STEP_KI_lo : MG_STEP_KI.lo = 0 := rfl
@[simp] theorem MG_STEP_RS_reg : MG_STEP_RS.reg = .MG_STEP_RS := rfl
@[simp] theorem MG_STEP_RS_hi : MG_STEP_RS.hi = 31 := rfl
@[simp] theorem MG_STEP_RS_lo : MG_STEP_RS.lo = 0 := rfl
@[simp] theorem MG_STEP_LS_reg : MG_STEP_LS.reg = .MG_STEP_LS := rfl
@[simp] theorem MG_STEP_LS_hi : MG_STEP_LS.hi = 31 := rfl
@[simp] theorem MG_STEP_LS_lo : MG_STEP_LS.lo = 0 := rfl
@[simp] theorem MG_STEP_KE_reg : MG_STEP_KE.reg = .MG_STEP_KE := rfl
@[simp] theorem MG_STEP_KE_hi : MG_STEP_KE.hi = 31 := rfl
@[simp] theorem MG_STEP_KE_lo : MG_STEP_KE.lo = 0 := rfl
@[simp] theorem MG_STEP_I_IMAX_reg : MG_STEP_I_IMAX.reg = .MG_STEP_I := rfl
@[simp] theorem MG_STEP_I_IMAX_hi : MG_STEP_I_IMAX.hi = 31 := rfl
@[simp] theorem MG_STEP_I_IMAX_lo : MG_STEP_I_IMAX.lo = 24 := rfl
@[simp] theorem MG_STEP_I_IMIN_reg : MG_STEP_I_IMIN.reg = .MG_STEP_I := rfl
@[simp] theorem MG_STEP_I_IMIN_hi : MG_STEP_I_IMIN.hi = 23 := rfl
@[simp] theorem MG_STEP_I_IMIN_lo : MG_STEP_I_IMIN.lo = 16 := rfl
@[simp] theorem MG_STEP_I_IHOLD_reg : MG_STEP_I_IHOLD.reg = .MG_STEP_I := rfl
@[simp] theorem MG_STEP_I_IHOLD_hi : MG_STEP_I_IHOLD.hi = 15 := rfl
@[simp] theorem MG_STEP_I_IHOLD_lo : MG_STEP_I_IHOLD.lo = 8 := rfl
@[simp] theorem MG_STEP_I_IREF_reg : MG_STEP_I_IREF.reg = .MG_STEP_I := rfl
@[simp] theorem MG_STEP_I_IREF_hi : MG_STEP_I_IREF.hi = 7 := rfl
@[simp] theorem MG_STEP_I_IREF_lo : MG_STEP_I_IREF.lo = 0 := rfl
@[simp] theorem MG_STEP_LD_LDHI_reg : MG_STEP_LD_LDHI.reg = .MG_STEP_LD := rfl
@[simp] theorem MG_STEP_LD_LDHI_hi : MG_STEP_LD_LDHI.hi = 31 := rfl
@[simp] theorem MG_STEP_LD_LDHI_lo : MG_STEP_LD_LDHI.lo = 24 := rfl
@[simp] theorem MG_STEP_LD_LDLO_reg : MG_STEP_LD_LDLO.reg = .MG_STEP_LD := rfl
@[simp] theorem MG_STEP_LD_LDLO_hi : MG_STEP_LD_LDLO.hi = 23 := rfl
@[simp] theorem MG_STEP_LD_LDLO_lo : MG_STEP_LD_LDLO.lo = 16 := rfl
@[simp] theorem MG_STEP_LD_ISTEP_reg : MG_STEP_LD_ISTEP.reg = .MG_STEP_LD := rfl
@[simp] theorem MG_STEP_LD_ISTEP_hi : MG_STEP_LD_ISTEP.hi = 15 := rfl
@[simp] theorem MG_STEP_LD_ISTEP_lo : MG_STEP_LD_ISTEP.lo = 8 := rfl
@[simp] theorem MG_STEP_LD_HOLDDLY_reg : MG_STEP_LD_HOLDDLY.reg = .MG_STEP_LD := rfl
@[simp] theorem MG_STEP_LD_HOLDDLY_hi : MG_STEP_LD_HOLDDLY.hi = 7 := rfl
@[simp] theorem MG_STEP_LD_HOLDDLY_lo : MG_STEP_LD_HOLDDLY.lo = 0 := rfl
@[simp] theorem MG_STALL_RHO_reg : MG_STALL_RHO.reg = .MG_STALL := rfl
@[simp] theorem MG_STALL_RHO_hi : MG_STALL_RHO.hi = 31 := rfl
@[simp] theorem MG_STALL_RHO_lo : MG_STALL_RHO.lo = 24 := rfl
@[simp] theorem MG_STALL_STALLN_reg : MG_STALL_STALLN.reg = .MG_STALL := rfl
@[simp] theorem MG_STALL_STALLN_hi : MG_STALL_STALLN.hi = 23 := rfl
@[simp] theorem MG_STALL_STALLN_lo : MG_STALL_STALLN.lo = 16 := rfl
@[simp] theorem MG_STALL_VMIN_reg : MG_STALL_VMIN.reg = .MG_STALL := rfl
@[simp] theorem MG_STALL_VMIN_hi : MG_STALL_VMIN.hi = 15 := rfl
@[simp] theorem MG_STALL_VMIN_lo : MG_STALL_VMIN.lo = 0 := rfl
@[simp] theorem MG_REFCFG_VREF_reg : MG_REFCFG_VREF.reg = .MG_REFCFG := rfl
@[simp] theorem MG_REFCFG_VREF_hi : MG_REFCFG_VREF.hi = 31 := rfl
@[simp] theorem MG_REFCFG_VREF_lo : MG_REFCFG_VREF.lo = 16 := rfl
@[simp] theorem MG_REFCFG_REFMAX_reg : MG_REFCFG_REFMAX.reg = .MG_REFCFG := rfl
@[simp] theorem MG_REFCFG_REFMAX_hi : MG_REFCFG_REFMAX.hi = 15 := rfl
@[simp] theorem MG_REFCFG_REFMAX_lo : MG_REFCFG_REFMAX.lo = 0 := rfl
@[simp] theorem MG_STEP_STAT_LEVEL_reg : MG_STEP_STAT_LEVEL.reg = .MG_STEP_STAT := rfl
@[simp] theorem MG_STEP_STAT_LEVEL_hi : MG_STEP_STAT_LEVEL.hi = 31 := rfl
@[simp] theorem MG_STEP_STAT_LEVEL_lo : MG_STEP_STAT_LEVEL.lo = 28 := rfl
@[simp] theorem MG_STEP_STAT_LD_reg : MG_STEP_STAT_LD.reg = .MG_STEP_STAT := rfl
@[simp] theorem MG_STEP_STAT_LD_hi : MG_STEP_STAT_LD.hi = 27 := rfl
@[simp] theorem MG_STEP_STAT_LD_lo : MG_STEP_STAT_LD.lo = 20 := rfl
@[simp] theorem MG_STEP_STAT_RHOV_reg : MG_STEP_STAT_RHOV.reg = .MG_STEP_STAT := rfl
@[simp] theorem MG_STEP_STAT_RHOV_hi : MG_STEP_STAT_RHOV.hi = 19 := rfl
@[simp] theorem MG_STEP_STAT_RHOV_lo : MG_STEP_STAT_RHOV.lo = 12 := rfl
@[simp] theorem MG_STEP_STAT_ANGLE_reg : MG_STEP_STAT_ANGLE.reg = .MG_STEP_STAT := rfl
@[simp] theorem MG_STEP_STAT_ANGLE_hi : MG_STEP_STAT_ANGLE.hi = 9 := rfl
@[simp] theorem MG_STEP_STAT_ANGLE_lo : MG_STEP_STAT_ANGLE.lo = 0 := rfl
@[simp] theorem MG_STATE_HALF_reg : MG_STATE_HALF.reg = .MG_STATE := rfl
@[simp] theorem MG_STATE_HALF_hi : MG_STATE_HALF.hi = 31 := rfl
@[simp] theorem MG_STATE_HALF_lo : MG_STATE_HALF.lo = 31 := rfl
@[simp] theorem MG_STATE_COPYB_reg : MG_STATE_COPYB.reg = .MG_STATE := rfl
@[simp] theorem MG_STATE_COPYB_hi : MG_STATE_COPYB.hi = 29 := rfl
@[simp] theorem MG_STATE_COPYB_lo : MG_STATE_COPYB.lo = 16 := rfl
@[simp] theorem MG_STATE_COPYA_reg : MG_STATE_COPYA.reg = .MG_STATE := rfl
@[simp] theorem MG_STATE_COPYA_hi : MG_STATE_COPYA.hi = 13 := rfl
@[simp] theorem MG_STATE_COPYA_lo : MG_STATE_COPYA.lo = 0 := rfl
@[simp] theorem SF_CTL_KEY_reg : SF_CTL_KEY.reg = .SF_CTL := rfl
@[simp] theorem SF_CTL_KEY_hi : SF_CTL_KEY.hi = 31 := rfl
@[simp] theorem SF_CTL_KEY_lo : SF_CTL_KEY.lo = 16 := rfl
@[simp] theorem SF_CTL_REARM_reg : SF_CTL_REARM.reg = .SF_CTL := rfl
@[simp] theorem SF_CTL_REARM_hi : SF_CTL_REARM.hi = 0 := rfl
@[simp] theorem SF_CTL_REARM_lo : SF_CTL_REARM.lo = 0 := rfl
@[simp] theorem SF_STAT_RUN_reg : SF_STAT_RUN.reg = .SF_STAT := rfl
@[simp] theorem SF_STAT_RUN_hi : SF_STAT_RUN.hi = 31 := rfl
@[simp] theorem SF_STAT_RUN_lo : SF_STAT_RUN.lo = 31 := rfl
@[simp] theorem SF_STAT_FIRSTOK_reg : SF_STAT_FIRSTOK.reg = .SF_STAT := rfl
@[simp] theorem SF_STAT_FIRSTOK_hi : SF_STAT_FIRSTOK.hi = 30 := rfl
@[simp] theorem SF_STAT_FIRSTOK_lo : SF_STAT_FIRSTOK.lo = 30 := rfl
@[simp] theorem SF_STAT_SSWOPEN_reg : SF_STAT_SSWOPEN.reg = .SF_STAT := rfl
@[simp] theorem SF_STAT_SSWOPEN_hi : SF_STAT_SSWOPEN.hi = 29 := rfl
@[simp] theorem SF_STAT_SSWOPEN_lo : SF_STAT_SSWOPEN.lo = 29 := rfl
@[simp] theorem SF_STAT_SOSOK_reg : SF_STAT_SOSOK.reg = .SF_STAT := rfl
@[simp] theorem SF_STAT_SOSOK_hi : SF_STAT_SOSOK.hi = 28 := rfl
@[simp] theorem SF_STAT_SOSOK_lo : SF_STAT_SOSOK.lo = 28 := rfl
@[simp] theorem SF_STAT_CLKWARN_reg : SF_STAT_CLKWARN.reg = .SF_STAT := rfl
@[simp] theorem SF_STAT_CLKWARN_hi : SF_STAT_CLKWARN.hi = 27 := rfl
@[simp] theorem SF_STAT_CLKWARN_lo : SF_STAT_CLKWARN.lo = 27 := rfl
@[simp] theorem SF_STAT_SPFAULT_reg : SF_STAT_SPFAULT.reg = .SF_STAT := rfl
@[simp] theorem SF_STAT_SPFAULT_hi : SF_STAT_SPFAULT.hi = 26 := rfl
@[simp] theorem SF_STAT_SPFAULT_lo : SF_STAT_SPFAULT.lo = 26 := rfl
@[simp] theorem SF_STAT_DEGANY_reg : SF_STAT_DEGANY.reg = .SF_STAT := rfl
@[simp] theorem SF_STAT_DEGANY_hi : SF_STAT_DEGANY.hi = 25 := rfl
@[simp] theorem SF_STAT_DEGANY_lo : SF_STAT_DEGANY.lo = 25 := rfl
@[simp] theorem SF_STAT_FAILANY_reg : SF_STAT_FAILANY.reg = .SF_STAT := rfl
@[simp] theorem SF_STAT_FAILANY_hi : SF_STAT_FAILANY.hi = 24 := rfl
@[simp] theorem SF_STAT_FAILANY_lo : SF_STAT_FAILANY.lo = 24 := rfl
@[simp] theorem SF_STAT_SOSV_reg : SF_STAT_SOSV.reg = .SF_STAT := rfl
@[simp] theorem SF_STAT_SOSV_hi : SF_STAT_SOSV.hi = 15 := rfl
@[simp] theorem SF_STAT_SOSV_lo : SF_STAT_SOSV.lo = 0 := rfl
@[simp] theorem SF_ASSAY_CYCLES_reg : SF_ASSAY_CYCLES.reg = .SF_ASSAY := rfl
@[simp] theorem SF_ASSAY_CYCLES_hi : SF_ASSAY_CYCLES.hi = 31 := rfl
@[simp] theorem SF_ASSAY_CYCLES_lo : SF_ASSAY_CYCLES.lo = 16 := rfl
@[simp] theorem SF_ASSAY_ABANDON_reg : SF_ASSAY_ABANDON.reg = .SF_ASSAY := rfl
@[simp] theorem SF_ASSAY_ABANDON_hi : SF_ASSAY_ABANDON.hi = 15 := rfl
@[simp] theorem SF_ASSAY_ABANDON_lo : SF_ASSAY_ABANDON.lo = 8 := rfl
@[simp] theorem SF_ASSAY_SLOT_reg : SF_ASSAY_SLOT.reg = .SF_ASSAY := rfl
@[simp] theorem SF_ASSAY_SLOT_hi : SF_ASSAY_SLOT.hi = 4 := rfl
@[simp] theorem SF_ASSAY_SLOT_lo : SF_ASSAY_SLOT.lo = 0 := rfl
@[simp] theorem SF_CLK_DEV_reg : SF_CLK_DEV.reg = .SF_CLK := rfl
@[simp] theorem SF_CLK_DEV_hi : SF_CLK_DEV.hi = 15 := rfl
@[simp] theorem SF_CLK_DEV_lo : SF_CLK_DEV.lo = 0 := rfl
@[simp] theorem SF_DEG_CFG_TIME_reg : SF_DEG_CFG_TIME.reg = .SF_DEG_CFG := rfl
@[simp] theorem SF_DEG_CFG_TIME_hi : SF_DEG_CFG_TIME.hi = 9 := rfl
@[simp] theorem SF_DEG_CFG_TIME_lo : SF_DEG_CFG_TIME.lo = 0 := rfl
@[simp] theorem SF_TP_CFG_TPN_reg : SF_TP_CFG_TPN.reg = .SF_TP_CFG := rfl
@[simp] theorem SF_TP_CFG_TPN_hi : SF_TP_CFG_TPN.hi = 31 := rfl
@[simp] theorem SF_TP_CFG_TPN_lo : SF_TP_CFG_TPN.lo = 16 := rfl
@[simp] theorem SF_TP_CFG_TPFAULT_reg : SF_TP_CFG_TPFAULT.reg = .SF_TP_CFG := rfl
@[simp] theorem SF_TP_CFG_TPFAULT_hi : SF_TP_CFG_TPFAULT.hi = 7 := rfl
@[simp] theorem SF_TP_CFG_TPFAULT_lo : SF_TP_CFG_TPFAULT.lo = 4 := rfl
@[simp] theorem SF_TP_CFG_TPW_reg : SF_TP_CFG_TPW.reg = .SF_TP_CFG := rfl
@[simp] theorem SF_TP_CFG_TPW_hi : SF_TP_CFG_TPW.hi = 3 := rfl
@[simp] theorem SF_TP_CFG_TPW_lo : SF_TP_CFG_TPW.lo = 0 := rfl
@[simp] theorem SF_SI_STATE_RAW_reg : SF_SI_STATE_RAW.reg = .SF_SI_STATE := rfl
@[simp] theorem SF_SI_STATE_RAW_hi : SF_SI_STATE_RAW.hi = 31 := rfl
@[simp] theorem SF_SI_STATE_RAW_lo : SF_SI_STATE_RAW.lo = 16 := rfl
@[simp] theorem SF_SI_STATE_FILT_reg : SF_SI_STATE_FILT.reg = .SF_SI_STATE := rfl
@[simp] theorem SF_SI_STATE_FILT_hi : SF_SI_STATE_FILT.hi = 15 := rfl
@[simp] theorem SF_SI_STATE_FILT_lo : SF_SI_STATE_FILT.lo = 0 := rfl
@[simp] theorem SF_SI_FAULT_FAULT_reg : SF_SI_FAULT_FAULT.reg = .SF_SI_FAULT := rfl
@[simp] theorem SF_SI_FAULT_FAULT_hi : SF_SI_FAULT_FAULT.hi = 15 := rfl
@[simp] theorem SF_SI_FAULT_FAULT_lo : SF_SI_FAULT_FAULT.lo = 0 := rfl
@[simp] theorem SF_PERMIT_reg : SF_PERMIT.reg = .SF_PERMIT := rfl
@[simp] theorem SF_PERMIT_hi : SF_PERMIT.hi = 31 := rfl
@[simp] theorem SF_PERMIT_lo : SF_PERMIT.lo = 0 := rfl
@[simp] theorem SF_DEGRADED_reg : SF_DEGRADED.reg = .SF_DEGRADED := rfl
@[simp] theorem SF_DEGRADED_hi : SF_DEGRADED.hi = 31 := rfl
@[simp] theorem SF_DEGRADED_lo : SF_DEGRADED.lo = 0 := rfl
@[simp] theorem SF_FAILED_reg : SF_FAILED.reg = .SF_FAILED := rfl
@[simp] theorem SF_FAILED_hi : SF_FAILED.hi = 31 := rfl
@[simp] theorem SF_FAILED_lo : SF_FAILED.lo = 0 := rfl
@[simp] theorem SF_SI_CFG_EN_reg : SF_SI_CFG_EN.reg = .SF_SI_CFG := rfl
@[simp] theorem SF_SI_CFG_EN_hi : SF_SI_CFG_EN.hi = 7 := rfl
@[simp] theorem SF_SI_CFG_EN_lo : SF_SI_CFG_EN.lo = 7 := rfl
@[simp] theorem SF_SI_CFG_TP_reg : SF_SI_CFG_TP.reg = .SF_SI_CFG := rfl
@[simp] theorem SF_SI_CFG_TP_hi : SF_SI_CFG_TP.hi = 6 := rfl
@[simp] theorem SF_SI_CFG_TP_lo : SF_SI_CFG_TP.lo = 4 := rfl
@[simp] theorem SF_SI_CFG_FILT_reg : SF_SI_CFG_FILT.reg = .SF_SI_CFG := rfl
@[simp] theorem SF_SI_CFG_FILT_hi : SF_SI_CFG_FILT.hi = 0 := rfl
@[simp] theorem SF_SI_CFG_FILT_lo : SF_SI_CFG_FILT.lo = 0 := rfl
@[simp] theorem SF_SO_CFG_EN_reg : SF_SO_CFG_EN.reg = .SF_SO_CFG := rfl
@[simp] theorem SF_SO_CFG_EN_hi : SF_SO_CFG_EN.hi = 31 := rfl
@[simp] theorem SF_SO_CFG_EN_lo : SF_SO_CFG_EN.lo = 31 := rfl
@[simp] theorem SF_SO_CFG_FN_reg : SF_SO_CFG_FN.reg = .SF_SO_CFG := rfl
@[simp] theorem SF_SO_CFG_FN_hi : SF_SO_CFG_FN.hi = 28 := rfl
@[simp] theorem SF_SO_CFG_FN_lo : SF_SO_CFG_FN.lo = 24 := rfl
@[simp] theorem SF_SO_CFG_EDMEN_reg : SF_SO_CFG_EDMEN.reg = .SF_SO_CFG := rfl
@[simp] theorem SF_SO_CFG_EDMEN_hi : SF_SO_CFG_EDMEN.hi = 15 := rfl
@[simp] theorem SF_SO_CFG_EDMEN_lo : SF_SO_CFG_EDMEN.lo = 15 := rfl
@[simp] theorem SF_SO_CFG_EDMSI_reg : SF_SO_CFG_EDMSI.reg = .SF_SO_CFG := rfl
@[simp] theorem SF_SO_CFG_EDMSI_hi : SF_SO_CFG_EDMSI.hi = 11 := rfl
@[simp] theorem SF_SO_CFG_EDMSI_lo : SF_SO_CFG_EDMSI.lo = 8 := rfl
@[simp] theorem SF_SO_CFG_EDMT_reg : SF_SO_CFG_EDMT.reg = .SF_SO_CFG := rfl
@[simp] theorem SF_SO_CFG_EDMT_hi : SF_SO_CFG_EDMT.hi = 7 := rfl
@[simp] theorem SF_SO_CFG_EDMT_lo : SF_SO_CFG_EDMT.lo = 0 := rfl
@[simp] theorem SF_SO_STAT_STATE_reg : SF_SO_STAT_STATE.reg = .SF_SO_STAT := rfl
@[simp] theorem SF_SO_STAT_STATE_hi : SF_SO_STAT_STATE.hi = 31 := rfl
@[simp] theorem SF_SO_STAT_STATE_lo : SF_SO_STAT_STATE.lo = 30 := rfl
@[simp] theorem SF_SO_STAT_HSN_reg : SF_SO_STAT_HSN.reg = .SF_SO_STAT := rfl
@[simp] theorem SF_SO_STAT_HSN_hi : SF_SO_STAT_HSN.hi = 29 := rfl
@[simp] theorem SF_SO_STAT_HSN_lo : SF_SO_STAT_HSN.lo = 29 := rfl
@[simp] theorem SF_SO_STAT_LSN_reg : SF_SO_STAT_LSN.reg = .SF_SO_STAT := rfl
@[simp] theorem SF_SO_STAT_LSN_hi : SF_SO_STAT_LSN.hi = 28 := rfl
@[simp] theorem SF_SO_STAT_LSN_lo : SF_SO_STAT_LSN.lo = 28 := rfl
@[simp] theorem SF_SO_STAT_HSOPEN_reg : SF_SO_STAT_HSOPEN.reg = .SF_SO_STAT := rfl
@[simp] theorem SF_SO_STAT_HSOPEN_hi : SF_SO_STAT_HSOPEN.hi = 27 := rfl
@[simp] theorem SF_SO_STAT_HSOPEN_lo : SF_SO_STAT_HSOPEN.lo = 27 := rfl
@[simp] theorem SF_SO_STAT_LSOPEN_reg : SF_SO_STAT_LSOPEN.reg = .SF_SO_STAT := rfl
@[simp] theorem SF_SO_STAT_LSOPEN_hi : SF_SO_STAT_LSOPEN.hi = 26 := rfl
@[simp] theorem SF_SO_STAT_LSOPEN_lo : SF_SO_STAT_LSOPEN.lo = 26 := rfl
@[simp] theorem SF_SO_STAT_HSCLOSE_reg : SF_SO_STAT_HSCLOSE.reg = .SF_SO_STAT := rfl
@[simp] theorem SF_SO_STAT_HSCLOSE_hi : SF_SO_STAT_HSCLOSE.hi = 25 := rfl
@[simp] theorem SF_SO_STAT_HSCLOSE_lo : SF_SO_STAT_HSCLOSE.lo = 25 := rfl
@[simp] theorem SF_SO_STAT_LSCLOSE_reg : SF_SO_STAT_LSCLOSE.reg = .SF_SO_STAT := rfl
@[simp] theorem SF_SO_STAT_LSCLOSE_hi : SF_SO_STAT_LSCLOSE.hi = 24 := rfl
@[simp] theorem SF_SO_STAT_LSCLOSE_lo : SF_SO_STAT_LSCLOSE.lo = 24 := rfl
@[simp] theorem SF_SO_STAT_EDMF_reg : SF_SO_STAT_EDMF.reg = .SF_SO_STAT := rfl
@[simp] theorem SF_SO_STAT_EDMF_hi : SF_SO_STAT_EDMF.hi = 23 := rfl
@[simp] theorem SF_SO_STAT_EDMF_lo : SF_SO_STAT_EDMF.lo = 23 := rfl
@[simp] theorem SF_SO_STAT_OVL_reg : SF_SO_STAT_OVL.reg = .SF_SO_STAT := rfl
@[simp] theorem SF_SO_STAT_OVL_hi : SF_SO_STAT_OVL.hi = 22 := rfl
@[simp] theorem SF_SO_STAT_OVL_lo : SF_SO_STAT_OVL.lo = 22 := rfl
@[simp] theorem SF_SO_STAT_MISS_reg : SF_SO_STAT_MISS.reg = .SF_SO_STAT := rfl
@[simp] theorem SF_SO_STAT_MISS_hi : SF_SO_STAT_MISS.hi = 21 := rfl
@[simp] theorem SF_SO_STAT_MISS_lo : SF_SO_STAT_MISS.lo = 21 := rfl
@[simp] theorem SF_SO_STAT_OVLCNT_reg : SF_SO_STAT_OVLCNT.reg = .SF_SO_STAT := rfl
@[simp] theorem SF_SO_STAT_OVLCNT_hi : SF_SO_STAT_OVLCNT.hi = 19 := rfl
@[simp] theorem SF_SO_STAT_OVLCNT_lo : SF_SO_STAT_OVLCNT.lo = 16 := rfl
@[simp] theorem SF_MON_CFG_EN_reg : SF_MON_CFG_EN.reg = .SF_MON_CFG := rfl
@[simp] theorem SF_MON_CFG_EN_hi : SF_MON_CFG_EN.hi = 31 := rfl
@[simp] theorem SF_MON_CFG_EN_lo : SF_MON_CFG_EN.lo = 31 := rfl
@[simp] theorem SF_MON_CFG_SPORT_reg : SF_MON_CFG_SPORT.reg = .SF_MON_CFG := rfl
@[simp] theorem SF_MON_CFG_SPORT_hi : SF_MON_CFG_SPORT.hi = 26 := rfl
@[simp] theorem SF_MON_CFG_SPORT_lo : SF_MON_CFG_SPORT.lo = 24 := rfl
@[simp] theorem SF_MON_CFG_DCELL_reg : SF_MON_CFG_DCELL.reg = .SF_MON_CFG := rfl
@[simp] theorem SF_MON_CFG_DCELL_hi : SF_MON_CFG_DCELL.hi = 23 := rfl
@[simp] theorem SF_MON_CFG_DCELL_lo : SF_MON_CFG_DCELL.lo = 16 := rfl
@[simp] theorem SF_MON_CFG_NAVG_reg : SF_MON_CFG_NAVG.reg = .SF_MON_CFG := rfl
@[simp] theorem SF_MON_CFG_NAVG_hi : SF_MON_CFG_NAVG.hi = 15 := rfl
@[simp] theorem SF_MON_CFG_NAVG_lo : SF_MON_CFG_NAVG.lo = 12 := rfl
@[simp] theorem SF_MON_CFG_DIVT_reg : SF_MON_CFG_DIVT.reg = .SF_MON_CFG := rfl
@[simp] theorem SF_MON_CFG_DIVT_hi : SF_MON_CFG_DIVT.hi = 11 := rfl
@[simp] theorem SF_MON_CFG_DIVT_lo : SF_MON_CFG_DIVT.lo = 0 := rfl
@[simp] theorem SF_MON_K_reg : SF_MON_K.reg = .SF_MON_K := rfl
@[simp] theorem SF_MON_K_hi : SF_MON_K.hi = 31 := rfl
@[simp] theorem SF_MON_K_lo : SF_MON_K.lo = 0 := rfl
@[simp] theorem SF_MON_TOL_VTOL_reg : SF_MON_TOL_VTOL.reg = .SF_MON_TOL := rfl
@[simp] theorem SF_MON_TOL_VTOL_hi : SF_MON_TOL_VTOL.hi = 31 := rfl
@[simp] theorem SF_MON_TOL_VTOL_lo : SF_MON_TOL_VTOL.lo = 16 := rfl
@[simp] theorem SF_MON_TOL_PTOL_reg : SF_MON_TOL_PTOL.reg = .SF_MON_TOL := rfl
@[simp] theorem SF_MON_TOL_PTOL_hi : SF_MON_TOL_PTOL.hi = 15 := rfl
@[simp] theorem SF_MON_TOL_PTOL_lo : SF_MON_TOL_PTOL.lo = 0 := rfl
@[simp] theorem SF_MON_SPD_reg : SF_MON_SPD.reg = .SF_MON_SPD := rfl
@[simp] theorem SF_MON_SPD_hi : SF_MON_SPD.hi = 31 := rfl
@[simp] theorem SF_MON_SPD_lo : SF_MON_SPD.lo = 0 := rfl
@[simp] theorem SF_MON_POS_reg : SF_MON_POS.reg = .SF_MON_POS := rfl
@[simp] theorem SF_MON_POS_hi : SF_MON_POS.hi = 31 := rfl
@[simp] theorem SF_MON_POS_lo : SF_MON_POS.lo = 0 := rfl
@[simp] theorem SF_MON_DIFF_DV_reg : SF_MON_DIFF_DV.reg = .SF_MON_DIFF := rfl
@[simp] theorem SF_MON_DIFF_DV_hi : SF_MON_DIFF_DV.hi = 31 := rfl
@[simp] theorem SF_MON_DIFF_DV_lo : SF_MON_DIFF_DV.lo = 16 := rfl
@[simp] theorem SF_MON_DIFF_DP_reg : SF_MON_DIFF_DP.reg = .SF_MON_DIFF := rfl
@[simp] theorem SF_MON_DIFF_DP_hi : SF_MON_DIFF_DP.hi = 15 := rfl
@[simp] theorem SF_MON_DIFF_DP_lo : SF_MON_DIFF_DP.lo = 0 := rfl
@[simp] theorem SF_MON_STAT_DIVFAIL_reg : SF_MON_STAT_DIVFAIL.reg = .SF_MON_STAT := rfl
@[simp] theorem SF_MON_STAT_DIVFAIL_hi : SF_MON_STAT_DIVFAIL.hi = 31 := rfl
@[simp] theorem SF_MON_STAT_DIVFAIL_lo : SF_MON_STAT_DIVFAIL.lo = 31 := rfl
@[simp] theorem SF_MON_STAT_DIVLOST_reg : SF_MON_STAT_DIVLOST.reg = .SF_MON_STAT := rfl
@[simp] theorem SF_MON_STAT_DIVLOST_hi : SF_MON_STAT_DIVLOST.hi = 30 := rfl
@[simp] theorem SF_MON_STAT_DIVLOST_lo : SF_MON_STAT_DIVLOST.lo = 30 := rfl
@[simp] theorem SF_MON_STAT_ENCERR_reg : SF_MON_STAT_ENCERR.reg = .SF_MON_STAT := rfl
@[simp] theorem SF_MON_STAT_ENCERR_hi : SF_MON_STAT_ENCERR.hi = 29 := rfl
@[simp] theorem SF_MON_STAT_ENCERR_lo : SF_MON_STAT_ENCERR.lo = 29 := rfl
@[simp] theorem SF_MON_STAT_STILLF_reg : SF_MON_STAT_STILLF.reg = .SF_MON_STAT := rfl
@[simp] theorem SF_MON_STAT_STILLF_hi : SF_MON_STAT_STILLF.hi = 28 := rfl
@[simp] theorem SF_MON_STAT_STILLF_lo : SF_MON_STAT_STILLF.lo = 28 := rfl
@[simp] theorem SF_MON_STAT_AGREED_reg : SF_MON_STAT_AGREED.reg = .SF_MON_STAT := rfl
@[simp] theorem SF_MON_STAT_AGREED_hi : SF_MON_STAT_AGREED.hi = 27 := rfl
@[simp] theorem SF_MON_STAT_AGREED_lo : SF_MON_STAT_AGREED.lo = 27 := rfl
@[simp] theorem SF_MON_STAT_AGE_reg : SF_MON_STAT_AGE.reg = .SF_MON_STAT := rfl
@[simp] theorem SF_MON_STAT_AGE_hi : SF_MON_STAT_AGE.hi = 15 := rfl
@[simp] theorem SF_MON_STAT_AGE_lo : SF_MON_STAT_AGE.lo = 0 := rfl
@[simp] theorem SF_FN_CFG_EN_reg : SF_FN_CFG_EN.reg = .SF_FN_CFG := rfl
@[simp] theorem SF_FN_CFG_EN_hi : SF_FN_CFG_EN.hi = 31 := rfl
@[simp] theorem SF_FN_CFG_EN_lo : SF_FN_CFG_EN.lo = 31 := rfl
@[simp] theorem SF_FN_CFG_MODE_reg : SF_FN_CFG_MODE.reg = .SF_FN_CFG := rfl
@[simp] theorem SF_FN_CFG_MODE_hi : SF_FN_CFG_MODE.hi = 30 := rfl
@[simp] theorem SF_FN_CFG_MODE_lo : SF_FN_CFG_MODE.lo = 30 := rfl
@[simp] theorem SF_FN_CFG_REQCELL_reg : SF_FN_CFG_REQCELL.reg = .SF_FN_CFG := rfl
@[simp] theorem SF_FN_CFG_REQCELL_hi : SF_FN_CFG_REQCELL.hi = 23 := rfl
@[simp] theorem SF_FN_CFG_REQCELL_lo : SF_FN_CFG_REQCELL.lo = 16 := rfl
@[simp] theorem SF_FN_CFG_REQEN_reg : SF_FN_CFG_REQEN.reg = .SF_FN_CFG := rfl
@[simp] theorem SF_FN_CFG_REQEN_hi : SF_FN_CFG_REQEN.hi = 15 := rfl
@[simp] theorem SF_FN_CFG_REQEN_lo : SF_FN_CFG_REQEN.lo = 15 := rfl
@[simp] theorem SF_TERM_A_OPC_reg : SF_TERM_A_OPC.reg = .SF_TERM_A := rfl
@[simp] theorem SF_TERM_A_OPC_hi : SF_TERM_A_OPC.hi = 31 := rfl
@[simp] theorem SF_TERM_A_OPC_lo : SF_TERM_A_OPC.lo = 26 := rfl
@[simp] theorem SF_TERM_A_B_reg : SF_TERM_A_B.reg = .SF_TERM_A := rfl
@[simp] theorem SF_TERM_A_B_hi : SF_TERM_A_B.hi = 15 := rfl
@[simp] theorem SF_TERM_A_B_lo : SF_TERM_A_B.lo = 8 := rfl
@[simp] theorem SF_TERM_A_A_reg : SF_TERM_A_A.reg = .SF_TERM_A := rfl
@[simp] theorem SF_TERM_A_A_hi : SF_TERM_A_A.hi = 7 := rfl
@[simp] theorem SF_TERM_A_A_lo : SF_TERM_A_A.lo = 0 := rfl
@[simp] theorem SF_TERM_B_reg : SF_TERM_B.reg = .SF_TERM_B := rfl
@[simp] theorem SF_TERM_B_hi : SF_TERM_B.hi = 31 := rfl
@[simp] theorem SF_TERM_B_lo : SF_TERM_B.lo = 0 := rfl
@[simp] theorem SF_FN_DEG_DEGOK_reg : SF_FN_DEG_DEGOK.reg = .SF_FN_DEG := rfl
@[simp] theorem SF_FN_DEG_DEGOK_hi : SF_FN_DEG_DEGOK.hi = 31 := rfl
@[simp] theorem SF_FN_DEG_DEGOK_lo : SF_FN_DEG_DEGOK.lo = 31 := rfl
@[simp] theorem SF_FN_DEG_CAPCH_reg : SF_FN_DEG_CAPCH.reg = .SF_FN_DEG := rfl
@[simp] theorem SF_FN_DEG_CAPCH_hi : SF_FN_DEG_CAPCH.hi = 30 := rfl
@[simp] theorem SF_FN_DEG_CAPCH_lo : SF_FN_DEG_CAPCH.lo = 28 := rfl
@[simp] theorem SF_FN_DEG_VCAP_reg : SF_FN_DEG_VCAP.reg = .SF_FN_DEG := rfl
@[simp] theorem SF_FN_DEG_VCAP_hi : SF_FN_DEG_VCAP.hi = 23 := rfl
@[simp] theorem SF_FN_DEG_VCAP_lo : SF_FN_DEG_VCAP.lo = 0 := rfl
@[simp] theorem SF_FN_STAT_PERMIT_reg : SF_FN_STAT_PERMIT.reg = .SF_FN_STAT := rfl
@[simp] theorem SF_FN_STAT_PERMIT_hi : SF_FN_STAT_PERMIT.hi = 31 := rfl
@[simp] theorem SF_FN_STAT_PERMIT_lo : SF_FN_STAT_PERMIT.lo = 31 := rfl
@[simp] theorem SF_FN_STAT_DEG_reg : SF_FN_STAT_DEG.reg = .SF_FN_STAT := rfl
@[simp] theorem SF_FN_STAT_DEG_hi : SF_FN_STAT_DEG.hi = 30 := rfl
@[simp] theorem SF_FN_STAT_DEG_lo : SF_FN_STAT_DEG.lo = 30 := rfl
@[simp] theorem SF_FN_STAT_FAILED_reg : SF_FN_STAT_FAILED.reg = .SF_FN_STAT := rfl
@[simp] theorem SF_FN_STAT_FAILED_hi : SF_FN_STAT_FAILED.hi = 29 := rfl
@[simp] theorem SF_FN_STAT_FAILED_lo : SF_FN_STAT_FAILED.lo = 29 := rfl
@[simp] theorem SF_FN_STAT_CAPACT_reg : SF_FN_STAT_CAPACT.reg = .SF_FN_STAT := rfl
@[simp] theorem SF_FN_STAT_CAPACT_hi : SF_FN_STAT_CAPACT.hi = 28 := rfl
@[simp] theorem SF_FN_STAT_CAPACT_lo : SF_FN_STAT_CAPACT.lo = 28 := rfl
@[simp] theorem SF_FN_STAT_TERMS_reg : SF_FN_STAT_TERMS.reg = .SF_FN_STAT := rfl
@[simp] theorem SF_FN_STAT_TERMS_hi : SF_FN_STAT_TERMS.hi = 27 := rfl
@[simp] theorem SF_FN_STAT_TERMS_lo : SF_FN_STAT_TERMS.lo = 24 := rfl
@[simp] theorem SF_FN_STAT_CAUSE_reg : SF_FN_STAT_CAUSE.reg = .SF_FN_STAT := rfl
@[simp] theorem SF_FN_STAT_CAUSE_hi : SF_FN_STAT_CAUSE.hi = 23 := rfl
@[simp] theorem SF_FN_STAT_CAUSE_lo : SF_FN_STAT_CAUSE.lo = 20 := rfl
@[simp] theorem SF_FN_STAT_DEGLEFT_reg : SF_FN_STAT_DEGLEFT.reg = .SF_FN_STAT := rfl
@[simp] theorem SF_FN_STAT_DEGLEFT_hi : SF_FN_STAT_DEGLEFT.hi = 9 := rfl
@[simp] theorem SF_FN_STAT_DEGLEFT_lo : SF_FN_STAT_DEGLEFT.lo = 0 := rfl
@[simp] theorem DX_CFG_RSTMAX_reg : DX_CFG_RSTMAX.reg = .DX_CFG := rfl
@[simp] theorem DX_CFG_RSTMAX_hi : DX_CFG_RSTMAX.hi = 11 := rfl
@[simp] theorem DX_CFG_RSTMAX_lo : DX_CFG_RSTMAX.lo = 8 := rfl
@[simp] theorem DX_CFG_TBEN_reg : DX_CFG_TBEN.reg = .DX_CFG := rfl
@[simp] theorem DX_CFG_TBEN_hi : DX_CFG_TBEN.hi = 4 := rfl
@[simp] theorem DX_CFG_TBEN_lo : DX_CFG_TBEN.lo = 4 := rfl
@[simp] theorem DX_CFG_HOME_reg : DX_CFG_HOME.reg = .DX_CFG := rfl
@[simp] theorem DX_CFG_HOME_hi : DX_CFG_HOME.hi = 0 := rfl
@[simp] theorem DX_CFG_HOME_lo : DX_CFG_HOME.lo = 0 := rfl
@[simp] theorem DX_STAT_ACTIVE_reg : DX_STAT_ACTIVE.reg = .DX_STAT := rfl
@[simp] theorem DX_STAT_ACTIVE_hi : DX_STAT_ACTIVE.hi = 31 := rfl
@[simp] theorem DX_STAT_ACTIVE_lo : DX_STAT_ACTIVE.lo = 30 := rfl
@[simp] theorem DX_STAT_GAP_reg : DX_STAT_GAP.reg = .DX_STAT := rfl
@[simp] theorem DX_STAT_GAP_hi : DX_STAT_GAP.hi = 29 := rfl
@[simp] theorem DX_STAT_GAP_lo : DX_STAT_GAP.lo = 29 := rfl
@[simp] theorem DX_STAT_TBPEND_reg : DX_STAT_TBPEND.reg = .DX_STAT := rfl
@[simp] theorem DX_STAT_TBPEND_hi : DX_STAT_TBPEND.hi = 28 := rfl
@[simp] theorem DX_STAT_TBPEND_lo : DX_STAT_TBPEND.lo = 28 := rfl
@[simp] theorem DX_STAT_STATEB_reg : DX_STAT_STATEB.reg = .DX_STAT := rfl
@[simp] theorem DX_STAT_STATEB_hi : DX_STAT_STATEB.hi = 23 := rfl
@[simp] theorem DX_STAT_STATEB_lo : DX_STAT_STATEB.lo = 20 := rfl
@[simp] theorem DX_STAT_STATEA_reg : DX_STAT_STATEA.reg = .DX_STAT := rfl
@[simp] theorem DX_STAT_STATEA_hi : DX_STAT_STATEA.hi = 19 := rfl
@[simp] theorem DX_STAT_STATEA_lo : DX_STAT_STATEA.lo = 16 := rfl
@[simp] theorem DX_STAT_FOCNT_reg : DX_STAT_FOCNT.reg = .DX_STAT := rfl
@[simp] theorem DX_STAT_FOCNT_hi : DX_STAT_FOCNT.hi = 15 := rfl
@[simp] theorem DX_STAT_FOCNT_lo : DX_STAT_FOCNT.lo = 0 := rfl
@[simp] theorem DX_SIDE_CAUSE_reg : DX_SIDE_CAUSE.reg = .DX_SIDE := rfl
@[simp] theorem DX_SIDE_CAUSE_hi : DX_SIDE_CAUSE.hi = 31 := rfl
@[simp] theorem DX_SIDE_CAUSE_lo : DX_SIDE_CAUSE.lo = 28 := rfl
@[simp] theorem DX_SIDE_TB24_reg : DX_SIDE_TB24.reg = .DX_SIDE := rfl
@[simp] theorem DX_SIDE_TB24_hi : DX_SIDE_TB24.hi = 27 := rfl
@[simp] theorem DX_SIDE_TB24_lo : DX_SIDE_TB24.lo = 24 := rfl
@[simp] theorem DX_SIDE_RST24_reg : DX_SIDE_RST24.reg = .DX_SIDE := rfl
@[simp] theorem DX_SIDE_RST24_hi : DX_SIDE_RST24.hi = 23 := rfl
@[simp] theorem DX_SIDE_RST24_lo : DX_SIDE_RST24.lo = 16 := rfl
@[simp] theorem DX_SIDE_GIVEUP_reg : DX_SIDE_GIVEUP.reg = .DX_SIDE := rfl
@[simp] theorem DX_SIDE_GIVEUP_hi : DX_SIDE_GIVEUP.hi = 15 := rfl
@[simp] theorem DX_SIDE_GIVEUP_lo : DX_SIDE_GIVEUP.lo = 0 := rfl
@[simp] theorem DX_SYNC_MISMATCH_reg : DX_SYNC_MISMATCH.reg = .DX_SYNC := rfl
@[simp] theorem DX_SYNC_MISMATCH_hi : DX_SYNC_MISMATCH.hi = 31 := rfl
@[simp] theorem DX_SYNC_MISMATCH_lo : DX_SYNC_MISMATCH.lo = 16 := rfl
@[simp] theorem DX_SYNC_SCAN_reg : DX_SYNC_SCAN.reg = .DX_SYNC := rfl
@[simp] theorem DX_SYNC_SCAN_hi : DX_SYNC_SCAN.hi = 15 := rfl
@[simp] theorem DX_SYNC_SCAN_lo : DX_SYNC_SCAN.lo = 0 := rfl
@[simp] theorem DX_TBWAIT_FRAMES_reg : DX_TBWAIT_FRAMES.reg = .DX_TBWAIT := rfl
@[simp] theorem DX_TBWAIT_FRAMES_hi : DX_TBWAIT_FRAMES.hi = 15 := rfl
@[simp] theorem DX_TBWAIT_FRAMES_lo : DX_TBWAIT_FRAMES.lo = 0 := rfl
@[simp] theorem DX_LASTFO_LO_reg : DX_LASTFO_LO.reg = .DX_LASTFO_LO := rfl
@[simp] theorem DX_LASTFO_LO_hi : DX_LASTFO_LO.hi = 31 := rfl
@[simp] theorem DX_LASTFO_LO_lo : DX_LASTFO_LO.lo = 0 := rfl
@[simp] theorem DX_LASTFO_HI_reg : DX_LASTFO_HI.reg = .DX_LASTFO_HI := rfl
@[simp] theorem DX_LASTFO_HI_hi : DX_LASTFO_HI.hi = 31 := rfl
@[simp] theorem DX_LASTFO_HI_lo : DX_LASTFO_HI.lo = 0 := rfl
@[simp] theorem SPR_STAT_LE8ST_reg : SPR_STAT_LE8ST.reg = .SPR_STAT := rfl
@[simp] theorem SPR_STAT_LE8ST_hi : SPR_STAT_LE8ST.hi = 31 := rfl
@[simp] theorem SPR_STAT_LE8ST_lo : SPR_STAT_LE8ST.lo = 28 := rfl
@[simp] theorem SPR_STAT_LE8FOR_reg : SPR_STAT_LE8FOR.reg = .SPR_STAT := rfl
@[simp] theorem SPR_STAT_LE8FOR_hi : SPR_STAT_LE8FOR.hi = 27 := rfl
@[simp] theorem SPR_STAT_LE8FOR_lo : SPR_STAT_LE8FOR.lo = 24 := rfl
@[simp] theorem SPR_STAT_MG4ST_reg : SPR_STAT_MG4ST.reg = .SPR_STAT := rfl
@[simp] theorem SPR_STAT_MG4ST_hi : SPR_STAT_MG4ST.hi = 23 := rfl
@[simp] theorem SPR_STAT_MG4ST_lo : SPR_STAT_MG4ST.lo = 20 := rfl
@[simp] theorem SPR_STAT_MG4FOR_reg : SPR_STAT_MG4FOR.reg = .SPR_STAT := rfl
@[simp] theorem SPR_STAT_MG4FOR_hi : SPR_STAT_MG4FOR.hi = 19 := rfl
@[simp] theorem SPR_STAT_MG4FOR_lo : SPR_STAT_MG4FOR.lo = 16 := rfl
@[simp] theorem SPR_STAT_FLASHFREE_reg : SPR_STAT_FLASHFREE.reg = .SPR_STAT := rfl
@[simp] theorem SPR_STAT_FLASHFREE_hi : SPR_STAT_FLASHFREE.hi = 5 := rfl
@[simp] theorem SPR_STAT_FLASHFREE_lo : SPR_STAT_FLASHFREE.lo = 0 := rfl
@[simp] theorem SPR_WEAR_CFG_GRAFT_reg : SPR_WEAR_CFG_GRAFT.reg = .SPR_WEAR_CFG := rfl
@[simp] theorem SPR_WEAR_CFG_GRAFT_hi : SPR_WEAR_CFG_GRAFT.hi = 31 := rfl
@[simp] theorem SPR_WEAR_CFG_GRAFT_lo : SPR_WEAR_CFG_GRAFT.lo = 16 := rfl
@[simp] theorem SPR_WEAR_CFG_WARN_reg : SPR_WEAR_CFG_WARN.reg = .SPR_WEAR_CFG := rfl
@[simp] theorem SPR_WEAR_CFG_WARN_hi : SPR_WEAR_CFG_WARN.hi = 15 := rfl
@[simp] theorem SPR_WEAR_CFG_WARN_lo : SPR_WEAR_CFG_WARN.lo = 0 := rfl
@[simp] theorem SPR_FLASH_CFG_ERASEMAX_reg : SPR_FLASH_CFG_ERASEMAX.reg = .SPR_FLASH_CFG := rfl
@[simp] theorem SPR_FLASH_CFG_ERASEMAX_hi : SPR_FLASH_CFG_ERASEMAX.hi = 16 := rfl
@[simp] theorem SPR_FLASH_CFG_ERASEMAX_lo : SPR_FLASH_CFG_ERASEMAX.lo = 0 := rfl
@[simp] theorem SPR_LOG_PART_reg : SPR_LOG_PART.reg = .SPR_LOG := rfl
@[simp] theorem SPR_LOG_PART_hi : SPR_LOG_PART.hi = 31 := rfl
@[simp] theorem SPR_LOG_PART_lo : SPR_LOG_PART.lo = 26 := rfl
@[simp] theorem SPR_LOG_KIND_reg : SPR_LOG_KIND.reg = .SPR_LOG := rfl
@[simp] theorem SPR_LOG_KIND_hi : SPR_LOG_KIND.hi = 25 := rfl
@[simp] theorem SPR_LOG_KIND_lo : SPR_LOG_KIND.lo = 24 := rfl
@[simp] theorem SPR_LOG_RELEASE_reg : SPR_LOG_RELEASE.reg = .SPR_LOG := rfl
@[simp] theorem SPR_LOG_RELEASE_hi : SPR_LOG_RELEASE.hi = 16 := rfl
@[simp] theorem SPR_LOG_RELEASE_lo : SPR_LOG_RELEASE.lo = 16 := rfl
@[simp] theorem SPR_LOG_FRAME_reg : SPR_LOG_FRAME.reg = .SPR_LOG := rfl
@[simp] theorem SPR_LOG_FRAME_hi : SPR_LOG_FRAME.hi = 15 := rfl
@[simp] theorem SPR_LOG_FRAME_lo : SPR_LOG_FRAME.lo = 0 := rfl
@[simp] theorem SPR_PART_STATE_reg : SPR_PART_STATE.reg = .SPR_PART := rfl
@[simp] theorem SPR_PART_STATE_hi : SPR_PART_STATE.hi = 31 := rfl
@[simp] theorem SPR_PART_STATE_lo : SPR_PART_STATE.lo = 29 := rfl
@[simp] theorem SPR_PART_FOR_reg : SPR_PART_FOR.reg = .SPR_PART := rfl
@[simp] theorem SPR_PART_FOR_hi : SPR_PART_FOR.hi = 28 := rfl
@[simp] theorem SPR_PART_FOR_lo : SPR_PART_FOR.lo = 23 := rfl
@[simp] theorem SPR_PART_WEAR_reg : SPR_PART_WEAR.reg = .SPR_PART := rfl
@[simp] theorem SPR_PART_WEAR_hi : SPR_PART_WEAR.hi = 15 := rfl
@[simp] theorem SPR_PART_WEAR_lo : SPR_PART_WEAR.lo = 0 := rfl
@[simp] theorem PWR_CTL_KEY_reg : PWR_CTL_KEY.reg = .PWR_CTL := rfl
@[simp] theorem PWR_CTL_KEY_hi : PWR_CTL_KEY.hi = 31 := rfl
@[simp] theorem PWR_CTL_KEY_lo : PWR_CTL_KEY.lo = 16 := rfl
@[simp] theorem PWR_CTL_CLRMIN_reg : PWR_CTL_CLRMIN.reg = .PWR_CTL := rfl
@[simp] theorem PWR_CTL_CLRMIN_hi : PWR_CTL_CLRMIN.hi = 1 := rfl
@[simp] theorem PWR_CTL_CLRMIN_lo : PWR_CTL_CLRMIN.lo = 1 := rfl
@[simp] theorem PWR_CTL_SHUT_reg : PWR_CTL_SHUT.reg = .PWR_CTL := rfl
@[simp] theorem PWR_CTL_SHUT_hi : PWR_CTL_SHUT.hi = 0 := rfl
@[simp] theorem PWR_CTL_SHUT_lo : PWR_CTL_SHUT.lo = 0 := rfl
@[simp] theorem PWR_STAT_LFOK_reg : PWR_STAT_LFOK.reg = .PWR_STAT := rfl
@[simp] theorem PWR_STAT_LFOK_hi : PWR_STAT_LFOK.hi = 31 := rfl
@[simp] theorem PWR_STAT_LFOK_lo : PWR_STAT_LFOK.lo = 31 := rfl
@[simp] theorem PWR_STAT_HOLDUP_reg : PWR_STAT_HOLDUP.reg = .PWR_STAT := rfl
@[simp] theorem PWR_STAT_HOLDUP_hi : PWR_STAT_HOLDUP.hi = 30 := rfl
@[simp] theorem PWR_STAT_HOLDUP_lo : PWR_STAT_HOLDUP.lo = 30 := rfl
@[simp] theorem PWR_STAT_SHUTOK_reg : PWR_STAT_SHUTOK.reg = .PWR_STAT := rfl
@[simp] theorem PWR_STAT_SHUTOK_hi : PWR_STAT_SHUTOK.hi = 29 := rfl
@[simp] theorem PWR_STAT_SHUTOK_lo : PWR_STAT_SHUTOK.lo = 29 := rfl
@[simp] theorem PWR_STAT_HOSTUP_reg : PWR_STAT_HOSTUP.reg = .PWR_STAT := rfl
@[simp] theorem PWR_STAT_HOSTUP_hi : PWR_STAT_HOSTUP.hi = 28 := rfl
@[simp] theorem PWR_STAT_HOSTUP_lo : PWR_STAT_HOSTUP.lo = 28 := rfl
@[simp] theorem PWR_STAT_CORESUP_reg : PWR_STAT_CORESUP.reg = .PWR_STAT := rfl
@[simp] theorem PWR_STAT_CORESUP_hi : PWR_STAT_CORESUP.hi = 27 := rfl
@[simp] theorem PWR_STAT_CORESUP_lo : PWR_STAT_CORESUP.lo = 27 := rfl
@[simp] theorem PWR_STAT_IOSUP_reg : PWR_STAT_IOSUP.reg = .PWR_STAT := rfl
@[simp] theorem PWR_STAT_IOSUP_hi : PWR_STAT_IOSUP.hi = 26 := rfl
@[simp] theorem PWR_STAT_IOSUP_lo : PWR_STAT_IOSUP.lo = 26 := rfl
@[simp] theorem PWR_STAT_LFMEAS_reg : PWR_STAT_LFMEAS.reg = .PWR_STAT := rfl
@[simp] theorem PWR_STAT_LFMEAS_hi : PWR_STAT_LFMEAS.hi = 25 := rfl
@[simp] theorem PWR_STAT_LFMEAS_lo : PWR_STAT_LFMEAS.lo = 25 := rfl
@[simp] theorem PWR_STAT_BARSUP_reg : PWR_STAT_BARSUP.reg = .PWR_STAT := rfl
@[simp] theorem PWR_STAT_BARSUP_hi : PWR_STAT_BARSUP.hi = 24 := rfl
@[simp] theorem PWR_STAT_BARSUP_lo : PWR_STAT_BARSUP.lo = 24 := rfl
@[simp] theorem PWR_STAT_HOT_reg : PWR_STAT_HOT.reg = .PWR_STAT := rfl
@[simp] theorem PWR_STAT_HOT_hi : PWR_STAT_HOT.hi = 23 := rfl
@[simp] theorem PWR_STAT_HOT_lo : PWR_STAT_HOT.lo = 23 := rfl
@[simp] theorem PWR_STAT_TEMP_reg : PWR_STAT_TEMP.reg = .PWR_STAT := rfl
@[simp] theorem PWR_STAT_TEMP_hi : PWR_STAT_TEMP.hi = 15 := rfl
@[simp] theorem PWR_STAT_TEMP_lo : PWR_STAT_TEMP.lo = 8 := rfl
@[simp] theorem PWR_CFG_HELDT_reg : PWR_CFG_HELDT.reg = .PWR_CFG := rfl
@[simp] theorem PWR_CFG_HELDT_hi : PWR_CFG_HELDT.hi = 31 := rfl
@[simp] theorem PWR_CFG_HELDT_lo : PWR_CFG_HELDT.lo = 16 := rfl
@[simp] theorem PWR_CFG_ERSTMAX_reg : PWR_CFG_ERSTMAX.reg = .PWR_CFG := rfl
@[simp] theorem PWR_CFG_ERSTMAX_hi : PWR_CFG_ERSTMAX.hi = 7 := rfl
@[simp] theorem PWR_CFG_ERSTMAX_lo : PWR_CFG_ERSTMAX.lo = 4 := rfl
@[simp] theorem PWR_LF_LFMIN_reg : PWR_LF_LFMIN.reg = .PWR_LF := rfl
@[simp] theorem PWR_LF_LFMIN_hi : PWR_LF_LFMIN.hi = 31 := rfl
@[simp] theorem PWR_LF_LFMIN_lo : PWR_LF_LFMIN.lo = 16 := rfl
@[simp] theorem PWR_LF_LFV_reg : PWR_LF_LFV.reg = .PWR_LF := rfl
@[simp] theorem PWR_LF_LFV_hi : PWR_LF_LFV.hi = 15 := rfl
@[simp] theorem PWR_LF_LFV_lo : PWR_LF_LFV.lo = 0 := rfl
@[simp] theorem PWR_HOST_HVV_reg : PWR_HOST_HVV.reg = .PWR_HOST := rfl
@[simp] theorem PWR_HOST_HVV_hi : PWR_HOST_HVV.hi = 31 := rfl
@[simp] theorem PWR_HOST_HVV_lo : PWR_HOST_HVV.lo = 16 := rfl
@[simp] theorem PWR_HOST_HSTATE_reg : PWR_HOST_HSTATE.reg = .PWR_HOST := rfl
@[simp] theorem PWR_HOST_HSTATE_hi : PWR_HOST_HSTATE.hi = 3 := rfl
@[simp] theorem PWR_HOST_HSTATE_lo : PWR_HOST_HSTATE.lo = 0 := rfl
@[simp] theorem PWR_CAUSE_CAUSE_reg : PWR_CAUSE_CAUSE.reg = .PWR_CAUSE := rfl
@[simp] theorem PWR_CAUSE_CAUSE_hi : PWR_CAUSE_CAUSE.hi = 31 := rfl
@[simp] theorem PWR_CAUSE_CAUSE_lo : PWR_CAUSE_CAUSE.lo = 28 := rfl
@[simp] theorem PWR_CAUSE_RUNMS_reg : PWR_CAUSE_RUNMS.reg = .PWR_CAUSE := rfl
@[simp] theorem PWR_CAUSE_RUNMS_hi : PWR_CAUSE_RUNMS.hi = 15 := rfl
@[simp] theorem PWR_CAUSE_RUNMS_lo : PWR_CAUSE_RUNMS.lo = 0 := rfl
@[simp] theorem PWR_JFRAME_LO_reg : PWR_JFRAME_LO.reg = .PWR_JFRAME_LO := rfl
@[simp] theorem PWR_JFRAME_LO_hi : PWR_JFRAME_LO.hi = 31 := rfl
@[simp] theorem PWR_JFRAME_LO_lo : PWR_JFRAME_LO.lo = 0 := rfl
@[simp] theorem PWR_JFRAME_HI_reg : PWR_JFRAME_HI.reg = .PWR_JFRAME_HI := rfl
@[simp] theorem PWR_JFRAME_HI_hi : PWR_JFRAME_HI.hi = 31 := rfl
@[simp] theorem PWR_JFRAME_HI_lo : PWR_JFRAME_HI.lo = 0 := rfl
@[simp] theorem PWR_ERST_TOTAL_reg : PWR_ERST_TOTAL.reg = .PWR_ERST := rfl
@[simp] theorem PWR_ERST_TOTAL_hi : PWR_ERST_TOTAL.hi = 31 := rfl
@[simp] theorem PWR_ERST_TOTAL_lo : PWR_ERST_TOTAL.lo = 16 := rfl
@[simp] theorem PWR_ERST_RST24_reg : PWR_ERST_RST24.reg = .PWR_ERST := rfl
@[simp] theorem PWR_ERST_RST24_hi : PWR_ERST_RST24.hi = 7 := rfl
@[simp] theorem PWR_ERST_RST24_lo : PWR_ERST_RST24.lo = 0 := rfl
@[simp] theorem CB_CTL_FDEN_reg : CB_CTL_FDEN.reg = .CB_CTL := rfl
@[simp] theorem CB_CTL_FDEN_hi : CB_CTL_FDEN.hi = 15 := rfl
@[simp] theorem CB_CTL_FDEN_lo : CB_CTL_FDEN.lo = 15 := rfl
@[simp] theorem CB_CTL_AUTOREC_reg : CB_CTL_AUTOREC.reg = .CB_CTL := rfl
@[simp] theorem CB_CTL_AUTOREC_hi : CB_CTL_AUTOREC.hi = 14 := rfl
@[simp] theorem CB_CTL_AUTOREC_lo : CB_CTL_AUTOREC.lo = 14 := rfl
@[simp] theorem CB_CTL_TERM_reg : CB_CTL_TERM.reg = .CB_CTL := rfl
@[simp] theorem CB_CTL_TERM_hi : CB_CTL_TERM.hi = 13 := rfl
@[simp] theorem CB_CTL_TERM_lo : CB_CTL_TERM.lo = 13 := rfl
@[simp] theorem CB_CTL_WAKEMODE_reg : CB_CTL_WAKEMODE.reg = .CB_CTL := rfl
@[simp] theorem CB_CTL_WAKEMODE_hi : CB_CTL_WAKEMODE.hi = 12 := rfl
@[simp] theorem CB_CTL_WAKEMODE_lo : CB_CTL_WAKEMODE.lo = 12 := rfl
@[simp] theorem CB_CTL_AUTOWAKE_reg : CB_CTL_AUTOWAKE.reg = .CB_CTL := rfl
@[simp] theorem CB_CTL_AUTOWAKE_hi : CB_CTL_AUTOWAKE.hi = 11 := rfl
@[simp] theorem CB_CTL_AUTOWAKE_lo : CB_CTL_AUTOWAKE.lo = 11 := rfl
@[simp] theorem CB_CTL_BOREC_reg : CB_CTL_BOREC.reg = .CB_CTL := rfl
@[simp] theorem CB_CTL_BOREC_hi : CB_CTL_BOREC.hi = 2 := rfl
@[simp] theorem CB_CTL_BOREC_lo : CB_CTL_BOREC.lo = 2 := rfl
@[simp] theorem CB_CTL_MODE_reg : CB_CTL_MODE.reg = .CB_CTL := rfl
@[simp] theorem CB_CTL_MODE_hi : CB_CTL_MODE.hi = 1 := rfl
@[simp] theorem CB_CTL_MODE_lo : CB_CTL_MODE.lo = 0 := rfl
@[simp] theorem CB_STAT_MODE_reg : CB_STAT_MODE.reg = .CB_STAT := rfl
@[simp] theorem CB_STAT_MODE_hi : CB_STAT_MODE.hi = 31 := rfl
@[simp] theorem CB_STAT_MODE_lo : CB_STAT_MODE.lo = 30 := rfl
@[simp] theorem CB_STAT_INTEG_reg : CB_STAT_INTEG.reg = .CB_STAT := rfl
@[simp] theorem CB_STAT_INTEG_hi : CB_STAT_INTEG.hi = 29 := rfl
@[simp] theorem CB_STAT_INTEG_lo : CB_STAT_INTEG.lo = 29 := rfl
@[simp] theorem CB_STAT_CFGERR_reg : CB_STAT_CFGERR.reg = .CB_STAT := rfl
@[simp] theorem CB_STAT_CFGERR_hi : CB_STAT_CFGERR.hi = 28 := rfl
@[simp] theorem CB_STAT_CFGERR_lo : CB_STAT_CFGERR.lo = 28 := rfl
@[simp] theorem CB_STAT_REFUSED_reg : CB_STAT_REFUSED.reg = .CB_STAT := rfl
@[simp] theorem CB_STAT_REFUSED_hi : CB_STAT_REFUSED.hi = 27 := rfl
@[simp] theorem CB_STAT_REFUSED_lo : CB_STAT_REFUSED.lo = 27 := rfl
@[simp] theorem CB_STAT_WAKE_reg : CB_STAT_WAKE.reg = .CB_STAT := rfl
@[simp] theorem CB_STAT_WAKE_hi : CB_STAT_WAKE.hi = 26 := rfl
@[simp] theorem CB_STAT_WAKE_lo : CB_STAT_WAKE.lo = 26 := rfl
@[simp] theorem CB_STAT_BOEVT_reg : CB_STAT_BOEVT.reg = .CB_STAT := rfl
@[simp] theorem CB_STAT_BOEVT_hi : CB_STAT_BOEVT.hi = 25 := rfl
@[simp] theorem CB_STAT_BOEVT_lo : CB_STAT_BOEVT.lo = 25 := rfl
@[simp] theorem CB_STAT_EPEVT_reg : CB_STAT_EPEVT.reg = .CB_STAT := rfl
@[simp] theorem CB_STAT_EPEVT_hi : CB_STAT_EPEVT.hi = 24 := rfl
@[simp] theorem CB_STAT_EPEVT_lo : CB_STAT_EPEVT.lo = 24 := rfl
@[simp] theorem CB_STAT_AUTOSUSP_reg : CB_STAT_AUTOSUSP.reg = .CB_STAT := rfl
@[simp] theorem CB_STAT_AUTOSUSP_hi : CB_STAT_AUTOSUSP.hi = 23 := rfl
@[simp] theorem CB_STAT_AUTOSUSP_lo : CB_STAT_AUTOSUSP.lo = 23 := rfl
@[simp] theorem CB_STAT_ERRST_reg : CB_STAT_ERRST.reg = .CB_STAT := rfl
@[simp] theorem CB_STAT_ERRST_hi : CB_STAT_ERRST.hi = 21 := rfl
@[simp] theorem CB_STAT_ERRST_lo : CB_STAT_ERRST.lo = 20 := rfl
@[simp] theorem CB_STAT_LEC_reg : CB_STAT_LEC.reg = .CB_STAT := rfl
@[simp] theorem CB_STAT_LEC_hi : CB_STAT_LEC.hi = 18 := rfl
@[simp] theorem CB_STAT_LEC_lo : CB_STAT_LEC.lo = 16 := rfl
@[simp] theorem CB_STAT_TDCV_reg : CB_STAT_TDCV.reg = .CB_STAT := rfl
@[simp] theorem CB_STAT_TDCV_hi : CB_STAT_TDCV.hi = 7 := rfl
@[simp] theorem CB_STAT_TDCV_lo : CB_STAT_TDCV.lo = 0 := rfl
@[simp] theorem CB_ERR_BOCNT_reg : CB_ERR_BOCNT.reg = .CB_ERR := rfl
@[simp] theorem CB_ERR_BOCNT_hi : CB_ERR_BOCNT.hi = 31 := rfl
@[simp] theorem CB_ERR_BOCNT_lo : CB_ERR_BOCNT.lo = 16 := rfl
@[simp] theorem CB_ERR_REC_reg : CB_ERR_REC.reg = .CB_ERR := rfl
@[simp] theorem CB_ERR_REC_hi : CB_ERR_REC.hi = 15 := rfl
@[simp] theorem CB_ERR_REC_lo : CB_ERR_REC.lo = 8 := rfl
@[simp] theorem CB_ERR_TEC_reg : CB_ERR_TEC.reg = .CB_ERR := rfl
@[simp] theorem CB_ERR_TEC_hi : CB_ERR_TEC.hi = 7 := rfl
@[simp] theorem CB_ERR_TEC_lo : CB_ERR_TEC.lo = 0 := rfl
@[simp] theorem CB_NBT_NSJW_reg : CB_NBT_NSJW.reg = .CB_NBT := rfl
@[simp] theorem CB_NBT_NSJW_hi : CB_NBT_NSJW.hi = 31 := rfl
@[simp] theorem CB_NBT_NSJW_lo : CB_NBT_NSJW.lo = 25 := rfl
@[simp] theorem CB_NBT_NTSEG1_reg : CB_NBT_NTSEG1.reg = .CB_NBT := rfl
@[simp] theorem CB_NBT_NTSEG1_hi : CB_NBT_NTSEG1.hi = 24 := rfl
@[simp] theorem CB_NBT_NTSEG1_lo : CB_NBT_NTSEG1.lo = 17 := rfl
@[simp] theorem CB_NBT_NTSEG2_reg : CB_NBT_NTSEG2.reg = .CB_NBT := rfl
@[simp] theorem CB_NBT_NTSEG2_hi : CB_NBT_NTSEG2.hi = 16 := rfl
@[simp] theorem CB_NBT_NTSEG2_lo : CB_NBT_NTSEG2.lo = 10 := rfl
@[simp] theorem CB_NBT_NBRP_reg : CB_NBT_NBRP.reg = .CB_NBT := rfl
@[simp] theorem CB_NBT_NBRP_hi : CB_NBT_NBRP.hi = 4 := rfl
@[simp] theorem CB_NBT_NBRP_lo : CB_NBT_NBRP.lo = 0 := rfl
@[simp] theorem CB_DBT_DSJW_reg : CB_DBT_DSJW.reg = .CB_DBT := rfl
@[simp] theorem CB_DBT_DSJW_hi : CB_DBT_DSJW.hi = 31 := rfl
@[simp] theorem CB_DBT_DSJW_lo : CB_DBT_DSJW.lo = 28 := rfl
@[simp] theorem CB_DBT_DTSEG1_reg : CB_DBT_DTSEG1.reg = .CB_DBT := rfl
@[simp] theorem CB_DBT_DTSEG1_hi : CB_DBT_DTSEG1.hi = 27 := rfl
@[simp] theorem CB_DBT_DTSEG1_lo : CB_DBT_DTSEG1.lo = 23 := rfl
@[simp] theorem CB_DBT_DTSEG2_reg : CB_DBT_DTSEG2.reg = .CB_DBT := rfl
@[simp] theorem CB_DBT_DTSEG2_hi : CB_DBT_DTSEG2.hi = 22 := rfl
@[simp] theorem CB_DBT_DTSEG2_lo : CB_DBT_DTSEG2.lo = 19 := rfl
@[simp] theorem CB_DBT_TDC_reg : CB_DBT_TDC.reg = .CB_DBT := rfl
@[simp] theorem CB_DBT_TDC_hi : CB_DBT_TDC.hi = 16 := rfl
@[simp] theorem CB_DBT_TDC_lo : CB_DBT_TDC.lo = 16 := rfl
@[simp] theorem CB_DBT_TDCO_reg : CB_DBT_TDCO.reg = .CB_DBT := rfl
@[simp] theorem CB_DBT_TDCO_hi : CB_DBT_TDCO.hi = 15 := rfl
@[simp] theorem CB_DBT_TDCO_lo : CB_DBT_TDCO.lo = 8 := rfl
@[simp] theorem CB_DBT_DBRP_reg : CB_DBT_DBRP.reg = .CB_DBT := rfl
@[simp] theorem CB_DBT_DBRP_hi : CB_DBT_DBRP.hi = 4 := rfl
@[simp] theorem CB_DBT_DBRP_lo : CB_DBT_DBRP.lo = 0 := rfl
@[simp] theorem CB_TT_CFG_EN_reg : CB_TT_CFG_EN.reg = .CB_TT_CFG := rfl
@[simp] theorem CB_TT_CFG_EN_hi : CB_TT_CFG_EN.hi = 7 := rfl
@[simp] theorem CB_TT_CFG_EN_lo : CB_TT_CFG_EN.lo = 7 := rfl
@[simp] theorem CB_TT_CFG_COLF_reg : CB_TT_CFG_COLF.reg = .CB_TT_CFG := rfl
@[simp] theorem CB_TT_CFG_COLF_hi : CB_TT_CFG_COLF.hi = 5 := rfl
@[simp] theorem CB_TT_CFG_COLF_lo : CB_TT_CFG_COLF.lo = 0 := rfl
@[simp] theorem CB_TT_STAT_COL_reg : CB_TT_STAT_COL.reg = .CB_TT_STAT := rfl
@[simp] theorem CB_TT_STAT_COL_hi : CB_TT_STAT_COL.hi = 9 := rfl
@[simp] theorem CB_TT_STAT_COL_lo : CB_TT_STAT_COL.lo = 4 := rfl
@[simp] theorem CB_TT_STAT_BC_reg : CB_TT_STAT_BC.reg = .CB_TT_STAT := rfl
@[simp] theorem CB_TT_STAT_BC_hi : CB_TT_STAT_BC.hi = 3 := rfl
@[simp] theorem CB_TT_STAT_BC_lo : CB_TT_STAT_BC.lo = 0 := rfl
@[simp] theorem CB_CNT_RXOK_reg : CB_CNT_RXOK.reg = .CB_CNT := rfl
@[simp] theorem CB_CNT_RXOK_hi : CB_CNT_RXOK.hi = 31 := rfl
@[simp] theorem CB_CNT_RXOK_lo : CB_CNT_RXOK.lo = 16 := rfl
@[simp] theorem CB_CNT_DROP_reg : CB_CNT_DROP.reg = .CB_CNT := rfl
@[simp] theorem CB_CNT_DROP_hi : CB_CNT_DROP.hi = 15 := rfl
@[simp] theorem CB_CNT_DROP_lo : CB_CNT_DROP.lo = 0 := rfl
@[simp] theorem CB_MCNT_MISS_reg : CB_MCNT_MISS.reg = .CB_MCNT := rfl
@[simp] theorem CB_MCNT_MISS_hi : CB_MCNT_MISS.hi = 31 := rfl
@[simp] theorem CB_MCNT_MISS_lo : CB_MCNT_MISS.lo = 16 := rfl
@[simp] theorem CB_MCNT_TXFAIL_reg : CB_MCNT_TXFAIL.reg = .CB_MCNT := rfl
@[simp] theorem CB_MCNT_TXFAIL_hi : CB_MCNT_TXFAIL.hi = 15 := rfl
@[simp] theorem CB_MCNT_TXFAIL_lo : CB_MCNT_TXFAIL.lo = 0 := rfl
@[simp] theorem CB_WAKE_ID_IDE_reg : CB_WAKE_ID_IDE.reg = .CB_WAKE_ID := rfl
@[simp] theorem CB_WAKE_ID_IDE_hi : CB_WAKE_ID_IDE.hi = 31 := rfl
@[simp] theorem CB_WAKE_ID_IDE_lo : CB_WAKE_ID_IDE.lo = 31 := rfl
@[simp] theorem CB_WAKE_ID_ID_reg : CB_WAKE_ID_ID.reg = .CB_WAKE_ID := rfl
@[simp] theorem CB_WAKE_ID_ID_hi : CB_WAKE_ID_ID.hi = 28 := rfl
@[simp] theorem CB_WAKE_ID_ID_lo : CB_WAKE_ID_ID.lo = 0 := rfl
@[simp] theorem CB_WAKE_IDM_MASK_reg : CB_WAKE_IDM_MASK.reg = .CB_WAKE_IDM := rfl
@[simp] theorem CB_WAKE_IDM_MASK_hi : CB_WAKE_IDM_MASK.hi = 28 := rfl
@[simp] theorem CB_WAKE_IDM_MASK_lo : CB_WAKE_IDM_MASK.lo = 0 := rfl
@[simp] theorem CB_WAKE_DLC_DLCCHK_reg : CB_WAKE_DLC_DLCCHK.reg = .CB_WAKE_DLC := rfl
@[simp] theorem CB_WAKE_DLC_DLCCHK_hi : CB_WAKE_DLC_DLCCHK.hi = 4 := rfl
@[simp] theorem CB_WAKE_DLC_DLCCHK_lo : CB_WAKE_DLC_DLCCHK.lo = 4 := rfl
@[simp] theorem CB_WAKE_DLC_DLC_reg : CB_WAKE_DLC_DLC.reg = .CB_WAKE_DLC := rfl
@[simp] theorem CB_WAKE_DLC_DLC_hi : CB_WAKE_DLC_DLC.hi = 3 := rfl
@[simp] theorem CB_WAKE_DLC_DLC_lo : CB_WAKE_DLC_DLC.lo = 0 := rfl
@[simp] theorem CB_WAKE_D0_reg : CB_WAKE_D0.reg = .CB_WAKE_D0 := rfl
@[simp] theorem CB_WAKE_D0_hi : CB_WAKE_D0.hi = 31 := rfl
@[simp] theorem CB_WAKE_D0_lo : CB_WAKE_D0.lo = 0 := rfl
@[simp] theorem CB_WAKE_D1_reg : CB_WAKE_D1.reg = .CB_WAKE_D1 := rfl
@[simp] theorem CB_WAKE_D1_hi : CB_WAKE_D1.hi = 31 := rfl
@[simp] theorem CB_WAKE_D1_lo : CB_WAKE_D1.lo = 0 := rfl
@[simp] theorem CB_NEWDAT_reg : CB_NEWDAT.reg = .CB_NEWDAT := rfl
@[simp] theorem CB_NEWDAT_hi : CB_NEWDAT.hi = 31 := rfl
@[simp] theorem CB_NEWDAT_lo : CB_NEWDAT.lo = 0 := rfl
@[simp] theorem CB_COL_KIND15_reg : CB_COL_KIND15.reg = .CB_COL := rfl
@[simp] theorem CB_COL_KIND15_hi : CB_COL_KIND15.hi = 31 := rfl
@[simp] theorem CB_COL_KIND15_lo : CB_COL_KIND15.lo = 30 := rfl
@[simp] theorem CB_COL_KIND14_reg : CB_COL_KIND14.reg = .CB_COL := rfl
@[simp] theorem CB_COL_KIND14_hi : CB_COL_KIND14.hi = 29 := rfl
@[simp] theorem CB_COL_KIND14_lo : CB_COL_KIND14.lo = 28 := rfl
@[simp] theorem CB_COL_KIND13_reg : CB_COL_KIND13.reg = .CB_COL := rfl
@[simp] theorem CB_COL_KIND13_hi : CB_COL_KIND13.hi = 27 := rfl
@[simp] theorem CB_COL_KIND13_lo : CB_COL_KIND13.lo = 26 := rfl
@[simp] theorem CB_COL_KIND12_reg : CB_COL_KIND12.reg = .CB_COL := rfl
@[simp] theorem CB_COL_KIND12_hi : CB_COL_KIND12.hi = 25 := rfl
@[simp] theorem CB_COL_KIND12_lo : CB_COL_KIND12.lo = 24 := rfl
@[simp] theorem CB_COL_KIND11_reg : CB_COL_KIND11.reg = .CB_COL := rfl
@[simp] theorem CB_COL_KIND11_hi : CB_COL_KIND11.hi = 23 := rfl
@[simp] theorem CB_COL_KIND11_lo : CB_COL_KIND11.lo = 22 := rfl
@[simp] theorem CB_COL_KIND10_reg : CB_COL_KIND10.reg = .CB_COL := rfl
@[simp] theorem CB_COL_KIND10_hi : CB_COL_KIND10.hi = 21 := rfl
@[simp] theorem CB_COL_KIND10_lo : CB_COL_KIND10.lo = 20 := rfl
@[simp] theorem CB_COL_KIND9_reg : CB_COL_KIND9.reg = .CB_COL := rfl
@[simp] theorem CB_COL_KIND9_hi : CB_COL_KIND9.hi = 19 := rfl
@[simp] theorem CB_COL_KIND9_lo : CB_COL_KIND9.lo = 18 := rfl
@[simp] theorem CB_COL_KIND8_reg : CB_COL_KIND8.reg = .CB_COL := rfl
@[simp] theorem CB_COL_KIND8_hi : CB_COL_KIND8.hi = 17 := rfl
@[simp] theorem CB_COL_KIND8_lo : CB_COL_KIND8.lo = 16 := rfl
@[simp] theorem CB_COL_KIND7_reg : CB_COL_KIND7.reg = .CB_COL := rfl
@[simp] theorem CB_COL_KIND7_hi : CB_COL_KIND7.hi = 15 := rfl
@[simp] theorem CB_COL_KIND7_lo : CB_COL_KIND7.lo = 14 := rfl
@[simp] theorem CB_COL_KIND6_reg : CB_COL_KIND6.reg = .CB_COL := rfl
@[simp] theorem CB_COL_KIND6_hi : CB_COL_KIND6.hi = 13 := rfl
@[simp] theorem CB_COL_KIND6_lo : CB_COL_KIND6.lo = 12 := rfl
@[simp] theorem CB_COL_KIND5_reg : CB_COL_KIND5.reg = .CB_COL := rfl
@[simp] theorem CB_COL_KIND5_hi : CB_COL_KIND5.hi = 11 := rfl
@[simp] theorem CB_COL_KIND5_lo : CB_COL_KIND5.lo = 10 := rfl
@[simp] theorem CB_COL_KIND4_reg : CB_COL_KIND4.reg = .CB_COL := rfl
@[simp] theorem CB_COL_KIND4_hi : CB_COL_KIND4.hi = 9 := rfl
@[simp] theorem CB_COL_KIND4_lo : CB_COL_KIND4.lo = 8 := rfl
@[simp] theorem CB_COL_KIND3_reg : CB_COL_KIND3.reg = .CB_COL := rfl
@[simp] theorem CB_COL_KIND3_hi : CB_COL_KIND3.hi = 7 := rfl
@[simp] theorem CB_COL_KIND3_lo : CB_COL_KIND3.lo = 6 := rfl
@[simp] theorem CB_COL_KIND2_reg : CB_COL_KIND2.reg = .CB_COL := rfl
@[simp] theorem CB_COL_KIND2_hi : CB_COL_KIND2.hi = 5 := rfl
@[simp] theorem CB_COL_KIND2_lo : CB_COL_KIND2.lo = 4 := rfl
@[simp] theorem CB_COL_KIND1_reg : CB_COL_KIND1.reg = .CB_COL := rfl
@[simp] theorem CB_COL_KIND1_hi : CB_COL_KIND1.hi = 3 := rfl
@[simp] theorem CB_COL_KIND1_lo : CB_COL_KIND1.lo = 2 := rfl
@[simp] theorem CB_COL_KIND0_reg : CB_COL_KIND0.reg = .CB_COL := rfl
@[simp] theorem CB_COL_KIND0_hi : CB_COL_KIND0.hi = 1 := rfl
@[simp] theorem CB_COL_KIND0_lo : CB_COL_KIND0.lo = 0 := rfl
@[simp] theorem CB_BUF_CFG_TYPE_reg : CB_BUF_CFG_TYPE.reg = .CB_BUF_CFG := rfl
@[simp] theorem CB_BUF_CFG_TYPE_hi : CB_BUF_CFG_TYPE.hi = 31 := rfl
@[simp] theorem CB_BUF_CFG_TYPE_lo : CB_BUF_CFG_TYPE.lo = 30 := rfl
@[simp] theorem CB_BUF_CFG_SCHED_reg : CB_BUF_CFG_SCHED.reg = .CB_BUF_CFG := rfl
@[simp] theorem CB_BUF_CFG_SCHED_hi : CB_BUF_CFG_SCHED.hi = 29 := rfl
@[simp] theorem CB_BUF_CFG_SCHED_lo : CB_BUF_CFG_SCHED.lo = 29 := rfl
@[simp] theorem CB_BUF_CFG_REP_reg : CB_BUF_CFG_REP.reg = .CB_BUF_CFG := rfl
@[simp] theorem CB_BUF_CFG_REP_hi : CB_BUF_CFG_REP.hi = 28 := rfl
@[simp] theorem CB_BUF_CFG_REP_lo : CB_BUF_CFG_REP.lo = 26 := rfl
@[simp] theorem CB_BUF_CFG_OFS_reg : CB_BUF_CFG_OFS.reg = .CB_BUF_CFG := rfl
@[simp] theorem CB_BUF_CFG_OFS_hi : CB_BUF_CFG_OFS.hi = 25 := rfl
@[simp] theorem CB_BUF_CFG_OFS_lo : CB_BUF_CFG_OFS.lo = 22 := rfl
@[simp] theorem CB_BUF_CFG_CSTEP_reg : CB_BUF_CFG_CSTEP.reg = .CB_BUF_CFG := rfl
@[simp] theorem CB_BUF_CFG_CSTEP_hi : CB_BUF_CFG_CSTEP.hi = 21 := rfl
@[simp] theorem CB_BUF_CFG_CSTEP_lo : CB_BUF_CFG_CSTEP.lo = 19 := rfl
@[simp] theorem CB_BUF_CFG_COL_reg : CB_BUF_CFG_COL.reg = .CB_BUF_CFG := rfl
@[simp] theorem CB_BUF_CFG_COL_hi : CB_BUF_CFG_COL.hi = 18 := rfl
@[simp] theorem CB_BUF_CFG_COL_lo : CB_BUF_CFG_COL.lo = 13 := rfl
@[simp] theorem CB_BUF_CFG_DLC_reg : CB_BUF_CFG_DLC.reg = .CB_BUF_CFG := rfl
@[simp] theorem CB_BUF_CFG_DLC_hi : CB_BUF_CFG_DLC.hi = 12 := rfl
@[simp] theorem CB_BUF_CFG_DLC_lo : CB_BUF_CFG_DLC.lo = 9 := rfl
@[simp] theorem CB_BUF_CFG_DOFS_reg : CB_BUF_CFG_DOFS.reg = .CB_BUF_CFG := rfl
@[simp] theorem CB_BUF_CFG_DOFS_hi : CB_BUF_CFG_DOFS.hi = 8 := rfl
@[simp] theorem CB_BUF_CFG_DOFS_lo : CB_BUF_CFG_DOFS.lo = 0 := rfl
@[simp] theorem CB_BUF_ID_IDE_reg : CB_BUF_ID_IDE.reg = .CB_BUF_ID := rfl
@[simp] theorem CB_BUF_ID_IDE_hi : CB_BUF_ID_IDE.hi = 31 := rfl
@[simp] theorem CB_BUF_ID_IDE_lo : CB_BUF_ID_IDE.lo = 31 := rfl
@[simp] theorem CB_BUF_ID_FDF_reg : CB_BUF_ID_FDF.reg = .CB_BUF_ID := rfl
@[simp] theorem CB_BUF_ID_FDF_hi : CB_BUF_ID_FDF.hi = 30 := rfl
@[simp] theorem CB_BUF_ID_FDF_lo : CB_BUF_ID_FDF.lo = 30 := rfl
@[simp] theorem CB_BUF_ID_BRS_reg : CB_BUF_ID_BRS.reg = .CB_BUF_ID := rfl
@[simp] theorem CB_BUF_ID_BRS_hi : CB_BUF_ID_BRS.hi = 29 := rfl
@[simp] theorem CB_BUF_ID_BRS_lo : CB_BUF_ID_BRS.lo = 29 := rfl
@[simp] theorem CB_BUF_ID_ID_reg : CB_BUF_ID_ID.reg = .CB_BUF_ID := rfl
@[simp] theorem CB_BUF_ID_ID_hi : CB_BUF_ID_ID.hi = 28 := rfl
@[simp] theorem CB_BUF_ID_ID_lo : CB_BUF_ID_ID.lo = 0 := rfl
@[simp] theorem CB_BUF_STAT_FRAME_reg : CB_BUF_STAT_FRAME.reg = .CB_BUF_STAT := rfl
@[simp] theorem CB_BUF_STAT_FRAME_hi : CB_BUF_STAT_FRAME.hi = 31 := rfl
@[simp] theorem CB_BUF_STAT_FRAME_lo : CB_BUF_STAT_FRAME.lo = 16 := rfl
@[simp] theorem CB_BUF_STAT_NEWDAT_reg : CB_BUF_STAT_NEWDAT.reg = .CB_BUF_STAT := rfl
@[simp] theorem CB_BUF_STAT_NEWDAT_hi : CB_BUF_STAT_NEWDAT.hi = 15 := rfl
@[simp] theorem CB_BUF_STAT_NEWDAT_lo : CB_BUF_STAT_NEWDAT.lo = 15 := rfl
@[simp] theorem CB_BUF_STAT_MSGLOST_reg : CB_BUF_STAT_MSGLOST.reg = .CB_BUF_STAT := rfl
@[simp] theorem CB_BUF_STAT_MSGLOST_hi : CB_BUF_STAT_MSGLOST.hi = 14 := rfl
@[simp] theorem CB_BUF_STAT_MSGLOST_lo : CB_BUF_STAT_MSGLOST.lo = 14 := rfl
@[simp] theorem CB_BUF_STAT_OVSZ_reg : CB_BUF_STAT_OVSZ.reg = .CB_BUF_STAT := rfl
@[simp] theorem CB_BUF_STAT_OVSZ_hi : CB_BUF_STAT_OVSZ.hi = 13 := rfl
@[simp] theorem CB_BUF_STAT_OVSZ_lo : CB_BUF_STAT_OVSZ.lo = 13 := rfl
@[simp] theorem CB_BUF_STAT_STALE_reg : CB_BUF_STAT_STALE.reg = .CB_BUF_STAT := rfl
@[simp] theorem CB_BUF_STAT_STALE_hi : CB_BUF_STAT_STALE.hi = 12 := rfl
@[simp] theorem CB_BUF_STAT_STALE_lo : CB_BUF_STAT_STALE.lo = 12 := rfl
@[simp] theorem CB_BUF_STAT_MISS_reg : CB_BUF_STAT_MISS.reg = .CB_BUF_STAT := rfl
@[simp] theorem CB_BUF_STAT_MISS_hi : CB_BUF_STAT_MISS.hi = 11 := rfl
@[simp] theorem CB_BUF_STAT_MISS_lo : CB_BUF_STAT_MISS.lo = 11 := rfl
@[simp] theorem CB_BUF_STAT_TXFAIL_reg : CB_BUF_STAT_TXFAIL.reg = .CB_BUF_STAT := rfl
@[simp] theorem CB_BUF_STAT_TXFAIL_hi : CB_BUF_STAT_TXFAIL.hi = 10 := rfl
@[simp] theorem CB_BUF_STAT_TXFAIL_lo : CB_BUF_STAT_TXFAIL.lo = 10 := rfl
@[simp] theorem CB_BUF_STAT_ARMED_reg : CB_BUF_STAT_ARMED.reg = .CB_BUF_STAT := rfl
@[simp] theorem CB_BUF_STAT_ARMED_hi : CB_BUF_STAT_ARMED.hi = 9 := rfl
@[simp] theorem CB_BUF_STAT_ARMED_lo : CB_BUF_STAT_ARMED.lo = 9 := rfl
@[simp] theorem CB_BUF_STAT_TXRQ_reg : CB_BUF_STAT_TXRQ.reg = .CB_BUF_STAT := rfl
@[simp] theorem CB_BUF_STAT_TXRQ_hi : CB_BUF_STAT_TXRQ.hi = 8 := rfl
@[simp] theorem CB_BUF_STAT_TXRQ_lo : CB_BUF_STAT_TXRQ.lo = 8 := rfl
@[simp] theorem CB_BUF_STAT_RXDLC_reg : CB_BUF_STAT_RXDLC.reg = .CB_BUF_STAT := rfl
@[simp] theorem CB_BUF_STAT_RXDLC_hi : CB_BUF_STAT_RXDLC.hi = 7 := rfl
@[simp] theorem CB_BUF_STAT_RXDLC_lo : CB_BUF_STAT_RXDLC.lo = 4 := rfl
@[simp] theorem CB_BUF_STAT_ESI_reg : CB_BUF_STAT_ESI.reg = .CB_BUF_STAT := rfl
@[simp] theorem CB_BUF_STAT_ESI_hi : CB_BUF_STAT_ESI.hi = 3 := rfl
@[simp] theorem CB_BUF_STAT_ESI_lo : CB_BUF_STAT_ESI.lo = 3 := rfl
@[simp] theorem CB_BUF_STAT_RXFD_reg : CB_BUF_STAT_RXFD.reg = .CB_BUF_STAT := rfl
@[simp] theorem CB_BUF_STAT_RXFD_hi : CB_BUF_STAT_RXFD.hi = 2 := rfl
@[simp] theorem CB_BUF_STAT_RXFD_lo : CB_BUF_STAT_RXFD.lo = 2 := rfl
@[simp] theorem CB_DATA_reg : CB_DATA.reg = .CB_DATA := rfl
@[simp] theorem CB_DATA_hi : CB_DATA.hi = 31 := rfl
@[simp] theorem CB_DATA_lo : CB_DATA.lo = 0 := rfl
@[simp] theorem AQ_CTL_CLRCNT_reg : AQ_CTL_CLRCNT.reg = .AQ_CTL := rfl
@[simp] theorem AQ_CTL_CLRCNT_hi : AQ_CTL_CLRCNT.hi = 0 := rfl
@[simp] theorem AQ_CTL_CLRCNT_lo : AQ_CTL_CLRCNT.lo = 0 := rfl
@[simp] theorem AQ_STAT_CFGID_reg : AQ_STAT_CFGID.reg = .AQ_STAT := rfl
@[simp] theorem AQ_STAT_CFGID_hi : AQ_STAT_CFGID.hi = 31 := rfl
@[simp] theorem AQ_STAT_CFGID_lo : AQ_STAT_CFGID.lo = 16 := rfl
@[simp] theorem AQ_STAT_ACTIVE_reg : AQ_STAT_ACTIVE.reg = .AQ_STAT := rfl
@[simp] theorem AQ_STAT_ACTIVE_hi : AQ_STAT_ACTIVE.hi = 11 := rfl
@[simp] theorem AQ_STAT_ACTIVE_lo : AQ_STAT_ACTIVE.lo = 8 := rfl
@[simp] theorem AQ_STAT_PEND_reg : AQ_STAT_PEND.reg = .AQ_STAT := rfl
@[simp] theorem AQ_STAT_PEND_hi : AQ_STAT_PEND.hi = 7 := rfl
@[simp] theorem AQ_STAT_PEND_lo : AQ_STAT_PEND.lo = 7 := rfl
@[simp] theorem AQ_STAT_QFULL_reg : AQ_STAT_QFULL.reg = .AQ_STAT := rfl
@[simp] theorem AQ_STAT_QFULL_hi : AQ_STAT_QFULL.hi = 6 := rfl
@[simp] theorem AQ_STAT_QFULL_lo : AQ_STAT_QFULL.lo = 6 := rfl
@[simp] theorem AQ_STAT_GAPANY_reg : AQ_STAT_GAPANY.reg = .AQ_STAT := rfl
@[simp] theorem AQ_STAT_GAPANY_hi : AQ_STAT_GAPANY.hi = 5 := rfl
@[simp] theorem AQ_STAT_GAPANY_lo : AQ_STAT_GAPANY.lo = 5 := rfl
@[simp] theorem AQ_STAT_RUN_reg : AQ_STAT_RUN.reg = .AQ_STAT := rfl
@[simp] theorem AQ_STAT_RUN_hi : AQ_STAT_RUN.hi = 0 := rfl
@[simp] theorem AQ_STAT_RUN_lo : AQ_STAT_RUN.lo = 0 := rfl
@[simp] theorem AQ_SEQ_reg : AQ_SEQ.reg = .AQ_SEQ := rfl
@[simp] theorem AQ_SEQ_hi : AQ_SEQ.hi = 31 := rfl
@[simp] theorem AQ_SEQ_lo : AQ_SEQ.lo = 0 := rfl
@[simp] theorem AQ_QUEUE_PEAK_reg : AQ_QUEUE_PEAK.reg = .AQ_QUEUE := rfl
@[simp] theorem AQ_QUEUE_PEAK_hi : AQ_QUEUE_PEAK.hi = 31 := rfl
@[simp] theorem AQ_QUEUE_PEAK_lo : AQ_QUEUE_PEAK.lo = 16 := rfl
@[simp] theorem AQ_QUEUE_DEPTH_reg : AQ_QUEUE_DEPTH.reg = .AQ_QUEUE := rfl
@[simp] theorem AQ_QUEUE_DEPTH_hi : AQ_QUEUE_DEPTH.hi = 15 := rfl
@[simp] theorem AQ_QUEUE_DEPTH_lo : AQ_QUEUE_DEPTH.lo = 0 := rfl
@[simp] theorem AQ_WIN_SLOTS_reg : AQ_WIN_SLOTS.reg = .AQ_WIN := rfl
@[simp] theorem AQ_WIN_SLOTS_hi : AQ_WIN_SLOTS.hi = 31 := rfl
@[simp] theorem AQ_WIN_SLOTS_lo : AQ_WIN_SLOTS.lo = 16 := rfl
@[simp] theorem AQ_WIN_INGOTS_reg : AQ_WIN_INGOTS.reg = .AQ_WIN := rfl
@[simp] theorem AQ_WIN_INGOTS_hi : AQ_WIN_INGOTS.hi = 15 := rfl
@[simp] theorem AQ_WIN_INGOTS_lo : AQ_WIN_INGOTS.lo = 0 := rfl
@[simp] theorem AQ_STM_STAT_LOST_reg : AQ_STM_STAT_LOST.reg = .AQ_STM_STAT := rfl
@[simp] theorem AQ_STM_STAT_LOST_hi : AQ_STM_STAT_LOST.hi = 31 := rfl
@[simp] theorem AQ_STM_STAT_LOST_lo : AQ_STM_STAT_LOST.lo = 16 := rfl
@[simp] theorem AQ_STM_STAT_MDROP_reg : AQ_STM_STAT_MDROP.reg = .AQ_STM_STAT := rfl
@[simp] theorem AQ_STM_STAT_MDROP_hi : AQ_STM_STAT_MDROP.hi = 15 := rfl
@[simp] theorem AQ_STM_STAT_MDROP_lo : AQ_STM_STAT_MDROP.lo = 8 := rfl
@[simp] theorem AQ_STM_STAT_MWAIT_reg : AQ_STM_STAT_MWAIT.reg = .AQ_STM_STAT := rfl
@[simp] theorem AQ_STM_STAT_MWAIT_hi : AQ_STM_STAT_MWAIT.hi = 7 := rfl
@[simp] theorem AQ_STM_STAT_MWAIT_lo : AQ_STM_STAT_MWAIT.lo = 0 := rfl
@[simp] theorem AQ_TRG_STAT_COUNT_reg : AQ_TRG_STAT_COUNT.reg = .AQ_TRG_STAT := rfl
@[simp] theorem AQ_TRG_STAT_COUNT_hi : AQ_TRG_STAT_COUNT.hi = 31 := rfl
@[simp] theorem AQ_TRG_STAT_COUNT_lo : AQ_TRG_STAT_COUNT.lo = 16 := rfl
@[simp] theorem AQ_TRG_STAT_ARMED_reg : AQ_TRG_STAT_ARMED.reg = .AQ_TRG_STAT := rfl
@[simp] theorem AQ_TRG_STAT_ARMED_hi : AQ_TRG_STAT_ARMED.hi = 0 := rfl
@[simp] theorem AQ_TRG_STAT_ARMED_lo : AQ_TRG_STAT_ARMED.lo = 0 := rfl
@[simp] theorem AQ_STM_CFG_AGE_reg : AQ_STM_CFG_AGE.reg = .AQ_STM_CFG := rfl
@[simp] theorem AQ_STM_CFG_AGE_hi : AQ_STM_CFG_AGE.hi = 31 := rfl
@[simp] theorem AQ_STM_CFG_AGE_lo : AQ_STM_CFG_AGE.lo = 16 := rfl
@[simp] theorem AQ_STM_CFG_TRGMASK_reg : AQ_STM_CFG_TRGMASK.reg = .AQ_STM_CFG := rfl
@[simp] theorem AQ_STM_CFG_TRGMASK_hi : AQ_STM_CFG_TRGMASK.hi = 15 := rfl
@[simp] theorem AQ_STM_CFG_TRGMASK_lo : AQ_STM_CFG_TRGMASK.lo = 8 := rfl
@[simp] theorem AQ_STM_CFG_EN_reg : AQ_STM_CFG_EN.reg = .AQ_STM_CFG := rfl
@[simp] theorem AQ_STM_CFG_EN_hi : AQ_STM_CFG_EN.hi = 7 := rfl
@[simp] theorem AQ_STM_CFG_EN_lo : AQ_STM_CFG_EN.lo = 7 := rfl
@[simp] theorem AQ_STM_CFG_NSRC_reg : AQ_STM_CFG_NSRC.reg = .AQ_STM_CFG := rfl
@[simp] theorem AQ_STM_CFG_NSRC_hi : AQ_STM_CFG_NSRC.hi = 6 := rfl
@[simp] theorem AQ_STM_CFG_NSRC_lo : AQ_STM_CFG_NSRC.lo = 0 := rfl
@[simp] theorem AQ_SRC_ID_reg : AQ_SRC_ID.reg = .AQ_SRC := rfl
@[simp] theorem AQ_SRC_ID_hi : AQ_SRC_ID.hi = 31 := rfl
@[simp] theorem AQ_SRC_ID_lo : AQ_SRC_ID.lo = 16 := rfl
@[simp] theorem AQ_SRC_KIND_reg : AQ_SRC_KIND.reg = .AQ_SRC := rfl
@[simp] theorem AQ_SRC_KIND_hi : AQ_SRC_KIND.hi = 13 := rfl
@[simp] theorem AQ_SRC_KIND_lo : AQ_SRC_KIND.lo = 12 := rfl
@[simp] theorem AQ_SRC_DLOG_reg : AQ_SRC_DLOG.reg = .AQ_SRC := rfl
@[simp] theorem AQ_SRC_DLOG_hi : AQ_SRC_DLOG.hi = 11 := rfl
@[simp] theorem AQ_SRC_DLOG_lo : AQ_SRC_DLOG.lo = 8 := rfl
@[simp] theorem AQ_SRC_SAMP_reg : AQ_SRC_SAMP.reg = .AQ_SRC := rfl
@[simp] theorem AQ_SRC_SAMP_hi : AQ_SRC_SAMP.hi = 4 := rfl
@[simp] theorem AQ_SRC_SAMP_lo : AQ_SRC_SAMP.lo = 0 := rfl
@[simp] theorem AQ_SRCPH_PH_reg : AQ_SRCPH_PH.reg = .AQ_SRCPH := rfl
@[simp] theorem AQ_SRCPH_PH_hi : AQ_SRCPH_PH.hi = 9 := rfl
@[simp] theorem AQ_SRCPH_PH_lo : AQ_SRCPH_PH.lo = 0 := rfl
@[simp] theorem AQ_TRG_CFG_CELL_reg : AQ_TRG_CFG_CELL.reg = .AQ_TRG_CFG := rfl
@[simp] theorem AQ_TRG_CFG_CELL_hi : AQ_TRG_CFG_CELL.hi = 31 := rfl
@[simp] theorem AQ_TRG_CFG_CELL_lo : AQ_TRG_CFG_CELL.lo = 16 := rfl
@[simp] theorem AQ_TRG_CFG_AUTO_reg : AQ_TRG_CFG_AUTO.reg = .AQ_TRG_CFG := rfl
@[simp] theorem AQ_TRG_CFG_AUTO_hi : AQ_TRG_CFG_AUTO.hi = 11 := rfl
@[simp] theorem AQ_TRG_CFG_AUTO_lo : AQ_TRG_CFG_AUTO.lo = 11 := rfl
@[simp] theorem AQ_TRG_CFG_COND_reg : AQ_TRG_CFG_COND.reg = .AQ_TRG_CFG := rfl
@[simp] theorem AQ_TRG_CFG_COND_hi : AQ_TRG_CFG_COND.hi = 10 := rfl
@[simp] theorem AQ_TRG_CFG_COND_lo : AQ_TRG_CFG_COND.lo = 8 := rfl
@[simp] theorem AQ_TRG_LVL_reg : AQ_TRG_LVL.reg = .AQ_TRG_LVL := rfl
@[simp] theorem AQ_TRG_LVL_hi : AQ_TRG_LVL.hi = 31 := rfl
@[simp] theorem AQ_TRG_LVL_lo : AQ_TRG_LVL.lo = 0 := rfl
@[simp] theorem AQ_TRG_HYS_reg : AQ_TRG_HYS.reg = .AQ_TRG_HYS := rfl
@[simp] theorem AQ_TRG_HYS_hi : AQ_TRG_HYS.hi = 31 := rfl
@[simp] theorem AQ_TRG_HYS_lo : AQ_TRG_HYS.lo = 0 := rfl
@[simp] theorem AQ_TRG_TIM_TMO_reg : AQ_TRG_TIM_TMO.reg = .AQ_TRG_TIM := rfl
@[simp] theorem AQ_TRG_TIM_TMO_hi : AQ_TRG_TIM_TMO.hi = 31 := rfl
@[simp] theorem AQ_TRG_TIM_TMO_lo : AQ_TRG_TIM_TMO.lo = 16 := rfl
@[simp] theorem AQ_TRG_TIM_HOLD_reg : AQ_TRG_TIM_HOLD.reg = .AQ_TRG_TIM := rfl
@[simp] theorem AQ_TRG_TIM_HOLD_hi : AQ_TRG_TIM_HOLD.hi = 15 := rfl
@[simp] theorem AQ_TRG_TIM_HOLD_lo : AQ_TRG_TIM_HOLD.lo = 0 := rfl
@[simp] theorem EV_CFG_RATE_reg : EV_CFG_RATE.reg = .EV_CFG := rfl
@[simp] theorem EV_CFG_RATE_hi : EV_CFG_RATE.hi = 7 := rfl
@[simp] theorem EV_CFG_RATE_lo : EV_CFG_RATE.lo = 0 := rfl
@[simp] theorem EV_STAT_FULL_reg : EV_STAT_FULL.reg = .EV_STAT := rfl
@[simp] theorem EV_STAT_FULL_hi : EV_STAT_FULL.hi = 31 := rfl
@[simp] theorem EV_STAT_FULL_lo : EV_STAT_FULL.lo = 31 := rfl
@[simp] theorem EV_STAT_FULLP_reg : EV_STAT_FULLP.reg = .EV_STAT := rfl
@[simp] theorem EV_STAT_FULLP_hi : EV_STAT_FULLP.hi = 30 := rfl
@[simp] theorem EV_STAT_FULLP_lo : EV_STAT_FULLP.lo = 30 := rfl
@[simp] theorem EV_STAT_COUNT_reg : EV_STAT_COUNT.reg = .EV_STAT := rfl
@[simp] theorem EV_STAT_COUNT_hi : EV_STAT_COUNT.hi = 14 := rfl
@[simp] theorem EV_STAT_COUNT_lo : EV_STAT_COUNT.lo = 0 := rfl
@[simp] theorem EV_LOST_reg : EV_LOST.reg = .EV_LOST := rfl
@[simp] theorem EV_LOST_hi : EV_LOST.hi = 31 := rfl
@[simp] theorem EV_LOST_lo : EV_LOST.lo = 0 := rfl
@[simp] theorem EV_LOSTP_reg : EV_LOSTP.reg = .EV_LOSTP := rfl
@[simp] theorem EV_LOSTP_hi : EV_LOSTP.hi = 31 := rfl
@[simp] theorem EV_LOSTP_lo : EV_LOSTP.lo = 0 := rfl
@[simp] theorem EV_CURSOR_CURSOR_reg : EV_CURSOR_CURSOR.reg = .EV_CURSOR := rfl
@[simp] theorem EV_CURSOR_CURSOR_hi : EV_CURSOR_CURSOR.hi = 14 := rfl
@[simp] theorem EV_CURSOR_CURSOR_lo : EV_CURSOR_CURSOR.lo = 0 := rfl
@[simp] theorem EV_WIN_reg : EV_WIN.reg = .EV_WIN := rfl
@[simp] theorem EV_WIN_hi : EV_WIN.hi = 31 := rfl
@[simp] theorem EV_WIN_lo : EV_WIN.lo = 0 := rfl
@[simp] theorem LG_STAT_CALVALID_reg : LG_STAT_CALVALID.reg = .LG_STAT := rfl
@[simp] theorem LG_STAT_CALVALID_hi : LG_STAT_CALVALID.hi = 31 := rfl
@[simp] theorem LG_STAT_CALVALID_lo : LG_STAT_CALVALID.lo = 31 := rfl
@[simp] theorem LG_STAT_CELLLOW_reg : LG_STAT_CELLLOW.reg = .LG_STAT := rfl
@[simp] theorem LG_STAT_CELLLOW_hi : LG_STAT_CELLLOW.hi = 30 := rfl
@[simp] theorem LG_STAT_CELLLOW_lo : LG_STAT_CELLLOW.lo = 30 := rfl
@[simp] theorem LG_STAT_DUE_reg : LG_STAT_DUE.reg = .LG_STAT := rfl
@[simp] theorem LG_STAT_DUE_hi : LG_STAT_DUE.hi = 29 := rfl
@[simp] theorem LG_STAT_DUE_lo : LG_STAT_DUE.lo = 29 := rfl
@[simp] theorem LG_STAT_OVERDUE_reg : LG_STAT_OVERDUE.reg = .LG_STAT := rfl
@[simp] theorem LG_STAT_OVERDUE_hi : LG_STAT_OVERDUE.hi = 28 := rfl
@[simp] theorem LG_STAT_OVERDUE_lo : LG_STAT_OVERDUE.lo = 28 := rfl
@[simp] theorem LG_STAT_MIRRERR_reg : LG_STAT_MIRRERR.reg = .LG_STAT := rfl
@[simp] theorem LG_STAT_MIRRERR_hi : LG_STAT_MIRRERR.hi = 27 := rfl
@[simp] theorem LG_STAT_MIRRERR_lo : LG_STAT_MIRRERR.lo = 27 := rfl
@[simp] theorem LG_STAT_RESTORED_reg : LG_STAT_RESTORED.reg = .LG_STAT := rfl
@[simp] theorem LG_STAT_RESTORED_hi : LG_STAT_RESTORED.hi = 26 := rfl
@[simp] theorem LG_STAT_RESTORED_lo : LG_STAT_RESTORED.lo = 26 := rfl
@[simp] theorem LG_STAT_MIRRAGE_reg : LG_STAT_MIRRAGE.reg = .LG_STAT := rfl
@[simp] theorem LG_STAT_MIRRAGE_hi : LG_STAT_MIRRAGE.hi = 15 := rfl
@[simp] theorem LG_STAT_MIRRAGE_lo : LG_STAT_MIRRAGE.lo = 0 := rfl
@[simp] theorem LG_CAL_LO_reg : LG_CAL_LO.reg = .LG_CAL_LO := rfl
@[simp] theorem LG_CAL_LO_hi : LG_CAL_LO.hi = 31 := rfl
@[simp] theorem LG_CAL_LO_lo : LG_CAL_LO.lo = 0 := rfl
@[simp] theorem LG_CAL_HI_reg : LG_CAL_HI.reg = .LG_CAL_HI := rfl
@[simp] theorem LG_CAL_HI_hi : LG_CAL_HI.hi = 31 := rfl
@[simp] theorem LG_CAL_HI_lo : LG_CAL_HI.lo = 0 := rfl
@[simp] theorem LG_INSP_LO_reg : LG_INSP_LO.reg = .LG_INSP_LO := rfl
@[simp] theorem LG_INSP_LO_hi : LG_INSP_LO.hi = 31 := rfl
@[simp] theorem LG_INSP_LO_lo : LG_INSP_LO.lo = 0 := rfl
@[simp] theorem LG_INSP_HI_reg : LG_INSP_HI.reg = .LG_INSP_HI := rfl
@[simp] theorem LG_INSP_HI_hi : LG_INSP_HI.hi = 31 := rfl
@[simp] theorem LG_INSP_HI_lo : LG_INSP_HI.lo = 0 := rfl
@[simp] theorem LG_CFG_WARN_reg : LG_CFG_WARN.reg = .LG_CFG := rfl
@[simp] theorem LG_CFG_WARN_hi : LG_CFG_WARN.hi = 15 := rfl
@[simp] theorem LG_CFG_WARN_lo : LG_CFG_WARN.lo = 0 := rfl
@[simp] theorem LG_MIRROR_reg : LG_MIRROR.reg = .LG_MIRROR := rfl
@[simp] theorem LG_MIRROR_hi : LG_MIRROR.hi = 31 := rfl
@[simp] theorem LG_MIRROR_lo : LG_MIRROR.lo = 0 := rfl
@[simp] theorem LG_WEAR_WEAR_reg : LG_WEAR_WEAR.reg = .LG_WEAR := rfl
@[simp] theorem LG_WEAR_WEAR_hi : LG_WEAR_WEAR.hi = 15 := rfl
@[simp] theorem LG_WEAR_WEAR_lo : LG_WEAR_WEAR.lo = 0 := rfl
@[simp] theorem LG_CNT_LO_reg : LG_CNT_LO.reg = .LG_CNT_LO := rfl
@[simp] theorem LG_CNT_LO_hi : LG_CNT_LO.hi = 31 := rfl
@[simp] theorem LG_CNT_LO_lo : LG_CNT_LO.lo = 0 := rfl
@[simp] theorem LG_CNT_HI_reg : LG_CNT_HI.reg = .LG_CNT_HI := rfl
@[simp] theorem LG_CNT_HI_hi : LG_CNT_HI.hi = 31 := rfl
@[simp] theorem LG_CNT_HI_lo : LG_CNT_HI.lo = 0 := rfl
@[simp] theorem ZL_CFG_SESSTMO_reg : ZL_CFG_SESSTMO.reg = .ZL_CFG := rfl
@[simp] theorem ZL_CFG_SESSTMO_hi : ZL_CFG_SESSTMO.hi = 15 := rfl
@[simp] theorem ZL_CFG_SESSTMO_lo : ZL_CFG_SESSTMO.lo = 0 := rfl
@[simp] theorem ZL_STAT_JOINED_reg : ZL_STAT_JOINED.reg = .ZL_STAT := rfl
@[simp] theorem ZL_STAT_JOINED_hi : ZL_STAT_JOINED.hi = 31 := rfl
@[simp] theorem ZL_STAT_JOINED_lo : ZL_STAT_JOINED.lo = 31 := rfl
@[simp] theorem ZL_STAT_WRAP_reg : ZL_STAT_WRAP.reg = .ZL_STAT := rfl
@[simp] theorem ZL_STAT_WRAP_hi : ZL_STAT_WRAP.hi = 30 := rfl
@[simp] theorem ZL_STAT_WRAP_lo : ZL_STAT_WRAP.lo = 30 := rfl
@[simp] theorem ZL_STAT_WRAPDIR_reg : ZL_STAT_WRAPDIR.reg = .ZL_STAT := rfl
@[simp] theorem ZL_STAT_WRAPDIR_hi : ZL_STAT_WRAPDIR.hi = 29 := rfl
@[simp] theorem ZL_STAT_WRAPDIR_lo : ZL_STAT_WRAPDIR.lo = 29 := rfl
@[simp] theorem ZL_STAT_DUP_reg : ZL_STAT_DUP.reg = .ZL_STAT := rfl
@[simp] theorem ZL_STAT_DUP_hi : ZL_STAT_DUP.hi = 28 := rfl
@[simp] theorem ZL_STAT_DUP_lo : ZL_STAT_DUP.lo = 28 := rfl
@[simp] theorem ZL_STAT_TVALID_reg : ZL_STAT_TVALID.reg = .ZL_STAT := rfl
@[simp] theorem ZL_STAT_TVALID_hi : ZL_STAT_TVALID.hi = 27 := rfl
@[simp] theorem ZL_STAT_TVALID_lo : ZL_STAT_TVALID.lo = 27 := rfl
@[simp] theorem ZL_STAT_PORTA_reg : ZL_STAT_PORTA.reg = .ZL_STAT := rfl
@[simp] theorem ZL_STAT_PORTA_hi : ZL_STAT_PORTA.hi = 26 := rfl
@[simp] theorem ZL_STAT_PORTA_lo : ZL_STAT_PORTA.lo = 26 := rfl
@[simp] theorem ZL_STAT_PORTB_reg : ZL_STAT_PORTB.reg = .ZL_STAT := rfl
@[simp] theorem ZL_STAT_PORTB_hi : ZL_STAT_PORTB.hi = 25 := rfl
@[simp] theorem ZL_STAT_PORTB_lo : ZL_STAT_PORTB.lo = 25 := rfl
@[simp] theorem ZL_STAT_GROUP_reg : ZL_STAT_GROUP.reg = .ZL_STAT := rfl
@[simp] theorem ZL_STAT_GROUP_hi : ZL_STAT_GROUP.hi = 24 := rfl
@[simp] theorem ZL_STAT_GROUP_lo : ZL_STAT_GROUP.lo = 24 := rfl
@[simp] theorem ZL_STAT_NSESS_reg : ZL_STAT_NSESS.reg = .ZL_STAT := rfl
@[simp] theorem ZL_STAT_NSESS_hi : ZL_STAT_NSESS.hi = 5 := rfl
@[simp] theorem ZL_STAT_NSESS_lo : ZL_STAT_NSESS.lo = 0 := rfl
@[simp] theorem ZL_TIMING_HTMIN_reg : ZL_TIMING_HTMIN.reg = .ZL_TIMING := rfl
@[simp] theorem ZL_TIMING_HTMIN_hi : ZL_TIMING_HTMIN.hi = 31 := rfl
@[simp] theorem ZL_TIMING_HTMIN_lo : ZL_TIMING_HTMIN.lo = 16 := rfl
@[simp] theorem ZL_TIMING_SHARE_reg : ZL_TIMING_SHARE.reg = .ZL_TIMING := rfl
@[simp] theorem ZL_TIMING_SHARE_hi : ZL_TIMING_SHARE.hi = 15 := rfl
@[simp] theorem ZL_TIMING_SHARE_lo : ZL_TIMING_SHARE.lo = 8 := rfl
@[simp] theorem ZL_TIMING_RDLY_reg : ZL_TIMING_RDLY.reg = .ZL_TIMING := rfl
@[simp] theorem ZL_TIMING_RDLY_hi : ZL_TIMING_RDLY.hi = 7 := rfl
@[simp] theorem ZL_TIMING_RDLY_lo : ZL_TIMING_RDLY.lo = 0 := rfl
@[simp] theorem ZL_CYCLE_reg : ZL_CYCLE.reg = .ZL_CYCLE := rfl
@[simp] theorem ZL_CYCLE_hi : ZL_CYCLE.hi = 31 := rfl
@[simp] theorem ZL_CYCLE_lo : ZL_CYCLE.lo = 0 := rfl
@[simp] theorem ZL_SYST_LO_reg : ZL_SYST_LO.reg = .ZL_SYST_LO := rfl
@[simp] theorem ZL_SYST_LO_hi : ZL_SYST_LO.hi = 31 := rfl
@[simp] theorem ZL_SYST_LO_lo : ZL_SYST_LO.lo = 0 := rfl
@[simp] theorem ZL_SYST_HI_reg : ZL_SYST_HI.reg = .ZL_SYST_HI := rfl
@[simp] theorem ZL_SYST_HI_hi : ZL_SYST_HI.hi = 31 := rfl
@[simp] theorem ZL_SYST_HI_lo : ZL_SYST_HI.lo = 0 := rfl
@[simp] theorem ZL_DLY_DB_reg : ZL_DLY_DB.reg = .ZL_DLY := rfl
@[simp] theorem ZL_DLY_DB_hi : ZL_DLY_DB.hi = 31 := rfl
@[simp] theorem ZL_DLY_DB_lo : ZL_DLY_DB.lo = 16 := rfl
@[simp] theorem ZL_DLY_DA_reg : ZL_DLY_DA.reg = .ZL_DLY := rfl
@[simp] theorem ZL_DLY_DA_hi : ZL_DLY_DA.hi = 15 := rfl
@[simp] theorem ZL_DLY_DA_lo : ZL_DLY_DA.lo = 0 := rfl
@[simp] theorem ZL_PORT_LOCK_reg : ZL_PORT_LOCK.reg = .ZL_PORT := rfl
@[simp] theorem ZL_PORT_LOCK_hi : ZL_PORT_LOCK.hi = 31 := rfl
@[simp] theorem ZL_PORT_LOCK_lo : ZL_PORT_LOCK.lo = 31 := rfl
@[simp] theorem ZL_PORT_BEACON_reg : ZL_PORT_BEACON.reg = .ZL_PORT := rfl
@[simp] theorem ZL_PORT_BEACON_hi : ZL_PORT_BEACON.hi = 30 := rfl
@[simp] theorem ZL_PORT_BEACON_lo : ZL_PORT_BEACON.lo = 30 := rfl
@[simp] theorem ZL_PORT_CRCERR_reg : ZL_PORT_CRCERR.reg = .ZL_PORT := rfl
@[simp] theorem ZL_PORT_CRCERR_hi : ZL_PORT_CRCERR.hi = 15 := rfl
@[simp] theorem ZL_PORT_CRCERR_lo : ZL_PORT_CRCERR.lo = 0 := rfl
@[simp] theorem ZL_DN_DUPREQ_reg : ZL_DN_DUPREQ.reg = .ZL_DN := rfl
@[simp] theorem ZL_DN_DUPREQ_hi : ZL_DN_DUPREQ.hi = 31 := rfl
@[simp] theorem ZL_DN_DUPREQ_lo : ZL_DN_DUPREQ.lo = 16 := rfl
@[simp] theorem ZL_DN_BADPKT_reg : ZL_DN_BADPKT.reg = .ZL_DN := rfl
@[simp] theorem ZL_DN_BADPKT_hi : ZL_DN_BADPKT.hi = 15 := rfl
@[simp] theorem ZL_DN_BADPKT_lo : ZL_DN_BADPKT.lo = 0 := rfl
@[simp] theorem ZL_UP_RESENT_reg : ZL_UP_RESENT.reg = .ZL_UP := rfl
@[simp] theorem ZL_UP_RESENT_hi : ZL_UP_RESENT.hi = 31 := rfl
@[simp] theorem ZL_UP_RESENT_lo : ZL_UP_RESENT.lo = 16 := rfl
@[simp] theorem ZL_UP_ABANDON_reg : ZL_UP_ABANDON.reg = .ZL_UP := rfl
@[simp] theorem ZL_UP_ABANDON_hi : ZL_UP_ABANDON.hi = 15 := rfl
@[simp] theorem ZL_UP_ABANDON_lo : ZL_UP_ABANDON.lo = 0 := rfl
@[simp] theorem ZL_CACHE_HITS_reg : ZL_CACHE_HITS.reg = .ZL_CACHE := rfl
@[simp] theorem ZL_CACHE_HITS_hi : ZL_CACHE_HITS.hi = 31 := rfl
@[simp] theorem ZL_CACHE_HITS_lo : ZL_CACHE_HITS.lo = 16 := rfl
@[simp] theorem ZL_CACHE_ENTRIES_reg : ZL_CACHE_ENTRIES.reg = .ZL_CACHE := rfl
@[simp] theorem ZL_CACHE_ENTRIES_hi : ZL_CACHE_ENTRIES.hi = 8 := rfl
@[simp] theorem ZL_CACHE_ENTRIES_lo : ZL_CACHE_ENTRIES.lo = 0 := rfl
@[simp] theorem ZL_SESS_VALID_reg : ZL_SESS_VALID.reg = .ZL_SESS := rfl
@[simp] theorem ZL_SESS_VALID_hi : ZL_SESS_VALID.hi = 31 := rfl
@[simp] theorem ZL_SESS_VALID_lo : ZL_SESS_VALID.lo = 31 := rfl
@[simp] theorem ZL_SESS_ROLE_reg : ZL_SESS_ROLE.reg = .ZL_SESS := rfl
@[simp] theorem ZL_SESS_ROLE_hi : ZL_SESS_ROLE.hi = 30 := rfl
@[simp] theorem ZL_SESS_ROLE_lo : ZL_SESS_ROLE.lo = 29 := rfl
@[simp] theorem ZL_SESS_IDLE_reg : ZL_SESS_IDLE.reg = .ZL_SESS := rfl
@[simp] theorem ZL_SESS_IDLE_hi : ZL_SESS_IDLE.hi = 28 := rfl
@[simp] theorem ZL_SESS_IDLE_lo : ZL_SESS_IDLE.lo = 16 := rfl
@[simp] theorem ZL_SESS_SRC_reg : ZL_SESS_SRC.reg = .ZL_SESS := rfl
@[simp] theorem ZL_SESS_SRC_hi : ZL_SESS_SRC.hi = 15 := rfl
@[simp] theorem ZL_SESS_SRC_lo : ZL_SESS_SRC.lo = 0 := rfl
@[simp] theorem UPD_STAT_STATE_reg : UPD_STAT_STATE.reg = .UPD_STAT := rfl
@[simp] theorem UPD_STAT_STATE_hi : UPD_STAT_STATE.hi = 31 := rfl
@[simp] theorem UPD_STAT_STATE_lo : UPD_STAT_STATE.lo = 28 := rfl
@[simp] theorem UPD_STAT_SAFETY_reg : UPD_STAT_SAFETY.reg = .UPD_STAT := rfl
@[simp] theorem UPD_STAT_SAFETY_hi : UPD_STAT_SAFETY.hi = 27 := rfl
@[simp] theorem UPD_STAT_SAFETY_lo : UPD_STAT_SAFETY.lo = 27 := rfl
@[simp] theorem UPD_STAT_CFGONLY_reg : UPD_STAT_CFGONLY.reg = .UPD_STAT := rfl
@[simp] theorem UPD_STAT_CFGONLY_hi : UPD_STAT_CFGONLY.hi = 26 := rfl
@[simp] theorem UPD_STAT_CFGONLY_lo : UPD_STAT_CFGONLY.lo = 26 := rfl
@[simp] theorem UPD_STAT_ROLLBACK_reg : UPD_STAT_ROLLBACK.reg = .UPD_STAT := rfl
@[simp] theorem UPD_STAT_ROLLBACK_hi : UPD_STAT_ROLLBACK.hi = 25 := rfl
@[simp] theorem UPD_STAT_ROLLBACK_lo : UPD_STAT_ROLLBACK.lo = 25 := rfl
@[simp] theorem UPD_STAT_INPLACE_reg : UPD_STAT_INPLACE.reg = .UPD_STAT := rfl
@[simp] theorem UPD_STAT_INPLACE_hi : UPD_STAT_INPLACE.hi = 24 := rfl
@[simp] theorem UPD_STAT_INPLACE_lo : UPD_STAT_INPLACE.lo = 24 := rfl
@[simp] theorem UPD_STAT_ACTCNT_reg : UPD_STAT_ACTCNT.reg = .UPD_STAT := rfl
@[simp] theorem UPD_STAT_ACTCNT_hi : UPD_STAT_ACTCNT.hi = 15 := rfl
@[simp] theorem UPD_STAT_ACTCNT_lo : UPD_STAT_ACTCNT.lo = 0 := rfl
@[simp] theorem UPD_MANID_reg : UPD_MANID.reg = .UPD_MANID := rfl
@[simp] theorem UPD_MANID_hi : UPD_MANID.hi = 31 := rfl
@[simp] theorem UPD_MANID_lo : UPD_MANID.lo = 0 := rfl
@[simp] theorem UPD_VER_FLAGS_reg : UPD_VER_FLAGS.reg = .UPD_VER := rfl
@[simp] theorem UPD_VER_FLAGS_hi : UPD_VER_FLAGS.hi = 31 := rfl
@[simp] theorem UPD_VER_FLAGS_lo : UPD_VER_FLAGS.lo = 24 := rfl
@[simp] theorem UPD_VER_MAJOR_reg : UPD_VER_MAJOR.reg = .UPD_VER := rfl
@[simp] theorem UPD_VER_MAJOR_hi : UPD_VER_MAJOR.hi = 23 := rfl
@[simp] theorem UPD_VER_MAJOR_lo : UPD_VER_MAJOR.lo = 16 := rfl
@[simp] theorem UPD_VER_MINOR_reg : UPD_VER_MINOR.reg = .UPD_VER := rfl
@[simp] theorem UPD_VER_MINOR_hi : UPD_VER_MINOR.hi = 15 := rfl
@[simp] theorem UPD_VER_MINOR_lo : UPD_VER_MINOR.lo = 8 := rfl
@[simp] theorem UPD_VER_BUILD_reg : UPD_VER_BUILD.reg = .UPD_VER := rfl
@[simp] theorem UPD_VER_BUILD_hi : UPD_VER_BUILD.hi = 7 := rfl
@[simp] theorem UPD_VER_BUILD_lo : UPD_VER_BUILD.lo = 0 := rfl
@[simp] theorem UPD_FRAME_LO_reg : UPD_FRAME_LO.reg = .UPD_FRAME_LO := rfl
@[simp] theorem UPD_FRAME_LO_hi : UPD_FRAME_LO.hi = 31 := rfl
@[simp] theorem UPD_FRAME_LO_lo : UPD_FRAME_LO.lo = 0 := rfl
@[simp] theorem UPD_FRAME_HI_reg : UPD_FRAME_HI.reg = .UPD_FRAME_HI := rfl
@[simp] theorem UPD_FRAME_HI_hi : UPD_FRAME_HI.hi = 31 := rfl
@[simp] theorem UPD_FRAME_HI_lo : UPD_FRAME_HI.lo = 0 := rfl
@[simp] theorem UPD_REQ_ENG_reg : UPD_REQ_ENG.reg = .UPD_REQ := rfl
@[simp] theorem UPD_REQ_ENG_hi : UPD_REQ_ENG.hi = 18 := rfl
@[simp] theorem UPD_REQ_ENG_lo : UPD_REQ_ENG.lo = 0 := rfl
@[simp] theorem UPD_READY_ENG_reg : UPD_READY_ENG.reg = .UPD_READY := rfl
@[simp] theorem UPD_READY_ENG_hi : UPD_READY_ENG.hi = 18 := rfl
@[simp] theorem UPD_READY_ENG_lo : UPD_READY_ENG.lo = 0 := rfl
@[simp] theorem UPD_SHADOW_ENG_reg : UPD_SHADOW_ENG.reg = .UPD_SHADOW := rfl
@[simp] theorem UPD_SHADOW_ENG_hi : UPD_SHADOW_ENG.hi = 18 := rfl
@[simp] theorem UPD_SHADOW_ENG_lo : UPD_SHADOW_ENG.lo = 0 := rfl
@[simp] theorem UPD_PROG_reg : UPD_PROG.reg = .UPD_PROG := rfl
@[simp] theorem UPD_PROG_hi : UPD_PROG.hi = 31 := rfl
@[simp] theorem UPD_PROG_lo : UPD_PROG.lo = 0 := rfl
@[simp] theorem UPD_ERR_CODE_reg : UPD_ERR_CODE.reg = .UPD_ERR := rfl
@[simp] theorem UPD_ERR_CODE_hi : UPD_ERR_CODE.hi = 31 := rfl
@[simp] theorem UPD_ERR_CODE_lo : UPD_ERR_CODE.lo = 24 := rfl
@[simp] theorem UPD_ERR_WHERE_reg : UPD_ERR_WHERE.reg = .UPD_ERR := rfl
@[simp] theorem UPD_ERR_WHERE_hi : UPD_ERR_WHERE.hi = 23 := rfl
@[simp] theorem UPD_ERR_WHERE_lo : UPD_ERR_WHERE.lo = 16 := rfl
@[simp] theorem UPD_BOOT_ASTATE_reg : UPD_BOOT_ASTATE.reg = .UPD_BOOT := rfl
@[simp] theorem UPD_BOOT_ASTATE_hi : UPD_BOOT_ASTATE.hi = 31 := rfl
@[simp] theorem UPD_BOOT_ASTATE_lo : UPD_BOOT_ASTATE.lo = 30 := rfl
@[simp] theorem UPD_BOOT_BSTATE_reg : UPD_BOOT_BSTATE.reg = .UPD_BOOT := rfl
@[simp] theorem UPD_BOOT_BSTATE_hi : UPD_BOOT_BSTATE.hi = 29 := rfl
@[simp] theorem UPD_BOOT_BSTATE_lo : UPD_BOOT_BSTATE.lo = 28 := rfl
@[simp] theorem UPD_BOOT_FELLBACK_reg : UPD_BOOT_FELLBACK.reg = .UPD_BOOT := rfl
@[simp] theorem UPD_BOOT_FELLBACK_hi : UPD_BOOT_FELLBACK.hi = 27 := rfl
@[simp] theorem UPD_BOOT_FELLBACK_lo : UPD_BOOT_FELLBACK.lo = 27 := rfl
@[simp] theorem UPD_LASTF_LO_reg : UPD_LASTF_LO.reg = .UPD_LASTF_LO := rfl
@[simp] theorem UPD_LASTF_LO_hi : UPD_LASTF_LO.hi = 31 := rfl
@[simp] theorem UPD_LASTF_LO_lo : UPD_LASTF_LO.lo = 0 := rfl
@[simp] theorem UPD_LASTF_HI_reg : UPD_LASTF_HI.reg = .UPD_LASTF_HI := rfl
@[simp] theorem UPD_LASTF_HI_hi : UPD_LASTF_HI.hi = 31 := rfl
@[simp] theorem UPD_LASTF_HI_lo : UPD_LASTF_HI.lo = 0 := rfl
@[simp] theorem PRM_CELL_reg : PRM_CELL.reg = .PRM_CELL := rfl
@[simp] theorem PRM_CELL_hi : PRM_CELL.hi = 31 := rfl
@[simp] theorem PRM_CELL_lo : PRM_CELL.lo = 0 := rfl

end Sys2Proof.Machine.F
end

