-- ==== Sys2Proof/Laws/Memory.lean ====
section
/-! SUPPORT. Frame memory: reading after writing, and the canonical form that every memory operation keeps. -/

namespace Sys2Proof.Machine

open Sys2Proof

theorem Mem.byte_setByte_same (k : Mem) (o : Nat) (b : Byte) : (k.setByte o b).byte o = b := by
  show smGet memDefault (smPut memDefault k.cells (k.phys o) b) (k.phys o) = b
  simp

theorem Mem.byte_setByte_ne (k : Mem) {o o' : Nat} (b : Byte) (h : k.phys o' ≠ k.phys o) :
    (k.setByte o b).byte o' = k.byte o' :=
  smGet_smPut_ne _ _ _ h

theorem Mem.setByte_wf (k : Mem) (o : Nat) (b : Byte) (h : k.wf = true) : (k.setByte o b).wf = true :=
  smWf_smPut _ _ _ _ h

theorem Mem.store_wf (k : Mem) (o : Nat) (bs : List Byte) (h : k.wf = true) : (k.store o bs).wf = true := by
  induction bs generalizing k o with
  | nil => exact h
  | cons b bs ih => exact ih _ _ (k.setByte_wf o b h)

theorem Mem.store_remap (k : Mem) (o : Nat) (bs : List Byte) : (k.store o bs).remap = k.remap := by
  induction bs generalizing k o with
  | nil => rfl
  | cons b bs ih => exact (ih _ _).trans rfl

theorem Mem.phys_remap {k k' : Mem} (h : k'.remap = k.remap) (o : Nat) : k'.phys o = k.phys o := by
  simp [Mem.phys, h]

theorem Mem.store_phys (k : Mem) (o o' : Nat) (bs : List Byte) : (k.store o bs).phys o' = k.phys o' :=
  Mem.phys_remap (k.store_remap o bs) o'

/-- A byte whose storage no stored byte uses reads as before. -/
theorem Mem.byte_store_ne (k : Mem) (o o' : Nat) (bs : List Byte) (h : ∀ i, i < bs.length → k.phys o' ≠ k.phys (o + i)) :
    (k.store o bs).byte o' = k.byte o' := by
  induction bs generalizing k o with
  | nil => rfl
  | cons b bs ih =>
    have h0 : k.phys o' ≠ k.phys o := h 0 (by simp)
    have hs : ∀ x, (k.setByte o b).phys x = k.phys x := fun x => rfl
    rw [Mem.store, ih, k.byte_setByte_ne b h0]
    intro i hi
    rw [hs, hs]
    have := h (i + 1) (by simp; omega)
    rwa [show o + 1 + i = o + (i + 1) by omega]

@[simp] theorem Mem.setMark_wf (k : Mem) (w v : Nat) : (k.setMark w v).wf = k.wf := rfl
@[simp] theorem Mem.setMark_byte (k : Mem) (w v o : Nat) : (k.setMark w v).byte o = k.byte o := rfl
@[simp] theorem Mem.upset_wf (k : Mem) (u : Nat × Nat) : (k.upset u).wf = k.wf := rfl

theorem foldl_wf {α : Type} (f : Mem → α → Mem) (hf : ∀ k a, (f k a).wf = k.wf) (l : List α) (k : Mem) :
    (l.foldl f k).wf = k.wf := by
  induction l generalizing k with
  | nil => rfl
  | cons a l ih => rw [List.foldl_cons, ih, hf]

section
variable (m : Mach)

@[simp] theorem Mach.errAddr_mem (b kind req low : Nat) (sp : Bool) : (m.errAddr b kind req low sp).mem = m.mem := by
  rw [Mach.errAddr, apply_ite Mach.mem, Mach.sw_mem, Mach.noteSet_mem, ite_self]

theorem Mach.rowGraft_wf (row : Nat) : (m.rowGraft row).mem.wf = m.mem.wf := by
  unfold Mach.rowGraft
  dsimp only
  split
  · rfl
  · split
    · simp
    · split
      · simp
      · simp [Mem.wf]

theorem Mach.corrected_wf (req off : Nat) : (m.corrected req off).mem.wf = m.mem.wf := by
  unfold Mach.corrected
  dsimp only
  split
  · rw [Mach.rowGraft_wf]; simp [Mem.wf, Mem.setMark]
  · simp [Mem.wf, Mem.setMark]

theorem Mach.doubled_wf (req off : Nat) : (m.doubled req off).mem.wf = m.mem.wf := by
  unfold Mach.doubled
  dsimp only
  rw [Mach.rowGraft_wf]; simp

theorem Mach.readWord_wf (req off : Nat) : (m.readWord req off).1.mem.wf = m.mem.wf := by
  unfold Mach.readWord
  dsimp only
  split
  · rfl
  · split
    · exact m.corrected_wf req off
    · exact m.doubled_wf req off

theorem Mach.writeWord_wf (req off : Nat) (bs : List Byte) (h : m.mem.wf = true) :
    (m.writeWord req off bs).1.mem.wf = true := by
  have hr := m.readWord_wf req off
  unfold Mach.writeWord
  dsimp only
  split
  · exact m.mem.store_wf off bs h
  · split
    · exact Mem.store_wf _ _ _ (hr.trans h)
    · exact hr.trans h

/-- Every beat of a burst keeps the canonical form. -/
theorem performBeats_wf (r : BurstReq) (l : List (Nat × Nat)) (acc : List Byte) (h : m.mem.wf = true) :
    (performBeats m r l acc).1.mem.wf = true := by
  induction l generalizing m acc with
  | nil => exact h
  | cons p l ih =>
    obtain ⟨off, n⟩ := p
    unfold performBeats
    by_cases hw : r.write = true
    · simp only [hw, if_true]
      have h1 := m.writeWord_wf r.req off (sliceB r.data (off - (r.addr - 0x20000000)) n) h
      split
      · exact ih _ _ h1
      · exact h1
    · have h1 : (m.readWord r.req off).1.mem.wf = true := (m.readWord_wf r.req off).trans h
      simp only [hw]
      change (if (m.readWord r.req off).2 = true then _ else _ : Mach × List Byte × Option Nat).1.mem.wf = true
      split
      · exact ih _ _ h1
      · exact h1

theorem Mach.mpuRecord_wf (n req addr : Nat) (w : Bool) : (m.mpuRecord n req addr w).mem.wf = m.mem.wf := by
  rw [Mach.mpuRecord, Mach.s_mem, Mach.sw_mem]
  rfl

/-- An MPU violation leaves what memory holds. -/
theorem Mach.mpuViol_wf (req addr : Nat) (w : Bool) : (m.mpuViol req addr w).mem.wf = m.mem.wf := by
  rw [Mach.mpuViol, Mach.raise_mem]
  have h : ((m.setBitW F.MEM_STAT_MPU_ANY).noteSet F.MEM_MPU_VIOL_VALID 0 0 0 (0, 0, 0, 0)).mem.wf = m.mem.wf := by simp
  generalize (m.setBitW F.MEM_STAT_MPU_ANY).noteSet F.MEM_MPU_VIOL_VALID 0 0 0 (0, 0, 0, 0) = x at h
  dsimp only
  split
  · rw [Mach.mpuRecord_wf, h]
  · split
    · rw [Mach.mpuRecord_wf, Mach.inc_mem, h]
    · rw [Mach.inc_mem, h]

/-- The outcome of an MPU violation leaves what memory holds. -/
theorem Mach.mpuFault_wf (r : BurstReq) : (m.mpuFault r).mem.wf = m.mem.wf := by
  rw [Mach.mpuFault]
  repeat' split
  · rfl
  · rfl
  · rfl
  · rfl
  · rfl
  · rw [Mach.dmaStop, Mach.s_mem, Mach.s_mem, Mach.s_mem]

theorem Mach.secondCopy_wf (r : BurstReq) (h : m.mem.wf = true) : (m.secondCopy r).mem.wf = true := by
  have h1 := performBeats_wf m { r with addr := r.alt, write := false } (burstBeats { r with addr := r.alt, write := false }) [] h
  unfold Mach.secondCopy
  dsimp only
  split
  · exact (m.mpuViol_wf _ _ _).trans h
  · split
    · exact h1
    · split
      · exact (Mach.mpuViol_wf _ _ _ _).trans h1
      · exact performBeats_wf _ _ _ _ h1

theorem Mach.dmaStop_wf (ch st addr : Nat) : (m.dmaStop ch st addr).mem.wf = m.mem.wf := by
  rw [Mach.dmaStop, Mach.s_mem, Mach.s_mem, Mach.s_mem]

theorem Mach.memFault_wf (r : BurstReq) (st addr : Nat) (h : m.mem.wf = true) : (m.memFault r st addr).mem.wf = true := by
  rw [Mach.memFault]
  by_cases h1 : r.req ≤ 1
  · rw [if_pos h1]; exact h
  rw [if_neg h1]
  by_cases h2 : r.req ≤ 16
  · rw [if_pos h2]
    by_cases h3 : r.state = true
    · rw [if_pos h3]
      by_cases h4 : r.alt ≠ 0 ∧ (!r.write) = true
      · rw [if_pos h4]; exact m.secondCopy_wf r h
      · rw [if_neg h4]; exact h
    · rw [if_neg h3]; exact h
  rw [if_neg h2]
  by_cases h3 : r.req = 17
  · rw [if_pos h3]; exact h
  rw [if_neg h3]
  by_cases h4 : r.req = 18
  · rw [if_pos h4]; exact h
  rw [if_neg h4]
  by_cases h5 : r.req = 19
  · rw [if_pos h5]; exact h
  rw [if_neg h5]
  exact (m.dmaStop_wf _ _ _).trans h

theorem Mach.runBurst_wf (r : BurstReq) (n : Nat) (h : m.mem.wf = true) : (m.runBurst r n).1.mem.wf = true := by
  have h1 := performBeats_wf m r ((burstBeats r).take n) [] h
  unfold Mach.runBurst
  generalize performBeats m r ((burstBeats r).take n) [] = p at h1
  obtain ⟨m1, data, bad⟩ := p
  have h2 : (if r.write = true then m1 else { m1 with mem := { m1.mem with rdata := data } }).mem.wf = true := by
    split
    · exact h1
    · exact h1
  cases bad with
  | none => exact h2
  | some off => exact Mach.memFault_wf _ _ _ _ h2

theorem Mach.beatTimeout_wf (r : BurstReq) (n : Nat) (h : m.mem.wf = true) : (m.beatTimeout r n).mem.wf = true := by
  have h1 := m.runBurst_wf r n h
  rw [Mach.beatTimeout]
  split
  · exact h
  · split
    · rw [Mach.mpuFault_wf, Mach.mpuViol_wf]; exact h
    · dsimp only
      split
      · exact h1
      · split
        · rw [Mach.rowGraft_wf]; simpa using h1
        · apply Mach.memFault_wf; simpa using h1

theorem Mach.grantTimeout_wf (r : BurstReq) (h : m.mem.wf = true) : (m.grantTimeout r).mem.wf = true := by
  unfold Mach.grantTimeout
  dsimp only
  apply Mach.memFault_wf
  simpa using h

theorem Mach.rowMended_wf (row : Nat) : (m.rowMended row).mem.wf = m.mem.wf :=
  each_keeps (fun x : Mach => x.mem.wf) _ _ _ (fun x a _ => by
    split
    · exact x.corrected_wf _ _
    · rfl)

theorem Mach.rowCopied_wf (row : Nat) (h : m.mem.wf = true) : (m.rowCopied row).mem.wf = true := by
  unfold Mach.rowCopied
  split
  · exact h
  · have h1 := (m.rowMended_wf row).trans h
    generalize m.rowMended row = x at h1
    dsimp only
    rw [Mach.raise_mem]
    refine (foldl_wf (fun (k : Mem) (e : Nat × Nat) => k.setMark (0x200000 / 8 + _ * 32 + e.1) e.2) (fun k e => rfl) _ _).trans ?_
    exact Mem.store_wf _ _ _ h1

end

/-- At reset memory lists nothing, in canonical form. -/
theorem reset_mem_wf : State.reset.m.mem.wf = true := by decide

end Sys2Proof.Machine
end

