-- ==== Sys2Proof/Laws/Parts.lean ====
section
/-! SUPPORT. The parts of the state that are kept by number: ports, terminals, controllers, channels, slots, axes and so on.
A part reads what was put there, the others are left. -/

namespace Sys2Proof.Machine

open Sys2Proof

theorem nth_setNth_same {α : Type} (d : α) (n : Nat) (l : List α) (k : Nat) (x : α) (h : k < n) : nth (setNth d n l k x) k d = x := by
  induction n generalizing l k with
  | zero => omega
  | succ n ih =>
    cases l <;> cases k <;> simp [setNth, nth]
    · exact ih _ _ (by omega)
    · exact ih _ _ (by omega)

theorem nth_setNth_ne {α : Type} (d : α) (n : Nat) (l : List α) (k j : Nat) (x : α) (h : j ≠ k) :
    nth (setNth d n l k x) j d = nth l j d := by
  induction n generalizing l k j with
  | zero => rfl
  | succ n ih =>
    cases l <;> cases k <;> cases j <;> simp_all [setNth, nth]

section
variable (m : Mach) (k : Nat) (x : Ep)
theorem Mach.port_setPort_same (h : k < 8) : (m.setPort k x).port k = x := nth_setNth_same _ _ _ _ _ h
theorem Mach.port_setPort_ne {j : Nat} (h : j ≠ k) : (m.setPort k x).port j = m.port j := nth_setNth_ne _ _ _ _ _ _ h
@[simp] theorem Mach.setPort_word (n : Nat) : (m.setPort k x).word n = m.word n := rfl
@[simp] theorem Mach.setPort_w (r : R) (i j : Nat) : (m.setPort k x).w r i j = m.w r i j := rfl
@[simp] theorem Mach.setPort_g (f : Fd) (i j : Nat) : (m.setPort k x).g f i j = m.g f i j := rfl
@[simp] theorem Mach.setPort_b (f : Fd) (i j : Nat) : (m.setPort k x).b f i j = m.b f i j := rfl
@[simp] theorem Mach.setPort_reg : (m.setPort k x).reg = m.reg := rfl
@[simp] theorem Mach.setPort_free : (m.setPort k x).free = m.free := rfl
@[simp] theorem Mach.setPort_cyc : (m.setPort k x).cyc = m.cyc := rfl
@[simp] theorem Mach.setPort_phase : (m.setPort k x).phase = m.phase := rfl
@[simp] theorem Mach.setPort_fclk : (m.setPort k x).fclk = m.fclk := rfl
@[simp] theorem Mach.setPort_lock : (m.setPort k x).lock = m.lock := rfl
@[simp] theorem Mach.setPort_ovrAt : (m.setPort k x).ovrAt = m.ovrAt := rfl
@[simp] theorem Mach.setPort_failing : (m.setPort k x).failing = m.failing := rfl
@[simp] theorem Mach.setPort_latches : (m.setPort k x).latches = m.latches := rfl
@[simp] theorem Mach.setPort_held : (m.setPort k x).held = m.held := rfl
@[simp] theorem Mach.setPort_viols : (m.setPort k x).viols = m.viols := rfl
@[simp] theorem Mach.setPort_violAt : (m.setPort k x).violAt = m.violAt := rfl
@[simp] theorem Mach.setPort_sets : (m.setPort k x).sets = m.sets := rfl
@[simp] theorem Mach.setPort_roleFails : (m.setPort k x).roleFails = m.roleFails := rfl
@[simp] theorem Mach.setPort_lockouts : (m.setPort k x).lockouts = m.lockouts := rfl
@[simp] theorem Mach.setPort_bar : (m.setPort k x).bar = m.bar := rfl
@[simp] theorem Mach.setPort_mem : (m.setPort k x).mem = m.mem := rfl
@[simp] theorem Mach.setPort_trm : (m.setPort k x).trm = m.trm := rfl
@[simp] theorem Mach.setPort_log : (m.setPort k x).log = m.log := rfl
@[simp] theorem Mach.setPort_led : (m.setPort k x).led = m.led := rfl
@[simp] theorem Mach.setPort_adc : (m.setPort k x).adc = m.adc := rfl
@[simp] theorem Mach.setPort_pwm : (m.setPort k x).pwm = m.pwm := rfl
@[simp] theorem Mach.setPort_cells : (m.setPort k x).cells = m.cells := rfl
@[simp] theorem Mach.setPort_fresh : (m.setPort k x).fresh = m.fresh := rfl
@[simp] theorem Mach.setPort_slots : (m.setPort k x).slots = m.slots := rfl
@[simp] theorem Mach.setPort_axes : (m.setPort k x).axes = m.axes := rfl
@[simp] theorem Mach.setPort_stage : (m.setPort k x).stage = m.stage := rfl
@[simp] theorem Mach.setPort_snap : (m.setPort k x).snap = m.snap := rfl
@[simp] theorem Mach.setPort_scan : (m.setPort k x).scan = m.scan := rfl
@[simp] theorem Mach.setPort_bus : (m.setPort k x).bus = m.bus := rfl
@[simp] theorem Mach.setPort_key : (m.setPort k x).key = m.key := rfl
@[simp] theorem Mach.setPort_gen : (m.setPort k x).gen = m.gen := rfl
@[simp] theorem Mach.setPort_dx : (m.setPort k x).dx = m.dx := rfl
@[simp] theorem Mach.setPort_link : (m.setPort k x).link = m.link := rfl
@[simp] theorem Mach.setPort_sp : (m.setPort k x).sp = m.sp := rfl
@[simp] theorem Mach.setPort_spSnap : (m.setPort k x).spSnap = m.spSnap := rfl
@[simp] theorem Mach.setPort_spAfter : (m.setPort k x).spAfter = m.spAfter := rfl
@[simp] theorem Mach.setPort_spr : (m.setPort k x).spr = m.spr := rfl
@[simp] theorem Mach.setPort_pow : (m.setPort k x).pow = m.pow := rfl
@[simp] theorem Mach.setPort_upd : (m.setPort k x).upd = m.upd := rfl
@[simp] theorem Mach.setPort_aq : (m.setPort k x).aq = m.aq := rfl
@[simp] theorem Mach.setPort_aqSnap : (m.setPort k x).aqSnap = m.aqSnap := rfl
end

section
variable (m : Mach) (k : Nat) (x : Term)
theorem Mach.term_setTerm_same (h : k < 96) : (m.setTerm k x).term k = x := nth_setNth_same _ _ _ _ _ h
theorem Mach.term_setTerm_ne {j : Nat} (h : j ≠ k) : (m.setTerm k x).term j = m.term j := nth_setNth_ne _ _ _ _ _ _ h
@[simp] theorem Mach.setTerm_word (n : Nat) : (m.setTerm k x).word n = m.word n := rfl
@[simp] theorem Mach.setTerm_w (r : R) (i j : Nat) : (m.setTerm k x).w r i j = m.w r i j := rfl
@[simp] theorem Mach.setTerm_g (f : Fd) (i j : Nat) : (m.setTerm k x).g f i j = m.g f i j := rfl
@[simp] theorem Mach.setTerm_b (f : Fd) (i j : Nat) : (m.setTerm k x).b f i j = m.b f i j := rfl
@[simp] theorem Mach.setTerm_reg : (m.setTerm k x).reg = m.reg := rfl
@[simp] theorem Mach.setTerm_free : (m.setTerm k x).free = m.free := rfl
@[simp] theorem Mach.setTerm_cyc : (m.setTerm k x).cyc = m.cyc := rfl
@[simp] theorem Mach.setTerm_phase : (m.setTerm k x).phase = m.phase := rfl
@[simp] theorem Mach.setTerm_fclk : (m.setTerm k x).fclk = m.fclk := rfl
@[simp] theorem Mach.setTerm_lock : (m.setTerm k x).lock = m.lock := rfl
@[simp] theorem Mach.setTerm_ovrAt : (m.setTerm k x).ovrAt = m.ovrAt := rfl
@[simp] theorem Mach.setTerm_failing : (m.setTerm k x).failing = m.failing := rfl
@[simp] theorem Mach.setTerm_latches : (m.setTerm k x).latches = m.latches := rfl
@[simp] theorem Mach.setTerm_held : (m.setTerm k x).held = m.held := rfl
@[simp] theorem Mach.setTerm_viols : (m.setTerm k x).viols = m.viols := rfl
@[simp] theorem Mach.setTerm_violAt : (m.setTerm k x).violAt = m.violAt := rfl
@[simp] theorem Mach.setTerm_sets : (m.setTerm k x).sets = m.sets := rfl
@[simp] theorem Mach.setTerm_roleFails : (m.setTerm k x).roleFails = m.roleFails := rfl
@[simp] theorem Mach.setTerm_lockouts : (m.setTerm k x).lockouts = m.lockouts := rfl
@[simp] theorem Mach.setTerm_bar : (m.setTerm k x).bar = m.bar := rfl
@[simp] theorem Mach.setTerm_mem : (m.setTerm k x).mem = m.mem := rfl
@[simp] theorem Mach.setTerm_log : (m.setTerm k x).log = m.log := rfl
@[simp] theorem Mach.setTerm_led : (m.setTerm k x).led = m.led := rfl
@[simp] theorem Mach.setTerm_adc : (m.setTerm k x).adc = m.adc := rfl
@[simp] theorem Mach.setTerm_ep : (m.setTerm k x).ep = m.ep := rfl
@[simp] theorem Mach.setTerm_pwm : (m.setTerm k x).pwm = m.pwm := rfl
@[simp] theorem Mach.setTerm_cells : (m.setTerm k x).cells = m.cells := rfl
@[simp] theorem Mach.setTerm_fresh : (m.setTerm k x).fresh = m.fresh := rfl
@[simp] theorem Mach.setTerm_slots : (m.setTerm k x).slots = m.slots := rfl
@[simp] theorem Mach.setTerm_axes : (m.setTerm k x).axes = m.axes := rfl
@[simp] theorem Mach.setTerm_stage : (m.setTerm k x).stage = m.stage := rfl
@[simp] theorem Mach.setTerm_snap : (m.setTerm k x).snap = m.snap := rfl
@[simp] theorem Mach.setTerm_scan : (m.setTerm k x).scan = m.scan := rfl
@[simp] theorem Mach.setTerm_bus : (m.setTerm k x).bus = m.bus := rfl
@[simp] theorem Mach.setTerm_key : (m.setTerm k x).key = m.key := rfl
@[simp] theorem Mach.setTerm_gen : (m.setTerm k x).gen = m.gen := rfl
@[simp] theorem Mach.setTerm_dx : (m.setTerm k x).dx = m.dx := rfl
@[simp] theorem Mach.setTerm_link : (m.setTerm k x).link = m.link := rfl
@[simp] theorem Mach.setTerm_sp : (m.setTerm k x).sp = m.sp := rfl
@[simp] theorem Mach.setTerm_spSnap : (m.setTerm k x).spSnap = m.spSnap := rfl
@[simp] theorem Mach.setTerm_spAfter : (m.setTerm k x).spAfter = m.spAfter := rfl
@[simp] theorem Mach.setTerm_spr : (m.setTerm k x).spr = m.spr := rfl
@[simp] theorem Mach.setTerm_pow : (m.setTerm k x).pow = m.pow := rfl
@[simp] theorem Mach.setTerm_upd : (m.setTerm k x).upd = m.upd := rfl
@[simp] theorem Mach.setTerm_aq : (m.setTerm k x).aq = m.aq := rfl
@[simp] theorem Mach.setTerm_aqSnap : (m.setTerm k x).aqSnap = m.aqSnap := rfl
end

section
variable (m : Mach) (k : Nat) (x : Bus)
theorem Mach.can_setCan_same (h : k < 4) : (m.setCan k x).can k = x := nth_setNth_same _ _ _ _ _ h
theorem Mach.can_setCan_ne {j : Nat} (h : j ≠ k) : (m.setCan k x).can j = m.can j := nth_setNth_ne _ _ _ _ _ _ h
@[simp] theorem Mach.setCan_word (n : Nat) : (m.setCan k x).word n = m.word n := rfl
@[simp] theorem Mach.setCan_w (r : R) (i j : Nat) : (m.setCan k x).w r i j = m.w r i j := rfl
@[simp] theorem Mach.setCan_g (f : Fd) (i j : Nat) : (m.setCan k x).g f i j = m.g f i j := rfl
@[simp] theorem Mach.setCan_b (f : Fd) (i j : Nat) : (m.setCan k x).b f i j = m.b f i j := rfl
@[simp] theorem Mach.setCan_reg : (m.setCan k x).reg = m.reg := rfl
@[simp] theorem Mach.setCan_free : (m.setCan k x).free = m.free := rfl
@[simp] theorem Mach.setCan_cyc : (m.setCan k x).cyc = m.cyc := rfl
@[simp] theorem Mach.setCan_phase : (m.setCan k x).phase = m.phase := rfl
@[simp] theorem Mach.setCan_fclk : (m.setCan k x).fclk = m.fclk := rfl
@[simp] theorem Mach.setCan_lock : (m.setCan k x).lock = m.lock := rfl
@[simp] theorem Mach.setCan_ovrAt : (m.setCan k x).ovrAt = m.ovrAt := rfl
@[simp] theorem Mach.setCan_failing : (m.setCan k x).failing = m.failing := rfl
@[simp] theorem Mach.setCan_latches : (m.setCan k x).latches = m.latches := rfl
@[simp] theorem Mach.setCan_held : (m.setCan k x).held = m.held := rfl
@[simp] theorem Mach.setCan_viols : (m.setCan k x).viols = m.viols := rfl
@[simp] theorem Mach.setCan_violAt : (m.setCan k x).violAt = m.violAt := rfl
@[simp] theorem Mach.setCan_sets : (m.setCan k x).sets = m.sets := rfl
@[simp] theorem Mach.setCan_roleFails : (m.setCan k x).roleFails = m.roleFails := rfl
@[simp] theorem Mach.setCan_lockouts : (m.setCan k x).lockouts = m.lockouts := rfl
@[simp] theorem Mach.setCan_bar : (m.setCan k x).bar = m.bar := rfl
@[simp] theorem Mach.setCan_mem : (m.setCan k x).mem = m.mem := rfl
@[simp] theorem Mach.setCan_trm : (m.setCan k x).trm = m.trm := rfl
@[simp] theorem Mach.setCan_log : (m.setCan k x).log = m.log := rfl
@[simp] theorem Mach.setCan_led : (m.setCan k x).led = m.led := rfl
@[simp] theorem Mach.setCan_adc : (m.setCan k x).adc = m.adc := rfl
@[simp] theorem Mach.setCan_ep : (m.setCan k x).ep = m.ep := rfl
@[simp] theorem Mach.setCan_pwm : (m.setCan k x).pwm = m.pwm := rfl
@[simp] theorem Mach.setCan_cells : (m.setCan k x).cells = m.cells := rfl
@[simp] theorem Mach.setCan_fresh : (m.setCan k x).fresh = m.fresh := rfl
@[simp] theorem Mach.setCan_slots : (m.setCan k x).slots = m.slots := rfl
@[simp] theorem Mach.setCan_axes : (m.setCan k x).axes = m.axes := rfl
@[simp] theorem Mach.setCan_stage : (m.setCan k x).stage = m.stage := rfl
@[simp] theorem Mach.setCan_snap : (m.setCan k x).snap = m.snap := rfl
@[simp] theorem Mach.setCan_scan : (m.setCan k x).scan = m.scan := rfl
@[simp] theorem Mach.setCan_key : (m.setCan k x).key = m.key := rfl
@[simp] theorem Mach.setCan_gen : (m.setCan k x).gen = m.gen := rfl
@[simp] theorem Mach.setCan_dx : (m.setCan k x).dx = m.dx := rfl
@[simp] theorem Mach.setCan_link : (m.setCan k x).link = m.link := rfl
@[simp] theorem Mach.setCan_sp : (m.setCan k x).sp = m.sp := rfl
@[simp] theorem Mach.setCan_spSnap : (m.setCan k x).spSnap = m.spSnap := rfl
@[simp] theorem Mach.setCan_spAfter : (m.setCan k x).spAfter = m.spAfter := rfl
@[simp] theorem Mach.setCan_spr : (m.setCan k x).spr = m.spr := rfl
@[simp] theorem Mach.setCan_pow : (m.setCan k x).pow = m.pow := rfl
@[simp] theorem Mach.setCan_upd : (m.setCan k x).upd = m.upd := rfl
@[simp] theorem Mach.setCan_aq : (m.setCan k x).aq = m.aq := rfl
@[simp] theorem Mach.setCan_aqSnap : (m.setCan k x).aqSnap = m.aqSnap := rfl
end

section
variable (m : Mach) (k : Nat) (x : Arb)
theorem Mach.arb_setArb_same (h : k < 4) : (m.setArb k x).arb k = x := nth_setNth_same _ _ _ _ _ h
theorem Mach.arb_setArb_ne {j : Nat} (h : j ≠ k) : (m.setArb k x).arb j = m.arb j := nth_setNth_ne _ _ _ _ _ _ h
@[simp] theorem Mach.setArb_word (n : Nat) : (m.setArb k x).word n = m.word n := rfl
@[simp] theorem Mach.setArb_w (r : R) (i j : Nat) : (m.setArb k x).w r i j = m.w r i j := rfl
@[simp] theorem Mach.setArb_g (f : Fd) (i j : Nat) : (m.setArb k x).g f i j = m.g f i j := rfl
@[simp] theorem Mach.setArb_b (f : Fd) (i j : Nat) : (m.setArb k x).b f i j = m.b f i j := rfl
@[simp] theorem Mach.setArb_reg : (m.setArb k x).reg = m.reg := rfl
@[simp] theorem Mach.setArb_free : (m.setArb k x).free = m.free := rfl
@[simp] theorem Mach.setArb_cyc : (m.setArb k x).cyc = m.cyc := rfl
@[simp] theorem Mach.setArb_phase : (m.setArb k x).phase = m.phase := rfl
@[simp] theorem Mach.setArb_fclk : (m.setArb k x).fclk = m.fclk := rfl
@[simp] theorem Mach.setArb_lock : (m.setArb k x).lock = m.lock := rfl
@[simp] theorem Mach.setArb_ovrAt : (m.setArb k x).ovrAt = m.ovrAt := rfl
@[simp] theorem Mach.setArb_failing : (m.setArb k x).failing = m.failing := rfl
@[simp] theorem Mach.setArb_latches : (m.setArb k x).latches = m.latches := rfl
@[simp] theorem Mach.setArb_held : (m.setArb k x).held = m.held := rfl
@[simp] theorem Mach.setArb_viols : (m.setArb k x).viols = m.viols := rfl
@[simp] theorem Mach.setArb_violAt : (m.setArb k x).violAt = m.violAt := rfl
@[simp] theorem Mach.setArb_sets : (m.setArb k x).sets = m.sets := rfl
@[simp] theorem Mach.setArb_roleFails : (m.setArb k x).roleFails = m.roleFails := rfl
@[simp] theorem Mach.setArb_lockouts : (m.setArb k x).lockouts = m.lockouts := rfl
@[simp] theorem Mach.setArb_bar : (m.setArb k x).bar = m.bar := rfl
@[simp] theorem Mach.setArb_trm : (m.setArb k x).trm = m.trm := rfl
@[simp] theorem Mach.setArb_log : (m.setArb k x).log = m.log := rfl
@[simp] theorem Mach.setArb_led : (m.setArb k x).led = m.led := rfl
@[simp] theorem Mach.setArb_adc : (m.setArb k x).adc = m.adc := rfl
@[simp] theorem Mach.setArb_ep : (m.setArb k x).ep = m.ep := rfl
@[simp] theorem Mach.setArb_pwm : (m.setArb k x).pwm = m.pwm := rfl
@[simp] theorem Mach.setArb_cells : (m.setArb k x).cells = m.cells := rfl
@[simp] theorem Mach.setArb_fresh : (m.setArb k x).fresh = m.fresh := rfl
@[simp] theorem Mach.setArb_slots : (m.setArb k x).slots = m.slots := rfl
@[simp] theorem Mach.setArb_axes : (m.setArb k x).axes = m.axes := rfl
@[simp] theorem Mach.setArb_stage : (m.setArb k x).stage = m.stage := rfl
@[simp] theorem Mach.setArb_snap : (m.setArb k x).snap = m.snap := rfl
@[simp] theorem Mach.setArb_scan : (m.setArb k x).scan = m.scan := rfl
@[simp] theorem Mach.setArb_bus : (m.setArb k x).bus = m.bus := rfl
@[simp] theorem Mach.setArb_key : (m.setArb k x).key = m.key := rfl
@[simp] theorem Mach.setArb_gen : (m.setArb k x).gen = m.gen := rfl
@[simp] theorem Mach.setArb_dx : (m.setArb k x).dx = m.dx := rfl
@[simp] theorem Mach.setArb_link : (m.setArb k x).link = m.link := rfl
@[simp] theorem Mach.setArb_sp : (m.setArb k x).sp = m.sp := rfl
@[simp] theorem Mach.setArb_spSnap : (m.setArb k x).spSnap = m.spSnap := rfl
@[simp] theorem Mach.setArb_spAfter : (m.setArb k x).spAfter = m.spAfter := rfl
@[simp] theorem Mach.setArb_spr : (m.setArb k x).spr = m.spr := rfl
@[simp] theorem Mach.setArb_pow : (m.setArb k x).pow = m.pow := rfl
@[simp] theorem Mach.setArb_upd : (m.setArb k x).upd = m.upd := rfl
@[simp] theorem Mach.setArb_aq : (m.setArb k x).aq = m.aq := rfl
@[simp] theorem Mach.setArb_aqSnap : (m.setArb k x).aqSnap = m.aqSnap := rfl
end

section
variable (m : Mach) (k : Nat) (x : Dma)
theorem Mach.dma_setDma_same (h : k < 32) : (m.setDma k x).dma k = x := nth_setNth_same _ _ _ _ _ h
theorem Mach.dma_setDma_ne {j : Nat} (h : j ≠ k) : (m.setDma k x).dma j = m.dma j := nth_setNth_ne _ _ _ _ _ _ h
@[simp] theorem Mach.setDma_word (n : Nat) : (m.setDma k x).word n = m.word n := rfl
@[simp] theorem Mach.setDma_w (r : R) (i j : Nat) : (m.setDma k x).w r i j = m.w r i j := rfl
@[simp] theorem Mach.setDma_g (f : Fd) (i j : Nat) : (m.setDma k x).g f i j = m.g f i j := rfl
@[simp] theorem Mach.setDma_b (f : Fd) (i j : Nat) : (m.setDma k x).b f i j = m.b f i j := rfl
@[simp] theorem Mach.setDma_reg : (m.setDma k x).reg = m.reg := rfl
@[simp] theorem Mach.setDma_free : (m.setDma k x).free = m.free := rfl
@[simp] theorem Mach.setDma_cyc : (m.setDma k x).cyc = m.cyc := rfl
@[simp] theorem Mach.setDma_phase : (m.setDma k x).phase = m.phase := rfl
@[simp] theorem Mach.setDma_fclk : (m.setDma k x).fclk = m.fclk := rfl
@[simp] theorem Mach.setDma_lock : (m.setDma k x).lock = m.lock := rfl
@[simp] theorem Mach.setDma_ovrAt : (m.setDma k x).ovrAt = m.ovrAt := rfl
@[simp] theorem Mach.setDma_failing : (m.setDma k x).failing = m.failing := rfl
@[simp] theorem Mach.setDma_latches : (m.setDma k x).latches = m.latches := rfl
@[simp] theorem Mach.setDma_held : (m.setDma k x).held = m.held := rfl
@[simp] theorem Mach.setDma_viols : (m.setDma k x).viols = m.viols := rfl
@[simp] theorem Mach.setDma_violAt : (m.setDma k x).violAt = m.violAt := rfl
@[simp] theorem Mach.setDma_sets : (m.setDma k x).sets = m.sets := rfl
@[simp] theorem Mach.setDma_roleFails : (m.setDma k x).roleFails = m.roleFails := rfl
@[simp] theorem Mach.setDma_lockouts : (m.setDma k x).lockouts = m.lockouts := rfl
@[simp] theorem Mach.setDma_bar : (m.setDma k x).bar = m.bar := rfl
@[simp] theorem Mach.setDma_trm : (m.setDma k x).trm = m.trm := rfl
@[simp] theorem Mach.setDma_log : (m.setDma k x).log = m.log := rfl
@[simp] theorem Mach.setDma_led : (m.setDma k x).led = m.led := rfl
@[simp] theorem Mach.setDma_adc : (m.setDma k x).adc = m.adc := rfl
@[simp] theorem Mach.setDma_ep : (m.setDma k x).ep = m.ep := rfl
@[simp] theorem Mach.setDma_pwm : (m.setDma k x).pwm = m.pwm := rfl
@[simp] theorem Mach.setDma_cells : (m.setDma k x).cells = m.cells := rfl
@[simp] theorem Mach.setDma_fresh : (m.setDma k x).fresh = m.fresh := rfl
@[simp] theorem Mach.setDma_slots : (m.setDma k x).slots = m.slots := rfl
@[simp] theorem Mach.setDma_axes : (m.setDma k x).axes = m.axes := rfl
@[simp] theorem Mach.setDma_stage : (m.setDma k x).stage = m.stage := rfl
@[simp] theorem Mach.setDma_snap : (m.setDma k x).snap = m.snap := rfl
@[simp] theorem Mach.setDma_scan : (m.setDma k x).scan = m.scan := rfl
@[simp] theorem Mach.setDma_bus : (m.setDma k x).bus = m.bus := rfl
@[simp] theorem Mach.setDma_key : (m.setDma k x).key = m.key := rfl
@[simp] theorem Mach.setDma_gen : (m.setDma k x).gen = m.gen := rfl
@[simp] theorem Mach.setDma_dx : (m.setDma k x).dx = m.dx := rfl
@[simp] theorem Mach.setDma_link : (m.setDma k x).link = m.link := rfl
@[simp] theorem Mach.setDma_sp : (m.setDma k x).sp = m.sp := rfl
@[simp] theorem Mach.setDma_spSnap : (m.setDma k x).spSnap = m.spSnap := rfl
@[simp] theorem Mach.setDma_spAfter : (m.setDma k x).spAfter = m.spAfter := rfl
@[simp] theorem Mach.setDma_spr : (m.setDma k x).spr = m.spr := rfl
@[simp] theorem Mach.setDma_pow : (m.setDma k x).pow = m.pow := rfl
@[simp] theorem Mach.setDma_upd : (m.setDma k x).upd = m.upd := rfl
@[simp] theorem Mach.setDma_aq : (m.setDma k x).aq = m.aq := rfl
@[simp] theorem Mach.setDma_aqSnap : (m.setDma k x).aqSnap = m.aqSnap := rfl
end

section
variable (m : Mach) (k : Nat) (x : Mon)
theorem Mach.mon_setMon_same (h : k < 8) : (m.setMon k x).mon k = x := nth_setNth_same _ _ _ _ _ h
theorem Mach.mon_setMon_ne {j : Nat} (h : j ≠ k) : (m.setMon k x).mon j = m.mon j := nth_setNth_ne _ _ _ _ _ _ h
@[simp] theorem Mach.setMon_word (n : Nat) : (m.setMon k x).word n = m.word n := rfl
@[simp] theorem Mach.setMon_w (r : R) (i j : Nat) : (m.setMon k x).w r i j = m.w r i j := rfl
@[simp] theorem Mach.setMon_g (f : Fd) (i j : Nat) : (m.setMon k x).g f i j = m.g f i j := rfl
@[simp] theorem Mach.setMon_b (f : Fd) (i j : Nat) : (m.setMon k x).b f i j = m.b f i j := rfl
@[simp] theorem Mach.setMon_reg : (m.setMon k x).reg = m.reg := rfl
@[simp] theorem Mach.setMon_free : (m.setMon k x).free = m.free := rfl
@[simp] theorem Mach.setMon_cyc : (m.setMon k x).cyc = m.cyc := rfl
@[simp] theorem Mach.setMon_phase : (m.setMon k x).phase = m.phase := rfl
@[simp] theorem Mach.setMon_fclk : (m.setMon k x).fclk = m.fclk := rfl
@[simp] theorem Mach.setMon_lock : (m.setMon k x).lock = m.lock := rfl
@[simp] theorem Mach.setMon_ovrAt : (m.setMon k x).ovrAt = m.ovrAt := rfl
@[simp] theorem Mach.setMon_failing : (m.setMon k x).failing = m.failing := rfl
@[simp] theorem Mach.setMon_latches : (m.setMon k x).latches = m.latches := rfl
@[simp] theorem Mach.setMon_held : (m.setMon k x).held = m.held := rfl
@[simp] theorem Mach.setMon_viols : (m.setMon k x).viols = m.viols := rfl
@[simp] theorem Mach.setMon_violAt : (m.setMon k x).violAt = m.violAt := rfl
@[simp] theorem Mach.setMon_sets : (m.setMon k x).sets = m.sets := rfl
@[simp] theorem Mach.setMon_roleFails : (m.setMon k x).roleFails = m.roleFails := rfl
@[simp] theorem Mach.setMon_lockouts : (m.setMon k x).lockouts = m.lockouts := rfl
@[simp] theorem Mach.setMon_bar : (m.setMon k x).bar = m.bar := rfl
@[simp] theorem Mach.setMon_mem : (m.setMon k x).mem = m.mem := rfl
@[simp] theorem Mach.setMon_trm : (m.setMon k x).trm = m.trm := rfl
@[simp] theorem Mach.setMon_log : (m.setMon k x).log = m.log := rfl
@[simp] theorem Mach.setMon_led : (m.setMon k x).led = m.led := rfl
@[simp] theorem Mach.setMon_adc : (m.setMon k x).adc = m.adc := rfl
@[simp] theorem Mach.setMon_ep : (m.setMon k x).ep = m.ep := rfl
@[simp] theorem Mach.setMon_pwm : (m.setMon k x).pwm = m.pwm := rfl
@[simp] theorem Mach.setMon_cells : (m.setMon k x).cells = m.cells := rfl
@[simp] theorem Mach.setMon_fresh : (m.setMon k x).fresh = m.fresh := rfl
@[simp] theorem Mach.setMon_slots : (m.setMon k x).slots = m.slots := rfl
@[simp] theorem Mach.setMon_axes : (m.setMon k x).axes = m.axes := rfl
@[simp] theorem Mach.setMon_stage : (m.setMon k x).stage = m.stage := rfl
@[simp] theorem Mach.setMon_snap : (m.setMon k x).snap = m.snap := rfl
@[simp] theorem Mach.setMon_scan : (m.setMon k x).scan = m.scan := rfl
@[simp] theorem Mach.setMon_bus : (m.setMon k x).bus = m.bus := rfl
@[simp] theorem Mach.setMon_key : (m.setMon k x).key = m.key := rfl
@[simp] theorem Mach.setMon_gen : (m.setMon k x).gen = m.gen := rfl
@[simp] theorem Mach.setMon_dx : (m.setMon k x).dx = m.dx := rfl
@[simp] theorem Mach.setMon_link : (m.setMon k x).link = m.link := rfl
@[simp] theorem Mach.setMon_spSnap : (m.setMon k x).spSnap = m.spSnap := rfl
@[simp] theorem Mach.setMon_spAfter : (m.setMon k x).spAfter = m.spAfter := rfl
@[simp] theorem Mach.setMon_spr : (m.setMon k x).spr = m.spr := rfl
@[simp] theorem Mach.setMon_pow : (m.setMon k x).pow = m.pow := rfl
@[simp] theorem Mach.setMon_upd : (m.setMon k x).upd = m.upd := rfl
@[simp] theorem Mach.setMon_aq : (m.setMon k x).aq = m.aq := rfl
@[simp] theorem Mach.setMon_aqSnap : (m.setMon k x).aqSnap = m.aqSnap := rfl
end

section
variable (m : Mach) (k : Nat) (x : FnS)
theorem Mach.fn_setFn_same (h : k < 32) : (m.setFn k x).fn k = x := nth_setNth_same _ _ _ _ _ h
theorem Mach.fn_setFn_ne {j : Nat} (h : j ≠ k) : (m.setFn k x).fn j = m.fn j := nth_setNth_ne _ _ _ _ _ _ h
@[simp] theorem Mach.setFn_word (n : Nat) : (m.setFn k x).word n = m.word n := rfl
@[simp] theorem Mach.setFn_w (r : R) (i j : Nat) : (m.setFn k x).w r i j = m.w r i j := rfl
@[simp] theorem Mach.setFn_g (f : Fd) (i j : Nat) : (m.setFn k x).g f i j = m.g f i j := rfl
@[simp] theorem Mach.setFn_b (f : Fd) (i j : Nat) : (m.setFn k x).b f i j = m.b f i j := rfl
@[simp] theorem Mach.setFn_reg : (m.setFn k x).reg = m.reg := rfl
@[simp] theorem Mach.setFn_free : (m.setFn k x).free = m.free := rfl
@[simp] theorem Mach.setFn_cyc : (m.setFn k x).cyc = m.cyc := rfl
@[simp] theorem Mach.setFn_phase : (m.setFn k x).phase = m.phase := rfl
@[simp] theorem Mach.setFn_fclk : (m.setFn k x).fclk = m.fclk := rfl
@[simp] theorem Mach.setFn_lock : (m.setFn k x).lock = m.lock := rfl
@[simp] theorem Mach.setFn_ovrAt : (m.setFn k x).ovrAt = m.ovrAt := rfl
@[simp] theorem Mach.setFn_failing : (m.setFn k x).failing = m.failing := rfl
@[simp] theorem Mach.setFn_latches : (m.setFn k x).latches = m.latches := rfl
@[simp] theorem Mach.setFn_held : (m.setFn k x).held = m.held := rfl
@[simp] theorem Mach.setFn_viols : (m.setFn k x).viols = m.viols := rfl
@[simp] theorem Mach.setFn_violAt : (m.setFn k x).violAt = m.violAt := rfl
@[simp] theorem Mach.setFn_sets : (m.setFn k x).sets = m.sets := rfl
@[simp] theorem Mach.setFn_roleFails : (m.setFn k x).roleFails = m.roleFails := rfl
@[simp] theorem Mach.setFn_lockouts : (m.setFn k x).lockouts = m.lockouts := rfl
@[simp] theorem Mach.setFn_bar : (m.setFn k x).bar = m.bar := rfl
@[simp] theorem Mach.setFn_mem : (m.setFn k x).mem = m.mem := rfl
@[simp] theorem Mach.setFn_trm : (m.setFn k x).trm = m.trm := rfl
@[simp] theorem Mach.setFn_log : (m.setFn k x).log = m.log := rfl
@[simp] theorem Mach.setFn_led : (m.setFn k x).led = m.led := rfl
@[simp] theorem Mach.setFn_adc : (m.setFn k x).adc = m.adc := rfl
@[simp] theorem Mach.setFn_ep : (m.setFn k x).ep = m.ep := rfl
@[simp] theorem Mach.setFn_pwm : (m.setFn k x).pwm = m.pwm := rfl
@[simp] theorem Mach.setFn_cells : (m.setFn k x).cells = m.cells := rfl
@[simp] theorem Mach.setFn_fresh : (m.setFn k x).fresh = m.fresh := rfl
@[simp] theorem Mach.setFn_slots : (m.setFn k x).slots = m.slots := rfl
@[simp] theorem Mach.setFn_axes : (m.setFn k x).axes = m.axes := rfl
@[simp] theorem Mach.setFn_stage : (m.setFn k x).stage = m.stage := rfl
@[simp] theorem Mach.setFn_snap : (m.setFn k x).snap = m.snap := rfl
@[simp] theorem Mach.setFn_scan : (m.setFn k x).scan = m.scan := rfl
@[simp] theorem Mach.setFn_bus : (m.setFn k x).bus = m.bus := rfl
@[simp] theorem Mach.setFn_key : (m.setFn k x).key = m.key := rfl
@[simp] theorem Mach.setFn_gen : (m.setFn k x).gen = m.gen := rfl
@[simp] theorem Mach.setFn_dx : (m.setFn k x).dx = m.dx := rfl
@[simp] theorem Mach.setFn_link : (m.setFn k x).link = m.link := rfl
@[simp] theorem Mach.setFn_spSnap : (m.setFn k x).spSnap = m.spSnap := rfl
@[simp] theorem Mach.setFn_spAfter : (m.setFn k x).spAfter = m.spAfter := rfl
@[simp] theorem Mach.setFn_spr : (m.setFn k x).spr = m.spr := rfl
@[simp] theorem Mach.setFn_pow : (m.setFn k x).pow = m.pow := rfl
@[simp] theorem Mach.setFn_upd : (m.setFn k x).upd = m.upd := rfl
@[simp] theorem Mach.setFn_aq : (m.setFn k x).aq = m.aq := rfl
@[simp] theorem Mach.setFn_aqSnap : (m.setFn k x).aqSnap = m.aqSnap := rfl
end

section
variable (m : Mach) (k : Nat) (x : PairS)
theorem Mach.pair_setPair_same (h : k < 8) : (m.setPair k x).pair k = x := nth_setNth_same _ _ _ _ _ h
theorem Mach.pair_setPair_ne {j : Nat} (h : j ≠ k) : (m.setPair k x).pair j = m.pair j := nth_setNth_ne _ _ _ _ _ _ h
@[simp] theorem Mach.setPair_word (n : Nat) : (m.setPair k x).word n = m.word n := rfl
@[simp] theorem Mach.setPair_w (r : R) (i j : Nat) : (m.setPair k x).w r i j = m.w r i j := rfl
@[simp] theorem Mach.setPair_g (f : Fd) (i j : Nat) : (m.setPair k x).g f i j = m.g f i j := rfl
@[simp] theorem Mach.setPair_b (f : Fd) (i j : Nat) : (m.setPair k x).b f i j = m.b f i j := rfl
@[simp] theorem Mach.setPair_reg : (m.setPair k x).reg = m.reg := rfl
@[simp] theorem Mach.setPair_free : (m.setPair k x).free = m.free := rfl
@[simp] theorem Mach.setPair_cyc : (m.setPair k x).cyc = m.cyc := rfl
@[simp] theorem Mach.setPair_phase : (m.setPair k x).phase = m.phase := rfl
@[simp] theorem Mach.setPair_fclk : (m.setPair k x).fclk = m.fclk := rfl
@[simp] theorem Mach.setPair_lock : (m.setPair k x).lock = m.lock := rfl
@[simp] theorem Mach.setPair_ovrAt : (m.setPair k x).ovrAt = m.ovrAt := rfl
@[simp] theorem Mach.setPair_failing : (m.setPair k x).failing = m.failing := rfl
@[simp] theorem Mach.setPair_latches : (m.setPair k x).latches = m.latches := rfl
@[simp] theorem Mach.setPair_held : (m.setPair k x).held = m.held := rfl
@[simp] theorem Mach.setPair_viols : (m.setPair k x).viols = m.viols := rfl
@[simp] theorem Mach.setPair_violAt : (m.setPair k x).violAt = m.violAt := rfl
@[simp] theorem Mach.setPair_sets : (m.setPair k x).sets = m.sets := rfl
@[simp] theorem Mach.setPair_roleFails : (m.setPair k x).roleFails = m.roleFails := rfl
@[simp] theorem Mach.setPair_lockouts : (m.setPair k x).lockouts = m.lockouts := rfl
@[simp] theorem Mach.setPair_bar : (m.setPair k x).bar = m.bar := rfl
@[simp] theorem Mach.setPair_mem : (m.setPair k x).mem = m.mem := rfl
@[simp] theorem Mach.setPair_trm : (m.setPair k x).trm = m.trm := rfl
@[simp] theorem Mach.setPair_log : (m.setPair k x).log = m.log := rfl
@[simp] theorem Mach.setPair_led : (m.setPair k x).led = m.led := rfl
@[simp] theorem Mach.setPair_adc : (m.setPair k x).adc = m.adc := rfl
@[simp] theorem Mach.setPair_ep : (m.setPair k x).ep = m.ep := rfl
@[simp] theorem Mach.setPair_pwm : (m.setPair k x).pwm = m.pwm := rfl
@[simp] theorem Mach.setPair_cells : (m.setPair k x).cells = m.cells := rfl
@[simp] theorem Mach.setPair_fresh : (m.setPair k x).fresh = m.fresh := rfl
@[simp] theorem Mach.setPair_slots : (m.setPair k x).slots = m.slots := rfl
@[simp] theorem Mach.setPair_axes : (m.setPair k x).axes = m.axes := rfl
@[simp] theorem Mach.setPair_stage : (m.setPair k x).stage = m.stage := rfl
@[simp] theorem Mach.setPair_snap : (m.setPair k x).snap = m.snap := rfl
@[simp] theorem Mach.setPair_scan : (m.setPair k x).scan = m.scan := rfl
@[simp] theorem Mach.setPair_bus : (m.setPair k x).bus = m.bus := rfl
@[simp] theorem Mach.setPair_key : (m.setPair k x).key = m.key := rfl
@[simp] theorem Mach.setPair_gen : (m.setPair k x).gen = m.gen := rfl
@[simp] theorem Mach.setPair_dx : (m.setPair k x).dx = m.dx := rfl
@[simp] theorem Mach.setPair_link : (m.setPair k x).link = m.link := rfl
@[simp] theorem Mach.setPair_spSnap : (m.setPair k x).spSnap = m.spSnap := rfl
@[simp] theorem Mach.setPair_spAfter : (m.setPair k x).spAfter = m.spAfter := rfl
@[simp] theorem Mach.setPair_spr : (m.setPair k x).spr = m.spr := rfl
@[simp] theorem Mach.setPair_pow : (m.setPair k x).pow = m.pow := rfl
@[simp] theorem Mach.setPair_upd : (m.setPair k x).upd = m.upd := rfl
@[simp] theorem Mach.setPair_aq : (m.setPair k x).aq = m.aq := rfl
@[simp] theorem Mach.setPair_aqSnap : (m.setPair k x).aqSnap = m.aqSnap := rfl
end

section
variable (m : Mach) (k : Nat) (x : Stream)
theorem Mach.strm_setStrm_same (h : k < 4) : (m.setStrm k x).strm k = x := nth_setNth_same _ _ _ _ _ h
theorem Mach.strm_setStrm_ne {j : Nat} (h : j ≠ k) : (m.setStrm k x).strm j = m.strm j := nth_setNth_ne _ _ _ _ _ _ h
@[simp] theorem Mach.setStrm_word (n : Nat) : (m.setStrm k x).word n = m.word n := rfl
@[simp] theorem Mach.setStrm_w (r : R) (i j : Nat) : (m.setStrm k x).w r i j = m.w r i j := rfl
@[simp] theorem Mach.setStrm_g (f : Fd) (i j : Nat) : (m.setStrm k x).g f i j = m.g f i j := rfl
@[simp] theorem Mach.setStrm_b (f : Fd) (i j : Nat) : (m.setStrm k x).b f i j = m.b f i j := rfl
@[simp] theorem Mach.setStrm_reg : (m.setStrm k x).reg = m.reg := rfl
@[simp] theorem Mach.setStrm_free : (m.setStrm k x).free = m.free := rfl
@[simp] theorem Mach.setStrm_cyc : (m.setStrm k x).cyc = m.cyc := rfl
@[simp] theorem Mach.setStrm_phase : (m.setStrm k x).phase = m.phase := rfl
@[simp] theorem Mach.setStrm_fclk : (m.setStrm k x).fclk = m.fclk := rfl
@[simp] theorem Mach.setStrm_lock : (m.setStrm k x).lock = m.lock := rfl
@[simp] theorem Mach.setStrm_ovrAt : (m.setStrm k x).ovrAt = m.ovrAt := rfl
@[simp] theorem Mach.setStrm_failing : (m.setStrm k x).failing = m.failing := rfl
@[simp] theorem Mach.setStrm_latches : (m.setStrm k x).latches = m.latches := rfl
@[simp] theorem Mach.setStrm_held : (m.setStrm k x).held = m.held := rfl
@[simp] theorem Mach.setStrm_viols : (m.setStrm k x).viols = m.viols := rfl
@[simp] theorem Mach.setStrm_violAt : (m.setStrm k x).violAt = m.violAt := rfl
@[simp] theorem Mach.setStrm_sets : (m.setStrm k x).sets = m.sets := rfl
@[simp] theorem Mach.setStrm_roleFails : (m.setStrm k x).roleFails = m.roleFails := rfl
@[simp] theorem Mach.setStrm_lockouts : (m.setStrm k x).lockouts = m.lockouts := rfl
@[simp] theorem Mach.setStrm_bar : (m.setStrm k x).bar = m.bar := rfl
@[simp] theorem Mach.setStrm_mem : (m.setStrm k x).mem = m.mem := rfl
@[simp] theorem Mach.setStrm_trm : (m.setStrm k x).trm = m.trm := rfl
@[simp] theorem Mach.setStrm_log : (m.setStrm k x).log = m.log := rfl
@[simp] theorem Mach.setStrm_led : (m.setStrm k x).led = m.led := rfl
@[simp] theorem Mach.setStrm_adc : (m.setStrm k x).adc = m.adc := rfl
@[simp] theorem Mach.setStrm_ep : (m.setStrm k x).ep = m.ep := rfl
@[simp] theorem Mach.setStrm_pwm : (m.setStrm k x).pwm = m.pwm := rfl
@[simp] theorem Mach.setStrm_cells : (m.setStrm k x).cells = m.cells := rfl
@[simp] theorem Mach.setStrm_fresh : (m.setStrm k x).fresh = m.fresh := rfl
@[simp] theorem Mach.setStrm_slots : (m.setStrm k x).slots = m.slots := rfl
@[simp] theorem Mach.setStrm_axes : (m.setStrm k x).axes = m.axes := rfl
@[simp] theorem Mach.setStrm_stage : (m.setStrm k x).stage = m.stage := rfl
@[simp] theorem Mach.setStrm_snap : (m.setStrm k x).snap = m.snap := rfl
@[simp] theorem Mach.setStrm_scan : (m.setStrm k x).scan = m.scan := rfl
@[simp] theorem Mach.setStrm_bus : (m.setStrm k x).bus = m.bus := rfl
@[simp] theorem Mach.setStrm_key : (m.setStrm k x).key = m.key := rfl
@[simp] theorem Mach.setStrm_gen : (m.setStrm k x).gen = m.gen := rfl
@[simp] theorem Mach.setStrm_dx : (m.setStrm k x).dx = m.dx := rfl
@[simp] theorem Mach.setStrm_link : (m.setStrm k x).link = m.link := rfl
@[simp] theorem Mach.setStrm_sp : (m.setStrm k x).sp = m.sp := rfl
@[simp] theorem Mach.setStrm_spSnap : (m.setStrm k x).spSnap = m.spSnap := rfl
@[simp] theorem Mach.setStrm_spAfter : (m.setStrm k x).spAfter = m.spAfter := rfl
@[simp] theorem Mach.setStrm_spr : (m.setStrm k x).spr = m.spr := rfl
@[simp] theorem Mach.setStrm_pow : (m.setStrm k x).pow = m.pow := rfl
@[simp] theorem Mach.setStrm_upd : (m.setStrm k x).upd = m.upd := rfl
@[simp] theorem Mach.setStrm_aqSnap : (m.setStrm k x).aqSnap = m.aqSnap := rfl
end

section
variable (m : Mach) (k : Nat) (x : Trigger)
theorem Mach.trg_setTrg_same (h : k < 8) : (m.setTrg k x).trg k = x := nth_setNth_same _ _ _ _ _ h
theorem Mach.trg_setTrg_ne {j : Nat} (h : j ≠ k) : (m.setTrg k x).trg j = m.trg j := nth_setNth_ne _ _ _ _ _ _ h
@[simp] theorem Mach.setTrg_word (n : Nat) : (m.setTrg k x).word n = m.word n := rfl
@[simp] theorem Mach.setTrg_w (r : R) (i j : Nat) : (m.setTrg k x).w r i j = m.w r i j := rfl
@[simp] theorem Mach.setTrg_g (f : Fd) (i j : Nat) : (m.setTrg k x).g f i j = m.g f i j := rfl
@[simp] theorem Mach.setTrg_b (f : Fd) (i j : Nat) : (m.setTrg k x).b f i j = m.b f i j := rfl
@[simp] theorem Mach.setTrg_reg : (m.setTrg k x).reg = m.reg := rfl
@[simp] theorem Mach.setTrg_free : (m.setTrg k x).free = m.free := rfl
@[simp] theorem Mach.setTrg_cyc : (m.setTrg k x).cyc = m.cyc := rfl
@[simp] theorem Mach.setTrg_phase : (m.setTrg k x).phase = m.phase := rfl
@[simp] theorem Mach.setTrg_fclk : (m.setTrg k x).fclk = m.fclk := rfl
@[simp] theorem Mach.setTrg_lock : (m.setTrg k x).lock = m.lock := rfl
@[simp] theorem Mach.setTrg_ovrAt : (m.setTrg k x).ovrAt = m.ovrAt := rfl
@[simp] theorem Mach.setTrg_failing : (m.setTrg k x).failing = m.failing := rfl
@[simp] theorem Mach.setTrg_latches : (m.setTrg k x).latches = m.latches := rfl
@[simp] theorem Mach.setTrg_held : (m.setTrg k x).held = m.held := rfl
@[simp] theorem Mach.setTrg_viols : (m.setTrg k x).viols = m.viols := rfl
@[simp] theorem Mach.setTrg_violAt : (m.setTrg k x).violAt = m.violAt := rfl
@[simp] theorem Mach.setTrg_sets : (m.setTrg k x).sets = m.sets := rfl
@[simp] theorem Mach.setTrg_roleFails : (m.setTrg k x).roleFails = m.roleFails := rfl
@[simp] theorem Mach.setTrg_lockouts : (m.setTrg k x).lockouts = m.lockouts := rfl
@[simp] theorem Mach.setTrg_bar : (m.setTrg k x).bar = m.bar := rfl
@[simp] theorem Mach.setTrg_mem : (m.setTrg k x).mem = m.mem := rfl
@[simp] theorem Mach.setTrg_trm : (m.setTrg k x).trm = m.trm := rfl
@[simp] theorem Mach.setTrg_log : (m.setTrg k x).log = m.log := rfl
@[simp] theorem Mach.setTrg_led : (m.setTrg k x).led = m.led := rfl
@[simp] theorem Mach.setTrg_adc : (m.setTrg k x).adc = m.adc := rfl
@[simp] theorem Mach.setTrg_ep : (m.setTrg k x).ep = m.ep := rfl
@[simp] theorem Mach.setTrg_pwm : (m.setTrg k x).pwm = m.pwm := rfl
@[simp] theorem Mach.setTrg_cells : (m.setTrg k x).cells = m.cells := rfl
@[simp] theorem Mach.setTrg_fresh : (m.setTrg k x).fresh = m.fresh := rfl
@[simp] theorem Mach.setTrg_slots : (m.setTrg k x).slots = m.slots := rfl
@[simp] theorem Mach.setTrg_axes : (m.setTrg k x).axes = m.axes := rfl
@[simp] theorem Mach.setTrg_stage : (m.setTrg k x).stage = m.stage := rfl
@[simp] theorem Mach.setTrg_snap : (m.setTrg k x).snap = m.snap := rfl
@[simp] theorem Mach.setTrg_scan : (m.setTrg k x).scan = m.scan := rfl
@[simp] theorem Mach.setTrg_bus : (m.setTrg k x).bus = m.bus := rfl
@[simp] theorem Mach.setTrg_key : (m.setTrg k x).key = m.key := rfl
@[simp] theorem Mach.setTrg_gen : (m.setTrg k x).gen = m.gen := rfl
@[simp] theorem Mach.setTrg_dx : (m.setTrg k x).dx = m.dx := rfl
@[simp] theorem Mach.setTrg_link : (m.setTrg k x).link = m.link := rfl
@[simp] theorem Mach.setTrg_sp : (m.setTrg k x).sp = m.sp := rfl
@[simp] theorem Mach.setTrg_spSnap : (m.setTrg k x).spSnap = m.spSnap := rfl
@[simp] theorem Mach.setTrg_spAfter : (m.setTrg k x).spAfter = m.spAfter := rfl
@[simp] theorem Mach.setTrg_spr : (m.setTrg k x).spr = m.spr := rfl
@[simp] theorem Mach.setTrg_pow : (m.setTrg k x).pow = m.pow := rfl
@[simp] theorem Mach.setTrg_upd : (m.setTrg k x).upd = m.upd := rfl
@[simp] theorem Mach.setTrg_aqSnap : (m.setTrg k x).aqSnap = m.aqSnap := rfl
end

section
variable (m : Mach) (k : Nat) (x : Slice)
theorem Mach.slice_setSlice_same (h : k < 17) : (m.setSlice k x).slice k = x := nth_setNth_same _ _ _ _ _ h
theorem Mach.slice_setSlice_ne {j : Nat} (h : j ≠ k) : (m.setSlice k x).slice j = m.slice j := nth_setNth_ne _ _ _ _ _ _ h
@[simp] theorem Mach.setSlice_word (n : Nat) : (m.setSlice k x).word n = m.word n := rfl
@[simp] theorem Mach.setSlice_w (r : R) (i j : Nat) : (m.setSlice k x).w r i j = m.w r i j := rfl
@[simp] theorem Mach.setSlice_g (f : Fd) (i j : Nat) : (m.setSlice k x).g f i j = m.g f i j := rfl
@[simp] theorem Mach.setSlice_b (f : Fd) (i j : Nat) : (m.setSlice k x).b f i j = m.b f i j := rfl
@[simp] theorem Mach.setSlice_reg : (m.setSlice k x).reg = m.reg := rfl
@[simp] theorem Mach.setSlice_free : (m.setSlice k x).free = m.free := rfl
@[simp] theorem Mach.setSlice_cyc : (m.setSlice k x).cyc = m.cyc := rfl
@[simp] theorem Mach.setSlice_phase : (m.setSlice k x).phase = m.phase := rfl
@[simp] theorem Mach.setSlice_fclk : (m.setSlice k x).fclk = m.fclk := rfl
@[simp] theorem Mach.setSlice_lock : (m.setSlice k x).lock = m.lock := rfl
@[simp] theorem Mach.setSlice_ovrAt : (m.setSlice k x).ovrAt = m.ovrAt := rfl
@[simp] theorem Mach.setSlice_failing : (m.setSlice k x).failing = m.failing := rfl
@[simp] theorem Mach.setSlice_latches : (m.setSlice k x).latches = m.latches := rfl
@[simp] theorem Mach.setSlice_held : (m.setSlice k x).held = m.held := rfl
@[simp] theorem Mach.setSlice_viols : (m.setSlice k x).viols = m.viols := rfl
@[simp] theorem Mach.setSlice_violAt : (m.setSlice k x).violAt = m.violAt := rfl
@[simp] theorem Mach.setSlice_sets : (m.setSlice k x).sets = m.sets := rfl
@[simp] theorem Mach.setSlice_roleFails : (m.setSlice k x).roleFails = m.roleFails := rfl
@[simp] theorem Mach.setSlice_lockouts : (m.setSlice k x).lockouts = m.lockouts := rfl
@[simp] theorem Mach.setSlice_bar : (m.setSlice k x).bar = m.bar := rfl
@[simp] theorem Mach.setSlice_mem : (m.setSlice k x).mem = m.mem := rfl
@[simp] theorem Mach.setSlice_trm : (m.setSlice k x).trm = m.trm := rfl
@[simp] theorem Mach.setSlice_log : (m.setSlice k x).log = m.log := rfl
@[simp] theorem Mach.setSlice_led : (m.setSlice k x).led = m.led := rfl
@[simp] theorem Mach.setSlice_ep : (m.setSlice k x).ep = m.ep := rfl
@[simp] theorem Mach.setSlice_pwm : (m.setSlice k x).pwm = m.pwm := rfl
@[simp] theorem Mach.setSlice_cells : (m.setSlice k x).cells = m.cells := rfl
@[simp] theorem Mach.setSlice_fresh : (m.setSlice k x).fresh = m.fresh := rfl
@[simp] theorem Mach.setSlice_slots : (m.setSlice k x).slots = m.slots := rfl
@[simp] theorem Mach.setSlice_axes : (m.setSlice k x).axes = m.axes := rfl
@[simp] theorem Mach.setSlice_stage : (m.setSlice k x).stage = m.stage := rfl
@[simp] theorem Mach.setSlice_snap : (m.setSlice k x).snap = m.snap := rfl
@[simp] theorem Mach.setSlice_scan : (m.setSlice k x).scan = m.scan := rfl
@[simp] theorem Mach.setSlice_bus : (m.setSlice k x).bus = m.bus := rfl
@[simp] theorem Mach.setSlice_key : (m.setSlice k x).key = m.key := rfl
@[simp] theorem Mach.setSlice_gen : (m.setSlice k x).gen = m.gen := rfl
@[simp] theorem Mach.setSlice_dx : (m.setSlice k x).dx = m.dx := rfl
@[simp] theorem Mach.setSlice_link : (m.setSlice k x).link = m.link := rfl
@[simp] theorem Mach.setSlice_sp : (m.setSlice k x).sp = m.sp := rfl
@[simp] theorem Mach.setSlice_spSnap : (m.setSlice k x).spSnap = m.spSnap := rfl
@[simp] theorem Mach.setSlice_spAfter : (m.setSlice k x).spAfter = m.spAfter := rfl
@[simp] theorem Mach.setSlice_spr : (m.setSlice k x).spr = m.spr := rfl
@[simp] theorem Mach.setSlice_pow : (m.setSlice k x).pow = m.pow := rfl
@[simp] theorem Mach.setSlice_upd : (m.setSlice k x).upd = m.upd := rfl
@[simp] theorem Mach.setSlice_aq : (m.setSlice k x).aq = m.aq := rfl
@[simp] theorem Mach.setSlice_aqSnap : (m.setSlice k x).aqSnap = m.aqSnap := rfl
end

section
variable (m : Mach) (k : Nat) (x : Pwm)
theorem Mach.grp_setGrp_same (h : k < 12) : (m.setGrp k x).grp k = x := nth_setNth_same _ _ _ _ _ h
theorem Mach.grp_setGrp_ne {j : Nat} (h : j ≠ k) : (m.setGrp k x).grp j = m.grp j := nth_setNth_ne _ _ _ _ _ _ h
@[simp] theorem Mach.setGrp_word (n : Nat) : (m.setGrp k x).word n = m.word n := rfl
@[simp] theorem Mach.setGrp_w (r : R) (i j : Nat) : (m.setGrp k x).w r i j = m.w r i j := rfl
@[simp] theorem Mach.setGrp_g (f : Fd) (i j : Nat) : (m.setGrp k x).g f i j = m.g f i j := rfl
@[simp] theorem Mach.setGrp_b (f : Fd) (i j : Nat) : (m.setGrp k x).b f i j = m.b f i j := rfl
@[simp] theorem Mach.setGrp_reg : (m.setGrp k x).reg = m.reg := rfl
@[simp] theorem Mach.setGrp_free : (m.setGrp k x).free = m.free := rfl
@[simp] theorem Mach.setGrp_cyc : (m.setGrp k x).cyc = m.cyc := rfl
@[simp] theorem Mach.setGrp_phase : (m.setGrp k x).phase = m.phase := rfl
@[simp] theorem Mach.setGrp_fclk : (m.setGrp k x).fclk = m.fclk := rfl
@[simp] theorem Mach.setGrp_lock : (m.setGrp k x).lock = m.lock := rfl
@[simp] theorem Mach.setGrp_ovrAt : (m.setGrp k x).ovrAt = m.ovrAt := rfl
@[simp] theorem Mach.setGrp_failing : (m.setGrp k x).failing = m.failing := rfl
@[simp] theorem Mach.setGrp_latches : (m.setGrp k x).latches = m.latches := rfl
@[simp] theorem Mach.setGrp_held : (m.setGrp k x).held = m.held := rfl
@[simp] theorem Mach.setGrp_viols : (m.setGrp k x).viols = m.viols := rfl
@[simp] theorem Mach.setGrp_violAt : (m.setGrp k x).violAt = m.violAt := rfl
@[simp] theorem Mach.setGrp_sets : (m.setGrp k x).sets = m.sets := rfl
@[simp] theorem Mach.setGrp_roleFails : (m.setGrp k x).roleFails = m.roleFails := rfl
@[simp] theorem Mach.setGrp_lockouts : (m.setGrp k x).lockouts = m.lockouts := rfl
@[simp] theorem Mach.setGrp_bar : (m.setGrp k x).bar = m.bar := rfl
@[simp] theorem Mach.setGrp_mem : (m.setGrp k x).mem = m.mem := rfl
@[simp] theorem Mach.setGrp_trm : (m.setGrp k x).trm = m.trm := rfl
@[simp] theorem Mach.setGrp_log : (m.setGrp k x).log = m.log := rfl
@[simp] theorem Mach.setGrp_led : (m.setGrp k x).led = m.led := rfl
@[simp] theorem Mach.setGrp_adc : (m.setGrp k x).adc = m.adc := rfl
@[simp] theorem Mach.setGrp_ep : (m.setGrp k x).ep = m.ep := rfl
@[simp] theorem Mach.setGrp_cells : (m.setGrp k x).cells = m.cells := rfl
@[simp] theorem Mach.setGrp_fresh : (m.setGrp k x).fresh = m.fresh := rfl
@[simp] theorem Mach.setGrp_slots : (m.setGrp k x).slots = m.slots := rfl
@[simp] theorem Mach.setGrp_axes : (m.setGrp k x).axes = m.axes := rfl
@[simp] theorem Mach.setGrp_stage : (m.setGrp k x).stage = m.stage := rfl
@[simp] theorem Mach.setGrp_snap : (m.setGrp k x).snap = m.snap := rfl
@[simp] theorem Mach.setGrp_scan : (m.setGrp k x).scan = m.scan := rfl
@[simp] theorem Mach.setGrp_bus : (m.setGrp k x).bus = m.bus := rfl
@[simp] theorem Mach.setGrp_key : (m.setGrp k x).key = m.key := rfl
@[simp] theorem Mach.setGrp_gen : (m.setGrp k x).gen = m.gen := rfl
@[simp] theorem Mach.setGrp_dx : (m.setGrp k x).dx = m.dx := rfl
@[simp] theorem Mach.setGrp_link : (m.setGrp k x).link = m.link := rfl
@[simp] theorem Mach.setGrp_sp : (m.setGrp k x).sp = m.sp := rfl
@[simp] theorem Mach.setGrp_spSnap : (m.setGrp k x).spSnap = m.spSnap := rfl
@[simp] theorem Mach.setGrp_spAfter : (m.setGrp k x).spAfter = m.spAfter := rfl
@[simp] theorem Mach.setGrp_spr : (m.setGrp k x).spr = m.spr := rfl
@[simp] theorem Mach.setGrp_pow : (m.setGrp k x).pow = m.pow := rfl
@[simp] theorem Mach.setGrp_upd : (m.setGrp k x).upd = m.upd := rfl
@[simp] theorem Mach.setGrp_aq : (m.setGrp k x).aq = m.aq := rfl
@[simp] theorem Mach.setGrp_aqSnap : (m.setGrp k x).aqSnap = m.aqSnap := rfl
end

section
variable (m : Mach) (k : Nat) (x : Axis)
@[simp] theorem Mach.axis_setAxis_same : (m.setAxis k x).axis k = x := smGet_smPut_same _ _ _ _
theorem Mach.axis_setAxis_ne {j : Nat} (h : j ≠ k) : (m.setAxis k x).axis j = m.axis j := smGet_smPut_ne _ _ _ h
@[simp] theorem Mach.setAxis_word (n : Nat) : (m.setAxis k x).word n = m.word n := rfl
@[simp] theorem Mach.setAxis_w (r : R) (i j : Nat) : (m.setAxis k x).w r i j = m.w r i j := rfl
@[simp] theorem Mach.setAxis_g (f : Fd) (i j : Nat) : (m.setAxis k x).g f i j = m.g f i j := rfl
@[simp] theorem Mach.setAxis_b (f : Fd) (i j : Nat) : (m.setAxis k x).b f i j = m.b f i j := rfl
@[simp] theorem Mach.setAxis_reg : (m.setAxis k x).reg = m.reg := rfl
@[simp] theorem Mach.setAxis_free : (m.setAxis k x).free = m.free := rfl
@[simp] theorem Mach.setAxis_cyc : (m.setAxis k x).cyc = m.cyc := rfl
@[simp] theorem Mach.setAxis_phase : (m.setAxis k x).phase = m.phase := rfl
@[simp] theorem Mach.setAxis_fclk : (m.setAxis k x).fclk = m.fclk := rfl
@[simp] theorem Mach.setAxis_lock : (m.setAxis k x).lock = m.lock := rfl
@[simp] theorem Mach.setAxis_ovrAt : (m.setAxis k x).ovrAt = m.ovrAt := rfl
@[simp] theorem Mach.setAxis_failing : (m.setAxis k x).failing = m.failing := rfl
@[simp] theorem Mach.setAxis_latches : (m.setAxis k x).latches = m.latches := rfl
@[simp] theorem Mach.setAxis_held : (m.setAxis k x).held = m.held := rfl
@[simp] theorem Mach.setAxis_viols : (m.setAxis k x).viols = m.viols := rfl
@[simp] theorem Mach.setAxis_violAt : (m.setAxis k x).violAt = m.violAt := rfl
@[simp] theorem Mach.setAxis_sets : (m.setAxis k x).sets = m.sets := rfl
@[simp] theorem Mach.setAxis_roleFails : (m.setAxis k x).roleFails = m.roleFails := rfl
@[simp] theorem Mach.setAxis_lockouts : (m.setAxis k x).lockouts = m.lockouts := rfl
@[simp] theorem Mach.setAxis_bar : (m.setAxis k x).bar = m.bar := rfl
@[simp] theorem Mach.setAxis_mem : (m.setAxis k x).mem = m.mem := rfl
@[simp] theorem Mach.setAxis_trm : (m.setAxis k x).trm = m.trm := rfl
@[simp] theorem Mach.setAxis_log : (m.setAxis k x).log = m.log := rfl
@[simp] theorem Mach.setAxis_led : (m.setAxis k x).led = m.led := rfl
@[simp] theorem Mach.setAxis_adc : (m.setAxis k x).adc = m.adc := rfl
@[simp] theorem Mach.setAxis_ep : (m.setAxis k x).ep = m.ep := rfl
@[simp] theorem Mach.setAxis_pwm : (m.setAxis k x).pwm = m.pwm := rfl
@[simp] theorem Mach.setAxis_cells : (m.setAxis k x).cells = m.cells := rfl
@[simp] theorem Mach.setAxis_fresh : (m.setAxis k x).fresh = m.fresh := rfl
@[simp] theorem Mach.setAxis_slots : (m.setAxis k x).slots = m.slots := rfl
@[simp] theorem Mach.setAxis_stage : (m.setAxis k x).stage = m.stage := rfl
@[simp] theorem Mach.setAxis_snap : (m.setAxis k x).snap = m.snap := rfl
@[simp] theorem Mach.setAxis_scan : (m.setAxis k x).scan = m.scan := rfl
@[simp] theorem Mach.setAxis_bus : (m.setAxis k x).bus = m.bus := rfl
@[simp] theorem Mach.setAxis_key : (m.setAxis k x).key = m.key := rfl
@[simp] theorem Mach.setAxis_gen : (m.setAxis k x).gen = m.gen := rfl
@[simp] theorem Mach.setAxis_dx : (m.setAxis k x).dx = m.dx := rfl
@[simp] theorem Mach.setAxis_link : (m.setAxis k x).link = m.link := rfl
@[simp] theorem Mach.setAxis_sp : (m.setAxis k x).sp = m.sp := rfl
@[simp] theorem Mach.setAxis_spSnap : (m.setAxis k x).spSnap = m.spSnap := rfl
@[simp] theorem Mach.setAxis_spAfter : (m.setAxis k x).spAfter = m.spAfter := rfl
@[simp] theorem Mach.setAxis_spr : (m.setAxis k x).spr = m.spr := rfl
@[simp] theorem Mach.setAxis_pow : (m.setAxis k x).pow = m.pow := rfl
@[simp] theorem Mach.setAxis_upd : (m.setAxis k x).upd = m.upd := rfl
@[simp] theorem Mach.setAxis_aq : (m.setAxis k x).aq = m.aq := rfl
@[simp] theorem Mach.setAxis_aqSnap : (m.setAxis k x).aqSnap = m.aqSnap := rfl
end

section
variable (m : Mach) (k : Nat) (x : Slot)
@[simp] theorem Mach.slot_setSlot_same : (m.setSlot k x).slot k = x := smGet_smPut_same _ _ _ _
theorem Mach.slot_setSlot_ne {j : Nat} (h : j ≠ k) : (m.setSlot k x).slot j = m.slot j := smGet_smPut_ne _ _ _ h
@[simp] theorem Mach.setSlot_word (n : Nat) : (m.setSlot k x).word n = m.word n := rfl
@[simp] theorem Mach.setSlot_w (r : R) (i j : Nat) : (m.setSlot k x).w r i j = m.w r i j := rfl
@[simp] theorem Mach.setSlot_g (f : Fd) (i j : Nat) : (m.setSlot k x).g f i j = m.g f i j := rfl
@[simp] theorem Mach.setSlot_b (f : Fd) (i j : Nat) : (m.setSlot k x).b f i j = m.b f i j := rfl
@[simp] theorem Mach.setSlot_reg : (m.setSlot k x).reg = m.reg := rfl
@[simp] theorem Mach.setSlot_free : (m.setSlot k x).free = m.free := rfl
@[simp] theorem Mach.setSlot_cyc : (m.setSlot k x).cyc = m.cyc := rfl
@[simp] theorem Mach.setSlot_phase : (m.setSlot k x).phase = m.phase := rfl
@[simp] theorem Mach.setSlot_fclk : (m.setSlot k x).fclk = m.fclk := rfl
@[simp] theorem Mach.setSlot_lock : (m.setSlot k x).lock = m.lock := rfl
@[simp] theorem Mach.setSlot_ovrAt : (m.setSlot k x).ovrAt = m.ovrAt := rfl
@[simp] theorem Mach.setSlot_failing : (m.setSlot k x).failing = m.failing := rfl
@[simp] theorem Mach.setSlot_latches : (m.setSlot k x).latches = m.latches := rfl
@[simp] theorem Mach.setSlot_held : (m.setSlot k x).held = m.held := rfl
@[simp] theorem Mach.setSlot_viols : (m.setSlot k x).viols = m.viols := rfl
@[simp] theorem Mach.setSlot_violAt : (m.setSlot k x).violAt = m.violAt := rfl
@[simp] theorem Mach.setSlot_sets : (m.setSlot k x).sets = m.sets := rfl
@[simp] theorem Mach.setSlot_roleFails : (m.setSlot k x).roleFails = m.roleFails := rfl
@[simp] theorem Mach.setSlot_lockouts : (m.setSlot k x).lockouts = m.lockouts := rfl
@[simp] theorem Mach.setSlot_bar : (m.setSlot k x).bar = m.bar := rfl
@[simp] theorem Mach.setSlot_mem : (m.setSlot k x).mem = m.mem := rfl
@[simp] theorem Mach.setSlot_trm : (m.setSlot k x).trm = m.trm := rfl
@[simp] theorem Mach.setSlot_log : (m.setSlot k x).log = m.log := rfl
@[simp] theorem Mach.setSlot_led : (m.setSlot k x).led = m.led := rfl
@[simp] theorem Mach.setSlot_adc : (m.setSlot k x).adc = m.adc := rfl
@[simp] theorem Mach.setSlot_ep : (m.setSlot k x).ep = m.ep := rfl
@[simp] theorem Mach.setSlot_pwm : (m.setSlot k x).pwm = m.pwm := rfl
@[simp] theorem Mach.setSlot_cells : (m.setSlot k x).cells = m.cells := rfl
@[simp] theorem Mach.setSlot_fresh : (m.setSlot k x).fresh = m.fresh := rfl
@[simp] theorem Mach.setSlot_axes : (m.setSlot k x).axes = m.axes := rfl
@[simp] theorem Mach.setSlot_stage : (m.setSlot k x).stage = m.stage := rfl
@[simp] theorem Mach.setSlot_snap : (m.setSlot k x).snap = m.snap := rfl
@[simp] theorem Mach.setSlot_scan : (m.setSlot k x).scan = m.scan := rfl
@[simp] theorem Mach.setSlot_bus : (m.setSlot k x).bus = m.bus := rfl
@[simp] theorem Mach.setSlot_key : (m.setSlot k x).key = m.key := rfl
@[simp] theorem Mach.setSlot_gen : (m.setSlot k x).gen = m.gen := rfl
@[simp] theorem Mach.setSlot_dx : (m.setSlot k x).dx = m.dx := rfl
@[simp] theorem Mach.setSlot_link : (m.setSlot k x).link = m.link := rfl
@[simp] theorem Mach.setSlot_sp : (m.setSlot k x).sp = m.sp := rfl
@[simp] theorem Mach.setSlot_spSnap : (m.setSlot k x).spSnap = m.spSnap := rfl
@[simp] theorem Mach.setSlot_spAfter : (m.setSlot k x).spAfter = m.spAfter := rfl
@[simp] theorem Mach.setSlot_spr : (m.setSlot k x).spr = m.spr := rfl
@[simp] theorem Mach.setSlot_pow : (m.setSlot k x).pow = m.pow := rfl
@[simp] theorem Mach.setSlot_upd : (m.setSlot k x).upd = m.upd := rfl
@[simp] theorem Mach.setSlot_aq : (m.setSlot k x).aq = m.aq := rfl
@[simp] theorem Mach.setSlot_aqSnap : (m.setSlot k x).aqSnap = m.aqSnap := rfl
end

section
variable (m : Mach) (k : Nat)
@[simp] theorem Mach.s_port (f : Fd) (v i j : Nat) : (m.s f v i j).port k = m.port k := rfl
@[simp] theorem Mach.sb_port (f : Fd) (v : Bool) (i j : Nat) : (m.sb f v i j).port k = m.port k := rfl
@[simp] theorem Mach.si_port (f : Fd) (v : Int) (i j : Nat) : (m.si f v i j).port k = m.port k := rfl
@[simp] theorem Mach.sw_port (r : R) (v : Word) (i j : Nat) : (m.sw r v i j).port k = m.port k := rfl
@[simp] theorem Mach.setWord_port (i : Nat) (v : Word) : (m.setWord i v).port k = m.port k := rfl
@[simp] theorem Mach.setb_port (f : Fd) (b : Nat) (v : Bool) (i j : Nat) : (m.setb f b v i j).port k = m.port k := rfl
@[simp] theorem Mach.inc_port (f : Fd) (mx i j : Nat) : (m.inc f mx i j).port k = m.port k := rfl
@[simp] theorem Mach.sq_port (r : R) (v i : Nat) : (m.sq r v i).port k = m.port k := rfl
@[simp] theorem Mach.staged_port (i v : Nat) : (m.staged i v).port k = m.port k := rfl
@[simp] theorem Mach.raise_port (c a b d : Nat) : (m.raise c a b d).port k = m.port k := rfl
@[simp] theorem Mach.count_port (i n : Nat) : (m.count i n).port k = m.port k := rfl
@[simp] theorem Mach.at_port (c : Nat) : (m.at c).port k = m.port k := rfl
@[simp] theorem Mach.noteSet_port (f : Fd) (b i j : Nat) (e : Nat × Nat × Nat × Nat) : (m.noteSet f b i j e).port k = m.port k := by simp [Mach.port]
@[simp] theorem Mach.setBitW_port (f : Fd) (b i j : Nat) : (m.setBitW f b i j).port k = m.port k := by simp [Mach.port]
@[simp] theorem Mach.s_term (f : Fd) (v i j : Nat) : (m.s f v i j).term k = m.term k := rfl
@[simp] theorem Mach.sb_term (f : Fd) (v : Bool) (i j : Nat) : (m.sb f v i j).term k = m.term k := rfl
@[simp] theorem Mach.si_term (f : Fd) (v : Int) (i j : Nat) : (m.si f v i j).term k = m.term k := rfl
@[simp] theorem Mach.sw_term (r : R) (v : Word) (i j : Nat) : (m.sw r v i j).term k = m.term k := rfl
@[simp] theorem Mach.setWord_term (i : Nat) (v : Word) : (m.setWord i v).term k = m.term k := rfl
@[simp] theorem Mach.setb_term (f : Fd) (b : Nat) (v : Bool) (i j : Nat) : (m.setb f b v i j).term k = m.term k := rfl
@[simp] theorem Mach.inc_term (f : Fd) (mx i j : Nat) : (m.inc f mx i j).term k = m.term k := rfl
@[simp] theorem Mach.sq_term (r : R) (v i : Nat) : (m.sq r v i).term k = m.term k := rfl
@[simp] theorem Mach.staged_term (i v : Nat) : (m.staged i v).term k = m.term k := rfl
@[simp] theorem Mach.raise_term (c a b d : Nat) : (m.raise c a b d).term k = m.term k := rfl
@[simp] theorem Mach.count_term (i n : Nat) : (m.count i n).term k = m.term k := rfl
@[simp] theorem Mach.at_term (c : Nat) : (m.at c).term k = m.term k := rfl
@[simp] theorem Mach.noteSet_term (f : Fd) (b i j : Nat) (e : Nat × Nat × Nat × Nat) : (m.noteSet f b i j e).term k = m.term k := by simp [Mach.term]
@[simp] theorem Mach.setBitW_term (f : Fd) (b i j : Nat) : (m.setBitW f b i j).term k = m.term k := by simp [Mach.term]
@[simp] theorem Mach.s_can (f : Fd) (v i j : Nat) : (m.s f v i j).can k = m.can k := rfl
@[simp] theorem Mach.sb_can (f : Fd) (v : Bool) (i j : Nat) : (m.sb f v i j).can k = m.can k := rfl
@[simp] theorem Mach.si_can (f : Fd) (v : Int) (i j : Nat) : (m.si f v i j).can k = m.can k := rfl
@[simp] theorem Mach.sw_can (r : R) (v : Word) (i j : Nat) : (m.sw r v i j).can k = m.can k := rfl
@[simp] theorem Mach.setWord_can (i : Nat) (v : Word) : (m.setWord i v).can k = m.can k := rfl
@[simp] theorem Mach.setb_can (f : Fd) (b : Nat) (v : Bool) (i j : Nat) : (m.setb f b v i j).can k = m.can k := rfl
@[simp] theorem Mach.inc_can (f : Fd) (mx i j : Nat) : (m.inc f mx i j).can k = m.can k := rfl
@[simp] theorem Mach.sq_can (r : R) (v i : Nat) : (m.sq r v i).can k = m.can k := rfl
@[simp] theorem Mach.staged_can (i v : Nat) : (m.staged i v).can k = m.can k := rfl
@[simp] theorem Mach.raise_can (c a b d : Nat) : (m.raise c a b d).can k = m.can k := rfl
@[simp] theorem Mach.count_can (i n : Nat) : (m.count i n).can k = m.can k := rfl
@[simp] theorem Mach.at_can (c : Nat) : (m.at c).can k = m.can k := rfl
@[simp] theorem Mach.noteSet_can (f : Fd) (b i j : Nat) (e : Nat × Nat × Nat × Nat) : (m.noteSet f b i j e).can k = m.can k := by simp [Mach.can]
@[simp] theorem Mach.setBitW_can (f : Fd) (b i j : Nat) : (m.setBitW f b i j).can k = m.can k := by simp [Mach.can]
@[simp] theorem Mach.s_arb (f : Fd) (v i j : Nat) : (m.s f v i j).arb k = m.arb k := rfl
@[simp] theorem Mach.sb_arb (f : Fd) (v : Bool) (i j : Nat) : (m.sb f v i j).arb k = m.arb k := rfl
@[simp] theorem Mach.si_arb (f : Fd) (v : Int) (i j : Nat) : (m.si f v i j).arb k = m.arb k := rfl
@[simp] theorem Mach.sw_arb (r : R) (v : Word) (i j : Nat) : (m.sw r v i j).arb k = m.arb k := rfl
@[simp] theorem Mach.setWord_arb (i : Nat) (v : Word) : (m.setWord i v).arb k = m.arb k := rfl
@[simp] theorem Mach.setb_arb (f : Fd) (b : Nat) (v : Bool) (i j : Nat) : (m.setb f b v i j).arb k = m.arb k := rfl
@[simp] theorem Mach.inc_arb (f : Fd) (mx i j : Nat) : (m.inc f mx i j).arb k = m.arb k := rfl
@[simp] theorem Mach.sq_arb (r : R) (v i : Nat) : (m.sq r v i).arb k = m.arb k := rfl
@[simp] theorem Mach.staged_arb (i v : Nat) : (m.staged i v).arb k = m.arb k := rfl
@[simp] theorem Mach.raise_arb (c a b d : Nat) : (m.raise c a b d).arb k = m.arb k := rfl
@[simp] theorem Mach.count_arb (i n : Nat) : (m.count i n).arb k = m.arb k := rfl
@[simp] theorem Mach.at_arb (c : Nat) : (m.at c).arb k = m.arb k := rfl
@[simp] theorem Mach.noteSet_arb (f : Fd) (b i j : Nat) (e : Nat × Nat × Nat × Nat) : (m.noteSet f b i j e).arb k = m.arb k := by simp [Mach.arb]
@[simp] theorem Mach.setBitW_arb (f : Fd) (b i j : Nat) : (m.setBitW f b i j).arb k = m.arb k := by simp [Mach.arb]
@[simp] theorem Mach.s_dma (f : Fd) (v i j : Nat) : (m.s f v i j).dma k = m.dma k := rfl
@[simp] theorem Mach.sb_dma (f : Fd) (v : Bool) (i j : Nat) : (m.sb f v i j).dma k = m.dma k := rfl
@[simp] theorem Mach.si_dma (f : Fd) (v : Int) (i j : Nat) : (m.si f v i j).dma k = m.dma k := rfl
@[simp] theorem Mach.sw_dma (r : R) (v : Word) (i j : Nat) : (m.sw r v i j).dma k = m.dma k := rfl
@[simp] theorem Mach.setWord_dma (i : Nat) (v : Word) : (m.setWord i v).dma k = m.dma k := rfl
@[simp] theorem Mach.setb_dma (f : Fd) (b : Nat) (v : Bool) (i j : Nat) : (m.setb f b v i j).dma k = m.dma k := rfl
@[simp] theorem Mach.inc_dma (f : Fd) (mx i j : Nat) : (m.inc f mx i j).dma k = m.dma k := rfl
@[simp] theorem Mach.sq_dma (r : R) (v i : Nat) : (m.sq r v i).dma k = m.dma k := rfl
@[simp] theorem Mach.staged_dma (i v : Nat) : (m.staged i v).dma k = m.dma k := rfl
@[simp] theorem Mach.raise_dma (c a b d : Nat) : (m.raise c a b d).dma k = m.dma k := rfl
@[simp] theorem Mach.count_dma (i n : Nat) : (m.count i n).dma k = m.dma k := rfl
@[simp] theorem Mach.at_dma (c : Nat) : (m.at c).dma k = m.dma k := rfl
@[simp] theorem Mach.noteSet_dma (f : Fd) (b i j : Nat) (e : Nat × Nat × Nat × Nat) : (m.noteSet f b i j e).dma k = m.dma k := by simp [Mach.dma]
@[simp] theorem Mach.setBitW_dma (f : Fd) (b i j : Nat) : (m.setBitW f b i j).dma k = m.dma k := by simp [Mach.dma]
@[simp] theorem Mach.s_mon (f : Fd) (v i j : Nat) : (m.s f v i j).mon k = m.mon k := rfl
@[simp] theorem Mach.sb_mon (f : Fd) (v : Bool) (i j : Nat) : (m.sb f v i j).mon k = m.mon k := rfl
@[simp] theorem Mach.si_mon (f : Fd) (v : Int) (i j : Nat) : (m.si f v i j).mon k = m.mon k := rfl
@[simp] theorem Mach.sw_mon (r : R) (v : Word) (i j : Nat) : (m.sw r v i j).mon k = m.mon k := rfl
@[simp] theorem Mach.setWord_mon (i : Nat) (v : Word) : (m.setWord i v).mon k = m.mon k := rfl
@[simp] theorem Mach.setb_mon (f : Fd) (b : Nat) (v : Bool) (i j : Nat) : (m.setb f b v i j).mon k = m.mon k := rfl
@[simp] theorem Mach.inc_mon (f : Fd) (mx i j : Nat) : (m.inc f mx i j).mon k = m.mon k := rfl
@[simp] theorem Mach.sq_mon (r : R) (v i : Nat) : (m.sq r v i).mon k = m.mon k := rfl
@[simp] theorem Mach.staged_mon (i v : Nat) : (m.staged i v).mon k = m.mon k := rfl
@[simp] theorem Mach.raise_mon (c a b d : Nat) : (m.raise c a b d).mon k = m.mon k := rfl
@[simp] theorem Mach.count_mon (i n : Nat) : (m.count i n).mon k = m.mon k := rfl
@[simp] theorem Mach.at_mon (c : Nat) : (m.at c).mon k = m.mon k := rfl
@[simp] theorem Mach.noteSet_mon (f : Fd) (b i j : Nat) (e : Nat × Nat × Nat × Nat) : (m.noteSet f b i j e).mon k = m.mon k := by simp [Mach.mon]
@[simp] theorem Mach.setBitW_mon (f : Fd) (b i j : Nat) : (m.setBitW f b i j).mon k = m.mon k := by simp [Mach.mon]
@[simp] theorem Mach.s_fn (f : Fd) (v i j : Nat) : (m.s f v i j).fn k = m.fn k := rfl
@[simp] theorem Mach.sb_fn (f : Fd) (v : Bool) (i j : Nat) : (m.sb f v i j).fn k = m.fn k := rfl
@[simp] theorem Mach.si_fn (f : Fd) (v : Int) (i j : Nat) : (m.si f v i j).fn k = m.fn k := rfl
@[simp] theorem Mach.sw_fn (r : R) (v : Word) (i j : Nat) : (m.sw r v i j).fn k = m.fn k := rfl
@[simp] theorem Mach.setWord_fn (i : Nat) (v : Word) : (m.setWord i v).fn k = m.fn k := rfl
@[simp] theorem Mach.setb_fn (f : Fd) (b : Nat) (v : Bool) (i j : Nat) : (m.setb f b v i j).fn k = m.fn k := rfl
@[simp] theorem Mach.inc_fn (f : Fd) (mx i j : Nat) : (m.inc f mx i j).fn k = m.fn k := rfl
@[simp] theorem Mach.sq_fn (r : R) (v i : Nat) : (m.sq r v i).fn k = m.fn k := rfl
@[simp] theorem Mach.staged_fn (i v : Nat) : (m.staged i v).fn k = m.fn k := rfl
@[simp] theorem Mach.raise_fn (c a b d : Nat) : (m.raise c a b d).fn k = m.fn k := rfl
@[simp] theorem Mach.count_fn (i n : Nat) : (m.count i n).fn k = m.fn k := rfl
@[simp] theorem Mach.at_fn (c : Nat) : (m.at c).fn k = m.fn k := rfl
@[simp] theorem Mach.noteSet_fn (f : Fd) (b i j : Nat) (e : Nat × Nat × Nat × Nat) : (m.noteSet f b i j e).fn k = m.fn k := by simp [Mach.fn]
@[simp] theorem Mach.setBitW_fn (f : Fd) (b i j : Nat) : (m.setBitW f b i j).fn k = m.fn k := by simp [Mach.fn]
@[simp] theorem Mach.s_pair (f : Fd) (v i j : Nat) : (m.s f v i j).pair k = m.pair k := rfl
@[simp] theorem Mach.sb_pair (f : Fd) (v : Bool) (i j : Nat) : (m.sb f v i j).pair k = m.pair k := rfl
@[simp] theorem Mach.si_pair (f : Fd) (v : Int) (i j : Nat) : (m.si f v i j).pair k = m.pair k := rfl
@[simp] theorem Mach.sw_pair (r : R) (v : Word) (i j : Nat) : (m.sw r v i j).pair k = m.pair k := rfl
@[simp] theorem Mach.setWord_pair (i : Nat) (v : Word) : (m.setWord i v).pair k = m.pair k := rfl
@[simp] theorem Mach.setb_pair (f : Fd) (b : Nat) (v : Bool) (i j : Nat) : (m.setb f b v i j).pair k = m.pair k := rfl
@[simp] theorem Mach.inc_pair (f : Fd) (mx i j : Nat) : (m.inc f mx i j).pair k = m.pair k := rfl
@[simp] theorem Mach.sq_pair (r : R) (v i : Nat) : (m.sq r v i).pair k = m.pair k := rfl
@[simp] theorem Mach.staged_pair (i v : Nat) : (m.staged i v).pair k = m.pair k := rfl
@[simp] theorem Mach.raise_pair (c a b d : Nat) : (m.raise c a b d).pair k = m.pair k := rfl
@[simp] theorem Mach.count_pair (i n : Nat) : (m.count i n).pair k = m.pair k := rfl
@[simp] theorem Mach.at_pair (c : Nat) : (m.at c).pair k = m.pair k := rfl
@[simp] theorem Mach.noteSet_pair (f : Fd) (b i j : Nat) (e : Nat × Nat × Nat × Nat) : (m.noteSet f b i j e).pair k = m.pair k := by simp [Mach.pair]
@[simp] theorem Mach.setBitW_pair (f : Fd) (b i j : Nat) : (m.setBitW f b i j).pair k = m.pair k := by simp [Mach.pair]
@[simp] theorem Mach.s_strm (f : Fd) (v i j : Nat) : (m.s f v i j).strm k = m.strm k := rfl
@[simp] theorem Mach.sb_strm (f : Fd) (v : Bool) (i j : Nat) : (m.sb f v i j).strm k = m.strm k := rfl
@[simp] theorem Mach.si_strm (f : Fd) (v : Int) (i j : Nat) : (m.si f v i j).strm k = m.strm k := rfl
@[simp] theorem Mach.sw_strm (r : R) (v : Word) (i j : Nat) : (m.sw r v i j).strm k = m.strm k := rfl
@[simp] theorem Mach.setWord_strm (i : Nat) (v : Word) : (m.setWord i v).strm k = m.strm k := rfl
@[simp] theorem Mach.setb_strm (f : Fd) (b : Nat) (v : Bool) (i j : Nat) : (m.setb f b v i j).strm k = m.strm k := rfl
@[simp] theorem Mach.inc_strm (f : Fd) (mx i j : Nat) : (m.inc f mx i j).strm k = m.strm k := rfl
@[simp] theorem Mach.sq_strm (r : R) (v i : Nat) : (m.sq r v i).strm k = m.strm k := rfl
@[simp] theorem Mach.staged_strm (i v : Nat) : (m.staged i v).strm k = m.strm k := rfl
@[simp] theorem Mach.raise_strm (c a b d : Nat) : (m.raise c a b d).strm k = m.strm k := rfl
@[simp] theorem Mach.count_strm (i n : Nat) : (m.count i n).strm k = m.strm k := rfl
@[simp] theorem Mach.at_strm (c : Nat) : (m.at c).strm k = m.strm k := rfl
@[simp] theorem Mach.noteSet_strm (f : Fd) (b i j : Nat) (e : Nat × Nat × Nat × Nat) : (m.noteSet f b i j e).strm k = m.strm k := by simp [Mach.strm]
@[simp] theorem Mach.setBitW_strm (f : Fd) (b i j : Nat) : (m.setBitW f b i j).strm k = m.strm k := by simp [Mach.strm]
@[simp] theorem Mach.s_trg (f : Fd) (v i j : Nat) : (m.s f v i j).trg k = m.trg k := rfl
@[simp] theorem Mach.sb_trg (f : Fd) (v : Bool) (i j : Nat) : (m.sb f v i j).trg k = m.trg k := rfl
@[simp] theorem Mach.si_trg (f : Fd) (v : Int) (i j : Nat) : (m.si f v i j).trg k = m.trg k := rfl
@[simp] theorem Mach.sw_trg (r : R) (v : Word) (i j : Nat) : (m.sw r v i j).trg k = m.trg k := rfl
@[simp] theorem Mach.setWord_trg (i : Nat) (v : Word) : (m.setWord i v).trg k = m.trg k := rfl
@[simp] theorem Mach.setb_trg (f : Fd) (b : Nat) (v : Bool) (i j : Nat) : (m.setb f b v i j).trg k = m.trg k := rfl
@[simp] theorem Mach.inc_trg (f : Fd) (mx i j : Nat) : (m.inc f mx i j).trg k = m.trg k := rfl
@[simp] theorem Mach.sq_trg (r : R) (v i : Nat) : (m.sq r v i).trg k = m.trg k := rfl
@[simp] theorem Mach.staged_trg (i v : Nat) : (m.staged i v).trg k = m.trg k := rfl
@[simp] theorem Mach.raise_trg (c a b d : Nat) : (m.raise c a b d).trg k = m.trg k := rfl
@[simp] theorem Mach.count_trg (i n : Nat) : (m.count i n).trg k = m.trg k := rfl
@[simp] theorem Mach.at_trg (c : Nat) : (m.at c).trg k = m.trg k := rfl
@[simp] theorem Mach.noteSet_trg (f : Fd) (b i j : Nat) (e : Nat × Nat × Nat × Nat) : (m.noteSet f b i j e).trg k = m.trg k := by simp [Mach.trg]
@[simp] theorem Mach.setBitW_trg (f : Fd) (b i j : Nat) : (m.setBitW f b i j).trg k = m.trg k := by simp [Mach.trg]
@[simp] theorem Mach.s_slice (f : Fd) (v i j : Nat) : (m.s f v i j).slice k = m.slice k := rfl
@[simp] theorem Mach.sb_slice (f : Fd) (v : Bool) (i j : Nat) : (m.sb f v i j).slice k = m.slice k := rfl
@[simp] theorem Mach.si_slice (f : Fd) (v : Int) (i j : Nat) : (m.si f v i j).slice k = m.slice k := rfl
@[simp] theorem Mach.sw_slice (r : R) (v : Word) (i j : Nat) : (m.sw r v i j).slice k = m.slice k := rfl
@[simp] theorem Mach.setWord_slice (i : Nat) (v : Word) : (m.setWord i v).slice k = m.slice k := rfl
@[simp] theorem Mach.setb_slice (f : Fd) (b : Nat) (v : Bool) (i j : Nat) : (m.setb f b v i j).slice k = m.slice k := rfl
@[simp] theorem Mach.inc_slice (f : Fd) (mx i j : Nat) : (m.inc f mx i j).slice k = m.slice k := rfl
@[simp] theorem Mach.sq_slice (r : R) (v i : Nat) : (m.sq r v i).slice k = m.slice k := rfl
@[simp] theorem Mach.staged_slice (i v : Nat) : (m.staged i v).slice k = m.slice k := rfl
@[simp] theorem Mach.raise_slice (c a b d : Nat) : (m.raise c a b d).slice k = m.slice k := rfl
@[simp] theorem Mach.count_slice (i n : Nat) : (m.count i n).slice k = m.slice k := rfl
@[simp] theorem Mach.at_slice (c : Nat) : (m.at c).slice k = m.slice k := rfl
@[simp] theorem Mach.noteSet_slice (f : Fd) (b i j : Nat) (e : Nat × Nat × Nat × Nat) : (m.noteSet f b i j e).slice k = m.slice k := by simp [Mach.slice]
@[simp] theorem Mach.setBitW_slice (f : Fd) (b i j : Nat) : (m.setBitW f b i j).slice k = m.slice k := by simp [Mach.slice]
@[simp] theorem Mach.s_grp (f : Fd) (v i j : Nat) : (m.s f v i j).grp k = m.grp k := rfl
@[simp] theorem Mach.sb_grp (f : Fd) (v : Bool) (i j : Nat) : (m.sb f v i j).grp k = m.grp k := rfl
@[simp] theorem Mach.si_grp (f : Fd) (v : Int) (i j : Nat) : (m.si f v i j).grp k = m.grp k := rfl
@[simp] theorem Mach.sw_grp (r : R) (v : Word) (i j : Nat) : (m.sw r v i j).grp k = m.grp k := rfl
@[simp] theorem Mach.setWord_grp (i : Nat) (v : Word) : (m.setWord i v).grp k = m.grp k := rfl
@[simp] theorem Mach.setb_grp (f : Fd) (b : Nat) (v : Bool) (i j : Nat) : (m.setb f b v i j).grp k = m.grp k := rfl
@[simp] theorem Mach.inc_grp (f : Fd) (mx i j : Nat) : (m.inc f mx i j).grp k = m.grp k := rfl
@[simp] theorem Mach.sq_grp (r : R) (v i : Nat) : (m.sq r v i).grp k = m.grp k := rfl
@[simp] theorem Mach.staged_grp (i v : Nat) : (m.staged i v).grp k = m.grp k := rfl
@[simp] theorem Mach.raise_grp (c a b d : Nat) : (m.raise c a b d).grp k = m.grp k := rfl
@[simp] theorem Mach.count_grp (i n : Nat) : (m.count i n).grp k = m.grp k := rfl
@[simp] theorem Mach.at_grp (c : Nat) : (m.at c).grp k = m.grp k := rfl
@[simp] theorem Mach.noteSet_grp (f : Fd) (b i j : Nat) (e : Nat × Nat × Nat × Nat) : (m.noteSet f b i j e).grp k = m.grp k := by simp [Mach.grp]
@[simp] theorem Mach.setBitW_grp (f : Fd) (b i j : Nat) : (m.setBitW f b i j).grp k = m.grp k := by simp [Mach.grp]
@[simp] theorem Mach.s_axis (f : Fd) (v i j : Nat) : (m.s f v i j).axis k = m.axis k := rfl
@[simp] theorem Mach.sb_axis (f : Fd) (v : Bool) (i j : Nat) : (m.sb f v i j).axis k = m.axis k := rfl
@[simp] theorem Mach.si_axis (f : Fd) (v : Int) (i j : Nat) : (m.si f v i j).axis k = m.axis k := rfl
@[simp] theorem Mach.sw_axis (r : R) (v : Word) (i j : Nat) : (m.sw r v i j).axis k = m.axis k := rfl
@[simp] theorem Mach.setWord_axis (i : Nat) (v : Word) : (m.setWord i v).axis k = m.axis k := rfl
@[simp] theorem Mach.setb_axis (f : Fd) (b : Nat) (v : Bool) (i j : Nat) : (m.setb f b v i j).axis k = m.axis k := rfl
@[simp] theorem Mach.inc_axis (f : Fd) (mx i j : Nat) : (m.inc f mx i j).axis k = m.axis k := rfl
@[simp] theorem Mach.sq_axis (r : R) (v i : Nat) : (m.sq r v i).axis k = m.axis k := rfl
@[simp] theorem Mach.staged_axis (i v : Nat) : (m.staged i v).axis k = m.axis k := rfl
@[simp] theorem Mach.raise_axis (c a b d : Nat) : (m.raise c a b d).axis k = m.axis k := rfl
@[simp] theorem Mach.count_axis (i n : Nat) : (m.count i n).axis k = m.axis k := rfl
@[simp] theorem Mach.at_axis (c : Nat) : (m.at c).axis k = m.axis k := rfl
@[simp] theorem Mach.noteSet_axis (f : Fd) (b i j : Nat) (e : Nat × Nat × Nat × Nat) : (m.noteSet f b i j e).axis k = m.axis k := by simp [Mach.axis]
@[simp] theorem Mach.setBitW_axis (f : Fd) (b i j : Nat) : (m.setBitW f b i j).axis k = m.axis k := by simp [Mach.axis]
@[simp] theorem Mach.s_slot (f : Fd) (v i j : Nat) : (m.s f v i j).slot k = m.slot k := rfl
@[simp] theorem Mach.sb_slot (f : Fd) (v : Bool) (i j : Nat) : (m.sb f v i j).slot k = m.slot k := rfl
@[simp] theorem Mach.si_slot (f : Fd) (v : Int) (i j : Nat) : (m.si f v i j).slot k = m.slot k := rfl
@[simp] theorem Mach.sw_slot (r : R) (v : Word) (i j : Nat) : (m.sw r v i j).slot k = m.slot k := rfl
@[simp] theorem Mach.setWord_slot (i : Nat) (v : Word) : (m.setWord i v).slot k = m.slot k := rfl
@[simp] theorem Mach.setb_slot (f : Fd) (b : Nat) (v : Bool) (i j : Nat) : (m.setb f b v i j).slot k = m.slot k := rfl
@[simp] theorem Mach.inc_slot (f : Fd) (mx i j : Nat) : (m.inc f mx i j).slot k = m.slot k := rfl
@[simp] theorem Mach.sq_slot (r : R) (v i : Nat) : (m.sq r v i).slot k = m.slot k := rfl
@[simp] theorem Mach.staged_slot (i v : Nat) : (m.staged i v).slot k = m.slot k := rfl
@[simp] theorem Mach.raise_slot (c a b d : Nat) : (m.raise c a b d).slot k = m.slot k := rfl
@[simp] theorem Mach.count_slot (i n : Nat) : (m.count i n).slot k = m.slot k := rfl
@[simp] theorem Mach.at_slot (c : Nat) : (m.at c).slot k = m.slot k := rfl
@[simp] theorem Mach.noteSet_slot (f : Fd) (b i j : Nat) (e : Nat × Nat × Nat × Nat) : (m.noteSet f b i j e).slot k = m.slot k := by simp [Mach.slot]
@[simp] theorem Mach.setBitW_slot (f : Fd) (b i j : Nat) : (m.setBitW f b i j).slot k = m.slot k := by simp [Mach.slot]
end

end Sys2Proof.Machine
end

