-- ==== Sys2Proof/Laws/Writes.lean ====
section
/-! SUPPORT. What a register write does for a requester that may make it (R5, R14). -/

namespace Sys2Proof.Machine

open Sys2Proof

/-- The active AP's write of a field register that it owns is not refused. -/
theorem Mach.refusal_ap (m : Mach) (e idx : Nat) (v : Word) (r : R) (i j : Nat) (hf : m.fabricUp = true) (ha : m.activeAp = some e)
    (hr : regAt idx = some (r, i, j)) (hlo : idx < 0x4400) (hown : m.ownerOf r i = some ownAP)
    (hd : r ≠ .DEV_CTL) (hs : r.shared = false) : m.refusal (.eng e) idx v false = none := by
  have hh : isHostIdx idx = false := by simp [isHostIdx]; omega
  have h1 : ¬ 65535 < idx := by omega
  simp [Mach.refusal, hr, hh, hf, h1, hown, Mach.engMay, Mach.actsAs, ha, hd, hs]

/-- A requester's write of a field register that the active AP owns is the register's own write. -/
theorem Mach.regWrite_auth (m : Mach) (who : Who) (idx : Nat) (v : Word) (r : R) (i j : Nat) (h : Safety.FieldWriter m who)
    (hr : regAt idx = some (r, i, j)) (hlo : idx < 0x4400) (hown : m.ownerOf r i = some ownAP) (hnp : r ≠ .PRM_CELL)
    (hd : r ≠ .DEV_CTL) (hs : r.shared = false)
    (hhost : ∀ role src, 2 ≤ role → m.hostMay role src r = true) : m.regWrite who idx v = m.doWrite who r i j v := by
  obtain ⟨hf, ⟨e, rfl, ha⟩ | ⟨role, src, rfl, h2⟩⟩ := h
  · have hn := m.refusal_ap e idx v r i j hf ha hr hlo hown hd hs
    simp [Mach.regWrite, hn, hr, hf, hown, Mach.engMay, Mach.actsAs, ha, hnp, ownAP]
  · have hh : isHostIdx idx = false := by simp [isHostIdx]; omega
    simp [Mach.regWrite, hr, hh, hf, hhost _ _ h2, hnp]

/-- A write that the rules of ownership call a violation is refused with its kind (R14, R17, R24, R28). -/
theorem Mach.refusal_violates (m : Mach) (e idx : Nat) (v : Word) (narrow : Bool) (kind : Nat) (h : Safety.Violates m e idx v narrow kind) :
    m.refusal (.eng e) idx v narrow = some kind := by
  obtain ⟨hf, hi, ⟨hn, rfl⟩ | ⟨hn, hh, rfl⟩ | ⟨hn, hh, rfl, r, i, j, own, hr, hd, ho, hk⟩⟩ := h
  · simp [Mach.refusal, hf, hi, hn]
  · simp [Mach.refusal, hf, hi, hn, hh]
  · have h1 : ¬ 65535 < idx := by omega
    rcases hk with ⟨hm, ha, hs⟩ | ⟨hm, hk⟩ | ⟨hm, hs, hu, hw⟩
    · simp only [Safety.ClearsNothing] at hs
      simp [Mach.refusal, Mach.actsAs, hf, h1, hn, hh, hr, hd, ho, hm]
      exact (if_neg ha).trans (if_neg hs)
    · obtain ⟨rfl, hk⟩ := hk
      simp [Mach.refusal, Mach.actsAs, hf, h1, hn, hh, hr, ho, hm, hk]
    · simp only [Safety.ClearsNothing] at hw
      simp [Mach.refusal, Mach.actsAs, hf, h1, hn, hh, hr, hd, ho, hm, hs, hu, hw]

theorem regAt_FRM_CTL : regAt (R.FRM_CTL.idx 0 0) = some (.FRM_CTL, 0, 0) := by decide
theorem regAt_FRM_PEAK : ∀ e < 19, regAt (R.FRM_PEAK.idx e 0) = some (.FRM_PEAK, e, 0) := by decide
theorem regAt_DEV_CTL : regAt (R.DEV_CTL.idx 0 0) = some (.DEV_CTL, 0, 0) := by decide
theorem regAt_MEM_CLR : regAt (R.MEM_CLR.idx 0 0) = some (.MEM_CLR, 0, 0) := by decide
theorem regAt_TRM_CTL : regAt (R.TRM_CTL.idx 0 0) = some (.TRM_CTL, 0, 0) := by decide
theorem regAt_ADC_CTL : regAt (R.ADC_CTL.idx 0 0) = some (.ADC_CTL, 0, 0) := by decide
theorem regAt_PWM_CTL : regAt (R.PWM_CTL.idx 0 0) = some (.PWM_CTL, 0, 0) := by decide
theorem regAt_SF_CTL : regAt (R.SF_CTL.idx 0 0) = some (.SF_CTL, 0, 0) := by decide
theorem regAt_AQ_CTL : regAt (R.AQ_CTL.idx 0 0) = some (.AQ_CTL, 0, 0) := by decide
theorem regAt_PWR_CTL : regAt (R.PWR_CTL.idx 0 0) = some (.PWR_CTL, 0, 0) := by decide
theorem regAt_CB_CTL : ∀ k < 4, regAt (R.CB_CTL.idx k 0) = some (.CB_CTL, k, 0) := by decide
theorem regAt_MEM_DMA_CTL : ∀ ch < 32, regAt (R.MEM_DMA_CTL.idx ch 0) = some (.MEM_DMA_CTL, ch, 0) := by decide +kernel
theorem regAt_MG_CTL : ∀ a < 32, regAt (R.MG_CTL.idx a 0) = some (.MG_CTL, a, 0) := by decide +kernel
theorem regAt_MG_STAT : ∀ a < 32, regAt (R.MG_STAT.idx a 0) = some (.MG_STAT, a, 0) := by decide +kernel
theorem regAt_MG_TGT_LO : ∀ a < 32, regAt (R.MG_TGT_LO.idx a 0) = some (.MG_TGT_LO, a, 0) := by decide +kernel
theorem regAt_MG_TGT_HI : ∀ a < 32, regAt (R.MG_TGT_HI.idx a 0) = some (.MG_TGT_HI, a, 0) := by decide +kernel
theorem regAt_MG_QPOS_LO : ∀ a < 32, regAt (R.MG_QPOS_LO.idx a 0) = some (.MG_QPOS_LO, a, 0) := by decide +kernel
theorem regAt_MG_QPOS_HI : ∀ a < 32, regAt (R.MG_QPOS_HI.idx a 0) = some (.MG_QPOS_HI, a, 0) := by decide +kernel
theorem regAt_LP_CTL : ∀ k < 256, regAt (R.LP_CTL.idx k 0) = some (.LP_CTL, k, 0) := by decide +kernel
theorem regAt_LP_PAGE : ∀ k < 256, regAt (R.LP_PAGE.idx k 0) = some (.LP_PAGE, k, 0) := by decide +kernel
theorem regAt_CB_BUF_STAT : ∀ k < 4, ∀ b < 128, regAt (R.CB_BUF_STAT.idx k b) = some (.CB_BUF_STAT, k, b) := by
  decide +kernel

end Sys2Proof.Machine
end

