-- ==== Sys2Proof/Tests/Slice0.lean ====
section
/-! SUPPORT. Tests of the well-formedness checks, one witness per clause of every statement with hypotheses, and single steps
whose expected values are worked out in the specification. -/

namespace Sys2Proof.Tests

open Sys2Proof Sys2Proof.Machine

section

set_option Elab.async false
set_option linter.unusedVariables false

/-! ### Ill-formed terms -/

/-- A burst of eight bytes that R54 allows. -/
def okB : BurstReq := { req := 17, addr := 0x20000000, len := 8 }

/-- An empty data frame with identifier 0. -/
def okF : CanFrame := {}

/-- A packet command from a source or with a sequence number of more than 16 bits, or with a payload longer than R378 allows, is
refused. -/
theorem test_wf_opcodes : [
    Instr.sfStatus, Instr.editOpen, Instr.setLoad, Instr.editCommit, Instr.editAbort, Instr.confirm, Instr.setRead,
    Instr.inspectOn, Instr.inspectKeep, Instr.inspectOff, Instr.inspectCfg, Instr.prgStatus, Instr.imgRead,
    Instr.paramBatch, Instr.paramRead, Instr.stnTest, Instr.imgPut, Instr.dxStatus, Instr.dxSwitch, Instr.dxRestore,
    Instr.sprStatus, Instr.sprGraft, Instr.sprRelease, Instr.stmStatus, Instr.stmSubscribe, Instr.stmLoad,
    Instr.stmStop, Instr.stmFetch, Instr.evStatus, Instr.evRead, Instr.evClear, Instr.lgStatus, Instr.lgRead,
    Instr.calSet, Instr.inspSet, Instr.nop, Instr.ident, Instr.sessionOpen, Instr.sessionClose, Instr.markOp,
    Instr.linkStatus, Instr.roleKeySet, Instr.regRead, Instr.regReadRange, Instr.regWrite, Instr.updStatus,
    Instr.updBegin, Instr.updPut, Instr.updVerify, Instr.updLoad, Instr.updArm, Instr.updDisarm, Instr.updCancel,
    Instr.updRollback, Instr.updRead, Instr.updKeySet].all (fun f : Nat → Nat → List Byte → Instr =>
    !(f 65536 0 []).wf && !(f 0 65536 []).wf && !(f 0 0 (List.replicate 4033 0)).wf && (f 65535 65535 (List.replicate 4032 0)).wf) = true := by decide +kernel

/-- A block evaluation that names an instance past the 2,048 of an image (R246) is refused. -/
theorem test_wf_instances : [
    Instr.and_, Instr.or_, Instr.xor_, Instr.not_, Instr.sr, Instr.rs, Instr.rTrig, Instr.fTrig, Instr.tp, Instr.ton,
    Instr.tof, Instr.ctu, Instr.ctd, Instr.ctud, Instr.gt_, Instr.ge_, Instr.eq_, Instr.ne_, Instr.le_, Instr.lt_,
    Instr.add_, Instr.sub_, Instr.mul_, Instr.div_, Instr.mod_, Instr.abs_, Instr.neg_, Instr.min_, Instr.max_,
    Instr.limit, Instr.sel, Instr.mux, Instr.move, Instr.qadd, Instr.qsub, Instr.qmul, Instr.qdiv, Instr.qscale,
    Instr.dintToQ, Instr.qToDint, Instr.hyst, Instr.lag, Instr.ramp, Instr.blink, Instr.pack, Instr.unpack,
    Instr.rdReg, Instr.wrReg, Instr.wrReg64, Instr.eventBlock, Instr.markBlock, Instr.dmaCopy, Instr.cbRx, Instr.cbTx,
    Instr.stnStat, Instr.frameBlock, Instr.rtc, Instr.liftCar, Instr.liftStops, Instr.liftDoor, Instr.liftGroup,
    Instr.escRun, Instr.liftInsp, Instr.sfDiverse].all (fun f : Nat → Instr => !(f 2048).wf && (f 2047).wf) = true := by decide +kernel

/-- Commands with one operand outside what the hardware has are refused (part 1). -/
theorem test_wf_terms1 : ([
    .frameTick { raw := 2 ^ 96 }, .failureByOverrun 18, .frmCtlLockWrite (.eng 19) 0, .frmPeakClear (.eng 19) 0 0,
    .frmPeakClear (.eng 0) 19 0, .registerWrite (.eng 19) 0 0 0 false, .registerWrite (.eng 0) 65536 0 0 false,
    .registerWrite (.eng 0) 0 524288 0 false, .barrierCycle 524288 [] 0, .barrierCycle 0 [] 65536,
    .barrierCell false 5 0 [], .barrierCell false 0 12 [], .laneOutOfService 5, .operatorMark (.eng 19) 0,
    .hostWarmRestart 3 (.eng 0), .hostWarmRestart 0 (.eng 19), .roleLockoutEnd 65536, .beatTimeout {} 0,
    .beatTimeout okB 16, .grantTimeout {}, .rowGraft 8192, .rowCopyComplete 8192, .scrubPassLate 4,
    .dmaGo (.eng 19) 0 0 0, .dmaGo (.eng 0) 32 0 0, .dmaGo (.eng 0) 0 524288 0, .dmaStop (.eng 19) 0 0 0,
    .dmaStop (.eng 0) 32 0 0, .dmaStop (.eng 0) 0 524288 0, .descriptorDone 32 0, .descriptorDone 0 524288,
    .memClrPeaks (.eng 19) 0, .overloadTrip 96 0, .overloadTrip 0 524288, .thermalShutdown 96 0,
    .thermalShutdown 0 524288, .supplyComparatorTrip 6 0, .supplyComparatorTrip 0 524288, .groupWatchdogExpiry 6,
    .trmClrall (.eng 19) 0] : List Instr).all (fun i => !i.wf) = true := by decide +kernel

/-- Commands with one operand outside what the hardware has are refused (part 2). -/
theorem test_wf_terms2 : ([
    .adcScanTrigger 16 0, .adcScanTrigger 0 524288, .conversionComplete 16 0 0 [{}] [],
    .conversionComplete 0 56 0 [{}] [], .conversionComplete 0 0 524288 [{}] [], .sliceFailure 17 0,
    .sliceFailure 0 524288, .annealStep (.eng 19) 0, .encoderEdge 8 {} 0 false,
    .encoderEdge 0 { at_ := 524288 } 0 false, .encoderFault 8 2 0 false, .encoderFault 0 1 0 false,
    .encoderFault 0 6 0 false, .encoderFault 0 2 524288 false, .ssiRead 8 0 0 false, .ssiRead 0 524288 0 false,
    .ssiRead 0 0 4294967296 false, .pwmReloadPoint 12 0 false, .pwmReloadPoint 0 524288 false,
    .gateDriverFault 12 {} false, .gateDriverFault 0 { at_ := 524288 } false,
    .delayLineCalEnd 12 0 (List.replicate 32 0), .delayLineWaitEnd 12, .delayLineSwap 12 0, .delayLineSwap 0 524288,
    .pwmClrcnt (.eng 19) 0, .slotStaleFault 256, .pageSwapRequest (.eng 19) 0 0, .pageSwapRequest (.eng 0) 256 0,
    .pageCheckDone 256, .slotRestart (.eng 19) 0 0, .slotRestart (.eng 0) 256 0, .targetWrite (.eng 19) 0 0,
    .targetWrite (.eng 0) 32 0, .targetWrite (.eng 0) 0 18446744073709551616, .reachQuery (.eng 19) 0 0,
    .reachQuery (.eng 0) 32 0, .reachQuery (.eng 0) 0 18446744073709551616, .axisHold (.eng 19) 0 0,
    .axisHold (.eng 0) 32 0] : List Instr).all (fun i => !i.wf) = true := by decide +kernel

/-- Commands with one operand outside what the hardware has are refused (part 3). -/
theorem test_wf_terms3 : ([
    .quickStop (.eng 19) 0 0, .quickStop (.eng 0) 32 0, .axisEnable (.eng 19) 0 0, .axisEnable (.eng 0) 32 0,
    .referenceCommand (.eng 19) 0 0, .referenceCommand (.eng 0) 32 0, .referenceRunFail 32, .reversalDwellEnd 32,
    .feedbackLost 32, .followingError 32, .stallDetected 32, .stallClear (.eng 19) 0 0, .stallClear (.eng 0) 32 0,
    .energyOver 32, .scan 524288 0 [], .scanTooLong 524288, .liftWaitTimeout 8, .relevelLimit 8, .doorDwellExpiry 8 0,
    .doorDwellExpiry 0 2, .doorLockTimeout 8 0, .doorLockTimeout 0 2, .doorForceTimeout 8 0, .doorForceTimeout 0 2,
    .shaftSourceLost 8, .stationAbsent 64, .stationReturn 64, .stationTestEnd 64, .siDip 16, .pairOverloadTrip 8,
    .edmTimeout 8, .sosOk 65536, .diverseTimeout 8, .degradedTimeExpiry 32, .degradedTimerReset 32, .rearm (.eng 19) 0,
    .apGiveUp 2 1, .apGiveUp 0 0, .apGiveUp 0 6, .heldEnd 2] : List Instr).all (fun i => !i.wf) = true := by decide +kernel

/-- Commands with one operand outside what the hardware has are refused (part 4). -/
theorem test_wf_terms4 : ([
    .flashBlockGraft 512, .canFrameReceived 4 0 0 okF, .canFrameReceived 0 524288 0 okF,
    .canFrameReceived 0 0 0 { id := 2048 }, .canColumnStart 4 0, .canColumnStart 0 524288, .canTransmitEnd 4 0 0 0,
    .canTransmitEnd 0 524288 0 0, .canTransmitEnd 0 0 3 0, .canTransmitEnd 0 0 0 8, .cellMiss 4 0, .cellMiss 0 128,
    .transmitRequest (.eng 19) 0 0, .transmitRequest (.eng 0) 4 0, .transmitRequest (.eng 0) 0 128,
    .canModeOff (.eng 19) 0, .canModeOff (.eng 0) 4, .canModeNormal (.eng 19) 0, .canModeNormal (.eng 0) 4,
    .canModeListen (.eng 19) 0, .canModeListen (.eng 0) 4, .canModeSleep (.eng 19) 0, .canModeSleep (.eng 0) 4,
    .integrationComplete 4, .busOff 4 0, .busOff 0 524288, .errorPassive 4 0 0 0, .errorPassive 0 524288 0 0,
    .errorPassive 0 0 256 0, .errorPassive 0 0 0 256, .borec (.eng 19) 0, .borec (.eng 0) 4, .busOffRecoveryEnd 4,
    .canWake 4 0 false false okF, .canWake 0 524288 false false okF, .canWake 0 0 false false { id := 2048 },
    .forcedMark 8, .aqClrcnt (.eng 19) 0, .eventRecord 65536 0 0 0 0 0, .eventRecord 0 256 0 0 0 0] : List Instr).all (fun i => !i.wf) = true := by decide +kernel

/-- Commands with one operand outside what the hardware has are refused (part 5). -/
theorem test_wf_terms5 : ([
    .eventRecord 0 0 4294967296 0 0 0, .eventRecord 0 0 0 4294967296 0 0, .eventRecord 0 0 0 0 18446744073709551616 0,
    .eventRecord 0 0 0 0 0 4294967296, .beacon [] [] 1000000000000 0, .beacon [] [] 0 1000000000000,
    .nodeSlotPass 64 0 false [], .nodeSlotPass 0 2 false [], .portDown 2 false, .portUp 2, .requestPacket 16 [] [],
    .updateCompletion { bad := [2] }, .inPlaceRelease 19, .lfPowerUp { bad := [2] }, .runningTimeout { bad := [2] },
    .engineRestartComplete 19 false, .powerFail 524288 1 0, .powerFail 0 1 65536, .shut (.eng 19) 0,
    .clrmin (.eng 19) 0, .testPulseSourceShutoff 4, .engineCoreFault 18, .endOfLatch 0 [(4, 0)],
    .endOfLatch 0 [(0, 128)], .commitPoint (List.replicate 17 none) false,
    .commitPoint (List.replicate 18 (some 524288)) false, .barrierCycle 0 [5] 0, .burstRequest [okB, {}],
    .conversionComplete 0 0 0 [] [], .conversionComplete 0 0 0 (List.replicate 33 {}) [],
    .conversionComplete 0 0 0 [{ vref := 0 }] [], .conversionComplete 0 0 0 [{}] [{ vref := 0 }],
    .delayLineCalEnd 0 0 (List.replicate 31 0), .scan 0 0 [(4, 0)], .loadComplete [19] false, .powerFail 0 3 0,
    .powerFail 0 0 0] : List Instr).all (fun i => !i.wf) = true := by decide +kernel

/-- What the hardware cannot sample in a latch phase is refused, operand by operand. -/
theorem test_wf_frameIn : ([
    { raw := 2 ^ 96 }, { osv := List.replicate 7 0 }, { tv := List.replicate 7 0 }, { vint := 0 },
    { refIn := List.replicate 4 false }, { amp := List.replicate 9 0 }, { amp := [65536] }, { si := 65536 },
    { hsNode := 256 }, { lsNode := 256 }, { sosMv := 65536 }, { spCap := [(8, 0)] }, { upsets := [(270336, 1)] },
    { upsets := [(0, 3)] }, { served := List.replicate 5 false }] : List FrameIn).all (fun o => !o.wf) = true := by decide +kernel

/-- Senders, bursts, start-ups and CAN frames outside the hardware's ranges are refused; legal ones are not. -/
theorem test_wf_parts :
    ([.eng 19, .dma 32, .host 4 0, .host 0 65536] : List Who).all (fun w => !w.wf) = true ∧
    ([{}, { okB with req := 52 }, { okB with len := 0 }, { okB with addr := 0x2000007C }, { okB with req := 2, len := 40 },
      { okB with req := 16, len := 72 }, { okB with write := true }] : List BurstReq).all (fun b => !b.wf) = true ∧
    ([{ slices := List.replicate 18 (0, 0) }, { lines := [{ g := 12, i := 0, taps := List.replicate 32 0 }] },
      { lines := [{ g := 0, i := 9, taps := List.replicate 32 0 }] }, { lines := [{ g := 0, i := 0, taps := [] }] }, { bad := [2] }] :
      List StartIn).all (fun p => !p.wf) = true ∧
    ([{ id := 2048 }, { ide := true, id := 2 ^ 29 }, { dlc := 16 }, { data := List.replicate 9 0 }, { fdf := true, data := List.replicate 65 0 },
      { remote := true, fdf := true }, { remote := true, data := [0] }] : List CanFrame).all (fun f => !f.wf) = true ∧
    okB.wf = true ∧ okF.wf = true ∧ FrameIn.wf {} = true ∧ StartIn.wf {} = true := by decide +kernel

/-! ### States for the witnesses -/

/-- The base machine: field domain RUNNING in a latch phase, engines in service, AP 0 active, host up. -/
def up : Mach := { (((({} : Mach).s F.DEV_STATE_STATE 4).s F.DX_STAT_ACTIVE 0).sb F.FRM_STAT_RUN true).s F.DEV_ENG_RUN_RUN 0x7FFFF with phase := .latch, pow := { hst := 2 } }
/-- The base machine with an empty queue. -/
def s0 : State := { m := up }
/-- A host sender with the highest role but one. -/
def hst : Who := .host 2 1
/-- A machine with an empty queue. -/
def mkS (m : Mach) : State := { m := m }
/-- A machine whose held writes, latches, violations, overruns, axes and slots are not at reset. -/
def richM (m : Mach) : Mach := { m with held := [(64, 8249, 7), (2, 8249, 9), (0, 8249, 3)], latches := [(64, 5, 7), (2, 5, 7), (0, 5, 9)], viols := [(m.frame, 5, 0, 7, 16)], ovrAt := [(3, 1)], axes := [(1, { tgt := some 5 }), (2, { query := true }), (7, { refAgain := true })], slots := [(3, { chk := some 1 })], cells := [(0x300, 5, true)], fresh := [(0x301, 6, true)], stage := [(0x1000, 5)], bar := { m.bar with evq := [{ code := 0x0400, src := 0x20 }], running := true } }
/-- Such a machine with a command waiting. -/
def rich : State := { m := richM up, pending := [.lockHoldover] }
/-- Four lanes in service and the barrier running. -/
def bm : Mach := { (up.s F.DEV_BAR_STAT_INSERV 15).s F.DEV_BAR_STAT_SPARE_FOR 7 with bar := { running := true } }
/-- A request packet. -/
def pk : Pkt := { src := 1, seq := 5, op := 0x70, role := 1 }
/-- A CMD message of two cells, one of them sent. -/
def mg : BarMsg := { toField := true, typ := tCMD, num := 4, cells := 2, flying := 1, body := .cmd pk }
/-- An STM message of ten cells. -/
def mgS : BarMsg := { toField := false, typ := tSTM, num := 7, cells := 10, unsent := 8, flying := 2, body := .stm (List.replicate 320 0) }
/-- The slot of an STM cell. -/
def sl : CellSlot := { toField := false, lane := 2, pos := 3, typ := tSTM, num := 7, frag := 1, last := false }
/-- A barrier with an STM message in flight. -/
def bs : State := { m := { bm with bar := { running := true, slots := [{ toField := false, lane := 2, pos := 2, typ := tSTM, num := 7, frag := 0, last := false }, sl], msgs := [mgS] } }, pending := [.lockHoldover] }
/-- A CMD message that waits for its end of latch. -/
def cmS : State := { m := { ((up.s F.DEV_BAR_STAT_INSERV 15).s F.DEV_STATE_STATE 4) with phase := .latch, bar := { running := true, msgs := [mg], cmds := [(4, 0)] }, link := { accepted := [{ pkt := pk }] } }, pending := [.lockHoldover] }
/-- A burst request of bank 0. -/
def bq (req len : Nat) (w : Bool) : BurstReq := { req := req, addr := 0x20000104, len := len, write := w, data := (List.range len).map (fun k => BitVec.ofNat 8 (k+1)), at_ := 3 }
/-- A machine whose requesters all have a region of bank 0. -/
def mm : Mach := { (richM up).sw .MEM_ARB_CFG 0xFFFFFFFF with mem := { up.mem with cells := [(0x105, 9), (0x180, 7)], mpu := (List.range 20).map (fun q => (16 * q + 2, { base := 0x200000, lim := 0x200010, w := true, rd := true, en := true })) } }
/-- Role 3 on channels 4 and 5, held by slice 6. -/
def am : Mach := ((((richM up).s F.ADC_ROLE_CFG_TRIG 1 3).s F.ADC_MASK_LO 0x30 3).s F.ADC_ROLE_STAT_SLICE 6 3).s F.ADC_ANNEAL_STAT_SPARE 12
/-- A scan of role 3. -/
def scn : AdcScan := { start := 0, chs := [4, 5], x := 6, y := 6, n := 0, till := 160 }
/-- Role 3 inside its scan. -/
def am2 : Mach := { am with phase := .staging, adc := { am.adc with scans := [[], [], [], [scn]], busy := [0,0,0,160] } }
/-- A burst scan of a pair of slices. -/
def scb : AdcScan := { start := 0, chs := [7], x := 6, y := 7, n := 4, till := 200 }
/-- A burst scan beside the scan of role 3. -/
def am3 : Mach := { am with phase := .staging, adc := { am.adc with scans := [[], [], [scb], [scn]], busy := [0,0,0,160] } }
/-- The anneal in a phase. -/
def an (p : Nat) : Mach := (((am.s F.ADC_ANNEAL_STAT_PHASE p).s F.ADC_ANNEAL_STAT_COUNT 3000).sb F.ADC_ANNEAL_CFG_EN true).s F.ADC_ANNEAL_STAT_NEXTROLE 3
/-- Encoder port 3 in a mode. -/
def em (k : Nat) : Mach := (((richM up).s F.ADC_EP_CFG_MODE k 3).s F.ADC_EP_CFG_FILT 4 3).setPort 3 { cnt := 0xFFFFFFFE, cap := 9, spCap := 8 }
/-- A change of one PWM group. -/
def ab (p : Pwm → Pwm) (g : Nat) (m : Mach) : Mach := m.setGrp g (p (m.grp g))
/-- PWM group 2 running with a set armed. -/
def pm : Mach := ((((((richM up).sb F.PWM_STAT_RUN true).s F.PWM_GRP_CFG_LOAD 1 2).s F.PWM_GRP_ACT_TOP 5000 2).s F.PWM_GRP_TIME_DT 20 2).s F.PWM_GRP_CFG_GFFILT 4 2).setGrp 2 { used := true, nextAt := 700, armed := some { en := true, top := 6000, cmp := [3000, 1, 2, 3] }, active := { en := true, top := 5000, cmp := [1, 1, 1, 1] }, dlCount := 300, pairs := [{ req := 1, at_ := 5, offB := some 4 }, { req := 2, offA := some 7 }, {}, { next := some (32 * 700, 1) }] }
/-- Delay lines of group 2 in service. -/
def dm : Mach := ((each (upTo 8) pm (fun m i => (m.s F.PWM_DL_STAT_STATE 0 2 i).s F.PWM_DL_STAT_OUT i 2 i)).s F.PWM_DL_STAT_STATE 2 2 8).s F.PWM_DL_STAT_OUT 15 2 8
/-- An image whose instance 1 has a type, constant inputs and cell outputs. -/
def bmS (typ : Nat) (vals : List Nat) (outs : Nat) (st : BSt) (f : Nat := 0) : State := { m := { richM up with scan := { up.scan with img := some { consts := vals, stns := [{}, {}], blks := [{}, { typ := typ, ops := (List.range vals.length).map (fun i => 2 * 2 ^ 29 + i) ++ (List.range outs).map (fun i => 10 + i) }] }, inp := some { f := 100 + f, stn := [{}, {}] }, bst := [(1, st)], placed := 3 } }, pending := [.lockHoldover] }
/-- The context of that instance. -/
def bc (s : State) : BCtx := match s.m.scan.img, s.m.scan.inp with | some im, some ip => s.m.blkCtx im ip 1 (nth im.blks 1 {}) | _, _ => s.m.blkCtx {} {} 0 {}
/-- Axis 5 with a state and a record. -/
def axm (x : Axis) (r : AxRec) : Mach := let m : Mach := ({ (richM up) with mem := { up.mem with mpu := (List.range 20).map (fun q => (16 * q + 2, { base := 0x200000, lim := 0x201FFF, w := true, rd := true, en := true })) } }).s F.MG_CFG_TYPE 2 5; (m.writeAx 5 (m.g F.MG_STATE_HALF 5) r).setAxis 5 x
/-- A scan program in the latch phase. -/
def scM : State := { bmS 1 [1,1] 1 {} with m := { (bmS 1 [1,1] 1 {}).m with phase := .latch } }
/-- A batch of two parameters. -/
def scB : Batch := { ticket := 7, frame := 50, entries := [(3, 5), (3, -6)] }
/-- A scan that has run past its time. -/
def late : State := mkS { scM.m with scan := { scM.m.scan with cur := some { num := 1, f := 0, t0 := 0, t1 := 100000000000 } } , cyc := 0 }
/-- The context of a LIFT_CAR of one machine. -/
def lc : BCtx := let c := bc (bmS 0x3A [1] 0 {}); { c with m := { c.m with scan := { c.m.scan with machs := [{ typ := 1, carAx := 1, pos := 0, runReq := 1, brkReq := 2 }] } } }
/-- The start sequence of an axis with feedback terminals. -/
def sq (a b : Int) : SeqP := { mch := 0, a := 5, mainFb := a, brkFb := b, drv := [3, 4] }
/-- A machine table entry of a lift car. -/
def mc : Machn := { typ := 1, carAx := 5, doorF := 2, sfChain := 3, sfZone := 4, sfRun := 5, shSrc := 2, shk := 65536, runReq := 1, brkReq := 2, landTab := 0x20000000, dtrav := [900, 800] }
/-- A block of machine 1 with register values in its input image. -/
def lm (typ : Nat) (vals : List Nat) (outs : Nat) (regs : List (Nat × Word)) (f : Mach → Mach) : State :=
  let b := bmS typ vals outs { seen := true, fprev := 90 }
  let m := b.m
  { b with m := f { m with mem := { m.mem with cells := [(8, 7), (0x3F2, 3)] }, scan := { m.scan with machs := [{}, mc], inp := some { f := 100, stn := [{}, {}], reg := regs, shaft := [none, some (77, 98)], insp := 0 } } } }
/-- The same with inspection on. -/
def inspOn (s : State) : State := { s with m := { s.m with scan := { s.m.scan with inp := s.m.scan.inp.map (fun i => { i with insp := 1 }) } } }
/-- An image with one station, in a state. -/
def stM (x : Stn) : Mach := { (richM up) with scan := { up.scan with num := 9, applied := (9, 0), img := some { stns := [{}, { en := true, cb := 2, rx := 3, tx := 4, nin := 1 }], syncT := 1 }, stns := [{}, x] } }
/-- Safety pair 3 ON. -/
def spM : Mach := let m := ((((richM up).sb F.SF_SO_CFG_EN true 3).s F.SF_SO_STAT_STATE 1 3).sb F.SF_STAT_SOSOK true).s F.DEV_STATE_STATE 4; { m with sp := { m.sp with t := 4000000000 } }
/-- The duplex states. -/
def dxM (a b act : Nat) : Mach := (((richM up).s F.DX_STAT_STATEA a).s F.DX_STAT_STATEB b).s F.DX_STAT_ACTIVE act
/-- A change of the duplex pair. -/
def dxD (f : Dx → Dx) (m : Mach) : Mach := { m with dx := f m.dx }
/-- The standby synchronizing. -/
def stp : Mach → Mach := fun m => { m with scan := (stM { mode := 0, exch := 2 }).scan, phase := .staging }
/-- A change of the power state. -/
def powM (f : Pow → Pow) (m : Mach) : Mach := { m with pow := f m.pow }
/-- A change of CAN controller 2. -/
def cn (f : Bus → Bus) (m : Mach) : Mach := m.setCan 2 (f (m.can 2))
/-- CAN controller 2 in a mode, with a reception buffer. -/
def cb (mode : Nat) : Mach := ((((((richM up).s F.CB_STAT_MODE mode 2).sb F.CB_STAT_INTEG false 2).s F.CB_TT_CFG_COLF 4 2).s F.CB_BUF_CFG_TYPE 1 2 7).s F.CB_BUF_ID_ID 0x123 2 7).s F.CB_BUF_CFG_DLC 9 2 7
/-- An FD frame of 16 bytes. -/
def cf : CanFrame := { id := 0x123, dlc := 10, fdf := true, data := List.replicate 16 5 }
/-- A transmission of buffer 7. -/
def fl7 (e : Bool) : Fly := { buf := 7, excl := e, id := 5, data := [1,2] }
/-- Bytes with their CRC. -/
def crcd (b : List Byte) : List Byte := b ++ leBytes 4 (crc32c b)
/-- An ingot with its CRC. -/
def ing (n : Nat) : List Byte := crcd (List.replicate 3 0 ++ leBytes 1 n ++ leBytes 4 n ++ List.replicate 308 0)
/-- A change of the streams. -/
def aqD (f : Aq → Aq) (m : Mach) : Mach := { m with aq := f m.aq }
/-- A change of the barrier. -/
def barD (f : Barrier → Barrier) (m : Mach) : Mach := { m with bar := f m.bar }
/-- A change of the link. -/
def lkD (f : Link → Link) (m : Mach) : Mach := { m with link := f m.link }
/-- A change of the ledger. -/
def ledD (f : Ledger → Ledger) (m : Mach) : Mach := { m with led := f m.led }
/-- A change of the groups. -/
def grpD (f : Group → Group) (m : Mach) : Mach := { m with scan := { m.scan with groups := f m.scan.groups } }
/-- Four lanes in service. -/
def lnM : Mach := (richM up).s F.DEV_BAR_STAT_INSERV 15
/-- Messages with an STM body. -/
def stmq (b : List Byte) : List BarMsg := [mg, { mgS with body := .stm b }]
/-- Stream triggers configured. -/
def trM : Mach := (((((richM up).sb F.AQ_TRG_CFG_AUTO true 2).s F.AQ_TRG_CFG_COND 1 2).s F.AQ_STM_CFG_TRGMASK 4 1).s F.AQ_STM_CFG_TRGMASK 8 3)
/-- An open ingot of one record. -/
def ig0 : Ingot := { stream := 1, f0 := 0, nf := 1 }
/-- A joined node. -/
def rg : Mach := (({ (richM up).sb F.ZL_STAT_JOINED true with pow := { up.pow with hostId := [0,0,0,0,0,0,5,1] } }))
/-- A beacon. -/
def bcon (node flags cyc : Nat) : List Byte := crcd (leBytes 4 0x4E424C5A ++ leBytes 1 node ++ leBytes 1 flags ++ leBytes 2 0 ++ leBytes 4 cyc ++ leBytes 4 77 ++ leBytes 8 123456 ++ List.replicate 36 0)
/-- A request with its CRC. -/
def reqB (src seq op : Nat) (pl : List Byte) : List Byte := crcd (leBytes 2 0xA5C3 ++ leBytes 2 pl.length ++ leBytes 2 261 ++ leBytes 2 src ++ leBytes 2 seq ++ leBytes 1 op ++ leBytes 1 0 ++ pl)
/-- A downlink slot. -/
def dsl (ack : Nat) : List Byte := crcd (leBytes 8 ack ++ List.replicate 36 0)
/-- A node slot with a group record. -/
def nsl (g crc : Nat) : List Byte := List.replicate 320 0 ++ crcd (leBytes 1 (3 + 64) ++ leBytes 3 0 ++ leBytes 2 g ++ leBytes 2 0 ++ leBytes 4 crc ++ List.replicate 48 0)
/-- A stream configuration of two sources. -/
def cfgB : List Byte := leBytes 4 0x434D5453 ++ leBytes 2 1 ++ leBytes 2 77 ++ leBytes 1 2 ++ leBytes 1 0 ++ leBytes 2 44 ++ leBytes 4 0 ++ leBytes 4 (65536 * 100 + 2 ^ 7 + 1) ++ leBytes 4 (65536 * 100 + 1) ++ List.replicate 16 0
/-- The next state of an outcome. -/
def nxt (o : Host.Outcome State Fault Refusal) : State := match o with | .next t => t | _ => s0
/-- A machine with a session of a role. -/
def oM (r : Nat) : Mach := ((richM up).s F.DEV_BAR_STAT_INSERV 15).sw .ZL_SESS (Word.of (2 ^ 31 + r * 2 ^ 29 + 5 * 2 ^ 16 + 9)) 4
/-- The same with a command waiting. -/
def o (r : Nat) : State := { m := oM r, pending := [.lockHoldover] }
/-- The same after a change. -/
def oW (f : Mach → Mach) (r : Nat) : State := { m := f (oM r), pending := [.lockHoldover] }
/-- Fields as bytes: widths and values. -/
def by_ (l : List (Nat × Nat)) : List Byte := (l.map (fun p => leBytes p.1 p.2)).flatten
/-- A generation on the Key in force. -/
def kM (m : Mach) : Mach := { m.keyStore (genBase 0) (genBuild 1 5 5 [(7, leBytes 8 77 ++ leBytes 8 0 ++ leBytes 8 99 ++ List.replicate 32 0)]) with gen := some 0 }
/-- A machine with an observer session, after a change. -/
def oS (f : Mach → Mach) : State := { m := f (oM 0), pending := [.lockHoldover] }
/-- The payload of a REG_WRITE of one entry. -/
def rw1 (i v : Nat) : List Byte := by_ [(2,1),(2,0),(2,i),(2,0),(4,v)]
/-- One read latch. -/
def nlt (m : Mach) : Mach := { m with latches := [(2, 5, 7)] }
/-- An image with two parameters. -/
def imgM (m : Mach) : Mach := { m with scan := { m.scan with img := some { params := [{ cell := 5, lo := -10, hi := 10 }, { cell := 9, lo := 0, hi := 10 }] } } }
/-- The payload of a REG_WRITE of two entries. -/
def bw : List Byte := by_ [(2,2),(2,0),(2,0x8005),(2,0),(4,0xFFFFFFFE),(2,0x8009),(2,0),(4,3)]
/-- The payload of a PARAM_BATCH. -/
def pb (e : List (Nat × Int)) : List Byte := by_ ([(4, 7), (2, e.length), (2, 0)] ++ (e.map (fun x => [(2, x.1), (2, 0), (4, (x.2 % 2 ^ 32).toNat)])).flatten)
/-- An image with parameters and stations. -/
def imP : Image := { imgid := 7, params := [{ cell := 5, lo := -10, hi := 10 }, { cell := 9, lo := 0, hi := 10 }], raw := List.replicate 100 7, stns := [{}, { en := true }, { en := true }, {en := false}] }
/-- That image in force. -/
def imgP (m : Mach) : Mach := { m with scan := { m.scan with img := some imP, num := 9, lastTicket := 5, stns := [{}, { mode := 2, until_ := some 4, testReq := some 6 }, { absent := true }] } }
/-- A MANID and a time. -/
def st1 : List Byte := by_ [(8, 7), (4, 100)]
/-- Two streams running. -/
def aqP (m : Mach) : Mach := aqD (fun q => { q with s := [{ act := true, cur := some {} }, { act := true, ended := true }, {}], subs := [(9, 1), (7, 3)], hist := [ing 3, ing 4, ing 6], live := [ing 6] }) (m.s F.AQ_STAT_ACTIVE 3)
/-- A stream configuration without a source. -/
def cfgE : List Byte := crcd (by_ [(4, 0x434D5453), (2, 1), (2, 3), (1, 0), (1, 0), (2, 20), (4, 0)])
/-- A log of three records and a ledger. -/
def lgP (m : Mach) : Mach := { (m.sb F.LG_STAT_DUE true).s F.EV_LOST 7 with log := { m.log with recs := [{ code := 1 }, { code := 3, arg0 := 8 }, { code := 0x0B06 }] }, led := { m.led with insp := 5, cal := 99 } }
/-- The commissioner key set. -/
def sfM (m : Mach) : Mach := m.sb F.DEV_ROLE_STAT_COM_SET true
/-- A change of the SP. -/
def spOf (f : Sp → Sp) (m : Mach) : Mach := { sfM m with sp := f m.sp }
/-- An editing session. -/
def edM : Mach → Mach := spOf (fun p => { p with t := 777, edit := some (9, 5), keyWrite := some [(7, [1])] })
/-- The payload of a SET_LOAD of two words. -/
def sl2 : List Byte := by_ [(2, 4), (4, 0xFFFFFFFF), (4, 0x12345678)]
/-- A set image. -/
def setI : List Byte := leBytes 8 5 ++ List.replicate 1528 0 ++ leBytes 8 77 ++ List.replicate 504 1
/-- An unconfirmed set. -/
def cfM : Mach → Mach := spOf (fun p => { p with setState := 2, image := setI })
/-- A confirmation of it. -/
def cfP : List Byte := sliceB setI 0x600 8 ++ leBytes 4 (setRev setI) ++ List.replicate 16 7 ++ leBytes 4 0xFFFFFFFF
/-- A confirmation with a wrong Hallmark. -/
def cfQ : List Byte := leBytes 8 1 ++ leBytes 4 (setRev setI) ++ List.replicate 16 7 ++ leBytes 4 0xFFFFFFFF
/-- An inspection record. -/
def inspR : List Byte := crcd (by_ [(1,1),(1,3),(1,2),(1,0),(4,100),(2,60),(1,5),(1,0),(8,0),(8,0)])
/-- An inspection record on the Key. -/
def inM (m : Mach) : Mach := (((sfM m).keyStore 0x71000 inspR).s F.ADC_EP_CFG_MODE 1 2).sb F.SF_STAT_FIRSTOK true
/-- Inspection on. -/
def onM : Mach → Mach := spOf (fun p => { p with t := 777, insp := some { src := 9, keep := 5 } })
/-- A set within its limits. -/
def okS (m : Mach) : Mach :=
  let m := ((m.s F.SF_TP_CFG_TPN 400).s F.SF_TP_CFG_TPW 4).s F.SF_DEG_CFG_TIME 60
  each (upTo 8) m (fun m k => ((m.s F.SF_SO_CFG_EDMT 10 k).s F.SF_MON_CFG_DIVT 10 k).s F.SF_MON_TOL_PTOL 5 k)
/-- The duplex states. -/
def dxP (a b : Nat) (m : Mach) : Mach := (m.s F.DX_STAT_STATEA a).s F.DX_STAT_STATEB b
/-- A retired standby. -/
def dx5 (m : Mach) : Mach := dxD (fun d => { d with retired := [1], restarts := [(1, 5), (0, 3)], takeBacks := [(1, 9)] }) ((((m.s F.DX_STAT_STATEA 1).s F.DX_STAT_STATEB 5).s F.DX_SIDE_TB24 2 1).s F.DX_SIDE_RST24 1 1)
/-- The payload of an SPR_GRAFT. -/
def gp (cls idx g : Nat) : List Byte := by_ [(1, cls), (1, 0), (2, idx), (8, g)]
/-- The payload of an SPR_RELEASE. -/
def rp (idx g : Nat) : List Byte := by_ [(1, idx), (1, 0), (8, g)]
/-- LE8 standing in for LE3. -/
def rlM (m : Mach) : Mach := (m.s F.SPR_STAT_LE8ST 2).s F.SPR_STAT_LE8FOR 3
/-- A slice as anneal spare. -/
def slM (m : Mach) : Mach := (m.s F.ADC_ANNEAL_STAT_SPARE 16).s F.ADC_SLICE_STAT_STATE 1 16
/-- No lane grafted. -/
def laM (m : Mach) : Mach := m.s F.DEV_BAR_STAT_SPARE_FOR 7
/-- One spare row left. -/
def row4 (m : Mach) : Mach := m.s F.MEM_BANK_STAT_SPARE_FREE 3 1
/-- A bundle in an update state. -/
def uM (st : Nat) (m : Mach) : Mach := { (m.s F.UPD_STAT_STATE st).s F.UPD_MANID 77 with upd := { m.upd with total := 5000, flash := [(0, 7), (5, 9)], blocks := [1] } }
/-- An armed update. -/
def uA (m : Mach) : Mach := (uM 5 m).sq .UPD_FRAME_LO 500
/-- A staged update in another power state. -/
def uB (m : Mach) : Mach := (uM 4 m).s F.DEV_STATE_STATE 2
/-- The payload of an UPD_PUT. -/
def putP (o n : Nat) : List Byte := by_ [(4, 77), (4, o), (2, n), (2, 0)] ++ List.replicate n 5 ++ leBytes 4 (crc32c (List.replicate n 5))
/-- A generation and a slot to roll back to. -/
def uRb (m : Mach) : Mach := { ((m.keyStore (genBase 1) (genBuild 1 5 77 [(1, []), (2, []), (6, []), (7, List.replicate 56 0)])).s F.UPD_BOOT_BSTATE 1) with gen := some 0, upd := { m.upd with slots := [{ manid := 5, good := true }, { manid := 77, ver := 3, good := true }] } }
/-- A minimal image. -/
def im0 (id : Nat) (sp : Nat) : List Byte := crcd (by_ [(4, 0x494E4353), (2, 1), (2, 0x100), (4, id), (4, 64 + 8 + 4), (2, 1), (2, 1), (2, 0), (2, 0), (2, 0), (1, 0), (1, 0), (2, 2), (2, 1), (4, 64), (4, 0), (4, 0), (4, 0), (4, 0), (12, 0), (1, 0x39), (1, 1), (2, 0), (4, sp)])
/-- The register values of a minimal generation. -/
def regL : List (Nat × Nat) :=
  (List.range 32).flatMap (fun a => [(R.MG_VMAX_LO.idx a 0, 1), (R.MG_AMAX_LO.idx a 0, 1), (R.MG_JMAX_LO.idx a 0, 1), (R.MG_AQS_LO.idx a 0, 1), (R.MG_JQS_LO.idx a 0, 1), (R.MG_MASS.idx a 0, 0x10001)]) ++
  (List.range 4).flatMap (fun k => [(R.CB_NBT.idx k 0, 1 * 2 ^ 25 + 60 * 2 ^ 17 + 17 * 2 ^ 10 + 1), (R.CB_TT_CFG.idx k 0, 1)]) ++
  [(R.EV_CFG.idx 0 0, 10), (R.LG_CFG.idx 0 0, 30), (R.ZL_CFG.idx 0 0, 60)]
/-- Its register section. -/
def regS : List Byte := (regL.map (fun e => leBytes 2 e.1 ++ leBytes 2 0 ++ leBytes 4 e.2)).flatten
/-- Its region section. -/
def mpuS : List Byte := by_ [(1, 2), (3, 0), (4, 0x20000000), (4, 0x20000107), (4, 0x20080000), (4, 0x20080107)] ++ List.replicate 112 0
/-- Its machine table section. -/
def tabS : List Byte := (List.replicate 8 (crcd (List.replicate 60 0))).flatten
/-- A minimal generation. -/
def gen0 (id : Nat) (sp seq man : Nat) : List Byte := genBuild seq man man [(1, regS), (2, tabS), (8, mpuS), (6, im0 id sp), (7, List.replicate 56 0)]
/-- The head of a bundle with one part. -/
def bunC (t f : Nat) : List Byte := List.replicate 6 0 ++ leBytes 2 1 ++ List.replicate 56 0 ++ leBytes 1 t ++ leBytes 1 f ++ List.replicate 62 0
/-- An update being verified. -/
def uV (t f st : Nat) : Mach := { ((richM up).s F.UPD_STAT_STATE st).s F.UPD_MANID 77 with upd := { up.upd with total := 5000, flash := cellsStore [] 0 (bunC t f), verify := true, blocks := [0] } }
/-- An update armed at a frame. -/
def uF (st f : Nat) : Mach := ((uV 0x11 0 st).sq .UPD_FRAME_LO f)
/-- An update whose activation frame has come. -/
def uX (go : Bool) (f : Nat) : Mach := let m := uF 5 f; { ((m.keyStore (genBase 0) (gen0 7 0 1 5)).s F.DEV_ENG_RUN_RUN 0x7FFFF) with gen := some 0, upd := { m.upd with flash := [], go := go } }
/-- The machine at reset. -/
def rsM : Mach := ({} : Mach)
/-- A machine in POWER_FAIL. -/
def pf0 : Mach := (richM up).s F.DEV_STATE_STATE stPOWER_FAIL
/-- A log window at record 1. -/
def lgW : Mach := { (richM up).s F.EV_CURSOR_CURSOR 1 with log := { recs := [{ code := 1 }, { code := 3, arg0 := 8 }, { code := 0x0B06, frame := 7 }] } }
/-- A host sender of role 2 or more writes the field registers while the fabric is up. -/
theorem fwHost {m : Mach} {r c : Nat} (h : m.fabricUp = true) (h2 : 2 ≤ r) : Safety.FieldWriter m (.host r c) := ⟨h, .inr ⟨r, c, rfl, h2⟩⟩
/-- The active AP writes the field registers. -/
theorem fwEng {m : Mach} {e : Nat} (h : m.fabricUp = true) (h2 : m.activeAp = some e) : Safety.FieldWriter m (.eng e) := ⟨h, .inl ⟨e, rfl, h2⟩⟩
/-- An engine that names a host register violates ownership. -/
theorem vio {m : Mach} {e idx : Nat} {v : Word} (h : m.fabricUp = true) (h1 : idx ≤ 0xFFFF) (h2 : isHostIdx idx = true) :
    Safety.Violates m e idx v false 1 := ⟨h, h1, .inr (.inl ⟨rfl, h2, rfl⟩)⟩

/-! ### Witnesses -/

/-- States and operands that meet the hypotheses of each clause of `LockWrite`. -/
theorem wit_LockWrite :
  (∃ (s : State) (who : Who) (v : Word),
    Safety.FieldWriter s.m who) :=
  ⟨rich, hst, 1, fwHost (by decide +kernel) (by decide)⟩

/-- States and operands that meet the hypotheses of each clause of `CountersCleared`. -/
theorem wit_CountersCleared :
  (∃ (s : State) (who : Who) (e : Nat) (v : Word),
    Safety.FieldWriter s.m who ∧ e < 19 ∧ 2 ^ 31 ≤ v.toNat) ∧
  (∃ (s : State) (who : Who) (v : Word),
    Safety.FieldWriter s.m who ∧ v.toNat % 2 = 1) ∧
  (∃ (s : State) (who : Who) (v : Word),
    Safety.FieldWriter s.m who ∧ v.toNat % 2 = 1) ∧
  (∃ (s : State) (who : Who) (v : Word),
    Safety.FieldWriter s.m who ∧ v.toNat % 2 = 1) ∧
  (∃ (s : State) (who : Who) (v : Word),
    Safety.FieldWriter s.m who ∧ getBits v 31 16 = 0x5A5A ∧ bit v.toNat 1 = true ∧ bit v.toNat 0 = false) ∧
  (∃ (s : State) (who : Who) (v : Word),
    Safety.FieldWriter s.m who ∧ v.toNat % 2 = 1) :=
  ⟨⟨rich, hst, 5, 0x80000000, fwHost (by decide +kernel) (by decide), by decide +kernel⟩,
   ⟨(mkS ((richM up).sw .MEM_ARB_PEAK 0x00050006 2)), hst, 1, fwHost (by decide +kernel) (by decide), by decide +kernel⟩,
   ⟨(mkS ((richM up).sw .PWM_GRP_CNT 0x00050006 2)), hst, 1, fwHost (by decide +kernel) (by decide), by decide +kernel⟩,
   ⟨(mkS (((richM up).sw .AQ_STM_STAT 0xFFFFFFFF 2).sw .AQ_TRG_STAT 0xFFFFFFFF 7)), hst, 1, fwHost (by decide +kernel) (by decide), by decide +kernel⟩,
   ⟨(mkS ((richM up).sw .PWR_LF 0x00050006)), hst, 0x5A5A0002, fwHost (by decide +kernel) (by decide), by decide +kernel⟩,
   ⟨(mkS ((richM up).sw .TRM_TSTAT 0xFFFFFFFF 2)), hst, 1, fwHost (by decide +kernel) (by decide), by decide +kernel⟩⟩

/-- States and operands that meet the hypotheses of each clause of `AxisCommands`. -/
theorem wit_AxisCommands :
  (∃ (s : State) (who : Who) (a : Nat) (v : Word) (c : Instr),
    Safety.FieldWriter s.m who ∧ a < 32 ∧ c ∈ [Instr.axisHold who a v, Instr.quickStop who a v, Instr.axisEnable who a v, Instr.referenceCommand who a v]) :=
  ⟨rich, hst, 2, 0x3F, (.axisHold hst 2 0x3F), fwHost (by decide +kernel) (by decide), by decide +kernel⟩

/-- States and operands that meet the hypotheses of each clause of `AxisRequests`. -/
theorem wit_AxisRequests :
  (∃ (s : State) (who : Who) (a : Nat) (v : Nat),
    Safety.FieldWriter s.m who ∧ a < 32 ∧ v < 2 ^ 64) ∧
  (∃ (s : State) (who : Who) (a : Nat) (v : Nat),
    Safety.FieldWriter s.m who ∧ a < 32 ∧ v < 2 ^ 64) ∧
  (∃ (s : State) (who : Who) (a : Nat) (v : Word),
    Safety.FieldWriter s.m who ∧ a < 32 ∧ bit v.toNat 10 = true ∧ s.m.sets = []) ∧
  (∃ (s : State) (who : Who) (k : Nat) (v : Word),
    Safety.FieldWriter s.m who ∧ k < 256 ∧ bit v.toNat 2 = true) ∧
  (∃ (s : State) (who : Who) (k : Nat) (v : Word),
    Safety.FieldWriter s.m who ∧ k < 256 ∧ s.m.inGap = false ∧ v.toNat / 2 ^ 31 ≠ s.m.g F.LP_PAGE_SEL k) :=
  ⟨⟨rich, hst, 1, 0xFFFFFFFFFFFFFFF0, fwHost (by decide +kernel) (by decide), by decide +kernel⟩,
   ⟨rich, hst, 1, 0xFFFFFFFFFFFFFFF0, fwHost (by decide +kernel) (by decide), by decide +kernel⟩,
   ⟨(mkS ((richM up).sw .MG_STAT 0xFFFFFFFF 2)), hst, 2, 0x400, fwHost (by decide +kernel) (by decide), by decide +kernel⟩,
   ⟨rich, hst, 3, 4, fwHost (by decide +kernel) (by decide), by decide +kernel⟩,
   ⟨rich, hst, 3, 0x80000000, fwHost (by decide +kernel) (by decide), by decide +kernel⟩⟩

/-- States and operands that meet the hypotheses of each clause of `HostTriggers`. -/
theorem wit_HostTriggers :
  (∃ (s : State) (who : Who) (v : Word),
    Safety.FieldWriter s.m who ∧ getBits v 31 16 = 0x5A5A ∧ bit v.toNat 1 = true ∧ bit v.toNat 0 = false) ∧
  (∃ (s : State) (who : Who) (role : Nat) (src : Nat) (trig : Nat),
    s.m.hostUp = true ∧ ((trig = 1 ∨ trig = 2 ∨ trig = 0 ∧ s.m.fabricUp = true ∧ 2 ≤ role ∧ who = .host role src))) ∧
  (∃ (s : State) (who : Who) (v : Word),
    Safety.FieldWriter s.m who ∧ getBits v 31 16 = 0x5A5A ∧ bit v.toNat 0 = true ∧ bit v.toNat 1 = false ∧ s.m.b F.PWR_CTL_SHUT = false) ∧
  (∃ (s : State) (role : Nat) (src : Nat) (v : Word),
    s.m.fabricUp = true ∧ 3 ≤ role ∧ s.m.b F.DEV_ROLE_STAT_COM_SET = true ∧ getBits v 31 16 = 0x5A5A ∧ bit v.toNat 0 = true) ∧
  (∃ (m : Mach),
    m.b F.SF_CTL_REARM = true) :=
  ⟨⟨rich, hst, 0x5A5A0002, fwHost (by decide +kernel) (by decide), by decide +kernel⟩,
   ⟨(mkS ((richM up).sb F.ZL_SESS_VALID true 3)), hst, 2, 1, 0, by decide +kernel⟩,
   ⟨rich, hst, 0x5A5A0001, fwHost (by decide +kernel) (by decide), by decide +kernel⟩,
   ⟨(mkS ((richM up).sb F.DEV_ROLE_STAT_COM_SET true)), 3, 1, 0x5A5A0001, by decide +kernel⟩,
   ⟨((richM up).sb F.SF_CTL_REARM true), by decide +kernel⟩⟩

/-- States and operands that meet the hypotheses of each clause of `DmaCommands`. -/
theorem wit_DmaCommands :
  (∃ (s : State) (e : Nat) (ch : Nat) (c : Nat) (v : Word),
    s.m.fabricUp = true ∧ ch < 32 ∧ ((ch < 8 ∧ e = 17 ∨ 8 ≤ ch ∧ s.m.activeAp = some e)) ∧ bit v.toNat 0 = true ∧ bit v.toNat 1 = false ∧ s.m.dmaBusy ch = false) ∧
  (∃ (s : State) (e : Nat) (ch : Nat) (c : Nat) (v : Word),
    s.m.fabricUp = true ∧ ch < 32 ∧ ((ch < 8 ∧ e = 17 ∨ 8 ≤ ch ∧ s.m.activeAp = some e)) ∧ bit v.toNat 1 = true ∧ bit v.toNat 0 = false ∧ s.m.dmaBusy ch = true) :=
  ⟨⟨rich, 17, 3, 5, 1, by decide +kernel⟩,
   ⟨(mkS ((richM up).s F.MEM_DMA_STAT_STATE 1 3)), 17, 3, 5, 2, by decide +kernel⟩⟩

/-- States and operands that meet the hypotheses of each clause of `RegisterWrites`. -/
theorem wit_RegisterWrites :
  (∃ (s : State) (who : Who) (c : Nat) (v : Word),
    Safety.FieldWriter s.m who) ∧
  (∃ (s : State) (e : Nat) (idx : Nat) (c : Nat) (v : Word) (narrow : Bool) (kind : Nat),
    Safety.Violates s.m e idx v narrow kind) :=
  ⟨⟨rich, hst, 5, 77, fwHost (by decide +kernel) (by decide)⟩,
   ⟨rich, 3, 0x4400, 5, 1, false, 1, vio (by decide +kernel) (by decide) (by decide +kernel)⟩⟩

/-- States and operands that meet the hypotheses of each clause of `CanModes`. -/
theorem wit_CanModes :
  (∃ (s : State) (who : Who) (k : Nat),
    Safety.FieldWriter s.m who ∧ k < 4) ∧
  (∃ (m : Mach) (first : Bool) (k : Nat) (v : Nat),
    k < 4 ∧ ((first = true ∨ (m.can k).modeReq = true)) ∧ m.g F.CB_STAT_ERRST k ≠ 2 ∧ m.b F.CB_TT_CFG_EN k = false ∧ v = m.g F.CB_CTL_MODE k) :=
  ⟨⟨rich, hst, 1, fwHost (by decide +kernel) (by decide), by decide +kernel⟩,
   ⟨up, true, 0, 0, by decide +kernel⟩⟩

/-- States and operands that meet the hypotheses of each clause of `TransmitRequests`. -/
theorem wit_TransmitRequests :
  (∃ (s : State) (who : Who) (k : Nat) (b : Nat),
    Safety.FieldWriter s.m who ∧ k < 4 ∧ b < 128 ∧ s.m.sends k b = true) ∧
  (∃ (s : State) (who : Who) (k : Nat) (b : Nat),
    Safety.FieldWriter s.m who ∧ k < 4 ∧ b < 128 ∧ s.m.sends k b = false) :=
  ⟨⟨(mkS ((richM up).s F.CB_BUF_CFG_TYPE 2 1 5)), hst, 1, 5, fwHost (by decide +kernel) (by decide), by decide +kernel⟩,
   ⟨rich, hst, 1, 5, fwHost (by decide +kernel) (by decide), by decide +kernel⟩⟩

/-- States and operands that meet the hypotheses of each clause of `BarrierCells`. -/
theorem wit_BarrierCells :
  (∃ (s : State) (c : Nat) (hv : Nat),
    s.m.bar.running = true ∧ s.m.hostUp = true ∧ s.m.lanes ≠ [] ∧ s.m.bar.slots = [] ∧ s.m.bar.msgs = [] ∧ s.m.bar.resend = [] ∧ s.m.bar.graftPend = none ∧ s.m.bar.evq = [] ∧ s.m.bar.incs = [] ∧ s.m.aq.queue = []) ∧
  (∃ (s : State) (c : Nat) (hv : Nat) (unlocked : List Nat),
    s.m.bar.running = true) ∧
  (∃ (s : State) (c : Nat) (hv : Nat) (unlocked : List Nat),
    s.m.bar.running = false) ∧
  (∃ (s : State) (toField : Bool) (lane : Nat) (pos : Nat) (bytes : List Byte) (x : CellSlot),
    s.m.bar.running = true ∧ s.m.laneOn lane = true ∧ cellGood bytes = true ∧ s.m.bar.slots.find? (fun y => y.toField == toField && y.typ != tTIM && s.m.carries y (Cell.ofBytes bytes)) = some x) ∧
  (∃ (s : State) (toField : Bool) (lane : Nat) (pos : Nat) (bytes : List Byte) (x : CellSlot),
    s.m.bar.running = true ∧ lane < 5 ∧ s.m.laneOn lane = true ∧ cellGood bytes = false ∧ s.m.slotAt toField lane pos = some x ∧ x.typ ≠ tTIM ∧ x.resend < 2 ∧ (s.m.bar.errAt.filter (fun e => e.1 == lane)).length < 15 ∧ s.m.g F.SPR_PART_WEAR (31 + lane) + 256 < s.m.g F.SPR_WEAR_CFG_WARN ∧ s.m.g F.SPR_PART_WEAR (31 + lane) + 256 < s.m.g F.SPR_WEAR_CFG_GRAFT) :=
  ⟨⟨(mkS bm), 5, 7000, by decide +kernel⟩,
   ⟨bs, 5, 7000, [], by decide +kernel⟩,
   ⟨s0, 5, 6, [], by decide +kernel⟩,
   ⟨bs, false, 2, 3, (bs.m.cellOf sl).bytes, sl, by decide +kernel⟩,
   ⟨((mkS (bs.m.sw .SPR_WEAR_CFG 0xFFFFFFFF))), false, 2, 3, [], sl, by decide +kernel⟩⟩

/-- States and operands that meet the hypotheses of each clause of `BarrierLanes`. -/
theorem wit_BarrierLanes :
  (∃ (s : State) (l : Nat),
    s.m.bar.running = true ∧ l < 5 ∧ s.m.laneOn l = true) ∧
  (∃ (s : State) (l : Nat) (c : Nat),
    s.m.bar.graftPend = some (l, c) ∧ l < 4 ∧ s.m.laneSpare = true) ∧
  (∃ (s : State),
    s.m.bar.graftPend = none) ∧
  (∃ (s : State),
    ¬ (s.m.ticking = true ∧ s.m.phase = .latch)) ∧
  (∃ (s : State) (x : BarMsg) (p : Pkt) (f0 : Nat),
    s.m.ticking = true ∧ s.m.phase = .latch ∧ s.m.bar.cmds = [(x.num, f0)] ∧ f0 ≤ s.m.frame ∧ s.m.bar.msgs = [x] ∧ x.toField = true ∧ x.typ = tCMD ∧ x.body = .cmd p ∧ p.op = 0x70 ∧ p.payload = [] ∧ 1 ≤ p.role ∧ s.m.g F.DEV_BAR_STAT_INSERV ≠ 0 ∧ s.m.mem.portFault = false ∧ s.m.waits p = true) :=
  ⟨⟨bs, 2, by decide +kernel⟩,
   ⟨(mkS { bm with bar := { bm.bar with graftPend := some (2, 7) } }), 2, 7, by decide +kernel⟩,
   ⟨s0, by decide +kernel⟩,
   ⟨(mkS { up with phase := .staging }), by decide +kernel⟩,
   ⟨cmS, mg, pk, 0, by decide +kernel⟩⟩

/-- States and operands that meet the hypotheses of each clause of `Bursts`. -/
theorem wit_Bursts :
  (∃ (s : State) (r : BurstReq),
    s.m.fabricUp = true ∧ r.req < 20 ∧ 0x20000000 ≤ r.addr ∧ r.addr < 0x20200000 ∧ burstLegal r = true ∧ (s.m.arb (bankOf r.addr)).freeAt ≤ s.m.fclk + r.at_) :=
  ⟨(mkS mm), (bq 17 20 true), by decide +kernel⟩

/-- States and operands that meet the hypotheses of each clause of `MemoryFaults`. -/
theorem wit_MemoryFaults :
  (∃ (s : State) (r : BurstReq) (c : Instr) (code : Nat) (a1 : Nat),
    r.req < 52 ∧ r.req ≠ 19 ∧ r.state = false ∧ 0x20000000 ≤ r.addr ∧ r.addr < 0x20200000 ∧ ((c = .beatTimeout r 0 ∧ code = 0x0302 ∧ burstLegal r = true ∧ s.m.mpuOk r.req r.addr r.len r.write = true ∧ a1 = r.addr / 8 * 8 ∨ c = .grantTimeout r ∧ code = 0x0303 ∧ a1 = r.addr))) ∧
  (∃ (s : State) (r : BurstReq) (k : Nat),
    burstLegal r = false) ∧
  (∃ (s : State) (r : BurstReq) (k : Nat),
    r.req < 20 ∧ burstLegal r = true ∧ k < (burstBeats r).length ∧ s.m.mpuOk r.req r.addr r.len r.write = false) :=
  ⟨⟨(mkS mm), (bq 0 8 true), (.beatTimeout (bq 0 8 true) 0), 0x0302, 0x20000100, by decide +kernel⟩,
   ⟨rich, (bq 2 80 true), 1, by decide +kernel⟩,
   ⟨(mkS { mm with mem := { mm.mem with mpu := [] } }), (bq 17 8 true), 0, by decide +kernel⟩⟩

/-- States and operands that meet the hypotheses of each clause of `MemoryRows`. -/
theorem wit_MemoryRows :
  (∃ (s : State) (row : Nat),
    rowGraftDue s.m row = true ∧ s.m.mem.copying row = false) ∧
  (∃ (s : State) (row : Nat) (sp : Nat) (n : Nat),
    s.m.mem.copies.find? (fun c => c.1 == row) = some (row, sp, n) ∧ s.m.mem.remap = [] ∧ row < 8192 ∧ ((∀ i < 32, s.m.mem.mark (s.m.mem.phys (256 * row + 8 * i) / 8) ≠ 1))) ∧
  (∃ (s : State) (b : Nat),
    b < 4 ∧ s.m.b F.MEM_ECC_CFG_SCRUB = true ∧ 8448 ≤ s.m.frame - nth s.m.mem.passStart b 0 ∧ nth s.m.mem.passLate b false = false) ∧
  (∃ (s : State) (ch : Nat) (c : Nat),
    ch < 32 ∧ s.m.dmaBusy ch = true ∧ (s.m.dma ch).len ≤ (s.m.dma ch).pos ∧ bit (s.m.dma ch).ctl 4 = false) :=
  ⟨⟨(mkS ({ mm with mem := { mm.mem with ce := [(2050, 300)] } }.s F.MEM_BANK_STAT_SPARE_FREE 3 1)), 2050, by decide +kernel⟩,
   ⟨(mkS { mm with mem := { mm.mem with copies := [(1, 5, 0)], ce := [(1, 7)] } }), 1, 5, 0, by decide +kernel⟩,
   ⟨(mkS ((mm.sb F.MEM_ECC_CFG_SCRUB true).sw .FRM_CNT_LO 8448)), 2, by decide +kernel⟩,
   ⟨(mkS ((mm.s F.MEM_DMA_STAT_STATE 1 9).setDma 9 { ctl := 8, cur := 0x20000100 })), 9, 5, by decide +kernel⟩⟩

/-- States and operands that meet the hypotheses of each clause of `TerminalProtection`. -/
theorem wit_TerminalProtection :
  (∃ (s : State) (k : Nat) (c : Nat) (x : Instr) (f : Fd),
    k < 96 ∧ ((x = .overloadTrip k c ∧ f = F.TRM_TSTAT_OVERLOAD ∧ s.m.drv k = true ∨ x = .thermalShutdown k c ∧ f = F.TRM_TSTAT_THERMAL))) ∧
  (∃ (s : State) (g : Nat) (c : Nat),
    g < 6) ∧
  (∃ (s : State) (g : Nat),
    g < 6 ∧ s.m.trm.wdOn = true ∧ s.m.g F.TRM_GRP_CFG_WDOG g ≤ nth s.m.trm.wdCount g 0 ∧ s.m.b F.TRM_GRP_STAT_WDEXP g = false) :=
  ⟨⟨(mkS ((richM up).sw .TRM_DRV 0xFF 0)), 3, 5, (.overloadTrip 3 5), F.TRM_TSTAT_OVERLOAD, by decide +kernel⟩,
   ⟨rich, 0, 5, by decide +kernel⟩,
   ⟨(mkS ({ richM up with trm := { up.trm with wdOn := true, wdCount := [0,0,255,0,0,0] } }.s F.TRM_GRP_CFG_WDOG 7 2)), 2, by decide +kernel⟩⟩

/-- States and operands that meet the hypotheses of each clause of `Conversions`. -/
theorem wit_Conversions :
  (∃ (s : State) (k : Nat) (c : Nat),
    s.m.triggers k c = true) ∧
  (∃ (s : State) (k : Nat) (c : Nat),
    s.m.triggers k c = false) ∧
  (∃ (s : State) (k : Nat) (ch : Nat) (c : Nat) (r : AdcScan) (v : Sample) (alt : List Sample) (x : Int),
    ch < 48 ∧ s.m.phase ≠ .latch ∧ s.m.adc.leave = none ∧ (s.m.at c).scanOf k ch = some r ∧ r.n = 0 ∧ r.x < 17 ∧ r.y < 17 ∧ x = s.m.sliceCode r.x (codeOf v (s.m.chLsb ch))) ∧
  (∃ (s : State) (k : Nat) (ch : Nat) (c : Nat) (r : AdcScan) (inp : List Sample) (alt : List Sample),
    ch < 48 ∧ s.m.phase ≠ .latch ∧ s.m.adc.leave = none ∧ (s.m.at c).scanOf k ch = some r ∧ r.n ≠ 0 ∧ r.x < 17 ∧ r.y < 17 ∧ inp.length = r.n ∧ ((∀ x < 17, s.m.gi F.ADC_SLICE_STAT_OFS x = 0 ∧ s.m.gi F.ADC_SLICE_STAT_GAIN x = 0))) ∧
  (∃ (s : State) (k : Nat) (ch : Nat) (c : Nat) (inp : List Sample) (alt : List Sample),
    (s.m.at c).scanOf k ch = none) ∧
  (∃ (s : State) (x : Nat) (c : Nat),
    x < 17 ∧ 2 ≤ (s.m.slice x).tcRun) ∧
  (∃ (s : State) (x : Nat),
    x < 17 ∧ (s.m.slice x).failed = true ∧ s.m.g F.ADC_SLICE_STAT_STATE x = 0 ∧ s.m.spareSlice < 17 ∧ s.m.spareSlice ≠ x ∧ s.m.g F.ADC_SLICE_STAT_ROLE x < 16 ∧ ((∀ j < 17, j ≠ x → (s.m.slice j).failed = false))) :=
  ⟨⟨(mkS am), 3, 0, by decide +kernel⟩,
   ⟨rich, 3, 5, by decide +kernel⟩,
   ⟨(mkS am2), 3, 4, 80, scn, { level := 2500000 }, [], 8, by decide +kernel⟩,
   ⟨(mkS am3), 2, 7, 200, scb, [{ level := 2500 }, { level := 312500000 }, { level := -7 }, { level := 9999999 }], [], by decide +kernel⟩,
   ⟨rich, 3, 4, 5, [], [], by decide +kernel⟩,
   ⟨(mkS (am.setSlice 4 { tcRun := 2 })), 4, 5, by decide +kernel⟩,
   ⟨(mkS (((am.setSlice 6 { failed := true }).s F.ADC_SLICE_STAT_STATE 0 6).s F.ADC_SLICE_STAT_ROLE 3 6)), 6, by decide +kernel⟩⟩

/-- States and operands that meet the hypotheses of each clause of `Anneal`. -/
theorem wit_Anneal :
  (∃ (s : State) (ofs : Int) (gain : Int),
    s.m.annealPhase = 0 ∧ s.m.spareSlice < 17 ∧ 2048 ≤ s.m.g F.ADC_ANNEAL_STAT_COUNT) ∧
  (∃ (s : State),
    s.m.annealPhase = 1 ∧ s.m.g F.ADC_ANNEAL_CFG_DWELL ≤ s.m.frame - s.m.adc.stepStart ∧ s.m.spareSlice < 17) ∧
  (∃ (s : State) (who : Who) (v : Word),
    Safety.FieldWriter s.m who ∧ v.toNat % 2 = 1 ∧ s.m.annealPhase = 1) ∧
  (∃ (s : State) (who : Who) (v : Word),
    Safety.FieldWriter s.m who ∧ s.m.annealPhase ≠ 1) ∧
  (∃ (s : State) (k : Nat) (x : Nat) (y : Nat),
    s.m.annealPhase = 2 ∧ s.m.spareSlice = x ∧ x < 17 ∧ 16 ≤ s.m.g F.ADC_ANNEAL_STAT_COUNT ∧ s.m.b F.ADC_ANNEAL_CFG_EN = true ∧ s.m.g F.ADC_ANNEAL_STAT_NEXTROLE = k ∧ k < 16 ∧ s.m.roleSlice k = y ∧ y < 17 ∧ y ≠ x) :=
  ⟨⟨(mkS (an 0)), 5, (-7), by decide +kernel⟩,
   ⟨(mkS ((an 1).sw .FRM_CNT_LO 0x7FFFFFFF)), by decide +kernel⟩,
   ⟨(mkS (an 1)), hst, 1, fwHost (by decide +kernel) (by decide), by decide +kernel⟩,
   ⟨(mkS (an 0)), hst, 1, fwHost (by decide +kernel) (by decide), by decide +kernel⟩,
   ⟨(mkS (an 2)), 3, 12, 6, by decide +kernel⟩⟩

/-- States and operands that meet the hypotheses of each clause of `EncoderPorts`. -/
theorem wit_EncoderPorts :
  (∃ (s : State) (p : Nat) (c : Nat) (w : Nat) (d : Int),
    p < 8 ∧ ((s.m.epMode p = 1 ∨ s.m.epMode p = 2 ∨ s.m.epMode p = 4)) ∧ s.m.g F.ADC_EP_CFG_FILT p ≤ w) ∧
  (∃ (s : State) (p : Nat) (c : Nat) (w : Nat),
    p < 8 ∧ ((s.m.epMode p = 1 ∨ s.m.epMode p = 2 ∨ s.m.epMode p = 4)) ∧ s.m.b F.ADC_EP_CFG_ZCAP p = true ∧ s.m.g F.ADC_EP_CFG_FILT p ≤ w ∧ (s.m.port p).cnt < 2 ^ 32) ∧
  (∃ (s : State) (p : Nat) (c : Nat) (w : Nat) (d : Int) (z : Bool),
    w < s.m.g F.ADC_EP_CFG_FILT p) ∧
  (∃ (s : State) (p : Nat) (b : Nat) (c : Nat) (on : Bool),
    p < 8 ∧ faultApplies (s.m.epMode p) b = true) ∧
  (∃ (s : State) (p : Nat) (c : Nat) (raw : Nat),
    p < 8 ∧ s.m.epMode p = 3) :=
  ⟨⟨(mkS (em 1)), 3, 5, 9, 7, by decide +kernel⟩,
   ⟨(mkS ((em 1).sb F.ADC_EP_CFG_ZCAP true 3)), 3, 5, 9, by decide +kernel⟩,
   ⟨(mkS (em 1)), 3, 5, 3, 7, true, by decide +kernel⟩,
   ⟨(mkS (em 1)), 3, 3, 9, true, by decide +kernel⟩,
   ⟨(mkS ((em 3).s F.ADC_EP_SSI_BITS 20 3)), 3, 5, 77, by decide +kernel⟩⟩

/-- States and operands that meet the hypotheses of each clause of `PwmReloads`. -/
theorem wit_PwmReloads :
  (∃ (s : State) (g : Nat) (c : Nat) (top : Bool),
    (s.m.at c).reloadDue g top = true ∧ s.m.b F.PWM_GRP_CFG_SYNC g = false ∧ ((∀ k < 16, s.m.reloadTriggers g top k = false))) ∧
  (∃ (s : State) (g : Nat) (c : Nat) (k : Nat) (top : Bool),
    (s.m.at c).reloadDue g top = true ∧ k < 16 ∧ ((∀ j < 16, s.m.reloadTriggers g top j = decide (j = k))) ∧ nth s.m.adc.busy k 0 ≤ s.m.fclk + c) ∧
  (∃ (s : State) (g : Nat) (c : Nat) (top : Bool),
    (s.m.at c).reloadDue g top = false) :=
  ⟨⟨(mkS pm), 2, 700, false, by decide +kernel⟩,
   ⟨(mkS ((((pm.s F.ADC_ROLE_CFG_TRIG 2 5).s F.ADC_ROLE_CFG_GROUP 2 5).s F.ADC_ROLE_CFG_EDGE 3 5).s F.ADC_MASK_LO 7 5)), 2, 700, 5, false, by decide +kernel⟩,
   ⟨(mkS pm), 2, 701, false, by decide +kernel⟩⟩

/-- States and operands that meet the hypotheses of each clause of `PwmFaultsAndLines`. -/
theorem wit_PwmFaultsAndLines :
  (∃ (s : State) (g : Nat) (c : Nat) (w : Nat),
    g < 12 ∧ (s.m.grp g).used = true ∧ s.m.st ≠ stPOWER_FAIL ∧ s.m.g F.PWM_GRP_CFG_GFFILT g ≤ w) ∧
  (∃ (s : State) (g : Nat) (c : Nat) (w : Nat) (on : Bool),
    g < 12 ∧ ((on = false ∨ w < s.m.g F.PWM_GRP_CFG_GFFILT g))) ∧
  (∃ (s : State) (g : Nat) (err : Int) (taps : List Nat),
    g < 12 ∧ (s.m.grp g).dlPhase = 0 ∧ 256 ≤ (s.m.grp g).dlCount ∧ s.m.spareLine g < 9) ∧
  (∃ (s : State) (g : Nat),
    g < 12 ∧ (s.m.grp g).dlPhase = 1 ∧ s.m.g F.PWM_ANNEAL_CFG_DWELL ≤ (s.m.grp g).dlCount) ∧
  (∃ (s : State) (g : Nat) (c : Nat) (i : Nat) (old : Nat),
    g < 12 ∧ (s.m.grp g).dlPhase = 2 ∧ (s.m.grp g).dlSwapped = false ∧ s.m.spareLine g = i ∧ i < 9 ∧ s.m.lineOf g (s.m.grp g).dlOut = old ∧ old < 9 ∧ (s.m.grp g).dlOut < 8 ∧ (s.m.at c).edgeNear g (s.m.grp g).dlOut = false) ∧
  (∃ (s : State) (g : Nat) (c : Nat),
    (s.m.at c).edgeNear g (s.m.grp g).dlOut = true) :=
  ⟨⟨(mkS pm), 2, 5, 4, by decide +kernel⟩,
   ⟨(mkS pm), 2, 5, 3, true, by decide +kernel⟩,
   ⟨(mkS dm), 2, (-5), ((List.range 32).map (fun k => 80 * k)), by decide +kernel⟩,
   ⟨(mkS (ab (fun p => { p with dlPhase := 1, dlCount := 65535 }) 2 dm)), 2, by decide +kernel⟩,
   ⟨(mkS (ab (fun p => { p with dlPhase := 2, dlOut := 5 }) 2 dm)), 2, 300, 8, 5, by decide +kernel⟩,
   ⟨(mkS (ab (fun p => { p with dlPhase := 2, dlOut := 7 }) 2 dm)), 2, 699, by decide +kernel⟩⟩

/-- An instance of every block type that `ValueBlocks` names, with its inputs at values its rule tells apart. -/
theorem wit_ValueBlocksTypes :
  (∃ (s : State) (c : BCtx), Safety.InstanceAt s.m c 0x01) ∧
  (∃ (s : State) (c : BCtx), Safety.InstanceAt s.m c 0x02) ∧
  (∃ (s : State) (c : BCtx), Safety.InstanceAt s.m c 0x03) ∧
  (∃ (s : State) (c : BCtx), Safety.InstanceAt s.m c 0x04) ∧
  (∃ (s : State) (c : BCtx), Safety.InstanceAt s.m c 0x0F) ∧
  (∃ (s : State) (c : BCtx), Safety.InstanceAt s.m c 0x10) ∧
  (∃ (s : State) (c : BCtx), Safety.InstanceAt s.m c 0x11) ∧
  (∃ (s : State) (c : BCtx), Safety.InstanceAt s.m c 0x12) ∧
  (∃ (s : State) (c : BCtx), Safety.InstanceAt s.m c 0x13) ∧
  (∃ (s : State) (c : BCtx), Safety.InstanceAt s.m c 0x14) ∧
  (∃ (s : State) (c : BCtx), Safety.InstanceAt s.m c 0x15) ∧
  (∃ (s : State) (c : BCtx), Safety.InstanceAt s.m c 0x16) ∧
  (∃ (s : State) (c : BCtx), Safety.InstanceAt s.m c 0x17) ∧
  (∃ (s : State) (c : BCtx), Safety.InstanceAt s.m c 0x1A) ∧
  (∃ (s : State) (c : BCtx), Safety.InstanceAt s.m c 0x1B) ∧
  (∃ (s : State) (c : BCtx), Safety.InstanceAt s.m c 0x1E) ∧
  (∃ (s : State) (c : BCtx), Safety.InstanceAt s.m c 0x1F) ∧
  (∃ (s : State) (c : BCtx), Safety.InstanceAt s.m c 0x21) ∧
  (∃ (s : State) (c : BCtx), Safety.InstanceAt s.m c 0x22) ∧
  (∃ (s : State) (c : BCtx), Safety.InstanceAt s.m c 0x23) ∧
  (∃ (s : State) (c : BCtx), Safety.InstanceAt s.m c 0x24) ∧
  (∃ (s : State) (c : BCtx), Safety.InstanceAt s.m c 0x26) ∧
  (∃ (s : State) (c : BCtx), Safety.InstanceAt s.m c 0x27) ∧
  (∃ (s : State) (c : BCtx), Safety.InstanceAt s.m c 0x28) :=
  ⟨⟨(bmS 0x1 [1,1] 1 {}), (bc (bmS 0x1 [1,1] 1 {})), ⟨by unfold Safety.BlockAt; decide +kernel, rfl⟩⟩,
   ⟨(bmS 0x2 [0,1] 1 {}), (bc (bmS 0x2 [0,1] 1 {})), ⟨by unfold Safety.BlockAt; decide +kernel, rfl⟩⟩,
   ⟨(bmS 0x3 [1,0] 1 {}), (bc (bmS 0x3 [1,0] 1 {})), ⟨by unfold Safety.BlockAt; decide +kernel, rfl⟩⟩,
   ⟨(bmS 0x4 [0] 1 {}), (bc (bmS 0x4 [0] 1 {})), ⟨by unfold Safety.BlockAt; decide +kernel, rfl⟩⟩,
   ⟨(bmS 0xf [5,4] 1 {}), (bc (bmS 0xf [5,4] 1 {})), ⟨by unfold Safety.BlockAt; decide +kernel, rfl⟩⟩,
   ⟨(bmS 0x10 [5,5] 1 {}), (bc (bmS 0x10 [5,5] 1 {})), ⟨by unfold Safety.BlockAt; decide +kernel, rfl⟩⟩,
   ⟨(bmS 0x11 [5,5] 1 {}), (bc (bmS 0x11 [5,5] 1 {})), ⟨by unfold Safety.BlockAt; decide +kernel, rfl⟩⟩,
   ⟨(bmS 0x12 [5,5] 1 {}), (bc (bmS 0x12 [5,5] 1 {})), ⟨by unfold Safety.BlockAt; decide +kernel, rfl⟩⟩,
   ⟨(bmS 0x13 [4294967291,5] 1 {}), (bc (bmS 0x13 [4294967291,5] 1 {})), ⟨by unfold Safety.BlockAt; decide +kernel, rfl⟩⟩,
   ⟨(bmS 0x14 [4294967291,5] 1 {}), (bc (bmS 0x14 [4294967291,5] 1 {})), ⟨by unfold Safety.BlockAt; decide +kernel, rfl⟩⟩,
   ⟨(bmS 0x15 [2147483647,5] 1 {}), (bc (bmS 0x15 [2147483647,5] 1 {})), ⟨by unfold Safety.BlockAt; decide +kernel, rfl⟩⟩,
   ⟨(bmS 0x16 [2147483648,5] 1 {}), (bc (bmS 0x16 [2147483648,5] 1 {})), ⟨by unfold Safety.BlockAt; decide +kernel, rfl⟩⟩,
   ⟨(bmS 0x17 [4294967289,5] 1 {}), (bc (bmS 0x17 [4294967289,5] 1 {})), ⟨by unfold Safety.BlockAt; decide +kernel, rfl⟩⟩,
   ⟨(bmS 0x1a [2147483648] 1 {}), (bc (bmS 0x1a [2147483648] 1 {})), ⟨by unfold Safety.BlockAt; decide +kernel, rfl⟩⟩,
   ⟨(bmS 0x1b [2147483648] 1 {}), (bc (bmS 0x1b [2147483648] 1 {})), ⟨by unfold Safety.BlockAt; decide +kernel, rfl⟩⟩,
   ⟨(bmS 0x1e [1,9,5] 1 {}), (bc (bmS 0x1e [1,9,5] 1 {})), ⟨by unfold Safety.BlockAt; decide +kernel, rfl⟩⟩,
   ⟨(bmS 0x1f [1,9,5] 1 {}), (bc (bmS 0x1f [1,9,5] 1 {})), ⟨by unfold Safety.BlockAt; decide +kernel, rfl⟩⟩,
   ⟨(bmS 0x21 [7] 1 {}), (bc (bmS 0x21 [7] 1 {})), ⟨by unfold Safety.BlockAt; decide +kernel, rfl⟩⟩,
   ⟨(bmS 0x22 [2147483647,9] 1 {}), (bc (bmS 0x22 [2147483647,9] 1 {})), ⟨by unfold Safety.BlockAt; decide +kernel, rfl⟩⟩,
   ⟨(bmS 0x23 [5,9] 1 {}), (bc (bmS 0x23 [5,9] 1 {})), ⟨by unfold Safety.BlockAt; decide +kernel, rfl⟩⟩,
   ⟨(bmS 0x24 [98304,98304] 1 {}), (bc (bmS 0x24 [98304,98304] 1 {})), ⟨by unfold Safety.BlockAt; decide +kernel, rfl⟩⟩,
   ⟨(bmS 0x26 [65536,3,9] 1 {}), (bc (bmS 0x26 [65536,3,9] 1 {})), ⟨by unfold Safety.BlockAt; decide +kernel, rfl⟩⟩,
   ⟨(bmS 0x27 [4294967289] 1 {}), (bc (bmS 0x27 [4294967289] 1 {})), ⟨by unfold Safety.BlockAt; decide +kernel, rfl⟩⟩,
   ⟨(bmS 0x28 [98304] 1 {}), (bc (bmS 0x28 [98304] 1 {})), ⟨by unfold Safety.BlockAt; decide +kernel, rfl⟩⟩⟩

/-- States and operands that meet the hypotheses of each clause of `SearchBlocks`. -/
theorem wit_SearchBlocks :
  (∃ (s : State) (c : BCtx),
    Safety.InstanceAt s.m c 0x1C) ∧
  (∃ (s : State) (c : BCtx),
    Safety.InstanceAt s.m c 0x1D) ∧
  (∃ (s : State) (c : BCtx),
    Safety.InstanceAt s.m c 0x20) ∧
  (∃ (s : State) (c : BCtx),
    Safety.InstanceAt s.m c 0x2D) ∧
  (∃ (s : State) (c : BCtx),
    Safety.InstanceAt s.m c 0x2E) :=
  ⟨⟨(bmS 0x1C [5,4294967289,9] 1 {}), (bc (bmS 0x1C [5,4294967289,9] 1 {})), ⟨by unfold Safety.BlockAt; decide +kernel, rfl⟩⟩,
   ⟨(bmS 0x1D [5,4294967289,9] 1 {}), (bc (bmS 0x1D [5,4294967289,9] 1 {})), ⟨by unfold Safety.BlockAt; decide +kernel, rfl⟩⟩,
   ⟨(bmS 0x20 [1,4294967289,9,4] 1 {}), (bc (bmS 0x20 [1,4294967289,9,4] 1 {})), ⟨by unfold Safety.BlockAt; decide +kernel, rfl⟩⟩,
   ⟨(bmS 0x2D [1,0,5] 1 {}), (bc (bmS 0x2D [1,0,5] 1 {})), ⟨by unfold Safety.BlockAt; decide +kernel, rfl⟩⟩,
   ⟨(bmS 0x2E [5] 3 {}), (bc (bmS 0x2E [5] 3 {})), ⟨by unfold Safety.BlockAt; decide +kernel, rfl⟩⟩⟩

/-- An instance of every block type that `DivisionBlocks` names, with its inputs at values its rule tells apart. -/
theorem wit_DivisionBlocksTypes :
  (∃ (s : State) (c : BCtx), Safety.InstanceAt s.m c 0x18) ∧
  (∃ (s : State) (c : BCtx), Safety.InstanceAt s.m c 0x19) ∧
  (∃ (s : State) (c : BCtx), Safety.InstanceAt s.m c 0x25) :=
  ⟨⟨(bmS 0x18 [7,4294967294] 1 {}), (bc (bmS 0x18 [7,4294967294] 1 {})), ⟨by unfold Safety.BlockAt; decide +kernel, rfl⟩⟩,
   ⟨(bmS 0x19 [7,4294967294] 1 {}), (bc (bmS 0x19 [7,4294967294] 1 {})), ⟨by unfold Safety.BlockAt; decide +kernel, rfl⟩⟩,
   ⟨(bmS 0x25 [7,4294967294] 1 {}), (bc (bmS 0x25 [7,4294967294] 1 {})), ⟨by unfold Safety.BlockAt; decide +kernel, rfl⟩⟩⟩

/-- States and operands that meet the hypotheses of each clause of `MemoryBlocks`. -/
theorem wit_MemoryBlocks :
  (∃ (s : State) (c : BCtx) (q : Bool),
    Safety.InstanceAt s.m c 0x05 ∧ q = (c.x 0 != 0 || c.st.q && c.x 1 == 0)) ∧
  (∃ (s : State) (c : BCtx) (q : Bool),
    Safety.InstanceAt s.m c 0x06 ∧ q = (c.x 1 == 0 && (c.st.q || c.x 0 != 0))) ∧
  (∃ (s : State) (c : BCtx) (q : Bool),
    Safety.InstanceAt s.m c 0x07 ∧ q = (c.x 0 != 0 && !c.st.p1)) ∧
  (∃ (s : State) (c : BCtx) (q : Bool),
    Safety.InstanceAt s.m c 0x08 ∧ q = (c.x 0 == 0 && c.st.p1)) ∧
  (∃ (s : State) (c : BCtx) (q : Bool),
    Safety.InstanceAt s.m c 0x29 ∧ ((c.x 0 > c.x 1 → q = true)) ∧ ((c.x 0 ≤ c.x 1 → c.x 0 < c.x 2 → q = false)) ∧ ((c.x 0 ≤ c.x 1 → c.x 2 ≤ c.x 0 → q = c.st.q))) ∧
  (∃ (s : State) (c : BCtx) (tau : Int) (y : Int),
    Safety.InstanceAt s.m c 0x2A ∧ tau = max 1 (c.x 1) ∧ y = satS 32 (c.st.n + rndDiv ((c.x 0 - c.st.n) * min c.dt tau) tau)) ∧
  (∃ (s : State) (c : BCtx) (d : Int) (y : Int),
    Safety.InstanceAt s.m c 0x2B ∧ d = max 0 (c.x 1) * c.dt ∧ ((c.x 0 < c.st.n - d → y = c.st.n - d)) ∧ ((c.st.n + d < c.x 0 → y = c.st.n + d)) ∧ ((c.st.n - d ≤ c.x 0 → c.x 0 ≤ c.st.n + d → y = c.x 0))) :=
  ⟨⟨(bmS 0x05 [0,0] 1 { seen := true, fprev := 90, q := true, p1 := true, n := 5 }), (bc (bmS 0x05 [0,0] 1 { seen := true, fprev := 90, q := true, p1 := true, n := 5 })), true, ⟨by unfold Safety.BlockAt; decide +kernel, rfl⟩, by decide +kernel⟩,
   ⟨(bmS 0x06 [0,0] 1 { seen := true, fprev := 90, q := true, p1 := true, n := 5 }), (bc (bmS 0x06 [0,0] 1 { seen := true, fprev := 90, q := true, p1 := true, n := 5 })), true, ⟨by unfold Safety.BlockAt; decide +kernel, rfl⟩, by decide +kernel⟩,
   ⟨(bmS 0x07 [1] 1 {}), (bc (bmS 0x07 [1] 1 {})), true, ⟨by unfold Safety.BlockAt; decide +kernel, rfl⟩, by decide +kernel⟩,
   ⟨(bmS 0x08 [0] 1 { seen := true, fprev := 90, q := true, p1 := true, n := 5 }), (bc (bmS 0x08 [0] 1 { seen := true, fprev := 90, q := true, p1 := true, n := 5 })), true, ⟨by unfold Safety.BlockAt; decide +kernel, rfl⟩, by decide +kernel⟩,
   ⟨(bmS 0x29 [5,4,3] 1 {}), (bc (bmS 0x29 [5,4,3] 1 {})), true, ⟨by unfold Safety.BlockAt; decide +kernel, rfl⟩, by decide +kernel⟩,
   ⟨(bmS 0x2A [500,20] 1 { seen := true, fprev := 90, q := true, p1 := true, n := 5 }), (bc (bmS 0x2A [500,20] 1 { seen := true, fprev := 90, q := true, p1 := true, n := 5 })), 20, (satS 32 (5 + rndDiv ((500-5)*10) 20)), ⟨by unfold Safety.BlockAt; decide +kernel, rfl⟩, by decide +kernel⟩,
   ⟨(bmS 0x2B [500,2] 1 { seen := true, fprev := 90, q := true, p1 := true, n := 5 }), (bc (bmS 0x2B [500,2] 1 { seen := true, fprev := 90, q := true, p1 := true, n := 5 })), 20, 25, ⟨by unfold Safety.BlockAt; decide +kernel, rfl⟩, by decide +kernel⟩⟩

/-- States and operands that meet the hypotheses of each clause of `TimerBlocks`. -/
theorem wit_TimerBlocks :
  (∃ (s : State) (c : BCtx) (pt : Int) (et : Int) (q : Bool),
    Safety.InstanceAt s.m c 0x0A ∧ pt = max 0 (c.x 1) ∧ et = (if c.x 0 = 0 then 0 else if c.st.p1 then min (c.st.n + c.dt) pt else c.st.n) ∧ q = (decide (c.x 0 ≠ 0) && decide (et ≥ pt))) ∧
  (∃ (s : State) (c : BCtx) (pt : Int) (et : Int) (q : Bool),
    Safety.InstanceAt s.m c 0x0B ∧ pt = max 0 (c.x 1) ∧ et = (if c.x 0 ≠ 0 then 0 else if c.st.p1 then 0 else if c.st.q then min (c.st.n + c.dt) pt else c.st.n) ∧ q = (if c.x 0 ≠ 0 then true else if et ≥ pt then false else c.st.q)) ∧
  (∃ (s : State) (c : BCtx) (pt : Int) (et0 : Int) (et : Int) (q0 : Bool) (q : Bool),
    Safety.InstanceAt s.m c 0x09 ∧ pt = max 0 (c.x 1) ∧ ((c.st.q = false → c.x 0 ≠ 0 → c.st.p1 = false → q0 = true ∧ et0 = 0)) ∧ ((c.st.q = false → (c.x 0 = 0 ∨ c.st.p1 = true) → q0 = false ∧ et0 = c.st.n)) ∧ ((c.st.q = true → q0 = true ∧ et0 = min (c.st.n + c.dt) pt)) ∧ q = (q0 && decide (et0 < pt)) ∧ et = (if q = false ∧ c.x 0 = 0 then 0 else et0)) ∧
  (∃ (s : State) (c : BCtx) (cv : Int),
    Safety.InstanceAt s.m c 0x0C ∧ cv = (if c.x 1 ≠ 0 then 0 else if c.x 0 ≠ 0 ∧ c.st.p1 = false ∧ c.st.n < 2147483647 then c.st.n + 1 else c.st.n)) ∧
  (∃ (s : State) (c : BCtx) (cv : Int),
    Safety.InstanceAt s.m c 0x0D ∧ cv = (if c.x 1 ≠ 0 then c.x 2 else if c.x 0 ≠ 0 ∧ c.st.p1 = false ∧ c.st.n > -2147483648 then c.st.n - 1 else c.st.n)) ∧
  (∃ (s : State) (c : BCtx) (cv : Int) (eu : Bool) (ed : Bool),
    Safety.InstanceAt s.m c 0x0E ∧ eu = (c.x 0 != 0 && !c.st.p1) ∧ ed = (c.x 1 != 0 && !c.st.p2) ∧ cv = (if c.x 2 ≠ 0 then 0 else if c.x 3 ≠ 0 then c.x 4 else if eu = true ∧ ed = false ∧ c.st.n < 2147483647 then c.st.n + 1 else if ed = true ∧ eu = false ∧ c.st.n > -2147483648 then c.st.n - 1 else c.st.n)) :=
  ⟨⟨(bmS 0x0A [1,20] 2 { seen := true, fprev := 90, q := true, p1 := true, n := 5 }), (bc (bmS 0x0A [1,20] 2 { seen := true, fprev := 90, q := true, p1 := true, n := 5 })), 20, 15, false, ⟨by unfold Safety.BlockAt; decide +kernel, rfl⟩, by decide +kernel⟩,
   ⟨(bmS 0x0B [0,20] 2 { seen := true, fprev := 90, q := true, p1 := true, n := 5 }), (bc (bmS 0x0B [0,20] 2 { seen := true, fprev := 90, q := true, p1 := true, n := 5 })), 20, 0, true, ⟨by unfold Safety.BlockAt; decide +kernel, rfl⟩, by decide +kernel⟩,
   ⟨(bmS 0x09 [1,20] 2 { seen := true, fprev := 90, q := true, p1 := true, n := 5 }), (bc (bmS 0x09 [1,20] 2 { seen := true, fprev := 90, q := true, p1 := true, n := 5 })), 20, 15, 15, true, true, ⟨by unfold Safety.BlockAt; decide +kernel, rfl⟩, by decide +kernel⟩,
   ⟨(bmS 0x0C [1,0,6] 2 { seen := true, fprev := 90, q := true, p1 := false, n := 5 }), (bc (bmS 0x0C [1,0,6] 2 { seen := true, fprev := 90, q := true, p1 := false, n := 5 })), 6, ⟨by unfold Safety.BlockAt; decide +kernel, rfl⟩, by decide +kernel⟩,
   ⟨(bmS 0x0D [1,0,6] 2 { seen := true, fprev := 90, q := true, p1 := false, n := 5 }), (bc (bmS 0x0D [1,0,6] 2 { seen := true, fprev := 90, q := true, p1 := false, n := 5 })), 4, ⟨by unfold Safety.BlockAt; decide +kernel, rfl⟩, by decide +kernel⟩,
   ⟨(bmS 0x0E [1,0,0,0,6] 3 { seen := true, fprev := 90, q := true, p1 := false, n := 5 }), (bc (bmS 0x0E [1,0,0,0,6] 3 { seen := true, fprev := 90, q := true, p1 := false, n := 5 })), 6, true, false, ⟨by unfold Safety.BlockAt; decide +kernel, rfl⟩, by decide +kernel⟩⟩

/-- States and operands that meet the hypotheses of each clause of `WriteListBlocks`. -/
theorem wit_WriteListBlocks :
  (∃ (s : State) (c : BCtx) (e : Mach),
    Safety.InstanceAt s.m c 0x30 ∧ e = Safety.Evaluated c [] c.st) ∧
  (∃ (s : State) (c : BCtx) (e : Mach),
    Safety.InstanceAt s.m c 0x31 ∧ e = Safety.Evaluated c [] c.st) ∧
  (∃ (s : State) (c : BCtx) (e : Mach),
    Safety.InstanceAt s.m c 0x33 ∧ e = Safety.Evaluated c [] { c.st with p1 := c.x 0 != 0 }) ∧
  (∃ (s : State) (c : BCtx) (e : Mach),
    Safety.InstanceAt s.m c 0x32 ∧ e = Safety.Evaluated c [] { c.st with p1 := c.x 0 != 0 }) ∧
  (∃ (s : State) (c : BCtx) (e : Mach) (k : Nat) (bf : Nat) (n : Nat),
    Safety.InstanceAt s.m c 0x36 ∧ e = Safety.Evaluated c [] c.st ∧ k = wrap 2 (c.x 1) ∧ bf = wrap 7 (c.x 2) ∧ n = min (c.b.ops.length - 3) (s.m.bufWords k bf) ∧ n ≤ 7) :=
  ⟨⟨(bmS 0x30 [1,77,5] 0 {}), (bc (bmS 0x30 [1,77,5] 0 {})), _, ⟨by unfold Safety.BlockAt; decide +kernel, rfl⟩, rfl⟩,
   ⟨(bmS 0x31 [1,77,5,6] 0 {}), (bc (bmS 0x31 [1,77,5,6] 0 {})), _, ⟨by unfold Safety.BlockAt; decide +kernel, rfl⟩, rfl⟩,
   ⟨(bmS 0x33 [1] 0 {}), (bc (bmS 0x33 [1] 0 {})), _, ⟨by unfold Safety.BlockAt; decide +kernel, rfl⟩, rfl⟩,
   ⟨(bmS 0x32 [1,300,5] 0 {}), (bc (bmS 0x32 [1,300,5] 0 {})), _, ⟨by unfold Safety.BlockAt; decide +kernel, rfl⟩, rfl⟩,
   ⟨(bmS 0x36 [1,2,5,7,8,9] 0 {}), (bc (bmS 0x36 [1,2,5,7,8,9] 0 {})), _, 2, 5, 0, ⟨by unfold Safety.BlockAt; decide +kernel, rfl⟩, rfl, by decide +kernel⟩⟩

/-- States and operands that meet the hypotheses of each clause of `ReadBlocks`. -/
theorem wit_ReadBlocks :
  (∃ (s : State) (c : BCtx) (r : Mach × Word),
    Safety.InstanceAt s.m c 0x2F ∧ r = c.m.regRead (.eng s.m.apSrc) (wrap 32 (c.x 0))) ∧
  (∃ (s : State) (c : BCtx) (k : Nat) (bf : Nat) (r : Mach × Option (List Byte)),
    Safety.InstanceAt s.m c 0x35 ∧ k = wrap 2 (c.x 0) ∧ bf = wrap 7 (c.x 1) ∧ r = c.m.readNew k bf (4 * s.m.bufWords k bf) (s.m.scan.torn.contains (k, bf))) ∧
  (∃ (s : State) (c : BCtx),
    Safety.InstanceAt s.m c 0x37) ∧
  (∃ (s : State) (c : BCtx),
    Safety.InstanceAt s.m c 0x38) ∧
  (∃ (s : State) (c : BCtx) (v : Int),
    Safety.InstanceAt s.m c 0x39 ∧ v = (s.m.seen (.eng s.m.apSrc) (R.LG_CAL_LO.idx 0 0)).toInt) ∧
  (∃ (s : State) (c : BCtx) (ch : Nat) (st : Nat) (e : Mach),
    Safety.InstanceAt s.m c 0x34 ∧ ch = wrap 5 (c.x 1) ∧ st = s.m.g F.MEM_DMA_STAT_STATE ch ∧ e = Safety.Evaluated c [if st = 1 then 1 else 0, if st = 2 then 1 else 0, if 3 ≤ st then 1 else 0] { c.st with p1 := c.x 0 != 0 }) :=
  ⟨⟨(bmS 0x2F [256] 1 {}), (bc (bmS 0x2F [256] 1 {})), ((bc (bmS 0x2F [256] 1 {})).m.regRead (.eng 0) 0x100), ⟨by unfold Safety.BlockAt; decide +kernel, rfl⟩, by decide +kernel⟩,
   ⟨(bmS 0x35 [2,5] 3 {}), (bc (bmS 0x35 [2,5] 3 {})), 2, 5, ((bc (bmS 0x35 [2,5] 3 {})).m.readNew 2 5 (4 * (bmS 0x35 [2,5] 3 {}).m.bufWords 2 5) false), ⟨by unfold Safety.BlockAt; decide +kernel, rfl⟩, by decide +kernel⟩,
   ⟨(bmS 0x37 [1] 1 {}), (bc (bmS 0x37 [1] 1 {})), ⟨by unfold Safety.BlockAt; decide +kernel, rfl⟩⟩,
   ⟨(bmS 0x38 [] 4 {}), (bc (bmS 0x38 [] 4 {})), ⟨by unfold Safety.BlockAt; decide +kernel, rfl⟩⟩,
   ⟨(bmS 0x39 [] 1 {}), (bc (bmS 0x39 [] 1 {})), ((bmS 0x39 [] 1 {}).m.seen (.eng 0) (R.LG_CAL_LO.idx 0 0)).toInt, ⟨by unfold Safety.BlockAt; decide +kernel, rfl⟩, by decide +kernel⟩,
   ⟨(bmS 0x34 [1,37,9] 3 {}), (bc (bmS 0x34 [1,37,9] 3 {})), 5, 0, _, ⟨by unfold Safety.BlockAt; decide +kernel, rfl⟩, by decide +kernel, by decide +kernel, rfl⟩⟩

/-- States and operands that meet the hypotheses of each clause of `Operands`. -/
theorem wit_Operands :
  (∃ (c : BCtx) (w : Nat),
    ((opSpace w = 4 ∨ opBit w = false))) ∧
  (∃ (c : BCtx) (w : Nat),
    opBit w = true) ∧
  (∃ (k : Scan) (w : Nat) (v : Int),
    (opSpace w = 0 ∨ opSpace w = 5 ∨ opSpace w = 6) ∧ opBit w = false) ∧
  (∃ (k : Scan) (w : Nat) (v : Int) (n : Nat),
    (opSpace w = 0 ∨ opSpace w = 5 ∨ opSpace w = 6) ∧ opBit w = true ∧ n < 32) ∧
  (∃ (k : Scan) (w : Nat) (v : Int),
    opSpace w = 4 ∧ -2147483648 ≤ v ∧ v ≤ 2147483647) ∧
  (∃ (k : Scan) (w : Nat) (x : Nat) (v : Int),
    ((opSpace x ≠ opSpace w ∨ opIdx x ≠ opIdx w))) :=
  ⟨⟨(bc (bmS 0x30 [1,77,5] 0 {})), (0 * 2 ^ 29 + 1), by decide +kernel⟩,
   ⟨(bc (bmS 0x30 [1,77,5] 0 {})), (0 * 2 ^ 29 + 2 ^ 28 + 5 * 2 ^ 16 + 1), by decide +kernel⟩,
   ⟨(bmS 0x30 [1,77,5] 0 {}).m.scan, (0 * 2 ^ 29 + 7), (-5), by decide +kernel⟩,
   ⟨(bmS 0x30 [1,77,5] 0 {}).m.scan, (0 * 2 ^ 29 + 2 ^ 28 + 5 * 2 ^ 16 + 7), (-5), 5, by decide +kernel⟩,
   ⟨up.scan, (4 * 2 ^ 29 + 7), (-5), by decide +kernel⟩,
   ⟨up.scan, 7, (5 * 2 ^ 29 + 7), 5, by decide +kernel⟩⟩

/-- States and operands that meet the hypotheses of each clause of `BlinkBlock`. -/
theorem wit_BlinkBlock :
  (∃ (s : State) (c : BCtx),
    Safety.InstanceAt s.m c 0x2C ∧ c.x 0 = 0) ∧
  (∃ (s : State) (c : BCtx) (th : Int) (tl : Int) (q : Bool),
    Safety.InstanceAt s.m c 0x2C ∧ th = max 0 (c.x 1) ∧ tl = max 0 (c.x 2) ∧ c.x 0 ≠ 0 ∧ c.st.p1 = false ∧ 0 < th + tl ∧ q = decide (0 < th)) ∧
  (∃ (s : State) (c : BCtx) (th : Int) (tl : Int) (pos : Int) (n : Int) (q : Bool),
    Safety.InstanceAt s.m c 0x2C ∧ th = max 0 (c.x 1) ∧ tl = max 0 (c.x 2) ∧ c.x 0 ≠ 0 ∧ c.st.p1 = true ∧ 0 < th + tl ∧ pos = ((if c.st.q then c.st.n else th + c.st.n) + c.dt) % (th + tl) ∧ q = decide (pos < th) ∧ n = (if q then pos else pos - th)) ∧
  (∃ (s : State) (c : BCtx) (q : Bool) (m : Mach),
    Safety.InstanceAt s.m c 0x2C ∧ max 0 (c.x 1) + max 0 (c.x 2) = 0 ∧ c.x 0 ≠ 0 ∧ q = (Config.freeValue s.m.free % 2 == 1) ∧ m = { c.m with free := s.m.free + 1 }) :=
  ⟨⟨(bmS 0x2C [0,5,6] 1 { seen := true, fprev := 90, q := true, p1 := true, n := 5 }), (bc (bmS 0x2C [0,5,6] 1 { seen := true, fprev := 90, q := true, p1 := true, n := 5 })), ⟨by unfold Safety.BlockAt; decide +kernel, rfl⟩, by decide +kernel⟩,
   ⟨(bmS 0x2C [1,5,6] 1 {}), (bc (bmS 0x2C [1,5,6] 1 {})), 5, 6, true, ⟨by unfold Safety.BlockAt; decide +kernel, rfl⟩, by decide +kernel⟩,
   ⟨(bmS 0x2C [1,5,6] 1 { seen := true, fprev := 90, q := true, p1 := true, n := 5 }), (bc (bmS 0x2C [1,5,6] 1 { seen := true, fprev := 90, q := true, p1 := true, n := 5 })), 5, 6, 4, 4, true, ⟨by unfold Safety.BlockAt; decide +kernel, rfl⟩, by decide +kernel⟩,
   ⟨(bmS 0x2C [1,0,0] 1 {}), (bc (bmS 0x2C [1,0,0] 1 {})), _, _, ⟨by unfold Safety.BlockAt; decide +kernel, rfl⟩, by decide +kernel, by decide +kernel, rfl, rfl⟩⟩

/-- States and operands that meet the hypotheses of each clause of `FrameTick`. -/
theorem wit_FrameTick :
  (∃ (s : State) (o : FrameIn) (m : Mach),
    s.m.ticking = true ∧ s.m.phase = .staging ∧ s.m.st ≠ stFIELD_START ∧ m = (s.m.tickTime false).lfTick o.lf) ∧
  (∃ (s : State) (o : FrameIn),
    ¬ (s.m.ticking = true ∧ s.m.phase = .staging) ∧ s.m.st ≠ stFIELD_START) ∧
  (∃ (s : State) (o : FrameIn) (m : Mach),
    s.m.st = stFIELD_START ∧ s.m.b F.FRM_STAT_RUN = false ∧ s.m.b F.FRM_CTL_LOCK = false ∧ m = (s.m.tickTime true).lfTick o.lf) :=
  ⟨⟨(mkS { richM up with phase := .staging, lock := { remain := -20 } }), {}, _, by decide +kernel, by decide +kernel, by decide +kernel, rfl⟩,
   ⟨rich, {}, by decide +kernel⟩,
   ⟨(mkS ((up.s F.DEV_STATE_STATE 3).sb F.FRM_STAT_RUN false)), {}, _, by decide +kernel, by decide +kernel, by decide +kernel, rfl⟩⟩

/-- States and operands that meet the hypotheses of each clause of `EndOfLatch`. -/
theorem wit_EndOfLatch :
  (∃ (s : State) (us : Nat) (torn : List (Nat × Nat)) (m1 : Mach) (m2 : Mach),
    s.m.b F.FRM_STAT_RUN = true ∧ s.m.phase = .latch ∧ s.m.st ≠ stPOWER_FAIL ∧ (trmChecks (s.m.at 1200).publishAll).st ≠ stPOWER_FAIL ∧ m1 = (trmChecks (s.m.at 1200).publishAll).applyCmds.rearmDue ∧ m2 = stnInputs (m1.spClocks us) torn) ∧
  (∃ (s : State) (us : Nat) (torn : List (Nat × Nat)),
    s.m.phase ≠ .latch) ∧
  (∃ (m : Mach) (n : Nat),
    ((∀ p ∈ m.fresh, p.1 ≠ n))) ∧
  (∃ (m : Mach) (n : Nat) (v : Word × Bool),
    m.fresh.getLast? = some (n, v)) ∧
  (∃ (m : Mach) (im : Image) (insp : Nat) (torn : List (Nat × Nat)),
    m.scan.img = some im) :=
  ⟨⟨rich, 77, [], _, _, by decide +kernel, by decide +kernel, by decide +kernel, by decide +kernel, rfl, rfl⟩,
   ⟨(mkS { up with phase := .staging }), 5, [], by decide +kernel⟩,
   ⟨(richM up), 0x300, by decide +kernel⟩,
   ⟨(richM up), 0x301, (6, true), by decide +kernel⟩,
   ⟨(bmS 0x30 [1,77,5] 0 {}).m, { consts := [1,77,5], stns := [{}, {}], blks := [{}, { typ := 0x30, ops := [0x40000000, 0x40000001, 0x40000002] }] }, 7, [], by decide +kernel⟩⟩

/-- States and operands that meet the hypotheses of each clause of `CommitPoint`. -/
theorem wit_CommitPoint :
  (∃ (s : State) (fin : List (Option Nat)) (token : Bool) (late : Bool) (apLate : Bool) (m0 : Mach) (m1 : Mach) (m2 : Mach) (m : Mach),
    s.m.ticking = true ∧ s.m.phase = .window ∧ m0 = (s.m.at (s.m.curLen - 400)).settleScan ∧ late = (m0.frameBound 2 && m0.late fin 2) ∧ apLate = m0.activeAp.any (fun x => m0.frameBound x && m0.late fin x) ∧ m1 = (each (upTo 18) m0 (judgeEngine fin)).memFaults.failActions ∧ m2 = (spToken m1 (token && !late)).giveUps.1 ∧ m = (m2.commitOutputs ((spToken m1 (token && !late)).giveUps.2 || m2.dx.gapFrame == some m2.frame || m2.dx.held.isSome) apLate).readiness.runningEntry) ∧
  (∃ (s : State) (fin : List (Option Nat)) (token : Bool),
    ¬ (s.m.ticking = true ∧ s.m.phase = .window)) ∧
  (∃ (m : Mach) (fin : List (Option Nat)) (e : Nat) (c : Nat),
    e < 18 ∧ m.frameBound e = true ∧ m.mem.forceOvr.contains e = false ∧ nth fin e none = some c ∧ c + 1600 ≤ m.curLen ∧ c < 2 ^ 19) ∧
  (∃ (m : Mach) (fin : List (Option Nat)) (e : Nat),
    e < 18 ∧ m.frameBound e = true ∧ ((m.mem.forceOvr.contains e = true ∨ nth fin e none = none ∨ ∃ c, nth fin e none = some c ∧ m.curLen - 1600 < c))) ∧
  (∃ (m : Mach) (e : Nat),
    e < 18 ∧ m.consecLimit e > m.g F.FRM_OVR_RUN e + 1 ∧ m.g F.FRM_OVR_CFG_WIN > m.winCount e + 1) :=
  ⟨⟨(mkS ({ richM up with phase := .window, ovrAt := [] })), (List.replicate 18 (some 500)), true, false, false, _, _, _, _, by decide +kernel, by decide +kernel, rfl, by decide +kernel, by decide +kernel, rfl, rfl, rfl⟩,
   ⟨rich, [], true, by decide +kernel⟩,
   ⟨({ richM up with phase := .window, ovrAt := [] }), (List.replicate 18 (some 500)), 4, 500, by decide +kernel⟩,
   ⟨({ richM up with phase := .window, ovrAt := [] }), [], 4, by decide +kernel⟩,
   ⟨(({ richM up with phase := .window, ovrAt := [] }).sw .FRM_OVR_CFG 0xFFFFFFFF), 4, by decide +kernel⟩⟩

/-- States and operands that meet the hypotheses of each clause of `OverrunFailure`. -/
theorem wit_OverrunFailure :
  (∃ (s : State) (e : Nat) (m : Mach),
    e < 18 ∧ s.m.ticking = true ∧ s.m.frameBound e = true ∧ s.m.failing = [] ∧ (s.m.consecLimit e ≤ s.m.g F.FRM_OVR_RUN e ∨ s.m.g F.FRM_OVR_CFG_WIN ≤ s.m.winCount e) ∧ m = { s.m.failCheck e with failing := [] }) ∧
  (∃ (s : State) (e : Nat),
    ((18 ≤ e ∨ s.m.ticking = false ∨ s.m.failing.contains e = false ∧ s.m.g F.FRM_OVR_RUN e < s.m.consecLimit e ∧ s.m.winCount e < s.m.g F.FRM_OVR_CFG_WIN))) :=
  ⟨⟨(mkS ((({ richM up with phase := .window, ovrAt := [], failing := [] }).sw .FRM_OVR_CFG 0x00000303).s F.FRM_OVR_RUN 9 4)), 4, _, by decide +kernel, by decide +kernel, by decide +kernel, by decide +kernel, by decide +kernel, rfl⟩,
   ⟨(mkS (up.sw .FRM_OVR_CFG 0xFFFFFFFF)), 4, by decide +kernel⟩⟩

/-- States and operands that meet the hypotheses of each clause of `Lockouts`. -/
theorem wit_Lockouts :
  (∃ (s : State) (src : Nat),
    s.m.hostUp = true) ∧
  (∃ (s : State) (src : Nat),
    s.m.hostUp = false) :=
  ⟨⟨(mkS { richM up with lockouts := [(1, 5), (2, 6)], roleFails := [(1, 5), (2, 6)] }), 1, by decide +kernel⟩,
   ⟨(mkS {}), 4, by decide +kernel⟩⟩

/-- States and operands that meet the hypotheses of each clause of `SlotFaults`. -/
theorem wit_SlotFaults :
  (∃ (s : State) (k : Nat),
    k < 256 ∧ s.m.staleDue k = true) ∧
  (∃ (s : State) (k : Nat),
    s.m.staleDue k = false) ∧
  (∃ (s : State) (k : Nat) (sel : Nat),
    k < 256 ∧ s.m.activeAp.isSome = true ∧ (s.m.slot k).chk.isSome = true ∧ sel = s.m.g F.LP_PAGE_SEL k) ∧
  (∃ (s : State) (k : Nat),
    (s.m.slot k).chk = none) :=
  ⟨⟨(mkS ((((((richM up).s F.LP_CFG_TYPE 1 9).sb F.LP_CTL_EN true 9).s F.LP_SRC2_STALEMAX 3 9).sb F.LP_STAT_STALE true 9).s F.LP_STAT_STALERUN 3 9)), 9, by decide +kernel⟩,
   ⟨rich, 9, by decide +kernel⟩,
   ⟨(mkS ((richM up).setSlot 9 { chk := some 1 })), 9, 0, by decide +kernel⟩,
   ⟨rich, 9, by decide +kernel⟩⟩

/-- States and operands that meet the hypotheses of each clause of `AxisFaults`. -/
theorem wit_AxisFaults :
  (∃ (s : State) (a : Nat) (w : AxW),
    a < 32 ∧ s.m.axisType a ≠ 0 ∧ s.m.mem.marks = [] ∧ w = s.m.axW a ∧ w.refLong = true) ∧
  (∃ (s : State) (a : Nat) (w : AxW),
    a < 32 ∧ s.m.axisType a ≠ 0 ∧ s.m.mem.marks = [] ∧ w = s.m.axW a ∧ w.refLong = false) ∧
  (∃ (s : State) (a : Nat) (w : AxW),
    a < 32 ∧ s.m.axisType a ≠ 0 ∧ s.m.mem.marks = [] ∧ w = s.m.axW a ∧ w.x.rev = true ∧ w.moving = false ∧ s.m.g F.MG_CFG_REVDWELL a = 0) ∧
  (∃ (s : State) (a : Nat) (w : AxW),
    a < 32 ∧ s.m.axisType a ≠ 0 ∧ s.m.mem.marks = [] ∧ w = s.m.axW a ∧ 4 ≤ w.x.inval ∧ s.m.b F.MG_STAT_FBLOST a = false ∧ w.x.refRun = none) ∧
  (∃ (s : State) (a : Nat) (w : AxW),
    a < 32 ∧ s.m.axisType a ≠ 0 ∧ s.m.mem.marks = [] ∧ w = s.m.axW a ∧ w.x.inval < 4) ∧
  (∃ (s : State) (a : Nat) (w : AxW),
    a < 32 ∧ s.m.axisType a ≠ 0 ∧ s.m.mem.marks = [] ∧ w = s.m.axW a ∧ 2 ≤ w.x.ferr ∧ s.m.b F.MG_STAT_FERR a = false ∧ w.x.refRun = none) ∧
  (∃ (s : State) (a : Nat) (w : AxW),
    a < 32 ∧ s.m.axisType a ≠ 0 ∧ s.m.mem.marks = [] ∧ w = s.m.axW a ∧ w.x.ferr < 2) ∧
  (∃ (s : State) (a : Nat) (w : AxW),
    a < 32 ∧ s.m.axisType a ≠ 0 ∧ s.m.mem.marks = [] ∧ w = s.m.axW a ∧ 4 ≤ w.x.eov ∧ s.m.b F.MG_STAT_EOVER a = false) :=
  ⟨⟨(mkS ((axm { refRun := some 0 } { p := 99999999999999 }))), 5, _, by decide +kernel, by decide +kernel, by decide +kernel, rfl, by decide +kernel⟩,
   ⟨(mkS ((axm {} {}))), 5, _, by decide +kernel, by decide +kernel, by decide +kernel, rfl, by decide +kernel⟩,
   ⟨(mkS ((axm { rev := true } {}))), 5, _, by decide +kernel, by decide +kernel, by decide +kernel, rfl, by decide +kernel⟩,
   ⟨(mkS ((axm { inval := 4 } {}))), 5, _, by decide +kernel, by decide +kernel, by decide +kernel, rfl, by decide +kernel⟩,
   ⟨(mkS ((axm { inval := 3 } {}))), 5, _, by decide +kernel, by decide +kernel, by decide +kernel, rfl, by decide +kernel⟩,
   ⟨(mkS ((axm { ferr := 2 } {}))), 5, _, by decide +kernel, by decide +kernel, by decide +kernel, rfl, by decide +kernel⟩,
   ⟨(mkS ((axm { ferr := 1 } {}))), 5, _, by decide +kernel, by decide +kernel, by decide +kernel, rfl, by decide +kernel⟩,
   ⟨(mkS ((axm { eov := 5 } {}))), 5, _, by decide +kernel, by decide +kernel, by decide +kernel, rfl, by decide +kernel⟩⟩

/-- States and operands that meet the hypotheses of each clause of `AxisStall`. -/
theorem wit_AxisStall :
  (∃ (s : State) (a : Nat) (w : AxW),
    a < 32 ∧ s.m.axisType a = 2 ∧ w = s.m.axW a ∧ w.stallFound = true ∧ w.x.refRun = none) ∧
  (∃ (s : State) (a : Nat) (w : AxW),
    a < 32 ∧ s.m.axisType a = 2 ∧ w = s.m.axW a ∧ w.stallFound = true ∧ w.x.refRun ≠ none) ∧
  (∃ (s : State) (a : Nat) (w : AxW),
    a < 32 ∧ s.m.axisType a ≠ 0 ∧ w = s.m.axW a ∧ w.stallFound = false) ∧
  (∃ (w : AxW),
    w.x.refRun = none) ∧
  (∃ (w : AxW) (p0 : Int),
    w.x.refRun = some p0 ∧ w.m.b F.MG_CTL_REFMODE w.a = false) :=
  ⟨⟨(mkS ((axm { onset := 7 } { v := 5, cnt := 99 }))), 5, _, by decide +kernel, by decide +kernel, rfl, by decide +kernel⟩,
   ⟨(mkS ((axm { onset := 7, refRun := some 3 } { v := 5, cnt := 99 }))), 5, _, by decide +kernel, by decide +kernel, rfl, by decide +kernel⟩,
   ⟨(mkS ((axm {} { v := 5, cnt := 0 }).s F.MG_STALL_STALLN 3 5)), 5, _, by decide +kernel, by decide +kernel, rfl, by decide +kernel⟩,
   ⟨((axm { onset := 7 } {}).axW 5), by decide +kernel⟩,
   ⟨((axm { refRun := some 7 } {}).axW 5), 7, by decide +kernel⟩⟩

/-- States and operands that meet the hypotheses of each clause of `Scans`. -/
theorem wit_Scans :
  (∃ (s : State) (c : Nat) (dur : Nat) (torn : List (Nat × Nat)) (im : Image) (ip : InImg) (per : Nat) (m0 : Mach) (m1 : Mach) (m2 : Mach) (m3 : Mach),
    m0 = (s.m.at c).settleScan ∧ m0.scanMay = true ∧ m0.upd.newScan = false ∧ m0.scan.img = some im ∧ m0.scan.inp = some ip ∧ m1 = each m0.stnIds m0 (stnBoundary ip.f) ∧ per = (match m0.scan.lastF with | some l => ip.f - l | none => 0) ∧ m2 = { m1 with scan := { m1.scan with num := m1.scan.num + 1, lastF := some ip.f, period := per, longest := max m1.scan.longest per, wl := [], torn := torn } } ∧ m3 = (m2.applyBatches im ip.f).runBlocks im ip) ∧
  (∃ (s : State) (c : Nat) (dur : Nat) (torn : List (Nat × Nat)),
    ((s.m.at c).settleScan).scanMay = false) ∧
  (∃ (s : State) (c : Nat) (o : ScanOut) (im : Image) (e : Nat),
    s.m.scan.cur = some o ∧ s.m.scan.img = some im ∧ s.m.activeAp = some e ∧ o.t0 + im.scanMax * s.m.L < min o.t1 (s.m.at c).now) :=
  ⟨⟨scM, 5, 900, [], (scM.m.scan.img.getD {}), (scM.m.scan.inp.getD {}), 0, _, _, _, _, rfl, by decide +kernel, by decide +kernel, by decide +kernel, by decide +kernel, rfl, by decide +kernel, rfl, rfl⟩,
   ⟨rich, 5, 9, [], by decide +kernel⟩,
   ⟨(mkS { late.m with fclk := 900000000 }), 5, { num := 1, f := 0, t0 := 0, t1 := 100000000000 }, (scM.m.scan.img.getD {}), 0, by decide +kernel⟩⟩

/-- States and operands that meet the hypotheses of each clause of `Batches`. -/
theorem wit_Batches :
  (∃ (m : Mach) (im : Image) (f : Nat),
    ((∀ b ∈ m.scan.batches, f < b.frame))) :=
  ⟨(mkS { up with scan := { up.scan with batches := [scB] } }).m, {}, 49, by decide +kernel⟩

/-- States and operands that meet the hypotheses of each clause of `LiftSequence`. -/
theorem wit_LiftSequence :
  (∃ (c : BCtx) (q : SeqP) (k : Car),
    k.step = 1 ∧ c.fb q.mch q.mainFb true = true) ∧
  (∃ (c : BCtx) (q : SeqP) (k : Car),
    k.step = 1 ∧ c.fb q.mch q.mainFb true = false ∧ k.et < q.tMain) ∧
  (∃ (c : BCtx) (q : SeqP) (k : Car),
    k.step = 1 ∧ c.fb q.mch q.mainFb true = false ∧ q.tMain ≤ k.et) ∧
  (∃ (c : BCtx) (q : SeqP) (k : Car),
    k.step = 2 ∧ k.slots.length ≤ 8 - c.m.scan.placed ∧ q.tTorq ≤ k.et) ∧
  (∃ (c : BCtx) (q : SeqP) (k : Car),
    k.step = 3 ∧ c.fb q.mch q.brkFb true = true) ∧
  (∃ (c : BCtx) (q : SeqP) (k : Car),
    k.step = 3 ∧ c.fb q.mch q.brkFb true = false ∧ q.tBrk ≤ k.et) ∧
  (∃ (c : BCtx) (q : SeqP) (k : Car),
    k.step = 4 ∧ settled k.judge c.ip.f = true ∧ c.ip.b F.MG_STAT_TGTREF q.a = false ∧ c.ip.b F.MG_STAT_TGTLIM q.a = false) ∧
  (∃ (c : BCtx) (q : SeqP) (k : Car),
    k.step = 4 ∧ settled k.judge c.ip.f = true ∧ ((c.ip.b F.MG_STAT_TGTREF q.a = true ∨ c.ip.b F.MG_STAT_TGTLIM q.a = true))) ∧
  (∃ (c : BCtx) (q : SeqP) (k : Car),
    k.step = 5 ∧ k.stopping = false ∧ c.ip.b F.MG_STAT_INPOS q.a = true ∧ settled k.judge c.ip.f = true) ∧
  (∃ (c : BCtx) (q : SeqP) (k : Car),
    k.step = 5 ∧ k.stopping = true ∧ c.ip.b F.MG_STAT_MOVING q.a = false) ∧
  (∃ (c : BCtx) (q : SeqP) (k : Car),
    k.step = 6 ∧ q.tHold ≤ k.et) ∧
  (∃ (c : BCtx) (q : SeqP) (k : Car),
    k.step = 7 ∧ c.fb q.mch q.brkFb false = true) ∧
  (∃ (c : BCtx) (q : SeqP) (k : Car),
    k.step = 7 ∧ c.fb q.mch q.brkFb false = false ∧ q.tBrk ≤ k.et) ∧
  (∃ (c : BCtx) (q : SeqP) (k : Car),
    k.step = 8 ∧ q.tDrop ≤ k.et) ∧
  (∃ (c : BCtx) (q : SeqP) (k : Car),
    k.step = 9 ∧ k.slots.length ≤ 8 - c.m.scan.placed ∧ c.fb q.mch q.mainFb false = true) :=
  ⟨⟨lc, (sq 255 255), { step := 1, et := 0, slots := [3, 4], kind := 2, atL := some 1, tgt := 77 }, by decide +kernel⟩,
   ⟨lc, (sq 7 255), { step := 1, et := 7999, slots := [3, 4], kind := 2, atL := some 1, tgt := 77 }, by decide +kernel⟩,
   ⟨lc, (sq 7 255), { step := 1, et := 8000, slots := [3, 4], kind := 2, atL := some 1, tgt := 77 }, by decide +kernel⟩,
   ⟨lc, (sq 7 255), { step := 2, et := 4000, slots := [3, 4], kind := 2, atL := some 1, tgt := 77 }, by decide +kernel⟩,
   ⟨lc, (sq 7 255), { step := 3, et := 0, slots := [3, 4], kind := 2, atL := some 1, tgt := 77 }, by decide +kernel⟩,
   ⟨lc, (sq 255 7), { step := 3, et := 12000, slots := [3, 4], kind := 2, atL := some 1, tgt := 77 }, by decide +kernel⟩,
   ⟨lc, (sq 7 7), { step := 4, et := 3, judge := some { num := 1, taken := some 2 }, kind := 1, atL := some 1 }, by decide +kernel⟩,
   ⟨({ lc with ip := { lc.ip with reg := smPut (fun _ => (0 : Word)) lc.ip.reg (R.MG_STAT.idx 5 0) 0x4000 } }), (sq 7 7), { step := 4, et := 3, judge := some { num := 1, taken := some 2 }, kind := 1, atL := some 1 }, by decide +kernel⟩,
   ⟨({ lc with ip := { lc.ip with reg := smPut (fun _ => (0 : Word)) lc.ip.reg (R.MG_STAT.idx 5 0) 0x20000000 } }), (sq 7 7), { step := 5, et := 0, slots := [3, 4], kind := 2, atL := some 1, tgt := 77 }, by decide +kernel⟩,
   ⟨lc, (sq 7 7), { step := 5, stopping := true }, by decide +kernel⟩,
   ⟨lc, (sq 7 7), { step := 6, et := 2000, slots := [3, 4], kind := 2, atL := some 1, tgt := 77 }, by decide +kernel⟩,
   ⟨lc, (sq 7 7), { step := 7, et := 0, slots := [3, 4], kind := 2, atL := some 1, tgt := 77 }, by decide +kernel⟩,
   ⟨({ lc with ip := { lc.ip with reg := smPut (fun _ => (0 : Word)) lc.ip.reg (R.TRM_IN.idx 0 0) 128 } }), (sq 7 7), { step := 7, et := 12000, slots := [3, 4], kind := 2, atL := some 1, tgt := 77 }, by decide +kernel⟩,
   ⟨lc, (sq 7 7), { step := 8, et := 4000, slots := [3, 4], kind := 2, atL := some 1, tgt := 77 }, by decide +kernel⟩,
   ⟨lc, (sq 7 7), { step := 9, et := 0, slots := [3, 4], kind := 2, atL := some 1, tgt := 77 }, by decide +kernel⟩⟩

/-- States and operands that meet the hypotheses of each clause of `LiftBlocks`. -/
theorem wit_LiftBlocks :
  (∃ (s : State) (c : BCtx) (mch : Nat) (x : Machn),
    Safety.InstanceAt s.m c 0x3A ∧ mch = wrap 3 (c.x 0) ∧ x = s.m.mach mch) ∧
  (∃ (s : State) (c : BCtx) (mch : Nat) (x : Machn),
    Safety.InstanceAt s.m c 0x3B ∧ mch = wrap 3 (c.x 0) ∧ x = s.m.mach mch ∧ (((s.m.lcar mch).inSvc = false ∨ c.insp = true))) ∧
  (∃ (s : State) (c : BCtx) (mch : Nat) (k : Car),
    Safety.InstanceAt s.m c 0x3B ∧ mch = wrap 3 (c.x 0) ∧ k = s.m.lcar mch ∧ k.inSvc = true ∧ c.insp = false ∧ 1 ≤ k.step ∧ k.step ≤ 4 ∧ k.query = none) ∧
  (∃ (s : State) (c : BCtx) (mch : Nat) (x : Machn) (k : Car),
    Safety.InstanceAt s.m c 0x3E ∧ mch = wrap 3 (c.x 0) ∧ x = s.m.mach mch ∧ k = s.m.lcar mch ∧ k.step = 0 ∧ c.x 2 ≠ 0 ∧ k.svcPrev = false ∧ c.ip.b F.MG_STAT_MOVING x.car = false ∧ c.permits x.sfChain = true) ∧
  (∃ (s : State) (c : BCtx) (mch : Nat) (k : Car),
    Safety.InstanceAt s.m c 0x3F ∧ mch = wrap 3 (c.x 0) ∧ k = s.m.lcar mch ∧ c.insp = false ∧ ((k.kind = 2 → k.step = 0))) ∧
  (∃ (s : State) (c : BCtx) (mch : Nat) (x : Machn),
    Safety.InstanceAt s.m c 0x3F ∧ mch = wrap 3 (c.x 0) ∧ x = s.m.mach mch ∧ c.insp = true ∧ (s.m.lcar mch).step = 0 ∧ ((c.x 2 ≠ 0 ∧ c.x 3 = 0 ∨ c.x 2 = 0 ∧ c.x 3 ≠ 0)) ∧ c.ip.b F.MG_STAT_MOVING x.car = false) :=
  ⟨⟨(lm 0x3A [1,1,1] 2 [] (id)), (bc (lm 0x3A [1,1,1] 2 [] (id))), 1, mc, ⟨by unfold Safety.BlockAt; decide +kernel, rfl⟩, by decide +kernel⟩,
   ⟨(lm 0x3B [1,1,1] 1 [] (id)), (bc (lm 0x3B [1,1,1] 1 [] (id))), 1, mc, ⟨by unfold Safety.BlockAt; decide +kernel, rfl⟩, by decide +kernel⟩,
   ⟨(lm 0x3B [1,5,1] 1 [] (fun m => m.setCar 1 { inSvc := true, up := 5, decl := none, step := 2, kind := 0 })), (bc (lm 0x3B [1,5,1] 1 [] (fun m => m.setCar 1 { inSvc := true, up := 5, decl := none, step := 2, kind := 0 }))), 1, { inSvc := true, up := 5, decl := none, step := 2, kind := 0 }, ⟨by unfold Safety.BlockAt; decide +kernel, rfl⟩, by decide +kernel⟩,
   ⟨(lm 0x3E [1,1,1,0,5] 1 [(R.SF_PERMIT.idx 0 0, 0xFFFFFFFF)] (fun m => m.setCar 1 { dir := 1 })), (bc (lm 0x3E [1,1,1,0,5] 1 [(R.SF_PERMIT.idx 0 0, 0xFFFFFFFF)] (fun m => m.setCar 1 { dir := 1 }))), 1, mc, { dir := 1 }, ⟨by unfold Safety.BlockAt; decide +kernel, rfl⟩, by decide +kernel⟩,
   ⟨(lm 0x3F [1,1,0,1] 1 [] (fun m => m.setCar 1 { inSvc := true, up := 5, decl := none, step := 2, kind := 0 })), (bc (lm 0x3F [1,1,0,1] 1 [] (fun m => m.setCar 1 { inSvc := true, up := 5, decl := none, step := 2, kind := 0 }))), 1, { inSvc := true, up := 5, decl := none, step := 2, kind := 0 }, ⟨by unfold Safety.BlockAt; decide +kernel, rfl⟩, by decide +kernel⟩,
   ⟨(inspOn (lm 0x3F [1,1,0,1] 1 [] (fun m => m.setCar 1 { inSvc := true, up := 5, decl := none, step := 0, kind := 0 }))), (bc (inspOn (lm 0x3F [1,1,0,1] 1 [] (fun m => m.setCar 1 { inSvc := true, up := 5, decl := none, step := 0, kind := 0 })))), 1, mc, ⟨by unfold Safety.BlockAt; decide +kernel, rfl⟩, by decide +kernel⟩⟩

/-- States and operands that meet the hypotheses of each clause of `DoorBlock`. -/
theorem wit_DoorBlock :
  (∃ (s : State) (c : BCtx) (mch : Nat) (side : Nat) (a : Nat) (p : Nat) (x : Machn) (d : Door),
    Safety.InstanceAt s.m c 0x3C ∧ mch = wrap 3 (c.x 0) ∧ side = wrap 1 (c.x 1) ∧ x = s.m.mach mch ∧ x.door side = some a ∧ p = opIdx (nth c.b.ops 2 0) ∧ d = s.m.ldoor mch side ∧ c.x 5 = 0 ∧ d.st = 2 ∧ ((c.x 4 ≠ 0 ∨ c.parN p 2 ≤ d.et + c.dt.toNat))) ∧
  (∃ (s : State) (c : BCtx) (mch : Nat) (side : Nat) (a : Nat) (p : Nat) (x : Machn) (d : Door),
    Safety.InstanceAt s.m c 0x3C ∧ mch = wrap 3 (c.x 0) ∧ side = wrap 1 (c.x 1) ∧ x = s.m.mach mch ∧ x.door side = some a ∧ p = opIdx (nth c.b.ops 2 0) ∧ d = s.m.ldoor mch side ∧ c.x 5 = 0 ∧ d.st = 2 ∧ c.x 4 = 0 ∧ d.et + c.dt.toNat < c.parN p 2) ∧
  (∃ (s : State) (c : BCtx) (mch : Nat) (side : Nat) (a : Nat) (p : Nat) (x : Machn) (d : Door),
    Safety.InstanceAt s.m c 0x3C ∧ mch = wrap 3 (c.x 0) ∧ side = wrap 1 (c.x 1) ∧ x = s.m.mach mch ∧ x.door side = some a ∧ p = opIdx (nth c.b.ops 2 0) ∧ d = s.m.ldoor mch side ∧ c.x 5 = 0 ∧ d.st = 0 ∧ d.refDone = true ∧ d.lockWait = false ∧ ((d.openReq = true ∨ c.x 3 ≠ 0)) ∧ c.mayOpen { mch := mch, side := side, a := a, p := p, trav := x.travel side } = true) ∧
  (∃ (s : State) (c : BCtx) (mch : Nat) (side : Nat) (a : Nat) (p : Nat) (x : Machn) (d : Door),
    Safety.InstanceAt s.m c 0x3C ∧ mch = wrap 3 (c.x 0) ∧ side = wrap 1 (c.x 1) ∧ x = s.m.mach mch ∧ x.door side = some a ∧ p = opIdx (nth c.b.ops 2 0) ∧ d = s.m.ldoor mch side ∧ c.x 5 = 0 ∧ d.st = 0 ∧ d.refDone = true ∧ d.lockWait = false ∧ c.mayOpen { mch := mch, side := side, a := a, p := p, trav := x.travel side } = false) ∧
  (∃ (s : State) (c : BCtx) (mch : Nat) (side : Nat) (a : Nat) (p : Nat) (x : Machn) (d : Door),
    Safety.InstanceAt s.m c 0x3C ∧ mch = wrap 3 (c.x 0) ∧ side = wrap 1 (c.x 1) ∧ x = s.m.mach mch ∧ x.door side = some a ∧ p = opIdx (nth c.b.ops 2 0) ∧ d = s.m.ldoor mch side ∧ c.x 5 = 0 ∧ d.st = 6) :=
  ⟨⟨(lm 0x3C [1,0,1,0,1,0] 2 [] (fun m => (m).setDoor 1 0 { st := 2, et := 0, revs := 3 })), (bc (lm 0x3C [1,0,1,0,1,0] 2 [] (fun m => (m).setDoor 1 0 { st := 2, et := 0, revs := 3 }))), 1, 0, 2, 2, mc, { st := 2, et := 0, revs := 3 }, ⟨by unfold Safety.BlockAt; decide +kernel, rfl⟩, by decide +kernel⟩,
   ⟨(lm 0x3C [1,0,1,0,0,0] 2 [] (fun m => (m.setWord 0x8004 500).setDoor 1 0 { st := 2, et := 40, revs := 0 })), (bc (lm 0x3C [1,0,1,0,0,0] 2 [] (fun m => (m.setWord 0x8004 500).setDoor 1 0 { st := 2, et := 40, revs := 0 }))), 1, 0, 2, 2, mc, { st := 2, et := 40, revs := 0 }, ⟨by unfold Safety.BlockAt; decide +kernel, rfl⟩, by decide +kernel⟩,
   ⟨(lm 0x3C [1,0,1,1,0,0] 2 [(R.MG_STAT.idx 5 0, 0x20000000), (R.SF_PERMIT.idx 0 0, 0xFFFFFFFF)] (fun m => (m).setDoor 1 0 { refDone := true })), (bc (lm 0x3C [1,0,1,1,0,0] 2 [(R.MG_STAT.idx 5 0, 0x20000000), (R.SF_PERMIT.idx 0 0, 0xFFFFFFFF)] (fun m => (m).setDoor 1 0 { refDone := true }))), 1, 0, 2, 2, mc, { refDone := true }, ⟨by unfold Safety.BlockAt; decide +kernel, rfl⟩, by decide +kernel⟩,
   ⟨(lm 0x3C [1,0,1,1,0,0] 2 [(R.SF_PERMIT.idx 0 0, 0xFFFFFFFF)] (fun m => (m).setDoor 1 0 { refDone := true })), (bc (lm 0x3C [1,0,1,1,0,0] 2 [(R.SF_PERMIT.idx 0 0, 0xFFFFFFFF)] (fun m => (m).setDoor 1 0 { refDone := true }))), 1, 0, 2, 2, mc, { refDone := true }, ⟨by unfold Safety.BlockAt; decide +kernel, rfl⟩, by decide +kernel⟩,
   ⟨(lm 0x3C [1,0,1,1,0,0] 2 [(R.SF_PERMIT.idx 0 0, 0xFFFFFFFF)] (fun m => (m).setDoor 1 0 { st := 6 })), (bc (lm 0x3C [1,0,1,1,0,0] 2 [(R.SF_PERMIT.idx 0 0, 0xFFFFFFFF)] (fun m => (m).setDoor 1 0 { st := 6 }))), 1, 0, 2, 2, mc, { st := 6 }, ⟨by unfold Safety.BlockAt; decide +kernel, rfl⟩, by decide +kernel⟩⟩

/-- States and operands that meet the hypotheses of each clause of `GroupAndDiverse`. -/
theorem wit_GroupAndDiverse :
  (∃ (s : State) (c : BCtx) (g : Group) (up : Nat) (dn : Nat) (m : Mach),
    Safety.InstanceAt s.m c 0x3D ∧ g = s.m.scan.groups ∧ up = (g.hup ||| (wrap 32 (c.x 1) + 2 ^ 32 * wrap 32 (c.x 2))) % 2 ^ 63 ∧ dn = (g.hdn ||| (wrap 32 (c.x 3) + 2 ^ 32 * wrap 32 (c.x 4))) % 2 ^ 63 ∧ m = { c.m with scan := { c.m.scan with groups := { g with hup := up, hdn := dn } } }) ∧
  (∃ (s : State) (c : BCtx) (mch : Nat) (ch : Nat) (d : Nat) (age : Nat) (sf : Nat) (ps : Int) (pc : Int) (v : Int),
    Safety.InstanceAt s.m c 0x40 ∧ mch = wrap 3 (c.x 0) ∧ ch = wrap 3 (c.x 1) ∧ d = s.m.g F.SF_MON_CFG_DCELL ch ∧ c.shaft mch (if c.im.hasCar mch then c.par (c.im.carPar mch) 0 else 0) = some (ps, age) ∧ age ≤ (if c.im.hasCar mch then c.parN (c.im.carPar mch) 1 else 80) ∧ sf = c.ip.f - age ∧ pc = rnd (c.x 2 * ps) 16 ∧ (s.m.scan.divs.find? (fun e => e.1 == c.k)).map (fun e => e.2.1) ≠ some sf ∧ v = (match s.m.scan.divs.find? (fun e => e.1 == c.k) with | some e => satS 32 (tdivI ((pc - e.2.2) * 65536) ((sf : Int) - e.2.1)) | none => 0)) :=
  ⟨⟨(lm 0x3D [1,5,0,2,1] 4 [] id), (bc (lm 0x3D [1,5,0,2,1] 4 [] id)), (lm 0x3D [1,5,0,2,1] 4 [] id).m.scan.groups, 5, (2^32 + 2), _, ⟨by unfold Safety.BlockAt; decide +kernel, rfl⟩, by decide +kernel, by decide +kernel, by decide +kernel, rfl⟩,
   ⟨(lm 0x40 [1,3,196608] 0 [] (id)), (bc (lm 0x40 [1,3,196608] 0 [] (id))), 1, 3, (up.g F.SF_MON_CFG_DCELL 3), 2, 98, 77, 231, 0, ⟨by unfold Safety.BlockAt; decide +kernel, rfl⟩, by decide +kernel⟩⟩

/-- States and operands that meet the hypotheses of each clause of `LiftWaits`. -/
theorem wit_LiftWaits :
  (∃ (s : State) (c : BCtx) (mch : Nat) (dt : Nat) (p : Nat) (k : Car),
    Safety.InstanceAt s.m c 0x3A ∧ s.m.liftInst 0x3A mch none = some (c.k, dt, p) ∧ k = s.m.lcar mch ∧ (((k.step = 1 ∨ k.step = 9) ∧ s.m.parAt p 12 ≤ k.et + dt ∨ (k.step = 3 ∨ k.step = 7) ∧ s.m.parAt p 14 ≤ k.et + dt))) ∧
  (∃ (s : State) (c : BCtx) (mch : Nat) (dt : Nat) (p : Nat) (k : Car) (ip : InImg),
    Safety.InstanceAt s.m c 0x3A ∧ s.m.liftInst 0x3A mch none = some (c.k, dt, p) ∧ k = s.m.lcar mch ∧ s.m.scan.inp = some ip ∧ k.step = 0 ∧ s.m.parAt p 7 ≤ (k.relevs.filter (fun f => decide (ip.f < f + 2400000))).length) ∧
  (∃ (s : State) (c : BCtx) (mch : Nat) (dt : Nat) (p : Nat) (k : Car),
    Safety.InstanceAt s.m c 0x3A ∧ s.m.liftInst 0x3A mch none = some (c.k, dt, p) ∧ k = s.m.lcar mch ∧ 0 < k.unus ∧ 4 * s.m.parAt p 1 ≤ k.unus + dt) ∧
  (∃ (s : State) (mch : Nat),
    (s.m.lcar mch).unus = 0) ∧
  (∃ (s : State) (mch : Nat),
    (s.m.lcar mch).step ≠ 0) ∧
  (∃ (s : State) (mch : Nat),
    (s.m.lcar mch).step = 5) ∧
  (∃ (s : State) (c : BCtx) (mch : Nat) (side : Nat) (dt : Nat) (p : Nat) (d : Door),
    Safety.InstanceAt s.m c 0x3C ∧ s.m.liftInst 0x3C mch (some side) = some (c.k, dt, p) ∧ d = s.m.ldoor mch side ∧ d.st = 2 ∧ s.m.parAt p 2 ≤ d.et + dt) ∧
  (∃ (s : State) (c : BCtx) (mch : Nat) (side : Nat) (dt : Nat) (p : Nat) (d : Door),
    Safety.InstanceAt s.m c 0x3C ∧ s.m.liftInst 0x3C mch (some side) = some (c.k, dt, p) ∧ d = s.m.ldoor mch side ∧ d.st = 0 ∧ d.lockWait = true ∧ s.m.parAt p 7 ≤ d.et + dt) ∧
  (∃ (s : State) (c : BCtx) (mch : Nat) (side : Nat) (dt : Nat) (p : Nat) (d : Door) (n : Nat),
    Safety.InstanceAt s.m c 0x3C ∧ s.m.liftInst 0x3C mch (some side) = some (c.k, dt, p) ∧ d = s.m.ldoor mch side ∧ d.force = some n ∧ s.m.parAt p 4 ≤ n + dt) ∧
  (∃ (s : State) (mch : Nat) (side : Nat),
    (s.m.ldoor mch side).st ≠ 2) ∧
  (∃ (s : State) (mch : Nat) (side : Nat),
    (s.m.ldoor mch side).lockWait = false) ∧
  (∃ (s : State) (mch : Nat) (side : Nat),
    (s.m.ldoor mch side).force = none) :=
  ⟨⟨(lm 0x3A [1,1,1] 2 [(R.SF_PERMIT.idx 0 0, 0xFFFFFFFF)] (fun m => m.setCar 1 { inSvc := true, up := 5, decl := none, step := 3, kind := 0 })), (bc (lm 0x3A [1,1,1] 2 [(R.SF_PERMIT.idx 0 0, 0xFFFFFFFF)] (fun m => m.setCar 1 { inSvc := true, up := 5, decl := none, step := 3, kind := 0 }))), 1, 10, 1, { inSvc := true, up := 5, decl := none, step := 3, kind := 0 }, ⟨by unfold Safety.BlockAt; decide +kernel, rfl⟩, by decide +kernel⟩,
   ⟨(lm 0x3A [1,1,1] 2 [(R.SF_PERMIT.idx 0 0, 0xFFFFFFFF)] (fun m => m.setCar 1 {})), (bc (lm 0x3A [1,1,1] 2 [(R.SF_PERMIT.idx 0 0, 0xFFFFFFFF)] (fun m => m.setCar 1 {}))), 1, 10, 1, {}, ((lm 0x3A [1,1,1] 2 [(R.SF_PERMIT.idx 0 0, 0xFFFFFFFF)] (fun m => m.setCar 1 {})).m.scan.inp.getD {}), ⟨by unfold Safety.BlockAt; decide +kernel, rfl⟩, by decide +kernel⟩,
   ⟨(lm 0x3A [1,1,1] 2 [(R.SF_PERMIT.idx 0 0, 0xFFFFFFFF)] (fun m => m.setCar 1 { unus := 5 })), (bc (lm 0x3A [1,1,1] 2 [(R.SF_PERMIT.idx 0 0, 0xFFFFFFFF)] (fun m => m.setCar 1 { unus := 5 }))), 1, 10, 1, { unus := 5 }, ⟨by unfold Safety.BlockAt; decide +kernel, rfl⟩, by decide +kernel⟩,
   ⟨rich, 3, by decide +kernel⟩,
   ⟨(mkS (up.setCar 3 { step := 2 })), 3, by decide +kernel⟩,
   ⟨(mkS (up.setCar 3 { step := 5 })), 3, by decide +kernel⟩,
   ⟨(lm 0x3C [1,0,1,0,0,0] 2 [(R.SF_PERMIT.idx 0 0, 0xFFFFFFFF)] (fun m => m.setDoor 1 0 { st := 2 })), (bc (lm 0x3C [1,0,1,0,0,0] 2 [(R.SF_PERMIT.idx 0 0, 0xFFFFFFFF)] (fun m => m.setDoor 1 0 { st := 2 }))), 1, 0, 10, 2, { st := 2 }, ⟨by unfold Safety.BlockAt; decide +kernel, rfl⟩, by decide +kernel⟩,
   ⟨(lm 0x3C [1,0,1,0,0,0] 2 [(R.SF_PERMIT.idx 0 0, 0xFFFFFFFF)] (fun m => m.setDoor 1 0 { lockWait := true })), (bc (lm 0x3C [1,0,1,0,0,0] 2 [(R.SF_PERMIT.idx 0 0, 0xFFFFFFFF)] (fun m => m.setDoor 1 0 { lockWait := true }))), 1, 0, 10, 2, { lockWait := true }, ⟨by unfold Safety.BlockAt; decide +kernel, rfl⟩, by decide +kernel⟩,
   ⟨(lm 0x3C [1,0,1,0,0,0] 2 [(R.SF_PERMIT.idx 0 0, 0xFFFFFFFF)] (fun m => m.setDoor 1 0 { st := 3, force := some 5 })), (bc (lm 0x3C [1,0,1,0,0,0] 2 [(R.SF_PERMIT.idx 0 0, 0xFFFFFFFF)] (fun m => m.setDoor 1 0 { st := 3, force := some 5 }))), 1, 0, 10, 2, { st := 3, force := some 5 }, 5, ⟨by unfold Safety.BlockAt; decide +kernel, rfl⟩, by decide +kernel⟩,
   ⟨rich, 3, 1, by decide +kernel⟩,
   ⟨rich, 3, 1, by decide +kernel⟩,
   ⟨rich, 3, 1, by decide +kernel⟩⟩

/-- States and operands that meet the hypotheses of each clause of `GroupDispatch`. -/
theorem wit_GroupDispatch :
  (∃ (c : Cand) (g : Group) (h : Nat) (d : Nat) (pl : Nat) (ns : Nat) (st : Nat) (dir : Nat),
    pl = fieldAt c.w 0 1 % 64 ∧ dir = fieldAt c.w 0 1 / 64 ∧ ns = fieldAt c.w 1 1 % 64 ∧ st = fieldAt c.w 1 1 / 64 ∧ ((st = 2 ∨ c.mem.serves.testBit h = false ∨ g.full ≤ fieldAt c.w 2 1))) ∧
  (∃ (c : Cand) (g : Group) (h : Nat) (d : Nat) (pl : Nat) (ns : Nat) (st : Nat) (dir : Nat),
    pl = fieldAt c.w 0 1 % 64 ∧ dir = fieldAt c.w 0 1 / 64 ∧ ns = fieldAt c.w 1 1 % 64 ∧ st = fieldAt c.w 1 1 / 64 ∧ st ≠ 2 ∧ c.mem.serves.testBit h = true ∧ fieldAt c.w 2 1 < g.full ∧ (fieldAt c.w 4 1).testBit 7 = false ∧ ns = h) ∧
  (∃ (c : Cand) (g : Group) (h : Nat) (d : Nat) (pl : Nat) (ns : Nat) (st : Nat) (dir : Nat),
    pl = fieldAt c.w 0 1 % 64 ∧ dir = fieldAt c.w 0 1 / 64 ∧ ns = fieldAt c.w 1 1 % 64 ∧ st = fieldAt c.w 1 1 / 64 ∧ st ≠ 2 ∧ c.mem.serves.testBit h = true ∧ fieldAt c.w 2 1 < g.full ∧ (fieldAt c.w 4 1).testBit 7 = false ∧ ns ≠ h ∧ dir = 0) ∧
  (∃ (c : Cand) (g : Group) (h : Nat) (d : Nat) (pl : Nat) (ns : Nat) (st : Nat) (dir : Nat),
    pl = fieldAt c.w 0 1 % 64 ∧ dir = fieldAt c.w 0 1 / 64 ∧ ns = fieldAt c.w 1 1 % 64 ∧ st = fieldAt c.w 1 1 / 64 ∧ st ≠ 2 ∧ c.mem.serves.testBit h = true ∧ fieldAt c.w 2 1 < g.full ∧ (fieldAt c.w 4 1).testBit 7 = false ∧ ns ≠ h ∧ dir = 1 ∧ d = 1 ∧ pl < h) ∧
  (∃ (c : Cand) (g : Group) (h : Nat) (d : Nat) (pl : Nat) (ns : Nat) (st : Nat) (dir : Nat),
    pl = fieldAt c.w 0 1 % 64 ∧ dir = fieldAt c.w 0 1 / 64 ∧ ns = fieldAt c.w 1 1 % 64 ∧ st = fieldAt c.w 1 1 / 64 ∧ st ≠ 2 ∧ c.mem.serves.testBit h = true ∧ fieldAt c.w 2 1 < g.full ∧ (fieldAt c.w 4 1).testBit 7 = false ∧ ns ≠ h ∧ dir = 2 ∧ d = 2 ∧ h < pl) ∧
  (∃ (c : Cand) (g : Group) (h : Nat) (d : Nat) (pl : Nat) (ns : Nat) (st : Nat) (dir : Nat),
    pl = fieldAt c.w 0 1 % 64 ∧ dir = fieldAt c.w 0 1 / 64 ∧ ns = fieldAt c.w 1 1 % 64 ∧ st = fieldAt c.w 1 1 / 64 ∧ st ≠ 2 ∧ c.mem.serves.testBit h = true ∧ fieldAt c.w 2 1 < g.full ∧ (fieldAt c.w 4 1).testBit 7 = false ∧ ns ≠ h ∧ dir = 1 ∧ ((d ≠ 1 ∨ h ≤ pl))) :=
  ⟨⟨{ mem := { addr := 1, mach := 1, serves := 0xFF }, w := [67, 133, 0, 4, 0, 0] }, { kt := 3, ks := 5, full := 80 }, 4, 1, 3, 5, 2, 1, by decide +kernel⟩,
   ⟨{ mem := { addr := 1, mach := 1, serves := 0xFF }, w := [67, 5, 79, 4, 0, 0] }, { kt := 3, ks := 5, full := 80 }, 5, 1, 3, 5, 0, 1, by decide +kernel⟩,
   ⟨{ mem := { addr := 1, mach := 1, serves := 0xFF }, w := [3, 69, 79, 4, 0, 0] }, { kt := 3, ks := 5, full := 80 }, 7, 1, 3, 5, 1, 0, by decide +kernel⟩,
   ⟨{ mem := { addr := 1, mach := 1, serves := 0xFF }, w := [67, 69, 79, 4, 0, 0] }, { kt := 3, ks := 5, full := 80 }, 7, 1, 3, 5, 1, 1, by decide +kernel⟩,
   ⟨{ mem := { addr := 1, mach := 1, serves := 0xFF }, w := [135, 65, 79, 4, 0, 0] }, { kt := 3, ks := 5, full := 80 }, 2, 2, 7, 1, 1, 2, by decide +kernel⟩,
   ⟨{ mem := { addr := 1, mach := 1, serves := 0xFF }, w := [71, 65, 79, 4, 0, 0] }, { kt := 3, ks := 5, full := 80 }, 2, 2, 7, 1, 1, 1, by decide +kernel⟩⟩

/-- States and operands that meet the hypotheses of each clause of `Stations`. -/
theorem wit_Stations :
  (∃ (s : State) (k : Nat),
    k < 64 ∧ k ∈ s.m.stnIds ∧ s.m.stnLate k = true) ∧
  (∃ (s : State) (k : Nat),
    (k ∉ s.m.stnIds ∨ s.m.stnLate k = false)) ∧
  (∃ (s : State) (k : Nat) (m : Mach) (d : List Byte),
    k < 64 ∧ k ∈ s.m.stnIds ∧ (s.m.stn k).absent = true ∧ 4 + 4 * (s.m.stnCfg k).nin ≤ dlcBytes (s.m.g F.CB_BUF_STAT_RXDLC (s.m.stnCfg k).cb (s.m.stnCfg k).rx) ∧ s.m.readNew (s.m.stnCfg k).cb (s.m.stnCfg k).rx (4 + 4 * (s.m.stnCfg k).nin) false = (m, some d) ∧ m.scan = s.m.scan) ∧
  (∃ (s : State) (k : Nat) (u : Nat),
    k < 64 ∧ (s.m.stn k).until_ = some u ∧ u ≤ s.m.frame) :=
  ⟨⟨(mkS { stM { since := 65535 } with reg := (stM {}).reg }), 1, by decide +kernel⟩,
   ⟨(mkS (stM { absent := true })), 1, by decide +kernel⟩,
   ⟨(mkS (((stM { absent := true, mode := 2, since := 77 }).sb F.CB_BUF_STAT_NEWDAT true 2 3).s F.CB_BUF_STAT_RXDLC 9 2 3)), 1, ((((stM { absent := true, mode := 2, since := 77 }).sb F.CB_BUF_STAT_NEWDAT true 2 3).s F.CB_BUF_STAT_RXDLC 9 2 3).readNew 2 3 8 false).1, ((((stM { absent := true, mode := 2, since := 77 }).sb F.CB_BUF_STAT_NEWDAT true 2 3).s F.CB_BUF_STAT_RXDLC 9 2 3).bufBytes 2 3 8), by decide +kernel⟩,
   ⟨(mkS (stM { until_ := some 0, mode := 2, testReq := some 5 })), 1, 0, by decide +kernel⟩⟩

/-- States and operands that meet the hypotheses of each clause of `SafetyInputs`. -/
theorem wit_SafetyInputs :
  (∃ (s : State) (k : Nat),
    s.m.pulseSource s.m.frame = some k) ∧
  (∃ (s : State) (k : Nat),
    s.m.pulseSource s.m.frame = some k) ∧
  (∃ (s : State) (low : Bool),
    s.m.pulseSource s.m.frame = none) ∧
  (∃ (s : State) (k : Nat),
    k < 16) ∧
  (∃ (s : State) (k : Nat),
    k < 4) :=
  ⟨⟨(mkS ((richM up).s F.SF_TP_CFG_TPN 40)), 0, by decide +kernel⟩,
   ⟨(mkS (((richM up).s F.SF_TP_CFG_TPN 40).sw .FRM_CNT_LO 70)), 3, by decide +kernel⟩,
   ⟨(mkS (((richM up).s F.SF_TP_CFG_TPN 40).sw .FRM_CNT_LO 71)), true, by decide +kernel⟩,
   ⟨rich, 15, by decide +kernel⟩,
   ⟨rich, 3, by decide +kernel⟩⟩

/-- States and operands that meet the hypotheses of each clause of `SafetyFault`. -/
theorem wit_SafetyFault :
  (∃ (s : State),
    s.m.sp.fault = false) ∧
  (∃ (s : State),
    s.m.sp.fault = true) ∧
  (∃ (s : State) (ramOk : Bool) (flashOk : Bool) (keyOk : Bool),
    s.m.sp.fault = false ∧ ((ramOk = false ∨ flashOk = false))) ∧
  (∃ (s : State) (n : Nat) (d : Int),
    s.m.sp.fault = false ∧ d = (n : Int) - 160000 ∧ d.natAbs ≤ 1600) ∧
  (∃ (s : State) (n : Nat),
    s.m.sp.fault = false ∧ (161600 < n ∨ n < 158400)) :=
  ⟨⟨(mkS spM), by decide +kernel⟩,
   ⟨(mkS { up with sp := { up.sp with fault := true } }), by decide +kernel⟩,
   ⟨rich, false, true, false, by decide +kernel⟩,
   ⟨rich, 160801, 801, by decide +kernel⟩,
   ⟨rich, 161601, by decide +kernel⟩⟩

/-- States and operands that meet the hypotheses of each clause of `SafetyPairs`. -/
theorem wit_SafetyPairs :
  (∃ (s : State) (k : Nat) (n : Nat),
    k < 8 ∧ (s.m.pair k).cmd = true ∧ s.m.sp.test = none ∧ s.m.g F.SF_SO_STAT_STATE k = 1 ∧ n = ((s.m.pair k).ovl.filter (fun x => decide (s.m.sp.t < x + 10000000))).length + 1) ∧
  (∃ (s : State) (k : Nat),
    (s.m.pair k).cmd = false) ∧
  (∃ (s : State) (k : Nat) (t0 : Nat),
    k < 8 ∧ (s.m.pair k).edm = some t0 ∧ (s.m.edmOf k).1 = true ∧ s.m.pairOn k = true ∧ s.m.edmIn k = (s.m.pair k).cmd ∧ t0 + (s.m.edmOf k).2.2 ≤ s.m.sp.t ∧ s.m.g F.SF_SO_STAT_STATE k ≠ 2) ∧
  (∃ (s : State) (k : Nat) (hs : Bool) (ls : Bool),
    k < 8 ∧ s.m.sp.test = some (k, 0, true) ∧ s.m.sp.fault = false ∧ s.m.b F.SF_STAT_SOSOK = true ∧ s.m.b F.SF_SO_STAT_LSOPEN k = false) ∧
  (∃ (s : State) (hs : Bool) (ls : Bool),
    s.m.sp.test = none) :=
  ⟨⟨(mkS (spM.setPair 3 { cmd := true, ovl := [3995000000, 3999000000] })), 3, 3, by decide +kernel⟩,
   ⟨rich, 4, by decide +kernel⟩,
   ⟨(mkS ((spM.sb F.SF_SO_CFG_EDMEN true 3).setPair 3 { cmd := false, edm := some 5 })), 3, 5, by decide +kernel⟩,
   ⟨(mkS { spM.setPair 3 { cmd := true } with sp := { (spM.setPair 3 { cmd := true }).sp with test := some (3, 0, true) } }), 3, true, false, by decide +kernel⟩,
   ⟨rich, true, false, by decide +kernel⟩⟩

/-- States and operands that meet the hypotheses of each clause of `Assay`. -/
theorem wit_Assay :
  (∃ (s : State) (keyOk : Bool) (n : Nat) (k : Nat),
    s.m.sp.fault = false ∧ s.m.sp.slot = some n ∧ n < 31 ∧ k = (n + 1) % 16 / 2 ∧ s.m.sp.setState ≠ 3 ∧ s.m.pairOn k = true ∧ s.m.b F.SF_STAT_SOSOK = true ∧ s.m.b F.SF_STAT_SSWOPEN = false) ∧
  (∃ (s : State) (keyOk : Bool),
    s.m.sp.fault = false ∧ s.m.sp.slot = some 31 ∧ s.m.sp.test = none ∧ s.m.sp.incomplete = false ∧ ((∀ k < 8, s.m.pairOn k = false)) ∧ s.m.sp.setState ≠ 3) ∧
  (∃ (s : State) (ramOk : Bool) (flashOk : Bool) (keyOk : Bool),
    s.m.sp.fault = true) :=
  ⟨⟨(mkS { spM.sb F.SF_STAT_SSWOPEN false with sp := { spM.sp with slot := some 5 } }), true, 5, 3, by decide +kernel⟩,
   ⟨(mkS { richM up with sp := { up.sp with slot := some 31, incomplete := false } }), false, by decide +kernel⟩,
   ⟨(mkS { up with sp := { up.sp with fault := true } }), true, true, true, by decide +kernel⟩⟩

/-- States and operands that meet the hypotheses of each clause of `DegradedMode`. -/
theorem wit_DegradedMode :
  (∃ (s : State) (c : Nat),
    c < 8 ∧ s.m.divDue c = true) ∧
  (∃ (s : State) (c : Nat),
    s.m.divDue c = false) ∧
  (∃ (s : State) (f : Nat),
    f < 32 ∧ s.m.b F.SF_FN_STAT_DEG f = true ∧ s.m.b F.SF_FN_STAT_FAILED f = false ∧ s.m.g F.SF_DEG_CFG_TIME * 1000000 ≤ (s.m.fn f).acc) ∧
  (∃ (s : State) (f : Nat),
    f < 32 ∧ s.m.b F.SF_FN_STAT_DEG f = false ∧ s.m.b F.SF_FN_STAT_FAILED f = false ∧ 0 < (s.m.fn f).acc ∧ (s.m.fn f).outAt + 3600000000 ≤ s.m.sp.t) :=
  ⟨⟨(mkS ((((((((spM.sb F.SF_MON_CFG_EN true 2).sb F.SF_FN_CFG_EN true 5).s F.SF_TERM_A_OPC 5 5 1).s F.SF_TERM_A_A 2 5 1).sb F.SF_FN_CFG_EN true 6).s F.SF_TERM_A_OPC 8 6 0).s F.SF_TERM_A_A 2 6 0).sb F.SF_FN_DEG_DEGOK true 6)), 2, by decide +kernel⟩,
   ⟨rich, 3, by decide +kernel⟩,
   ⟨(mkS ((((((((((spM.sb F.SF_MON_CFG_EN true 2).sb F.SF_FN_CFG_EN true 5).s F.SF_TERM_A_OPC 5 5 1).s F.SF_TERM_A_A 2 5 1).sb F.SF_FN_CFG_EN true 6).s F.SF_TERM_A_OPC 8 6 0).s F.SF_TERM_A_A 2 6 0).sb F.SF_FN_STAT_DEG true 6).s F.SF_FN_STAT_CAUSE 2 6).setFn 6 { acc := 600000000 })), 6, by decide +kernel⟩,
   ⟨(mkS ((((((((spM.sb F.SF_MON_CFG_EN true 2).sb F.SF_FN_CFG_EN true 5).s F.SF_TERM_A_OPC 5 5 1).s F.SF_TERM_A_A 2 5 1).sb F.SF_FN_CFG_EN true 6).s F.SF_TERM_A_OPC 8 6 0).s F.SF_TERM_A_A 2 6 0).setFn 6 { acc := 5, outAt := 400000000 })), 6, by decide +kernel⟩⟩

/-- States and operands that meet the hypotheses of each clause of `SafetySessions`. -/
theorem wit_SafetySessions :
  (∃ (s : State) (src : Nat) (t0 : Nat),
    s.m.sp.edit = some (src, t0) ∧ t0 + 600000000 ≤ s.m.sp.t) ∧
  (∃ (m : Mach) (src : Nat) (t0 : Nat),
    m.sp.edit = some (src, t0)) ∧
  (∃ (s : State),
    ((∀ src t0, s.m.sp.edit = some (src, t0) → s.m.sp.t < t0 + 600000000))) ∧
  (∃ (s : State) (ws : List (Nat × List Byte)),
    s.m.sp.keyWrite = some ws) ∧
  (∃ (s : State) (i : Insp),
    s.m.sp.insp = some i ∧ ((i.start + i.tmax * 1000000 ≤ s.m.sp.t ∨ i.keep + 2000000 ≤ s.m.sp.t))) ∧
  (∃ (s : State),
    s.m.inspLate = false) :=
  ⟨⟨(mkS { spM with sp := { spM.sp with edit := some (3, 5) } }), 3, 5, by decide +kernel⟩,
   ⟨{ spM with sp := { spM.sp with edit := some (3, 5) } }, 3, 5, by decide +kernel⟩,
   ⟨rich, fun a b h => nomatch h⟩,
   ⟨(mkS { spM with sp := { spM.sp with keyWrite := some [(0x70000, [1,2,3])] } }), [(0x70000, [1,2,3])], by decide +kernel⟩,
   ⟨(mkS { spM with sp := { spM.sp with insp := some { start := 5 } } }), { start := 5 }, by decide +kernel⟩,
   ⟨rich, by decide +kernel⟩⟩

/-- States and operands that meet the hypotheses of each clause of `StandbySide`. -/
theorem wit_StandbySide :
  (∃ (s : State) (x : Nat) (num : Nat),
    s.m.otherSide = some x ∧ 0 < num ∧ s.m.side x = 3 ∧ s.m.dx.transfer = false) ∧
  (∃ (s : State) (x : Nat) (num : Nat) (c : Instr),
    s.m.otherSide = some x ∧ ((c = .scanMismatch ∨ 0 < num ∧ c = .mirrorRecord num false)) ∧ ((s.m.side x = 2 ∨ s.m.side x = 3))) ∧
  (∃ (s : State) (num : Nat) (same : Bool),
    s.m.otherSide = none) ∧
  (∃ (s : State),
    s.m.otherSide = none) ∧
  (∃ (s : State) (x : Nat) (cause : Nat),
    x < 2 ∧ 1 ≤ cause ∧ cause ≤ 5 ∧ s.m.ticking = true) ∧
  (∃ (s : State) (x : Nat) (cause : Nat),
    s.m.ticking = false) :=
  ⟨⟨(mkS (dxD (fun d => { d with transfer := false }) (dxM 1 3 0))), 1, 70000, by decide +kernel⟩,
   ⟨(mkS (dxM 2 1 1)), 0, 5, .scanMismatch, by decide +kernel⟩,
   ⟨(mkS (dxM 5 5 3)), 5, true, by decide +kernel⟩,
   ⟨(mkS (dxM 5 5 3)), by decide +kernel⟩,
   ⟨(mkS { up with phase := .staging }), 1, 5, by decide +kernel⟩,
   ⟨(mkS {}), 1, 5, by decide +kernel⟩⟩

/-- States and operands that meet the hypotheses of each clause of `SideChanges`. -/
theorem wit_SideChanges :
  (∃ (s : State) (x : Nat) (dur : Nat),
    s.m.dx.change = some (x, 0)) ∧
  (∃ (s : State) (dur : Nat),
    s.m.dx.change = none) ∧
  (∃ (s : State),
    s.m.dx.change = none) ∧
  (∃ (s : State) (x : Nat) (k : Nat),
    s.m.dx.change = some (x, k) ∧ x < 2 ∧ ((k = 1 ∨ k = 2)) ∧ s.m.side x = 2) ∧
  (∃ (s : State) (x : Nat),
    s.m.dx.held = some x ∧ x < 2) ∧
  (∃ (s : State),
    s.m.dx.held = none) ∧
  (∃ (s : State) (f : Nat) (i : Nat),
    s.m.pow.heldAt = some f ∧ s.m.st = stHELD ∧ s.m.activeAp = none ∧ s.m.pow.released = false ∧ (((∀ a < 32, s.m.axisType a ≠ 0 → s.m.b F.MG_STAT_MOVING a = false) ∨ f + 16 * s.m.g F.PWR_CFG_HELDT ≤ s.m.frame)) ∧ i < 256) ∧
  (∃ (s : State),
    (s.m.pow.heldAt = none ∨ s.m.pow.released = true)) ∧
  (∃ (s : State) (x : Nat),
    x < 2 ∧ s.m.st = stHELD ∧ s.m.activeAp = none ∧ s.m.side x = 4) ∧
  (∃ (s : State) (x : Nat),
    s.m.st ≠ stHELD) :=
  ⟨⟨(mkS (dxD (fun d => { d with change := some (1, 0) }) (stp (dxM 1 2 0)))), 1, 500, by decide +kernel⟩,
   ⟨rich, 5, by decide +kernel⟩,
   ⟨rich, by decide +kernel⟩,
   ⟨(mkS (dxD (fun d => { d with change := some (1, 1), takeBacks := [(1, 0)] }) (dxM 1 2 0))), 1, 1, by decide +kernel⟩,
   ⟨(mkS (dxD (fun d => { d with held := some 1 }) ((dxM 4 4 1).s F.MG_CFG_TYPE 1 7))), 1, by decide +kernel⟩,
   ⟨rich, by decide +kernel⟩,
   ⟨(mkS (powM (fun p => { p with heldAt := some 0, released := false }) ((dxM 4 4 3).s F.DEV_STATE_STATE stHELD))), 0, 5, by decide +kernel⟩,
   ⟨rich, by decide +kernel⟩,
   ⟨(mkS (powM (fun p => { p with heldAt := some 0 }) ((stp (dxM 4 4 3)).s F.DEV_STATE_STATE stHELD))), 1, by decide +kernel⟩,
   ⟨rich, 1, by decide +kernel⟩⟩

/-- States and operands that meet the hypotheses of each clause of `EngineRestarts`. -/
theorem wit_EngineRestarts :
  (∃ (s : State) (e : Nat),
    3 ≤ e ∧ e ≤ 16 ∧ s.m.engRuns e = true ∧ s.m.ticking = true ∧ e ∉ s.m.failing) ∧
  (∃ (m : Mach) (e : Nat),
    ((3 ≤ e ∧ e ≤ 10 ∨ 12 ≤ e ∧ e ≤ 15)) ∧ m.spareFree e = true ∧ countOf (recent m.now m.pow.restarts) e + 1 < m.g F.PWR_CFG_ERSTMAX) ∧
  (∃ (s : State) (e : Nat),
    (s.m.engRuns e = false ∨ s.m.ticking = false)) ∧
  (∃ (s : State) (e : Nat),
    3 ≤ e ∧ e ≤ 10 ∧ e ∈ s.m.pow.restarting ∧ ¬(s.m.sprSt 11 = 2 ∧ s.m.sprFor 11 = e - 3)) ∧
  (∃ (s : State) (e : Nat),
    2 ≤ e ∧ e ≤ 17 ∧ e ∈ s.m.pow.restarting) ∧
  (∃ (s : State) (ok : Bool),
    s.m.pow.hst = 3) ∧
  (∃ (s : State) (x : Nat),
    x < 2 ∧ s.m.side x = 4 ∧ s.m.st ≠ stHELD) ∧
  (∃ (s : State) (x : Nat),
    x < 2 ∧ s.m.side x = 4) ∧
  (∃ (s : State) (p : Plan),
    ((3 ≤ p.e ∧ p.e ≤ 10 ∨ 12 ≤ p.e ∧ p.e ≤ 15)) ∧ s.m.ticking = true ∧ s.m.spr.plans = [p] ∧ p.g ≤ s.m.frame ∧ p.release = false ∧ s.m.sprSt (spareOf p.e) = 1 ∧ s.m.sprFor (spareOf p.e) = classIdx p.e) ∧
  (∃ (s : State) (p : Plan),
    ((3 ≤ p.e ∧ p.e ≤ 10 ∨ 12 ≤ p.e ∧ p.e ≤ 15)) ∧ s.m.ticking = true ∧ s.m.spr.plans = [p] ∧ p.g ≤ s.m.frame ∧ p.release = true ∧ s.m.sprSt (spareOf p.e) = 2 ∧ s.m.sprFor (spareOf p.e) = classIdx p.e ∧ s.m.engRuns p.e = true) ∧
  (∃ (s : State),
    ((∀ p ∈ s.m.spr.plans, s.m.frame < p.g))) ∧
  (∃ (s : State) (p : Nat) (d : Nat),
    p < 35 ∧ s.m.st ≠ stRESET ∧ (d = (if s.m.g F.SPR_PART_STATE p = 0 ∨ s.m.g F.SPR_PART_STATE p = 2 then wearHour (s.m.gi F.PWR_STAT_TEMP) else if s.m.g F.SPR_PART_STATE p = 1 then wearHour (s.m.gi F.PWR_STAT_TEMP) / 4 else 0))) ∧
  (∃ (s : State) (ecc : List Nat),
    s.m.st = stRESET) ∧
  (∃ (s : State) (b : Nat) (n : Nat),
    b < 512 ∧ s.m.g F.SPR_STAT_FLASHFREE = n + 1) ∧
  (∃ (s : State) (b : Nat),
    (512 ≤ b ∨ s.m.g F.SPR_STAT_FLASHFREE = 0)) :=
  ⟨⟨(mkS { richM up with phase := .staging, failing := [4] }), 5, by decide +kernel⟩,
   ⟨(((richM up).setSpr 11 0 15).setb F.DEV_ENG_FAULT_FAULT 11 false), 5, by decide +kernel⟩,
   ⟨(mkS {}), 5, by decide +kernel⟩,
   ⟨(mkS (powM (fun p => { p with restarting := [3, 5] }) ((richM up).s F.LP_CFG_TYPE 1 70))), 5, by decide +kernel⟩,
   ⟨(mkS (powM (fun p => { p with restarting := [3, 5] }) (richM up))), 5, by decide +kernel⟩,
   ⟨(mkS (powM (fun p => { p with hst := 3 }) (richM up))), true, by decide +kernel⟩,
   ⟨(mkS (dxM 4 1 1)), 0, by decide +kernel⟩,
   ⟨(mkS (dxM 1 4 0)), 1, by decide +kernel⟩,
   ⟨(mkS ((fun m => { m with spr := { m.spr with plans := [{ e := 5, g := 0, kind := 2, release := false }] }, phase := .staging }) (((richM up).setSpr 11 1 2)))), { e := 5, g := 0, kind := 2, release := false }, by decide +kernel⟩,
   ⟨(mkS ((fun m => { m with spr := { m.spr with plans := [{ e := 5, g := 0, kind := 2, release := true }] }, phase := .staging }) (((richM up).setSpr 11 2 2)))), { e := 5, g := 0, kind := 2, release := true }, by decide +kernel⟩,
   ⟨(mkS ((fun m => { m with spr := { m.spr with plans := [{ e := 5, g := 7, kind := 2, release := true }] }, phase := .staging }) (richM up))), by decide +kernel⟩,
   ⟨(mkS (((richM up).si F.PWR_STAT_TEMP 76).s F.SPR_PART_WEAR 70 33)), 33, (wearHour 76), by decide +kernel⟩,
   ⟨(mkS (up.s F.DEV_STATE_STATE stRESET)), [3], by decide +kernel⟩,
   ⟨(mkS ((richM up).s F.SPR_STAT_FLASHFREE 5)), 7, 4, by decide +kernel⟩,
   ⟨rich, 512, by decide +kernel⟩⟩

/-- States and operands that meet the hypotheses of each clause of `FrameReception`. -/
theorem wit_FrameReception :
  (∃ (s : State) (k : Nat) (c : Nat) (dur : Nat) (b : Nat) (f : CanFrame),
    k < 4 ∧ s.m.onBus k = true ∧ f.remote = false ∧ f.dlc < 16 ∧ (s.m.usedBufs k).find? (fun b => s.m.bufType k b == 1 && s.m.bufId k b == (b2n f.ide, f.id)) = some b ∧ s.m.g F.CB_BUF_CFG_DOFS k b + s.m.bufWords k b ≤ 512) ∧
  (∃ (s : State) (k : Nat) (c : Nat) (dur : Nat) (f : CanFrame),
    k < 4 ∧ s.m.onBus k = true ∧ ((f.remote = true ∨ (s.m.usedBufs k).find? (fun b => s.m.bufType k b == 1 && s.m.bufId k b == (b2n f.ide, f.id)) = none))) ∧
  (∃ (s : State) (k : Nat) (c : Nat) (dur : Nat) (f : CanFrame),
    s.m.onBus k = false) :=
  ⟨⟨(mkS ((cb 1).sb F.CB_BUF_STAT_NEWDAT true 2 7)), 2, 50, 700, 7, cf, by decide +kernel⟩,
   ⟨(mkS (cb 1)), 2, 50, 700, { cf with remote := true }, by decide +kernel⟩,
   ⟨rich, 1, 5, 7, cf, by decide +kernel⟩⟩

/-- States and operands that meet the hypotheses of each clause of `Transmissions`. -/
theorem wit_Transmissions :
  (∃ (s : State) (k : Nat) (c : Nat) (b : Nat),
    k < 4 ∧ b < 128 ∧ s.m.g F.CB_STAT_MODE k = 1 ∧ s.m.onBus k = true ∧ (s.m.can k).fly = none ∧ s.m.b F.CB_TT_CFG_EN k = true ∧ (s.m.can k).sched = true ∧ (s.m.can k).due = some b) ∧
  (∃ (s : State) (k : Nat) (c : Nat) (b : Nat),
    k < 4 ∧ s.m.g F.CB_STAT_MODE k = 1 ∧ s.m.onBus k = true ∧ (s.m.can k).fly = none ∧ ((s.m.b F.CB_TT_CFG_EN k = false ∧ (s.m.eventOrder k).head? = some b ∨ s.m.b F.CB_TT_CFG_EN k = true ∧ (s.m.can k).sched = true ∧ (s.m.can k).due = none ∧ s.m.colKind k (s.m.colOf k s.m.frame) = 2 ∧ (s.m.eventOrder k).find? ((s.m.at c).fitsRest k) = some b))) ∧
  (∃ (s : State) (k : Nat) (c : Nat) (lec : Nat) (f : Fly),
    k < 4 ∧ f.buf < 128 ∧ (s.m.can k).fly = some f ∧ (s.m.can k).sleepReq = false ∧ s.m.g F.CB_STAT_ERRST k ≠ 2) ∧
  (∃ (s : State) (k : Nat) (c : Nat) (lec : Nat) (f : Fly),
    k < 4 ∧ f.buf < 128 ∧ lec < 8 ∧ (s.m.can k).fly = some f ∧ (s.m.can k).sleepReq = false ∧ s.m.g F.CB_STAT_ERRST k ≠ 2 ∧ s.m.g F.CB_ERR_TEC k ≤ 247) ∧
  (∃ (s : State) (k : Nat) (c : Nat) (lec : Nat) (f : Fly),
    k < 4 ∧ f.buf < 128 ∧ lec < 8 ∧ (s.m.can k).fly = some f ∧ (s.m.can k).sleepReq = false ∧ s.m.g F.CB_STAT_ERRST k ≠ 2 ∧ s.m.g F.CB_ERR_TEC k ≤ 247) ∧
  (∃ (s : State) (k : Nat) (c : Nat) (res : Nat) (lec : Nat),
    (s.m.can k).fly = none) ∧
  (∃ (s : State) (k : Nat) (b : Nat),
    k < 4 ∧ b < 128 ∧ (s.m.can k).sched = true ∧ s.m.onBus k = true ∧ s.m.bufType k b = 1 ∧ s.m.occupies k b (s.m.colOf k (s.m.can k).colFrame) (s.m.bcOf k (s.m.can k).colFrame) = true ∧ b ∉ (s.m.can k).sat) :=
  ⟨⟨(mkS (cn (fun c => { c with sched := true, due := some 7 }) ((((cb 1).s F.CB_BUF_CFG_TYPE 2 2 7).sb F.CB_TT_CFG_EN true 2).sb F.CB_TT_CFG_EN true 2))), 2, 50, 7, by decide +kernel⟩,
   ⟨(mkS (cn (fun c => { c with rq := [7] }) (cb 1))), 2, 50, 7, by decide +kernel⟩,
   ⟨(mkS (cn (fun c => { c with rq := [7], fly := some (fl7 true) }) (((cb 1).s F.CB_ERR_TEC 5 2).sb F.CB_BUF_STAT_TXRQ true 2 7))), 2, 50, 0, (fl7 true), by decide +kernel⟩,
   ⟨(mkS (cn (fun c => { c with rq := [7], fly := some (fl7 true) }) (cb 1))), 2, 50, 3, (fl7 true), by decide +kernel⟩,
   ⟨(mkS (cn (fun c => { c with rq := [7], fly := some (fl7 true) }) ((cb 1).s F.CB_ERR_TEC 247 2))), 2, 50, 3, (fl7 true), by decide +kernel⟩,
   ⟨rich, 1, 5, 0, 0, by decide +kernel⟩,
   ⟨(mkS (cn (fun c => { c with sched := true, sat := [] }) ((((cb 1).sb F.CB_TT_CFG_EN true 2)).sb F.CB_BUF_CFG_SCHED true 2 7))), 2, 7, by decide +kernel⟩⟩

/-- States and operands that meet the hypotheses of each clause of `BusStates`. -/
theorem wit_BusStates :
  (∃ (s : State) (k : Nat),
    k < 4) ∧
  (∃ (s : State) (k : Nat) (c : Nat),
    k < 4 ∧ s.m.g F.CB_STAT_MODE k = 1 ∧ s.m.g F.CB_STAT_ERRST k ≠ 2) ∧
  (∃ (s : State) (k : Nat) (c : Nat),
    s.m.g F.CB_STAT_MODE k ≠ 1) ∧
  (∃ (s : State) (k : Nat) (c : Nat) (tec : Nat) (rec : Nat),
    k < 4 ∧ s.m.g F.CB_STAT_ERRST k ≠ 2) ∧
  (∃ (s : State) (k : Nat) (w : Nat),
    k < 4 ∧ s.m.g F.CB_STAT_ERRST k = 2 ∧ (s.m.can k).recov = true ∧ ((w = 1 ∨ w = 2)) ∧ (((s.m.can k).modeReq = true ∧ w = s.m.g F.CB_CTL_MODE k ∨ (s.m.can k).modeReq = false ∧ w = s.m.g F.CB_STAT_MODE k))) ∧
  (∃ (s : State) (k : Nat),
    (s.m.g F.CB_STAT_ERRST k ≠ 2 ∨ (s.m.can k).recov = false)) ∧
  (∃ (s : State) (k : Nat) (c : Nat) (dominant : Bool) (errors : Bool) (f : CanFrame),
    k < 4 ∧ s.m.g F.CB_STAT_MODE k = 3 ∧ s.m.wakes k dominant errors f = true) ∧
  (∃ (s : State) (k : Nat) (c : Nat) (dominant : Bool) (errors : Bool) (f : CanFrame),
    s.m.g F.CB_STAT_MODE k ≠ 3 ∧ (s.m.can k).sleepReq = false ∧ (((s.m.can k).modeReq = false ∨ s.m.g F.CB_CTL_MODE k ≠ 3))) :=
  ⟨⟨rich, 2, by decide +kernel⟩,
   ⟨(mkS (cn (fun c => { c with bo := [0, 0], fly := some (fl7 true) }) (cb 1))), 2, 50, by decide +kernel⟩,
   ⟨rich, 2, 7, by decide +kernel⟩,
   ⟨rich, 2, 50, 127, 127, by decide +kernel⟩,
   ⟨(mkS (cn (fun c => { c with recov := true, modeReq := true }) (((cb 1).s F.CB_CTL_MODE 2 2).s F.CB_STAT_ERRST 2 2))), 2, 2, by decide +kernel⟩,
   ⟨rich, 2, by decide +kernel⟩,
   ⟨(mkS (((cb 3).sb F.CB_CTL_AUTOWAKE true 2))), 2, 50, true, false, cf, by decide +kernel⟩,
   ⟨rich, 2, 7, true, true, cf, by decide +kernel⟩⟩

/-- States and operands that meet the hypotheses of each clause of `StreamRows`. -/
theorem wit_StreamRows :
  (∃ (s : State) (b : List Byte) (l : List BarMsg),
    s.m.hostUp = true ∧ s.m.g F.DEV_BAR_STAT_INSERV ≠ 0 ∧ takeStm s.m.bar.msgs = (some b, l) ∧ b.length = 320 ∧ fieldAt b 316 4 = crc32c (b.take 316) ∧ s.m.aq.hist.length < histMax ∧ s.m.aq.live.length < 64) ∧
  (∃ (s : State) (b : List Byte) (o : List Byte) (l : List BarMsg) (q : List (List Byte)),
    s.m.hostUp = true ∧ s.m.g F.DEV_BAR_STAT_INSERV ≠ 0 ∧ takeStm s.m.bar.msgs = (some b, l) ∧ b.length = 320 ∧ fieldAt b 316 4 = crc32c (b.take 316) ∧ s.m.aq.hist.length < histMax ∧ s.m.aq.live = o :: q ∧ 63 ≤ q.length) ∧
  (∃ (s : State) (b : List Byte) (q : List (List Byte)),
    s.m.hostUp = true ∧ s.m.g F.DEV_BAR_STAT_INSERV ≠ 0 ∧ (takeStm s.m.bar.msgs).1 = none ∧ s.m.aq.queue = b :: q ∧ q.length < 64 ∧ b.length = 320 ∧ fieldAt b 316 4 = crc32c (b.take 316) ∧ s.m.aq.hist.length < histMax ∧ s.m.aq.live.length < 64) ∧
  (∃ (s : State),
    s.m.hostUp = false) ∧
  (∃ (s : State) (k : Nat),
    k < 8 ∧ s.m.engRuns 17 = true ∧ s.m.phase ≠ .latch ∧ s.m.forcedDue k s.m.frame = true) ∧
  (∃ (s : State) (k : Nat),
    (s.m.engRuns 17 = false ∨ s.m.forcedDue k s.m.frame = false)) ∧
  (∃ (s : State) (b : List Byte) (a : Nat),
    s.m.engRuns 17 = true ∧ s.m.ticking = true ∧ s.m.aq.pend = some (b, a) ∧ a ≤ s.m.frame) ∧
  (∃ (s : State),
    (s.m.aq.pend = none ∨ s.m.engRuns 17 = false)) :=
  ⟨⟨(mkS (aqD (fun a => { a with live := [] }) (barD (fun b => { b with msgs := stmq (ing 5) }) lnM))), (ing 5), [mg], by decide +kernel⟩,
   ⟨(mkS (aqD (fun a => { a with live := (List.range 64).map ing }) (barD (fun b => { b with msgs := stmq (ing 5) }) lnM))), (ing 5), (ing 0), [mg], (((List.range 64).map ing).drop 1), by decide +kernel⟩,
   ⟨(mkS (aqD (fun a => { a with queue := [ing 9, ing 8] }) (barD (fun b => { b with msgs := [] }) lnM))), (ing 9), [ing 8], by decide +kernel⟩,
   ⟨(mkS {}), by decide +kernel⟩,
   ⟨(mkS (aqD (fun a => { a with s := [{}, { act := true, cur := some ig0 }, { act := true }, {}] }) { trM with phase := .staging })), 2, by decide +kernel⟩,
   ⟨rich, 3, by decide +kernel⟩,
   ⟨(mkS (aqD (fun a => { a with pend := some (cfgB, 0), s := [{ act := true, cur := some ig0 }] }) trM)), cfgB, 0, by decide +kernel⟩,
   ⟨rich, by decide +kernel⟩⟩

/-- States and operands that meet the hypotheses of each clause of `EventRecords`. -/
theorem wit_EventRecords :
  (∃ (s : State) (code : Nat) (src : Nat) (a0 : Nat) (a1 : Nat) (f : Nat) (sub : Nat) (r : Rec),
    s.m.hostUp = true ∧ r = s.m.recOf { code := code % 65536, src := src % 256, arg0 := a0, arg1 := a1, frame := f % 2 ^ 64, sub := sub % 2 ^ 32 } 0) ∧
  (∃ (s : State) (code : Nat) (src : Nat) (a0 : Nat) (a1 : Nat) (f : Nat) (sub : Nat),
    s.m.hostUp = false) ∧
  (∃ (s : State) (u : State) (e : Ev) (i : Nat) (n : Nat) (l : List BarMsg),
    s.m.hostUp = true ∧ s.m.g F.DEV_BAR_STAT_INSERV ≠ 0 ∧ takeEvt s.m.bar.msgs = (some ([e], [(i, n)]), l) ∧ e.code ≠ 0x1201 ∧ e.code < 65536 ∧ e.src < 256 ∧ e.frame < 2 ^ 64 ∧ e.sub < 2 ^ 32 ∧ i < 224 ∧ exec (.eventRecord e.code e.src e.arg0 e.arg1 e.frame e.sub) s = .next u) ∧
  (∃ (s : State),
    (s.m.hostUp = false ∨ s.m.g F.DEV_BAR_STAT_INSERV = 0)) :=
  ⟨⟨(mkS (richM up)), 0x0400, 5, 1, 2, 3, 4, ((richM up).recOf { code := 0x0400, src := 5, arg0 := 1, arg1 := 2, frame := 3, sub := 4 } 0), by decide +kernel⟩,
   ⟨(mkS {}), 1, 2, 3, 4, 5, 6, by decide +kernel⟩,
   ⟨(mkS (barD (fun b => { b with msgs := [mg, { mg with typ := tEVT, body := .evt [{ code := 0x0500, src := 3, arg0 := 7, arg1 := 8, frame := 9, sub := 4 }] [(5, 3)] }] }) lnM)), (nxt (exec (.eventRecord 0x0500 3 7 8 9 4) (mkS (barD (fun b => { b with msgs := [mg, { mg with typ := tEVT, body := .evt [{ code := 0x0500, src := 3, arg0 := 7, arg1 := 8, frame := 9, sub := 4 }] [(5, 3)] }] }) lnM)))), { code := 0x0500, src := 3, arg0 := 7, arg1 := 8, frame := 9, sub := 4 }, 5, 3, [mg], by decide +kernel, by decide +kernel, by decide +kernel, by decide +kernel, by decide +kernel, by decide +kernel, by decide +kernel, by decide +kernel, by decide +kernel, rfl⟩,
   ⟨(mkS {}), by decide +kernel⟩⟩

/-- States and operands that meet the hypotheses of each clause of `LedgerRows`. -/
theorem wit_LedgerRows :
  (∃ (s : State),
    s.m.led.cellLow = false) ∧
  (∃ (s : State),
    s.m.led.cellLow = true) ∧
  (∃ (s : State) (n : Nat),
    s.m.hostUp = true ∧ s.m.led.due = true ∧ s.m.sp.keyWrite = none ∧ s.m.g F.DEV_BAR_STAT_INSERV ≠ 0 ∧ s.m.st ≠ stRESET ∧ s.m.b F.DEV_STATE_KEY_OK = true ∧ n = (match s.m.mirrInForce with | some b => (fieldAt b 8 4 + 1) % 2 ^ 32 | none => 1)) ∧
  (∃ (s : State),
    s.m.hostUp = true ∧ s.m.led.due = true ∧ s.m.sp.keyWrite = none) ∧
  (∃ (s : State) (ok : Bool),
    ((s.m.hostUp = false ∨ s.m.led.due = false ∨ s.m.sp.keyWrite.isSome = true))) ∧
  (∃ (s : State),
    s.m.led.mirrBusy = true) ∧
  (∃ (s : State),
    s.m.led.mirrBusy = false) :=
  ⟨⟨rich, by decide +kernel⟩,
   ⟨(mkS (ledD (fun l => { l with cellLow := true }) up)), by decide +kernel⟩,
   ⟨(mkS (ledD (fun l => { l with due := true }) (lnM.sb F.DEV_STATE_KEY_OK true))), 1, by decide +kernel⟩,
   ⟨(mkS (ledD (fun l => { l with due := true }) (lnM.sb F.DEV_STATE_KEY_OK true))), by decide +kernel⟩,
   ⟨(mkS lnM), true, by decide +kernel⟩,
   ⟨(mkS (ledD (fun l => { l with mirrBusy := true }) lnM)), by decide +kernel⟩,
   ⟨rich, by decide +kernel⟩⟩

/-- States and operands that meet the hypotheses of each clause of `LinkPorts`. -/
theorem wit_LinkPorts :
  (∃ (s : State) (x : Nat) (lock : Bool),
    s.m.hostUp = true ∧ x < 2 ∧ s.m.portDown x = false ∧ ((lock = true ∨ 2 ≤ nth s.m.link.missed x 0))) ∧
  (∃ (s : State) (x : Nat) (lock : Bool),
    (s.m.hostUp = false ∨ s.m.portDown x = true)) ∧
  (∃ (s : State) (x : Nat),
    s.m.hostUp = true ∧ x < 2 ∧ s.m.portDown x = true ∧ 400 ≤ nth s.m.link.good x 0) ∧
  (∃ (s : State) (x : Nat),
    (s.m.portDown x = false ∨ nth s.m.link.good x 0 < 400)) ∧
  (∃ (s : State) (a : List Byte) (ta : Nat) (tb : Nat),
    s.m.hostUp = true ∧ beaconOk a = true) ∧
  (∃ (s : State) (ta : Nat) (tb : Nat),
    s.m.hostUp = true) ∧
  (∃ (s : State) (k : Nat) (ring : Nat) (second : Bool) (b : List Byte),
    s.m.hostUp = true ∧ k < 64 ∧ ring < 2 ∧ k ≠ s.m.node ∧ b.length = 384 ∧ fieldAt b 380 4 = crc32c (sliceB b 320 60) ∧ bit (fieldAt b 320 1) 6 = true ∧ s.m.scan.groups.group ≠ 0 ∧ fieldAt (sliceB b 324 48) 0 2 = s.m.scan.groups.group ∧ fieldAt (sliceB b 324 48) 4 4 = s.m.scan.groups.crc) ∧
  (∃ (s : State) (k : Nat) (ring : Nat) (second : Bool) (b : List Byte),
    s.m.hostUp = true ∧ k < 64 ∧ ring < 2 ∧ k ≠ s.m.node ∧ b.length = 384 ∧ fieldAt b 380 4 = crc32c (sliceB b 320 60) ∧ bit (fieldAt b 320 1) 6 = true ∧ s.m.scan.groups.group ≠ 0 ∧ fieldAt (sliceB b 324 48) 0 2 = s.m.scan.groups.group ∧ fieldAt (sliceB b 324 48) 4 4 ≠ s.m.scan.groups.crc) ∧
  (∃ (s : State) (k : Nat) (ring : Nat) (second : Bool) (b : List Byte),
    s.m.hostUp = true ∧ k < 64 ∧ ring < 2 ∧ k ≠ s.m.node ∧ ((b.length ≠ 384 ∨ fieldAt b 380 4 ≠ crc32c (sliceB b 320 60)))) ∧
  (∃ (s : State) (ring : Nat) (b : List Byte),
    ring < 2 ∧ s.m.onRing = true ∧ s.m.link.ringWrap = false ∧ s.m.b F.ZL_STAT_WRAP = false ∧ fieldAt b 320 1 ≠ 255) ∧
  (∃ (s : State) (j : Nat),
    s.m.hostUp = true ∧ j < 32 ∧ s.m.b F.ZL_SESS_VALID j = true ∧ s.m.g F.ZL_CFG_SESSTMO ≤ s.m.g F.ZL_SESS_IDLE j) ∧
  (∃ (s : State),
    ((∀ j < 32, s.m.b F.ZL_SESS_VALID j = true → s.m.g F.ZL_SESS_IDLE j < s.m.g F.ZL_CFG_SESSTMO))) :=
  ⟨⟨rich, 0, true, by decide +kernel⟩,
   ⟨(mkS (lkD (fun l => { l with down := [false, true] }) up)), 1, true, by decide +kernel⟩,
   ⟨(mkS (lkD (fun l => { l with down := [false, true], good := [0, 400] }) up)), 1, by decide +kernel⟩,
   ⟨rich, 1, by decide +kernel⟩,
   ⟨(mkS rg), (bcon 4 3 99), 5, 6, by decide +kernel⟩,
   ⟨(mkS rg), 1, 2, by decide +kernel⟩,
   ⟨(mkS (grpD (fun g => { g with group := 7, crc := 5, recs := [(1, 2, [])] }) rg)), 9, 1, false, (nsl 7 5), by decide +kernel⟩,
   ⟨(mkS (grpD (fun g => { g with group := 7, crc := 6 }) rg)), 9, 1, false, (nsl 7 5), by decide +kernel⟩,
   ⟨rich, 9, 1, true, (nsl 7 5 ++ [0]), by decide +kernel⟩,
   ⟨(mkS (rg.sb F.ZL_STAT_DUP false)), 1, (List.replicate 384 1), by decide +kernel⟩,
   ⟨(mkS ((((richM up).sb F.ZL_SESS_VALID true 3).s F.ZL_SESS_IDLE 700 3).s F.ZL_CFG_SESSTMO 600)), 3, by decide +kernel⟩,
   ⟨rich, by decide +kernel⟩⟩

/-- States and operands that meet the hypotheses of each clause of `LinkRequests`. -/
theorem wit_LinkRequests :
  (∃ (s : State) (j : Nat) (b : List Byte) (p : Pkt) (m : Mach),
    s.m.listens = true ∧ j < 16 ∧ reqOk b = true ∧ fieldAt b 4 2 = s.m.hxAddr ∧ s.m.hxAddr ≠ 1023 ∧ 0x8000 ≤ fieldAt b 6 2 ∧ fieldAt b 11 1 = 0 ∧ m = ({ s.m with link := { s.m.link with dack := setBit s.m.link.dack j true } }).touch (fieldAt b 6 2) ∧ p = { reqOf b with role := m.roleOf (fieldAt b 6 2) } ∧ m.underWay p = false ∧ m.cachedFor p = none ∧ m.cacheFull p.src = false ∧ m.opOf p = none) ∧
  (∃ (s : State) (j : Nat) (b : List Byte) (p : Pkt) (m : Mach) (need : Nat) (r : Mach × Nat × List Byte),
    s.m.listens = true ∧ j < 16 ∧ reqOk b = true ∧ fieldAt b 4 2 = s.m.hxAddr ∧ s.m.hxAddr ≠ 1023 ∧ 0x8000 ≤ fieldAt b 6 2 ∧ fieldAt b 11 1 = 0 ∧ m = ({ s.m with link := { s.m.link with dack := setBit s.m.link.dack j true } }).touch (fieldAt b 6 2) ∧ p = { reqOf b with role := m.roleOf (fieldAt b 6 2) } ∧ m.underWay p = false ∧ m.cachedFor p = none ∧ m.cacheFull p.src = false ∧ (m.opOf p).map (fun x => (x.1, x.2.1)) = some (need, false) ∧ (m.opOf p).map (fun x => (m.accept p).runRole p need false x.2.2) = some r ∧ r.1.link.accepted = (m.accept p).link.accepted) ∧
  (∃ (s : State) (j : Nat) (b : List Byte) (p : Pkt) (m : Mach) (need : Nat),
    s.m.listens = true ∧ j < 16 ∧ reqOk b = true ∧ fieldAt b 4 2 = s.m.hxAddr ∧ s.m.hxAddr ≠ 1023 ∧ 0x8000 ≤ fieldAt b 6 2 ∧ fieldAt b 11 1 = 0 ∧ m = ({ s.m with link := { s.m.link with dack := setBit s.m.link.dack j true } }).touch (fieldAt b 6 2) ∧ p = { reqOf b with role := m.roleOf (fieldAt b 6 2) } ∧ m.underWay p = false ∧ m.cachedFor p = none ∧ m.cacheFull p.src = false ∧ (m.opOf p).map (fun x => (x.1, x.2.1)) = some (need, true) ∧ need ≤ p.role ∧ m.fieldReach = true) ∧
  (∃ (s : State) (j : Nat) (a : List Byte) (b : List Byte),
    s.m.listens = true ∧ j < 16 ∧ reqOk a = false ∧ reqOk b = false) ∧
  (∃ (s : State) (j : Nat) (a : List Byte) (b : List Byte),
    s.m.listens = false) ∧
  (∃ (s : State) (a : List Byte) (b : List Byte) (g : List Byte) (q : List (List Byte)),
    s.m.onRing = true ∧ headerOk a = true ∧ fieldAt a 8 2 = 0 ∧ b = [] ∧ s.m.aq.live = g :: q ∧ s.m.link.frag = none ∧ s.m.link.accepted = [] ∧ s.m.link.unsol = [] ∧ s.m.link.cur = []) ∧
  (∃ (s : State) (a : List Byte) (f : Frag) (ack : Bool),
    s.m.onRing = true ∧ headerOk a = true ∧ fieldAt a 8 2 = 0 ∧ s.m.link.frag = some f ∧ bit (fieldAt a 0 8) s.m.node = ack ∧ s.m.link.accepted = [] ∧ s.m.link.unsol = [] ∧ s.m.link.cur = [] ∧ f.sends < 3) ∧
  (∃ (s : State) (a : List Byte) (b : List Byte),
    s.m.hostUp = false) ∧
  (∃ (s : State) (a : List Byte) (b : List Byte) (ta : Nat) (tb : Nat),
    s.m.hostUp = false) :=
  ⟨⟨(mkS (rg)), 3, (reqB 0x8005 9 0xFE [1]), { reqOf (reqB 0x8005 9 0xFE [1]) with role := (({ (rg) with link := { (rg).link with dack := setBit (rg).link.dack 3 true } } : Mach).touch (fieldAt (reqB 0x8005 9 0xFE [1]) 6 2)).roleOf (fieldAt (reqB 0x8005 9 0xFE [1]) 6 2) }, _, by decide +kernel, by decide +kernel, by decide +kernel, by decide +kernel, by decide +kernel, by decide +kernel, by decide +kernel, rfl, by decide +kernel⟩,
   ⟨(mkS (rg)), 3, (reqB 0x8005 9 0x00 [1]), { reqOf (reqB 0x8005 9 0x00 [1]) with role := (({ (rg) with link := { (rg).link with dack := setBit (rg).link.dack 3 true } } : Mach).touch (fieldAt (reqB 0x8005 9 0x00 [1]) 6 2)).roleOf (fieldAt (reqB 0x8005 9 0x00 [1]) 6 2) }, _, 0, (((({ (rg) with link := { (rg).link with dack := setBit (rg).link.dack 3 true } } : Mach).touch (fieldAt (reqB 0x8005 9 0x00 [1]) 6 2)).accept { reqOf (reqB 0x8005 9 0x00 [1]) with role := (({ (rg) with link := { (rg).link with dack := setBit (rg).link.dack 3 true } } : Mach).touch (fieldAt (reqB 0x8005 9 0x00 [1]) 6 2)).roleOf (fieldAt (reqB 0x8005 9 0x00 [1]) 6 2) }).runRole { reqOf (reqB 0x8005 9 0x00 [1]) with role := (({ (rg) with link := { (rg).link with dack := setBit (rg).link.dack 3 true } } : Mach).touch (fieldAt (reqB 0x8005 9 0x00 [1]) 6 2)).roleOf (fieldAt (reqB 0x8005 9 0x00 [1]) 6 2) } 0 false opNop), by decide +kernel, by decide +kernel, by decide +kernel, by decide +kernel, by decide +kernel, by decide +kernel, by decide +kernel, rfl, by decide +kernel⟩,
   ⟨(mkS (((((({ lnM with pow := rg.pow } : Mach).sb F.ZL_STAT_JOINED true).sb F.ZL_SESS_VALID true 3).s F.ZL_SESS_SRC 0x8005 3).s F.ZL_SESS_ROLE 2 3))), 3, (reqB 0x8005 9 0x24 [1,2,3]), { reqOf (reqB 0x8005 9 0x24 [1,2,3]) with role := (({ (((((({ lnM with pow := rg.pow } : Mach).sb F.ZL_STAT_JOINED true).sb F.ZL_SESS_VALID true 3).s F.ZL_SESS_SRC 0x8005 3).s F.ZL_SESS_ROLE 2 3)) with link := { (((((({ lnM with pow := rg.pow } : Mach).sb F.ZL_STAT_JOINED true).sb F.ZL_SESS_VALID true 3).s F.ZL_SESS_SRC 0x8005 3).s F.ZL_SESS_ROLE 2 3)).link with dack := setBit (((((({ lnM with pow := rg.pow } : Mach).sb F.ZL_STAT_JOINED true).sb F.ZL_SESS_VALID true 3).s F.ZL_SESS_SRC 0x8005 3).s F.ZL_SESS_ROLE 2 3)).link.dack 3 true } } : Mach).touch (fieldAt (reqB 0x8005 9 0x24 [1,2,3]) 6 2)).roleOf (fieldAt (reqB 0x8005 9 0x24 [1,2,3]) 6 2) }, _, 2, by decide +kernel, by decide +kernel, by decide +kernel, by decide +kernel, by decide +kernel, by decide +kernel, by decide +kernel, rfl, by decide +kernel⟩,
   ⟨(mkS rg), 3, [1,2,3], [], by decide +kernel⟩,
   ⟨rich, 3, [], [], by decide +kernel⟩,
   ⟨(mkS (aqD (fun a => { a with live := [ing 5, ing 6] }) rg)), (dsl 0), [], (ing 5), [ing 6], by decide +kernel⟩,
   ⟨(mkS (lkD (fun l => { l with frag := some { sends := 2 } }) rg)), (dsl 32), { sends := 2 }, true, by decide +kernel⟩,
   ⟨(mkS {}), [], [], by decide +kernel⟩,
   ⟨(mkS {}), [], [], 5, 6, by decide +kernel⟩⟩

/-- States and operands that meet the hypotheses of each clause of `OpcodeChecks`. -/
theorem wit_OpcodeChecks :
  (∃ (s : State) (src : Nat) (seq : Nat) (pl : List Byte) (c : Instr) (op : Nat) (need : Nat),
    (c, op, need) ∈ [(Instr.markOp src seq pl, 0x04, 2), (.linkStatus src seq pl, 0x05, 1), (.regRead src seq pl, 0x10, 1), (.regReadRange src seq pl, 0x11, 1), (.regWrite src seq pl, 0x12, 2), (.prgStatus src seq pl, 0x20, 1), (.imgRead src seq pl, 0x21, 1), (.paramBatch src seq pl, 0x22, 2), (.paramRead src seq pl, 0x23, 1), (.stnTest src seq pl, 0x24, 2), (.imgPut src seq pl, 0x25, 2), (.evStatus src seq pl, 0x30, 1), (.evRead src seq pl, 0x31, 1), (.evClear src seq pl, 0x32, 2), (.stmStatus src seq pl, 0x40, 1), (.stmSubscribe src seq pl, 0x41, 1), (.stmLoad src seq pl, 0x42, 2), (.stmStop src seq pl, 0x43, 2), (.stmFetch src seq pl, 0x44, 1), (.updStatus src seq pl, 0x50, 1), (.updBegin src seq pl, 0x51, 2), (.updPut src seq pl, 0x52, 2), (.updVerify src seq pl, 0x53, 2), (.updLoad src seq pl, 0x54, 2), (.updArm src seq pl, 0x55, 2), (.updDisarm src seq pl, 0x56, 2), (.updCancel src seq pl, 0x57, 2), (.updRollback src seq pl, 0x58, 2), (.updRead src seq pl, 0x59, 1), (.updKeySet src seq pl, 0x5A, 3), (.sfStatus src seq pl, 0x60, 1), (.editOpen src seq pl, 0x61, 3), (.setLoad src seq pl, 0x62, 3), (.editCommit src seq pl, 0x63, 3), (.editAbort src seq pl, 0x64, 3), (.confirm src seq pl, 0x65, 3), (.setRead src seq pl, 0x66, 1), (.inspectOn src seq pl, 0x67, 3), (.inspectKeep src seq pl, 0x68, 3), (.inspectOff src seq pl, 0x69, 3), (.inspectCfg src seq pl, 0x6A, 3), (.dxStatus src seq pl, 0x70, 1), (.dxSwitch src seq pl, 0x71, 2), (.dxRestore src seq pl, 0x72, 2), (.sprStatus src seq pl, 0x73, 1), (.sprGraft src seq pl, 0x74, 2), (.sprRelease src seq pl, 0x75, 2), (.lgStatus src seq pl, 0x80, 1), (.lgRead src seq pl, 0x81, 1), (.calSet src seq pl, 0x82, 2), (.inspSet src seq pl, 0x83, 3)]) ∧
  (∃ (s : State) (src : Nat) (seq : Nat) (c : Instr) (op : Nat) (need : Nat),
    (c, op, need) ∈ [(Instr.prgStatus src seq [], 0x20, 1), (.stmStatus src seq [], 0x40, 1), (.dxStatus src seq [], 0x70, 1), (.dxSwitch src seq [], 0x71, 2), (.sfStatus src seq [], 0x60, 1), (.markOp src seq [], 0x04, 2), (.updDisarm src seq [], 0x56, 2)] ∧ s.m.hostUp = true ∧ need ≤ s.m.roleOf src ∧ s.m.fieldReach = false) ∧
  (∃ (s : State) (src : Nat) (seq : Nat) (pl : List Byte) (c : Instr) (op : Nat) (need : Nat) (k : Nat),
    (c, op, need) ∈ [(Instr.markOp src seq pl, 0x04, 2), (.prgStatus src seq pl, 0x20, 1), (.imgRead src seq pl, 0x21, 1), (.paramBatch src seq pl, 0x22, 2), (.paramRead src seq pl, 0x23, 1), (.stnTest src seq pl, 0x24, 2), (.stmStatus src seq pl, 0x40, 1), (.stmLoad src seq pl, 0x42, 2), (.stmStop src seq pl, 0x43, 2), (.updDisarm src seq pl, 0x56, 2), (.updRollback src seq pl, 0x58, 2), (.updKeySet src seq pl, 0x5A, 3), (.sfStatus src seq pl, 0x60, 1), (.editOpen src seq pl, 0x61, 3), (.setLoad src seq pl, 0x62, 3), (.editCommit src seq pl, 0x63, 3), (.editAbort src seq pl, 0x64, 3), (.confirm src seq pl, 0x65, 3), (.setRead src seq pl, 0x66, 1), (.inspectOn src seq pl, 0x67, 3), (.inspectKeep src seq pl, 0x68, 3), (.inspectOff src seq pl, 0x69, 3), (.inspectCfg src seq pl, 0x6A, 3), (.dxStatus src seq pl, 0x70, 1), (.dxSwitch src seq pl, 0x71, 2), (.dxRestore src seq pl, 0x72, 2), (.sprStatus src seq pl, 0x73, 1), (.sprGraft src seq pl, 0x74, 2), (.sprRelease src seq pl, 0x75, 2)] ∧ s.m.hostUp = true ∧ need ≤ s.m.roleOf src ∧ s.m.fieldReach = true ∧ s.m.ticking = false ∧ k = max 1 (ceilDiv pl.length 32)) :=
  ⟨⟨(mkS { oM 2 with pow := { hst := 1 } }), 9, 4, [1,2], (.updArm 9 4 [1,2]), 0x55, 2, by decide +kernel⟩,
   ⟨(oW (fun m => m.s F.DEV_BAR_STAT_INSERV 0) 2), 9, 4, (.prgStatus 9 4 []), 0x20, 1, by decide +kernel⟩,
   ⟨(oW (fun m => m.sb F.FRM_STAT_RUN false) 1), 9, 4, (List.replicate 40 3), (.markOp 9 4 (List.replicate 40 3)), 4, 2, 2, by decide +kernel⟩⟩

/-- States and operands that meet the hypotheses of each clause of `SessionOpcodes`. -/
theorem wit_SessionOpcodes :
  (∃ (s : State) (src : Nat) (seq : Nat) (pl : List Byte),
    s.m.hostUp = true) ∧
  (∃ (s : State) (src : Nat) (seq : Nat) (m : Mach),
    s.m.hostUp = true ∧ m = Safety.Taken s.m src seq 0x01 []) ∧
  (∃ (s : State) (src : Nat) (seq : Nat) (r : Nat) (j : Nat) (pl : List Byte) (m : Mach),
    s.m.hostUp = true ∧ m = Safety.Taken s.m src seq 0x02 pl ∧ src < 65536 ∧ pl.length = 12 ∧ r = fieldAt pl 0 1 ∧ r ≤ 2 ∧ fieldAt pl 1 3 = 0 ∧ m.locked src = false ∧ m.roleKey r ≠ 0 ∧ fieldAt pl 4 8 = m.roleKey r ∧ m.session src = none ∧ (upTo 32).find? (fun j => !m.b F.ZL_SESS_VALID j) = some j ∧ m.log.recs.length < 24064) ∧
  (∃ (s : State) (src : Nat) (seq : Nat) (r : Nat) (pl : List Byte) (m : Mach),
    s.m.hostUp = true ∧ m = Safety.Taken s.m src seq 0x02 pl ∧ pl.length = 12 ∧ r = fieldAt pl 0 1 ∧ r ≤ 2 ∧ fieldAt pl 1 3 = 0 ∧ m.locked src = false ∧ ((m.roleKey r = 0 ∨ fieldAt pl 4 8 ≠ m.roleKey r))) ∧
  (∃ (s : State) (src : Nat) (seq : Nat) (pl : List Byte) (m : Mach),
    s.m.hostUp = true ∧ m = Safety.Taken s.m src seq 0x02 pl ∧ pl.length = 12 ∧ fieldAt pl 0 1 ≤ 2 ∧ fieldAt pl 1 3 = 0 ∧ m.locked src = true) ∧
  (∃ (s : State) (src : Nat) (seq : Nat) (j : Nat) (m : Mach),
    s.m.hostUp = true ∧ m = Safety.Taken s.m src seq 0x03 [] ∧ m.session src = some j) ∧
  (∃ (s : State) (src : Nat) (seq : Nat),
    Safety.MayRun s.m src 2 true ∧ s.m.fabricUp = true) ∧
  (∃ (s : State) (src : Nat) (seq : Nat) (m : Mach),
    Safety.MayRun s.m src 1 false ∧ m = Safety.Taken s.m src seq 0x05 []) ∧
  (∃ (s : State) (src : Nat) (seq : Nat) (r : Nat) (pl : List Byte) (b : List Byte) (m : Mach),
    Safety.MayRun s.m src 3 true ∧ m = Safety.Taken s.m src seq 0x06 pl ∧ pl.length = 12 ∧ r = fieldAt pl 0 1 ∧ r ≤ 2 ∧ fieldAt pl 1 3 = 0 ∧ m.genInForce 7 = some b ∧ fieldAt b (8 * r) 8 ≠ fieldAt pl 4 8 ∧ m.sp.edit = none ∧ m.sp.insp = none) ∧
  (∃ (s : State) (src : Nat) (seq : Nat) (pl : List Byte) (b : List Byte) (m : Mach),
    Safety.MayRun s.m src 0 true ∧ m = Safety.Taken s.m src seq 0x06 pl ∧ pl.length = 12 ∧ s.m.b F.DEV_ROLE_STAT_COM_SET = false ∧ bit src 15 = true ∧ src / 64 % 16 = s.m.hxAddr / 64 ∧ fieldAt pl 0 1 = 2 ∧ fieldAt pl 1 3 = 0 ∧ m.genInForce 7 = some b ∧ fieldAt b 16 8 ≠ fieldAt pl 4 8 ∧ m.sp.edit = none ∧ m.sp.insp = none) ∧
  (∃ (s : State) (src : Nat) (seq : Nat) (m : Mach),
    s.m.hostUp = true ∧ m = Safety.Taken s.m src seq 0x03 [] ∧ m.session src = none) :=
  ⟨⟨(o 2), 9, 4, [1,2,3], by decide +kernel⟩,
   ⟨(o 2), 9, 4, _, by decide +kernel, rfl⟩,
   ⟨(oS kM), 300, 4, 0, 0, (by_ [(1,0),(3,0),(8,77)]), _, by decide +kernel, rfl, by decide +kernel⟩,
   ⟨(oS kM), 300, 4, 1, (by_ [(1,1),(3,0),(8,77)]), _, by decide +kernel, rfl, by decide +kernel⟩,
   ⟨(oS (fun m => { kM m with lockouts := [(300, 5)] })), 300, 4, (by_ [(1,0),(3,0),(8,77)]), _, by decide +kernel, rfl, by decide +kernel⟩,
   ⟨(o 2), 9, 4, 4, _, by decide +kernel, rfl, by decide +kernel⟩,
   ⟨(o 2), 9, 4, by unfold Safety.MayRun; decide +kernel, by decide +kernel⟩,
   ⟨(o 2), 9, 4, _, by unfold Safety.MayRun; decide +kernel, rfl⟩,
   ⟨(oW kM 2), 9, 4, 2, (by_ [(1,2),(3,0),(8,77)]), (leBytes 8 77 ++ leBytes 8 0 ++ leBytes 8 99 ++ List.replicate 32 0), _, by unfold Safety.MayRun; decide +kernel, rfl, by decide +kernel⟩,
   ⟨(oS (fun m => kM (m.sw .DEV_ADDR (m.w .DEV_ADDR)))), (32768 + 64 * ((oM 0).hxAddr / 64)), 4, (by_ [(1,2),(3,0),(8,77)]), (leBytes 8 77 ++ leBytes 8 0 ++ leBytes 8 99 ++ List.replicate 32 0), _, by unfold Safety.MayRun; decide +kernel, rfl, by decide +kernel⟩,
   ⟨(oS id), 300, 4, _, by decide +kernel, rfl, by decide +kernel⟩⟩

/-- States and operands that meet the hypotheses of each clause of `RegisterOpcodes`. -/
theorem wit_RegisterOpcodes :
  (∃ (s : State) (src : Nat) (seq : Nat) (n : Nat) (pl : List Byte) (m : Mach) (l : List Nat),
    n = fieldAt pl 0 2 ∧ l = (upTo n).map (fun k => fieldAt pl (4 + 2 * k) 2) ∧ Safety.MayRun s.m src 1 (l.any inField) ∧ m = Safety.Taken s.m src seq 0x10 pl ∧ 0 < n ∧ n ≤ 1000 ∧ pl.length = 4 + 2 * n ∧ fieldAt pl 2 2 = 0 ∧ ((∀ q ∈ s.m.latches, q.1 ≠ Who.key (.host 0 0)))) ∧
  (∃ (s : State) (src : Nat) (seq : Nat) (a : Nat) (n : Nat) (pl : List Byte) (m : Mach),
    a = fieldAt pl 0 2 ∧ n = fieldAt pl 2 2 ∧ Safety.MayRun s.m src 1 (inField a || inField (a + n - 1)) ∧ m = Safety.Taken s.m src seq 0x11 pl ∧ 0 < n ∧ n ≤ 1000 ∧ a + n ≤ 65536 ∧ pl.length = 4 ∧ ((∀ q ∈ s.m.latches, q.1 ≠ Who.key (.host 0 0)))) ∧
  (∃ (s : State) (src : Nat) (seq : Nat) (i : Nat) (pl : List Byte) (m : Mach) (who : Who) (r : Mach × Bool),
    Safety.MayRun s.m src 2 (inField i) ∧ m = Safety.Taken s.m src seq 0x12 pl ∧ pl.length = 12 ∧ fieldAt pl 0 2 = 1 ∧ fieldAt pl 2 2 = 0 ∧ fieldAt pl 4 2 = i ∧ fieldAt pl 6 2 = 0 ∧ i < 0x8000 ∧ ((i < 0x2800 ∨ 0x2C00 ≤ i ∨ 3 ≤ s.m.roleOf src ∧ m.b F.DEV_ROLE_STAT_COM_SET = true ∧ (i = 0x2800 ∨ m.editBy src = true))) ∧ ((m.inGap = false ∨ (regAt i).map (fun x => x.1) ≠ some .LP_PAGE)) ∧ who = .host (s.m.roleOf src) src ∧ r = (Safety.PacketDone m who).regWrite who i (Word.of (fieldAt pl 8 4)) ∧ r.1.link.accepted = m.link.accepted) ∧
  (∃ (s : State) (src : Nat) (seq : Nat) (n : Nat) (pl : List Byte) (m : Mach) (im : Image) (es : List (Nat × Nat)),
    Safety.MayRun s.m src 2 true ∧ m = Safety.Taken s.m src seq 0x12 pl ∧ n = fieldAt pl 0 2 ∧ 0 < n ∧ n ≤ 256 ∧ pl.length = 4 + 8 * n ∧ fieldAt pl 2 2 = 0 ∧ ((∀ k < n, fieldAt pl (6 + 8 * k) 2 = 0)) ∧ es = (upTo n).map (fun k => (fieldAt pl (4 + 8 * k) 2, fieldAt pl (8 + 8 * k) 4)) ∧ ((∀ e ∈ es, 0x8000 ≤ e.1)) ∧ m.inGap = false ∧ m.scan.img = some im ∧ batchRange im (es.map (fun e => (e.1 - 0x8000, sgn 32 e.2))) = false ∧ m.upd.newScan = false ∧ m.upd.go = false ∧ m.scan.batches.length < 4) ∧
  (∃ (s : State) (src : Nat) (seq : Nat) (i : Nat) (pl : List Byte),
    Safety.MayRun s.m src 2 true ∧ ((s.m.roleOf src < 3 ∨ s.m.b F.DEV_ROLE_STAT_COM_SET = false)) ∧ fieldAt pl 0 2 = 1 ∧ fieldAt pl 4 2 = i ∧ 0x2800 ≤ i ∧ i < 0x2C00) :=
  ⟨⟨(oW nlt 0), 9, 4, 1, (by_ [(2,1),(2,0),(2,0x4803)]), _, [0x4803], by decide +kernel, by decide +kernel, by unfold Safety.MayRun; decide +kernel, rfl, by decide +kernel⟩,
   ⟨(oW nlt 0), 9, 4, 0x108, 3, (by_ [(2,0x108),(2,3)]), _, by decide +kernel, by decide +kernel, by unfold Safety.MayRun; decide +kernel, rfl, by decide +kernel⟩,
   ⟨(oW (id) 1), 9, 4, 16, (rw1 16 7), _, (.host 2 9), _, by unfold Safety.MayRun; decide +kernel, rfl, by decide +kernel, by decide +kernel, by decide +kernel, by decide +kernel, by decide +kernel, by decide +kernel, by decide +kernel, by decide +kernel, by decide +kernel, rfl, by decide +kernel⟩,
   ⟨(oW imgM 1), 9, 4, 2, bw, _, { params := [{ cell := 5, lo := -10, hi := 10 }, { cell := 9, lo := 0, hi := 10 }] }, [(0x8005,0xFFFFFFFE),(0x8009,3)], by unfold Safety.MayRun; decide +kernel, rfl, by decide +kernel⟩,
   ⟨(o 1), 9, 4, 0x2810, (rw1 0x2810 5), by unfold Safety.MayRun; decide +kernel, by decide +kernel⟩⟩

/-- States and operands that meet the hypotheses of each clause of `ProgramOpcodes`. -/
theorem wit_ProgramOpcodes :
  (∃ (s : State) (src : Nat) (seq : Nat) (m : Mach),
    Safety.MayRun s.m src 1 true ∧ m = Safety.Taken s.m src seq 0x20 []) ∧
  (∃ (s : State) (src : Nat) (seq : Nat) (pl : List Byte) (m : Mach) (im : Image),
    Safety.MayRun s.m src 1 true ∧ m = Safety.Taken s.m src seq 0x21 pl ∧ pl.length = 6 ∧ 0 < fieldAt pl 4 2 ∧ fieldAt pl 4 2 ≤ 4000 ∧ m.scan.img = some im ∧ fieldAt pl 0 4 + fieldAt pl 4 2 ≤ im.raw.length) ∧
  (∃ (s : State) (src : Nat) (seq : Nat) (n : Nat) (pl : List Byte) (m : Mach) (im : Image),
    Safety.MayRun s.m src 2 true ∧ m = Safety.Taken s.m src seq 0x22 pl ∧ n = fieldAt pl 4 2 ∧ n ≤ 256 ∧ pl.length = 8 + 8 * n ∧ fieldAt pl 6 2 = 0 ∧ ((∀ i < n, fieldAt (pl.drop 8) (8 * i + 2) 2 = 0)) ∧ m.inGap = false ∧ m.scan.img = some im ∧ batchRange im (batchOf (pl.drop 8) n) = false ∧ fieldAt pl 0 4 = im.imgid ∧ m.upd.newScan = false ∧ m.upd.go = false ∧ m.scan.batches.length < 4) ∧
  (∃ (s : State) (src : Nat) (seq : Nat) (a : Nat) (n : Nat) (pl : List Byte) (m : Mach),
    Safety.MayRun s.m src 1 true ∧ m = Safety.Taken s.m src seq 0x23 pl ∧ pl.length = 4 ∧ a = fieldAt pl 0 2 ∧ n = fieldAt pl 2 2 ∧ 0 < n ∧ n ≤ 1000 ∧ a + n ≤ 32768) ∧
  (∃ (s : State) (src : Nat) (seq : Nat) (pl : List Byte) (m : Mach),
    Safety.MayRun s.m src 2 true ∧ m = Safety.Taken s.m src seq 0x24 pl ∧ pl.length = 12) ∧
  (∃ (s : State) (src : Nat) (seq : Nat) (pl : List Byte) (m : Mach),
    Safety.MayRun s.m src 2 false ∧ m = Safety.Taken s.m src seq 0x25 pl ∧ 5 ≤ pl.length ∧ pl.length ≤ 4004 ∧ fieldAt pl 0 4 + (pl.length - 4) ≤ 524288) :=
  ⟨⟨(o 0), 9, 4, _, by unfold Safety.MayRun; decide +kernel, rfl⟩,
   ⟨(oW imgP 0), 9, 4, (by_ [(4,90),(2,10)]), _, imP, by unfold Safety.MayRun; decide +kernel, rfl, by decide +kernel⟩,
   ⟨(oW imgP 1), 9, 4, 2, (pb [(5,-3),(9,10)]), _, imP, by unfold Safety.MayRun; decide +kernel, rfl, by decide +kernel⟩,
   ⟨(oW imgP 0), 9, 4, 32767, 1, (by_ [(2,32767),(2,1)]), _, by unfold Safety.MayRun; decide +kernel, rfl, by decide +kernel⟩,
   ⟨(oW imgP 1), 9, 4, st1, _, by unfold Safety.MayRun; decide +kernel, rfl, by decide +kernel⟩,
   ⟨(o 1), 9, 4, (by_ [(4,524287),(1,7)]), _, by unfold Safety.MayRun; decide +kernel, rfl, by decide +kernel⟩⟩

/-- States and operands that meet the hypotheses of each clause of `StreamOpcodes`. -/
theorem wit_StreamOpcodes :
  (∃ (s : State) (src : Nat) (seq : Nat) (m : Mach),
    Safety.MayRun s.m src 1 true ∧ m = Safety.Taken s.m src seq 0x40 []) ∧
  (∃ (s : State) (src : Nat) (seq : Nat) (k : Nat) (pl : List Byte) (m : Mach),
    Safety.MayRun s.m src 1 false ∧ m = Safety.Taken s.m src seq 0x41 pl ∧ pl.length = 2 ∧ k = fieldAt pl 0 1 ∧ 0 < k ∧ k ≤ 15 ∧ fieldAt pl 1 1 = 0 ∧ (m.aq.subs.filter (fun e => e.1 != src)).length < 16) ∧
  (∃ (s : State) (src : Nat) (seq : Nat) (pl : List Byte) (m : Mach),
    Safety.MayRun s.m src 2 true ∧ m = Safety.Taken s.m src seq 0x42 pl ∧ 20 ≤ pl.length ∧ m.aq.pend = none ∧ m.cfgRefused pl = false) ∧
  (∃ (s : State) (src : Nat) (seq : Nat) (pl : List Byte) (m : Mach),
    Safety.MayRun s.m src 2 true ∧ m = Safety.Taken s.m src seq 0x42 pl ∧ 20 ≤ pl.length ∧ m.aq.pend = none ∧ m.cfgRefused pl = true) ∧
  (∃ (s : State) (src : Nat) (seq : Nat) (k : Nat) (pl : List Byte) (m : Mach),
    Safety.MayRun s.m src 2 true ∧ m = Safety.Taken s.m src seq 0x43 pl ∧ pl.length = 2 ∧ k = fieldAt pl 0 1 ∧ k ≤ 15 ∧ fieldAt pl 1 1 = 0) ∧
  (∃ (s : State) (src : Nat) (seq : Nat) (a : Nat) (n : Nat) (pl : List Byte) (m : Mach) (gs : List (List Byte)),
    Safety.MayRun s.m src 1 false ∧ m = Safety.Taken s.m src seq 0x44 pl ∧ pl.length = 8 ∧ a = fieldAt pl 0 4 ∧ n = fieldAt pl 4 1 ∧ 0 < n ∧ n ≤ 12 ∧ fieldAt pl 5 3 = 0 ∧ gs = (upTo n).filterMap (fun j => m.aq.hist.find? (fun b => ingotSeq b == (a + j) % 2 ^ 32))) :=
  ⟨⟨(oW aqP 0), 9, 4, _, by unfold Safety.MayRun; decide +kernel, rfl⟩,
   ⟨(oW aqP 0), 9, 4, 15, (by_ [(1,15),(1,0)]), _, by unfold Safety.MayRun; decide +kernel, rfl, by decide +kernel⟩,
   ⟨(oW (fun m => kM (aqP m)) 1), 9, 4, cfgE, _, by unfold Safety.MayRun; decide +kernel, rfl, by decide +kernel⟩,
   ⟨(o 1), 9, 4, (List.replicate 20 0), _, by unfold Safety.MayRun; decide +kernel, rfl, by decide +kernel⟩,
   ⟨(oW aqP 1), 9, 4, 3, (by_ [(1,3),(1,0)]), _, by unfold Safety.MayRun; decide +kernel, rfl, by decide +kernel⟩,
   ⟨(oW aqP 0), 9, 4, 3, 4, (by_ [(4,3),(1,4),(3,0)]), _, [ing 3, ing 4, ing 6], by unfold Safety.MayRun; decide +kernel, rfl, by decide +kernel⟩⟩

/-- States and operands that meet the hypotheses of each clause of `LogOpcodes`. -/
theorem wit_LogOpcodes :
  (∃ (s : State) (src : Nat) (seq : Nat) (m : Mach),
    Safety.MayRun s.m src 1 false ∧ m = Safety.Taken s.m src seq 0x30 []) ∧
  (∃ (s : State) (src : Nat) (seq : Nat) (a : Nat) (n : Nat) (pl : List Byte) (m : Mach) (rs : List Rec),
    Safety.MayRun s.m src 1 false ∧ m = Safety.Taken s.m src seq 0x31 pl ∧ pl.length = 8 ∧ a = fieldAt pl 0 4 ∧ n = fieldAt pl 4 2 ∧ 0 < n ∧ n ≤ 120 ∧ fieldAt pl 6 2 = 0 ∧ rs = (m.log.recs.drop a).take n) ∧
  (∃ (s : State) (src : Nat) (seq : Nat) (pl : List Byte) (m : Mach),
    Safety.MayRun s.m src 2 false ∧ m = Safety.Taken s.m src seq 0x32 pl ∧ pl.length = 4 ∧ ((m.log.anyPriv = false ∨ 3 ≤ s.m.roleOf src)) ∧ fieldAt pl 0 4 = m.log.recs.length) ∧
  (∃ (s : State) (src : Nat) (seq : Nat) (pl : List Byte) (m : Mach),
    Safety.MayRun s.m src 2 false ∧ m = Safety.Taken s.m src seq 0x32 pl ∧ m.log.anyPriv = true ∧ s.m.roleOf src < 3) ∧
  (∃ (s : State) (src : Nat) (seq : Nat) (m : Mach),
    Safety.MayRun s.m src 1 false ∧ m = Safety.Taken s.m src seq 0x80 []) ∧
  (∃ (s : State) (src : Nat) (seq : Nat) (a : Nat) (n : Nat) (pl : List Byte) (m : Mach),
    Safety.MayRun s.m src 1 false ∧ m = Safety.Taken s.m src seq 0x81 pl ∧ pl.length = 4 ∧ a = fieldAt pl 0 2 ∧ n = fieldAt pl 2 2 ∧ 0 < n ∧ a + n ≤ 256) ∧
  (∃ (s : State) (src : Nat) (seq : Nat) (pl : List Byte) (m : Mach),
    Safety.MayRun s.m src 2 false ∧ m = Safety.Taken s.m src seq 0x82 pl ∧ pl.length = 8 ∧ fieldAt pl 0 8 ≠ 0 ∧ m.log.recs.length < 24064) ∧
  (∃ (s : State) (src : Nat) (seq : Nat) (pl : List Byte) (m : Mach),
    Safety.MayRun s.m src 3 false ∧ m = Safety.Taken s.m src seq 0x83 pl ∧ pl.length = 8) :=
  ⟨⟨(o 0), 9, 4, _, by unfold Safety.MayRun; decide +kernel, rfl⟩,
   ⟨(oW lgP 0), 9, 4, 1, 5, (by_ [(4,1),(2,5),(2,0)]), _, [{ code := 3, arg0 := 8 }, { code := 0x0B06 }], by unfold Safety.MayRun; decide +kernel, rfl, by decide +kernel⟩,
   ⟨(oW lgP 2), 9, 4, (by_ [(4,3)]), _, by unfold Safety.MayRun; decide +kernel, rfl, by decide +kernel⟩,
   ⟨(oW lgP 1), 9, 4, (by_ [(4,3)]), _, by unfold Safety.MayRun; decide +kernel, rfl, by decide +kernel⟩,
   ⟨(o 0), 9, 4, _, by unfold Safety.MayRun; decide +kernel, rfl⟩,
   ⟨(oW lgP 0), 9, 4, 250, 6, (by_ [(2,250),(2,6)]), _, by unfold Safety.MayRun; decide +kernel, rfl, by decide +kernel⟩,
   ⟨(oW lgP 1), 9, 4, (by_ [(8,77)]), _, by unfold Safety.MayRun; decide +kernel, rfl, by decide +kernel⟩,
   ⟨(oW lgP 2), 9, 4, (by_ [(8,77)]), _, by unfold Safety.MayRun; decide +kernel, rfl, by decide +kernel⟩⟩

/-- States and operands that meet the hypotheses of each clause of `SafetyOpcodes`. -/
theorem wit_SafetyOpcodes :
  (∃ (s : State) (src : Nat) (seq : Nat) (m : Mach),
    Safety.MayRun s.m src 1 true ∧ m = Safety.Taken s.m src seq 0x60 []) ∧
  (∃ (s : State) (src : Nat) (seq : Nat) (m : Mach),
    Safety.MayRun s.m src 3 true ∧ m = Safety.Taken s.m src seq 0x61 [] ∧ m.b F.DEV_ROLE_STAT_COM_SET = true ∧ m.sp.edit = none ∧ m.sp.insp = none ∧ m.pairsOff = true ∧ m.sp.fault = false) ∧
  (∃ (s : State) (src : Nat) (seq : Nat) (m : Mach),
    Safety.MayRun s.m src 3 true ∧ m = Safety.Taken s.m src seq 0x61 [] ∧ m.b F.DEV_ROLE_STAT_COM_SET = true ∧ ((m.sp.edit ≠ none ∨ m.sp.insp ≠ none ∨ m.pairsOff = false ∨ m.sp.fault = true))) ∧
  (∃ (s : State) (src : Nat) (seq : Nat) (o : Nat) (n : Nat) (pl : List Byte) (m : Mach),
    Safety.MayRun s.m src 3 true ∧ m = Safety.Taken s.m src seq 0x62 pl ∧ m.b F.DEV_ROLE_STAT_COM_SET = true ∧ 0 < n ∧ pl.length = 2 + 4 * n ∧ o = fieldAt pl 0 2 ∧ o % 4 = 0 ∧ o + 4 * n ≤ 1480 ∧ m.editBy src = true) ∧
  (∃ (s : State) (src : Nat) (seq : Nat) (m : Mach),
    Safety.MayRun s.m src 3 true ∧ m = Safety.Taken s.m src seq 0x63 [] ∧ m.b F.DEV_ROLE_STAT_COM_SET = true ∧ m.editBy src = true ∧ m.setBad = false) ∧
  (∃ (s : State) (src : Nat) (seq : Nat) (m : Mach),
    Safety.MayRun s.m src 3 true ∧ m = Safety.Taken s.m src seq 0x63 [] ∧ m.b F.DEV_ROLE_STAT_COM_SET = true ∧ m.editBy src = true ∧ m.setBad = true) ∧
  (∃ (s : State) (src : Nat) (seq : Nat) (m : Mach),
    Safety.MayRun s.m src 3 true ∧ m = Safety.Taken s.m src seq 0x64 [] ∧ m.b F.DEV_ROLE_STAT_COM_SET = true ∧ m.editBy src = true) ∧
  (∃ (s : State) (src : Nat) (seq : Nat) (on : Nat) (pl : List Byte) (m : Mach),
    Safety.MayRun s.m src 3 true ∧ m = Safety.Taken s.m src seq 0x65 pl ∧ m.b F.DEV_ROLE_STAT_COM_SET = true ∧ pl.length = 32 ∧ m.sp.setState = 2 ∧ m.sp.edit = none ∧ m.sp.insp = none ∧ m.sp.keyWrite = none ∧ m.sp.fault = false ∧ sliceB pl 0 8 = sliceB m.sp.image 0x600 8 ∧ fieldAt pl 8 4 = setRev m.sp.image ∧ on = m.fnsOn.foldl (fun a f => a + 2 ^ f) 0 ∧ on &&& fieldAt pl 28 4 = on) ∧
  (∃ (s : State) (src : Nat) (seq : Nat) (pl : List Byte) (m : Mach),
    Safety.MayRun s.m src 3 true ∧ m = Safety.Taken s.m src seq 0x65 pl ∧ m.b F.DEV_ROLE_STAT_COM_SET = true ∧ pl.length = 32 ∧ m.sp.setState = 2 ∧ m.sp.edit = none ∧ m.sp.insp = none ∧ m.sp.keyWrite = none ∧ m.sp.fault = false ∧ sliceB pl 0 8 ≠ sliceB m.sp.image 0x600 8) ∧
  (∃ (s : State) (src : Nat) (seq : Nat) (n : Nat) (pl : List Byte) (m : Mach),
    Safety.MayRun s.m src 1 true ∧ m = Safety.Taken s.m src seq 0x66 pl ∧ pl.length = 5 ∧ fieldAt pl 0 1 ≤ 1 ∧ n = fieldAt pl 3 2 ∧ 0 < n ∧ fieldAt pl 1 2 + n ≤ 2048) ∧
  (∃ (s : State) (src : Nat) (seq : Nat) (m : Mach),
    Safety.MayRun s.m src 3 true ∧ m = Safety.Taken s.m src seq 0x67 [] ∧ m.b F.DEV_ROLE_STAT_COM_SET = true ∧ m.sp.setState ≠ 3 ∧ m.sp.edit = none ∧ m.sp.insp = none ∧ inspValid m.inspRecord = true ∧ m.g F.ADC_EP_CFG_MODE (fieldAt m.inspRecord 2 1) ≠ 0 ∧ m.b F.SF_STAT_FIRSTOK = true ∧ m.sp.fault = false) ∧
  (∃ (s : State) (src : Nat) (seq : Nat) (m : Mach) (i : Insp),
    Safety.MayRun s.m src 3 true ∧ m = Safety.Taken s.m src seq 0x68 [] ∧ m.b F.DEV_ROLE_STAT_COM_SET = true ∧ m.sp.insp = some i ∧ i.src = src) ∧
  (∃ (s : State) (src : Nat) (seq : Nat) (m : Mach) (i : Insp),
    Safety.MayRun s.m src 3 true ∧ m = Safety.Taken s.m src seq 0x69 [] ∧ m.b F.DEV_ROLE_STAT_COM_SET = true ∧ m.sp.insp = some i ∧ ((m.sp.edit = none ∨ m.editBy src = true))) ∧
  (∃ (s : State) (src : Nat) (seq : Nat) (pl : List Byte) (m : Mach),
    Safety.MayRun s.m src 3 true ∧ m = Safety.Taken s.m src seq 0x6A pl ∧ m.b F.DEV_ROLE_STAT_COM_SET = true ∧ inspValid pl = true ∧ m.sp.insp = none ∧ ((m.sp.edit = none ∨ m.editBy src = true))) :=
  ⟨⟨(o 0), 9, 4, _, by unfold Safety.MayRun; decide +kernel, rfl⟩,
   ⟨(oW sfM 2), 9, 4, _, by unfold Safety.MayRun; decide +kernel, rfl, by decide +kernel⟩,
   ⟨(oW edM 2), 9, 4, _, by unfold Safety.MayRun; decide +kernel, rfl, by decide +kernel⟩,
   ⟨(oW edM 2), 9, 4, 4, 2, sl2, _, by unfold Safety.MayRun; decide +kernel, rfl, by decide +kernel⟩,
   ⟨(oW (fun m => okS (edM m)) 2), 9, 4, _, by unfold Safety.MayRun; decide +kernel, rfl, by decide +kernel⟩,
   ⟨(oW (fun m => (edM m).s F.SF_TP_CFG_TPN 39) 2), 9, 4, _, by unfold Safety.MayRun; decide +kernel, rfl, by decide +kernel⟩,
   ⟨(oW edM 2), 9, 4, _, by unfold Safety.MayRun; decide +kernel, rfl, by decide +kernel⟩,
   ⟨(oW cfM 2), 9, 4, 0, cfP, _, by unfold Safety.MayRun; decide +kernel, rfl, by decide +kernel⟩,
   ⟨(oW cfM 2), 9, 4, cfQ, _, by unfold Safety.MayRun; decide +kernel, rfl, by decide +kernel⟩,
   ⟨(o 0), 9, 4, 8, (by_ [(1,1),(2,2040),(2,8)]), _, by unfold Safety.MayRun; decide +kernel, rfl, by decide +kernel⟩,
   ⟨(oW inM 2), 9, 4, _, by unfold Safety.MayRun; decide +kernel, rfl, by decide +kernel⟩,
   ⟨(oW onM 2), 9, 4, _, { src := 9, keep := 5 }, by unfold Safety.MayRun; decide +kernel, rfl, by decide +kernel⟩,
   ⟨(oW onM 2), 9, 4, _, { src := 9, keep := 5 }, by unfold Safety.MayRun; decide +kernel, rfl, by decide +kernel⟩,
   ⟨(oW sfM 2), 9, 4, inspR, _, by unfold Safety.MayRun; decide +kernel, rfl, by decide +kernel⟩⟩

/-- States and operands that meet the hypotheses of each clause of `SpareOpcodes`. -/
theorem wit_SpareOpcodes :
  (∃ (s : State) (src : Nat) (seq : Nat) (m : Mach),
    Safety.MayRun s.m src 1 true ∧ m = Safety.Taken s.m src seq 0x70 []) ∧
  (∃ (s : State) (src : Nat) (seq : Nat) (x : Nat) (m : Mach),
    Safety.MayRun s.m src 2 true ∧ m = Safety.Taken s.m src seq 0x71 [] ∧ m.inGap = false ∧ m.updArmed = false ∧ m.dx.switch = false ∧ m.dx.change = none ∧ m.otherSide = some x ∧ m.side x = 2) ∧
  (∃ (s : State) (src : Nat) (seq : Nat) (m : Mach),
    Safety.MayRun s.m src 2 true ∧ m = Safety.Taken s.m src seq 0x71 [] ∧ m.inGap = false ∧ ((m.updArmed = true ∨ m.dx.switch = true ∨ m.dx.change ≠ none ∨ m.otherSide.map m.side ≠ some 2))) ∧
  (∃ (s : State) (src : Nat) (seq : Nat) (x : Nat) (pl : List Byte) (m : Mach),
    Safety.MayRun s.m src 2 true ∧ m = Safety.Taken s.m src seq 0x72 pl ∧ pl.length = 1 ∧ x = fieldAt pl 0 1 ∧ x < 2 ∧ m.side x = 5) ∧
  (∃ (s : State) (src : Nat) (seq : Nat) (a : Nat) (n : Nat) (pl : List Byte) (m : Mach),
    Safety.MayRun s.m src 1 true ∧ m = Safety.Taken s.m src seq 0x73 pl ∧ pl.length = 2 ∧ a = fieldAt pl 0 1 ∧ n = fieldAt pl 1 1 ∧ 0 < n ∧ a + n ≤ 36) ∧
  (∃ (s : State) (src : Nat) (seq : Nat) (p : Nat) (g : Nat) (pl : List Byte) (m : Mach),
    Safety.MayRun s.m src 2 true ∧ m = Safety.Taken s.m src seq 0x74 pl ∧ pl.length = 12 ∧ fieldAt pl 0 1 = 0 ∧ fieldAt pl 1 1 = 0 ∧ p = fieldAt pl 2 2 ∧ ((p ≤ 7 ∨ 9 ≤ p ∧ p ≤ 12)) ∧ g = (if fieldAt pl 4 8 = 0 then m.frame + 16 else fieldAt pl 4 8) ∧ m.frame + 16 ≤ g ∧ m.inGap = false ∧ m.updArmed = false ∧ m.graftable (p + 3) = true ∧ m.graftChecks (p + 3) = true) ∧
  (∃ (s : State) (src : Nat) (seq : Nat) (p : Nat) (pl : List Byte) (m : Mach),
    Safety.MayRun s.m src 2 true ∧ m = Safety.Taken s.m src seq 0x74 pl ∧ pl.length = 12 ∧ fieldAt pl 0 1 = 1 ∧ fieldAt pl 1 1 = 0 ∧ p = fieldAt pl 2 2 ∧ 14 ≤ p ∧ p ≤ 30 ∧ m.inGap = false ∧ m.updArmed = false ∧ m.g F.ADC_SLICE_STAT_STATE (p - 14) = 0 ∧ m.spareSlice < 17 ∧ m.adc.worn = []) ∧
  (∃ (s : State) (src : Nat) (seq : Nat) (l : Nat) (pl : List Byte) (m : Mach),
    Safety.MayRun s.m src 2 true ∧ m = Safety.Taken s.m src seq 0x74 pl ∧ pl.length = 12 ∧ fieldAt pl 0 1 = 2 ∧ fieldAt pl 1 1 = 0 ∧ fieldAt pl 2 2 = 31 + l ∧ l < 4 ∧ m.inGap = false ∧ m.updArmed = false ∧ m.laneOn l = true ∧ m.laneSpare = true ∧ m.bar.graftPend = none) ∧
  (∃ (s : State) (src : Nat) (seq : Nat) (row : Nat) (sp : Nat) (pl : List Byte) (m : Mach),
    Safety.MayRun s.m src 2 true ∧ m = Safety.Taken s.m src seq 0x74 pl ∧ pl.length = 12 ∧ fieldAt pl 0 1 = 3 ∧ fieldAt pl 1 1 = 0 ∧ row = fieldAt pl 2 2 ∧ row < 8192 ∧ m.inGap = false ∧ m.updArmed = false ∧ m.mem.copying row = false ∧ ((∀ r ∈ m.mem.remap, r.1 ≠ row)) ∧ m.g F.MEM_BANK_STAT_SPARE_FREE (row / 2048) ≠ 0 ∧ m.mem.freeSpare (row / 2048) = some sp) ∧
  (∃ (s : State) (src : Nat) (seq : Nat) (p : Nat) (g : Nat) (e : Nat) (pl : List Byte) (m : Mach),
    Safety.MayRun s.m src 2 true ∧ m = Safety.Taken s.m src seq 0x75 pl ∧ pl.length = 10 ∧ p = fieldAt pl 0 1 ∧ fieldAt pl 1 1 = 0 ∧ ((p ≤ 7 ∨ 9 ≤ p ∧ p ≤ 12)) ∧ g = fieldAt pl 2 8 ∧ m.frame + 16 ≤ g ∧ m.inGap = false ∧ m.updArmed = false ∧ e = p + 3 ∧ m.sprSt (spareOf e) = 2 ∧ m.sprFor (spareOf e) = classIdx e ∧ m.engRuns e = true ∧ ((∀ q ∈ m.spr.plans, q.e ≠ e))) :=
  ⟨⟨(oW dx5 0), 9, 4, _, by unfold Safety.MayRun; decide +kernel, rfl⟩,
   ⟨(oW (dxP 1 2) 1), 9, 4, 1, _, by unfold Safety.MayRun; decide +kernel, rfl, by decide +kernel⟩,
   ⟨(oW (dxP 1 3) 1), 9, 4, _, by unfold Safety.MayRun; decide +kernel, rfl, by decide +kernel⟩,
   ⟨(oW dx5 1), 9, 4, 1, (by_ [(1,1)]), _, by unfold Safety.MayRun; decide +kernel, rfl, by decide +kernel⟩,
   ⟨(oW rlM 0), 9, 4, 0, 36, (by_ [(1,0),(1,36)]), _, by unfold Safety.MayRun; decide +kernel, rfl, by decide +kernel⟩,
   ⟨(oW id 1), 9, 4, 3, 16, (gp 0 3 0), _, by unfold Safety.MayRun; decide +kernel, rfl, by decide +kernel⟩,
   ⟨(oW slM 1), 9, 4, 14, (gp 1 14 0), _, by unfold Safety.MayRun; decide +kernel, rfl, by decide +kernel⟩,
   ⟨(oW laM 1), 9, 4, 2, (gp 2 33 0), _, by unfold Safety.MayRun; decide +kernel, rfl, by decide +kernel⟩,
   ⟨(oW row4 1), 9, 4, 2050, 64, (gp 3 2050 0), _, by unfold Safety.MayRun; decide +kernel, rfl, by decide +kernel⟩,
   ⟨(oW rlM 1), 9, 4, 3, 16, 6, (rp 3 16), _, by unfold Safety.MayRun; decide +kernel, rfl, by decide +kernel⟩⟩

/-- States and operands that meet the hypotheses of each clause of `UpdateOpcodes`. -/
theorem wit_UpdateOpcodes :
  (∃ (s : State) (src : Nat) (seq : Nat) (m : Mach),
    Safety.MayRun s.m src 1 false ∧ m = Safety.Taken s.m src seq 0x50 []) ∧
  (∃ (s : State) (src : Nat) (seq : Nat) (st : Nat) (pl : List Byte) (m : Mach),
    Safety.MayRun s.m src 2 false ∧ m = Safety.Taken s.m src seq 0x51 pl ∧ pl.length = 8 ∧ fieldAt pl 4 4 ≤ 134217728 ∧ fieldAt pl 0 4 ≠ 0 ∧ st = m.g F.UPD_STAT_STATE ∧ st ≠ 3 ∧ st ≠ 5 ∧ st ≠ 6) ∧
  (∃ (s : State) (src : Nat) (seq : Nat) (o : Nat) (n : Nat) (pl : List Byte) (m : Mach),
    Safety.MayRun s.m src 2 false ∧ m = Safety.Taken s.m src seq 0x52 pl ∧ o = fieldAt pl 4 4 ∧ n = fieldAt pl 8 2 ∧ 0 < n ∧ n ≤ 2048 ∧ pl.length = 16 + n ∧ m.g F.UPD_STAT_STATE = 1 ∧ fieldAt pl 0 4 = m.g F.UPD_MANID ∧ o + n ≤ m.upd.total ∧ o % 2048 = 0 ∧ fieldAt pl 10 2 = 0 ∧ fieldAt pl (12 + n) 4 = crc32c (sliceB pl 12 n)) ∧
  (∃ (s : State) (src : Nat) (seq : Nat) (m : Mach),
    Safety.MayRun s.m src 2 false ∧ m = Safety.Taken s.m src seq 0x53 [] ∧ m.g F.UPD_STAT_STATE = 1 ∧ m.upd.verify = false) ∧
  (∃ (s : State) (src : Nat) (seq : Nat) (m : Mach),
    Safety.MayRun s.m src 2 false ∧ m = Safety.Taken s.m src seq 0x54 [] ∧ m.g F.UPD_STAT_STATE = 2 ∧ ((m.b F.UPD_STAT_SAFETY = false ∨ 3 ≤ s.m.roleOf src))) ∧
  (∃ (s : State) (src : Nat) (seq : Nat) (pl : List Byte) (m : Mach) (c : Instr) (op : Nat),
    Safety.MayRun s.m src 2 true ∧ m = Safety.Taken s.m src seq op pl ∧ (c, op) ∈ [(Instr.updLoad src seq pl, 0x54), (.updArm src seq pl, 0x55)] ∧ m.b F.UPD_STAT_SAFETY = true ∧ s.m.roleOf src < 3) ∧
  (∃ (s : State) (src : Nat) (seq : Nat) (f : Nat) (pl : List Byte) (m : Mach),
    Safety.MayRun s.m src 2 true ∧ m = Safety.Taken s.m src seq 0x55 pl ∧ pl.length = 8 ∧ f = fieldAt pl 0 8 ∧ m.st ≠ stBOOT ∧ ((m.b F.UPD_STAT_SAFETY = false ∨ 3 ≤ s.m.roleOf src)) ∧ m.frame + 64 ≤ f ∧ f ≤ m.frame + 4000000 ∧ m.g F.UPD_STAT_STATE = 4 ∧ m.changePending = false) ∧
  (∃ (s : State) (src : Nat) (seq : Nat) (f : Nat) (pl : List Byte) (m : Mach),
    Safety.MayRun s.m src 2 false ∧ m = Safety.Taken s.m src seq 0x55 pl ∧ pl.length = 8 ∧ f = fieldAt pl 0 8 ∧ m.st = stBOOT ∧ ((m.b F.UPD_STAT_SAFETY = false ∨ 3 ≤ s.m.roleOf src)) ∧ m.g F.UPD_STAT_STATE = 4 ∧ m.changePending = false) ∧
  (∃ (s : State) (src : Nat) (seq : Nat) (m : Mach),
    Safety.MayRun s.m src 2 true ∧ m = Safety.Taken s.m src seq 0x56 [] ∧ m.g F.UPD_STAT_STATE = 5) ∧
  (∃ (s : State) (src : Nat) (seq : Nat) (st : Nat) (m : Mach),
    Safety.MayRun s.m src 2 false ∧ m = Safety.Taken s.m src seq 0x57 [] ∧ st = m.g F.UPD_STAT_STATE ∧ ((st = 1 ∨ st = 2 ∨ st = 4))) ∧
  (∃ (s : State) (src : Nat) (seq : Nat) (f : Nat) (pl : List Byte) (m : Mach),
    Safety.MayRun s.m src 2 true ∧ m = Safety.Taken s.m src seq 0x58 pl ∧ pl.length = 8 ∧ f = fieldAt pl 0 8 ∧ m.frame + 64 ≤ f ∧ f ≤ m.frame + 4000000 ∧ m.g F.UPD_STAT_STATE = 0 ∧ ((m.slotState m.otherSlot = 1 ∨ m.slotState m.otherSlot = 2)) ∧ m.rollbackArea ≠ none ∧ m.changePending = false ∧ m.rollbackReads = true) ∧
  (∃ (s : State) (src : Nat) (seq : Nat) (o : Nat) (n : Nat) (pl : List Byte) (m : Mach),
    Safety.MayRun s.m src 1 false ∧ m = Safety.Taken s.m src seq 0x59 pl ∧ pl.length = 8 ∧ o = fieldAt pl 0 4 ∧ n = fieldAt pl 4 2 ∧ 0 < n ∧ n ≤ 4000 ∧ fieldAt pl 6 2 = 0 ∧ o + n ≤ m.upd.total) ∧
  (∃ (s : State) (src : Nat) (seq : Nat) (pl : List Byte) (b : List Byte) (m : Mach),
    Safety.MayRun s.m src 3 true ∧ m = Safety.Taken s.m src seq 0x5A pl ∧ pl.length = 32 ∧ m.genInForce 7 = some b) :=
  ⟨⟨(oW (uM 1) 0), 9, 4, _, by unfold Safety.MayRun; decide +kernel, rfl⟩,
   ⟨(oW (uM 1) 1), 9, 4, 1, (by_ [(4,9),(4,134217728)]), _, by unfold Safety.MayRun; decide +kernel, rfl, by decide +kernel⟩,
   ⟨(oW (uM 1) 1), 9, 4, 2048, 5, (putP 2048 5), _, by unfold Safety.MayRun; decide +kernel, rfl, by decide +kernel⟩,
   ⟨(oW (uM 1) 1), 9, 4, _, by unfold Safety.MayRun; decide +kernel, rfl, by decide +kernel⟩,
   ⟨(oW (uM 2) 1), 9, 4, _, by unfold Safety.MayRun; decide +kernel, rfl, by decide +kernel⟩,
   ⟨(oW (fun m => (uM 2 m).sb F.UPD_STAT_SAFETY true) 1), 9, 4, [], _, (.updLoad 9 4 []), 0x54, by unfold Safety.MayRun; decide +kernel, rfl, by decide +kernel⟩,
   ⟨(oW (uM 4) 1), 9, 4, 64, (by_ [(8,64)]), _, by unfold Safety.MayRun; decide +kernel, rfl, by decide +kernel⟩,
   ⟨(oW uB 1), 9, 4, 3, (by_ [(8,3)]), _, by unfold Safety.MayRun; decide +kernel, rfl, by decide +kernel⟩,
   ⟨(oW uA 1), 9, 4, _, by unfold Safety.MayRun; decide +kernel, rfl, by decide +kernel⟩,
   ⟨(oW (uM 1) 1), 9, 4, 1, _, by unfold Safety.MayRun; decide +kernel, rfl, by decide +kernel⟩,
   ⟨(oW uRb 1), 9, 4, 64, (by_ [(8,64)]), _, by unfold Safety.MayRun; decide +kernel, rfl, by decide +kernel⟩,
   ⟨(oW (uM 1) 0), 9, 4, 4999, 1, (by_ [(4,4999),(2,1),(2,0)]), _, by unfold Safety.MayRun; decide +kernel, rfl, by decide +kernel⟩,
   ⟨(oW kM 2), 9, 4, (List.replicate 32 5), (leBytes 8 77 ++ leBytes 8 0 ++ leBytes 8 99 ++ List.replicate 32 0), _, by unfold Safety.MayRun; decide +kernel, rfl, by decide +kernel⟩⟩

/-- States and operands that meet the hypotheses of each clause of `UpdateRows`. -/
theorem wit_UpdateRows :
  (∃ (s : State) (m : Mach),
    s.m.hostUp = true ∧ s.m.upd.verify = true ∧ s.m.g F.UPD_STAT_STATE = 1 ∧ s.m.parts.find? (fun p => p.fromImg) = none ∧ m = { s.m with upd := { s.m.upd with verify := false, imgData := [] } }) ∧
  (∃ (s : State),
    s.m.upd.verify = false) ∧
  (∃ (s : State) (bad : List Nat) (ok : Bool),
    s.m.hostUp = true ∧ s.m.g F.UPD_STAT_STATE = 3 ∧ s.m.b F.UPD_STAT_ROLLBACK = false ∧ s.m.fullBundle = false) ∧
  (∃ (s : State) (bad : List Nat),
    s.m.hostUp = true ∧ s.m.g F.UPD_STAT_STATE = 3 ∧ s.m.b F.UPD_STAT_ROLLBACK = false ∧ s.m.fullBundle = true) ∧
  (∃ (s : State) (bad : List Nat) (ok : Bool),
    s.m.g F.UPD_STAT_STATE ≠ 3) ∧
  (∃ (s : State),
    s.m.ticking = true ∧ s.m.frame + 16 = s.m.updF ∧ s.m.g F.UPD_STAT_STATE = 5) ∧
  (∃ (s : State),
    s.m.ticking = true ∧ s.m.frame + 1 = s.m.updF ∧ s.m.g F.UPD_STAT_STATE = 5) ∧
  (∃ (s : State),
    ((s.m.ticking = false ∨ s.m.updF ≤ s.m.frame))) ∧
  (∃ (s : State),
    s.m.ticking = true ∧ s.m.upd.newScan = false ∧ s.m.upd.go = true ∧ s.m.frame = s.m.updF) ∧
  (∃ (s : State),
    s.m.upd.go = false) ∧
  (∃ (s : State) (p : StartIn),
    s.m.upd.go = true ∧ s.m.st ≠ stBOOT ∧ s.m.ticking = true ∧ s.m.updF ≤ s.m.frame) ∧
  (∃ (s : State) (p : StartIn),
    s.m.upd.go = false) ∧
  (∃ (s : State) (k : Nat),
    s.m.ticking = true ∧ s.m.upd.since + dayCycles ≤ s.m.now ∧ k = s.m.g F.DEV_FW_SLOT ∧ s.m.slotState k = 2) ∧
  (∃ (s : State),
    s.m.now < s.m.upd.since + dayCycles) ∧
  (∃ (s : State) (e : Nat),
    s.m.upd.go = false ∧ s.m.ticking = true ∧ s.m.upd.inplace.any (fun p => p.1 == e) = true) ∧
  (∃ (s : State) (e : Nat),
    s.m.upd.inplace.any (fun p => p.1 == e) = false) :=
  ⟨⟨(mkS (uV 0x11 0 1)), _, by decide +kernel, by decide +kernel, by decide +kernel, by decide +kernel, rfl⟩,
   ⟨rich, by decide +kernel⟩,
   ⟨(mkS (uV 0x11 0 3)), [3], true, by decide +kernel⟩,
   ⟨(mkS (uV 3 0 3)), [3,4], by decide +kernel⟩,
   ⟨rich, [3], true, by decide +kernel⟩,
   ⟨(mkS (uX false 16)), by decide +kernel⟩,
   ⟨(mkS ((uX false 1).s F.UPD_READY_ENG 0x7FFFF)), by decide +kernel⟩,
   ⟨rich, by decide +kernel⟩,
   ⟨(mkS (uX true 0)), by decide +kernel⟩,
   ⟨rich, by decide +kernel⟩,
   ⟨(mkS (uX true 0)), {}, by decide +kernel⟩,
   ⟨rich, {}, by decide +kernel⟩,
   ⟨(mkS { ((richM up).s F.UPD_BOOT_ASTATE 2) with fclk := dayCycles }), 0, by decide +kernel⟩,
   ⟨rich, by decide +kernel⟩,
   ⟨(mkS { uV 3 0 4 with upd := { (uV 3 0 4).upd with inplace := [(3, 11), (12, 16)] } }), 3, by decide +kernel⟩,
   ⟨rich, 3, by decide +kernel⟩⟩

/-- States and operands that meet the hypotheses of each clause of `PowerRows`. -/
theorem wit_PowerRows :
  (∃ (s : State) (p : StartIn),
    s.m.st = stRESET) ∧
  (∃ (s : State) (p : StartIn),
    s.m.st = stRESET ∧ idValid (s.m.keyBytes 0 64) = false ∧ idValid (s.m.keyBytes 0x100 64) = false) ∧
  (∃ (s : State) (p : StartIn),
    s.m.st ≠ stRESET) ∧
  (∃ (s : State) (p : StartIn),
    s.m.st = stFIELD_START ∧ s.m.pow.late = false ∧ s.m.slotState (s.m.g F.DEV_FW_SLOT) ≠ 2) ∧
  (∃ (s : State) (p : StartIn),
    ((s.m.st ≠ stFIELD_START ∨ s.m.pow.late = true))) ∧
  (∃ (s : State),
    s.m.pow.hst = 0 ∧ s.m.st = stRESET ∧ s.m.led.calValid = true) ∧
  (∃ (s : State),
    s.m.pow.hst = 0 ∧ s.m.st = stRESET ∧ s.m.log.recs.length < 24064) ∧
  (∃ (s : State) (lost : Bool),
    s.m.pow.hst ≠ 0) ∧
  (∃ (s : State) (c : Nat) (cause : Nat) (lf : Nat),
    s.m.st ≠ stRESET ∧ s.m.st ≠ stPOWER_FAIL ∧ s.m.pow.shut = none) ∧
  (∃ (s : State) (c : Nat) (cause : Nat) (lf : Nat),
    ((s.m.st = stRESET ∨ s.m.st = stPOWER_FAIL))) ∧
  (∃ (s : State),
    s.m.st = stPOWER_FAIL ∧ s.m.pow.cause ≠ 0 ∧ journalOk (s.m.journalCopy 0) = false ∧ journalOk (s.m.journalCopy 1) = false) ∧
  (∃ (s : State),
    ((s.m.st ≠ stPOWER_FAIL ∨ s.m.pow.cause = 0))) ∧
  (∃ (s : State),
    s.m.st = stPOWER_FAIL ∧ s.m.pow.cause = 0) ∧
  (∃ (s : State),
    ((s.m.st ≠ stPOWER_FAIL ∨ s.m.pow.cause ≠ 0))) ∧
  (∃ (s : State),
    s.m.pow.hst ≠ 0 ∧ s.m.g F.UPD_STAT_STATE = 0) ∧
  (∃ (s : State),
    s.m.pow.hst = 0) :=
  ⟨⟨(mkS rsM), {}, by decide +kernel⟩,
   ⟨State.reset, {}, by decide +kernel⟩,
   ⟨rich, {}, by decide +kernel⟩,
   ⟨(mkS ((richM up).s F.DEV_STATE_STATE stFIELD_START)), {}, by decide +kernel⟩,
   ⟨rich, {}, by decide +kernel⟩,
   ⟨(mkS { ({} : Mach) with led := { calValid := true }, roleFails := [(3, 4)], lockouts := [(3, 4)] }), by decide +kernel⟩,
   ⟨State.reset, by decide +kernel⟩,
   ⟨rich, true, by decide +kernel⟩,
   ⟨(mkS (richM up)), 3, 2, 99, by decide +kernel⟩,
   ⟨State.reset, 3, 1, 5, by decide +kernel⟩,
   ⟨(mkS { pf0 with pow := { hst := 2, cause := 2, entry := (5, 99) } }), by decide +kernel⟩,
   ⟨rich, by decide +kernel⟩,
   ⟨(mkS pf0), by decide +kernel⟩,
   ⟨rich, by decide +kernel⟩,
   ⟨rich, by decide +kernel⟩,
   ⟨(mkS { richM up with pow := {} }), by decide +kernel⟩⟩

/-- States and operands that meet the hypotheses of each clause of `RepeatedEvents`. -/
theorem wit_RepeatedEvents :
  (∃ (s : State) (l : List Rec) (r : Rec) (f : Nat) (sub : Nat),
    s.m.hostUp = true ∧ s.m.log.recs = l ++ [r] ∧ privileged r.code = false ∧ r.code < 65536 ∧ r.src < 256 ∧ r.arg0 < 4294967296 ∧ r.arg1 < 4294967296) :=
  ⟨(mkS { richM up with log := { recs := [{ code := 1 }, { code := 0x0F02, rep := 65534, arg0 := 3 }] } }), [{ code := 1 }], { code := 0x0F02, rep := 65534, arg0 := 3 }, 3, 4, by decide +kernel⟩

/-- States and operands that meet the hypotheses of each clause of `UndefinedIndices`. -/
theorem wit_UndefinedIndices :
  (∃ (m : Mach) (who : Who) (idx : Nat),
    regAt idx = none) ∧
  (∃ (s : State) (who : Who) (idx : Nat) (c : Nat) (v : Word),
    regAt idx = none ∧ ((isHostIdx idx = false ∨ ∃ role src, who = .host role src))) ∧
  (∃ (s : State) (who : Who) (idx : Nat) (c : Nat) (v : Word),
    regAt idx = none ∧ isHostIdx idx = true) :=
  ⟨⟨up, hst, 0x43, by decide +kernel⟩,
   ⟨rich, hst, 0x4FFF, 5, 1, by decide +kernel, .inr ⟨2, 1, rfl⟩⟩,
   ⟨rich, (.eng 0), 17413, 5, 1, by decide +kernel⟩⟩

/-- States and operands that meet the hypotheses of each clause of `ViolationRecord`. -/
theorem wit_ViolationRecord :
  (∃ (s : State) (e : Nat) (idx : Nat) (c : Nat) (v : Word) (narrow : Bool) (kind : Nat),
    Safety.Violates s.m e idx v narrow kind ∧ s.m.b F.DEV_OWN_VIOL_VALID = true ∧ ¬ (s.m.violAt = (s.m.at c).now ∧ e % 32 < s.m.g F.DEV_OWN_VIOL_ENGINE)) ∧
  (∃ (s : State) (who : Who) (c : Nat) (v : Word),
    Safety.FieldWriter s.m who ∧ bit v.toNat 31 = true ∧ ((∀ x ∈ s.m.viols, x.1 ≠ s.m.frame))) ∧
  (∃ (s : State) (who : Who) (c : Nat) (a : Nat) (kind : Nat) (e : Nat) (idx : Nat) (l : List (Nat × Nat × Nat × Nat × Nat)) (v : Word),
    Safety.FieldWriter s.m who ∧ bit v.toNat 31 = true ∧ s.m.viols.filter (fun x => x.1 == s.m.frame) = (s.m.frame, a, kind, e, idx) :: l ∧ ((∀ x ∈ l, x.2.1 = a → e ≤ x.2.2.2.1 % 32)) ∧ kind < 3 ∧ e < 32 ∧ idx < 65536) ∧
  (∃ (s : State) (e : Nat) (idx : Nat) (c : Nat) (v : Word) (narrow : Bool) (kind : Nat),
    Safety.Violates s.m e idx v narrow kind ∧ e < 32 ∧ s.m.b F.DEV_OWN_VIOL_VALID = false) :=
  ⟨⟨(mkS { ((richM up).sb F.DEV_OWN_VIOL_VALID true) with violAt := 1 }), 7, 0x4400, 5, 1, false, 1, vio (by decide +kernel) (by decide) (by decide +kernel), by decide +kernel⟩,
   ⟨(mkS { ((richM up).sb F.DEV_OWN_VIOL_VALID true) with viols := [(9,1,1,1,1)] }), hst, 5, 0x80000000, fwHost (by decide +kernel) (by decide), by decide +kernel⟩,
   ⟨(mkS { ((richM up).sb F.DEV_OWN_VIOL_VALID true) with viols := [(0,1,1,7,9),(0,2,0,3,9),(5,1,1,1,1)] }), (.eng 0), 5, 1, 1, 7, 9, [(0,2,0,3,9)], 0x80000000, fwEng (by decide +kernel) (by decide +kernel), by decide +kernel⟩,
   ⟨rich, 7, 0x4400, 5, 1, false, 1, vio (by decide +kernel) (by decide) (by decide +kernel), by decide +kernel⟩⟩

/-- States and operands that meet the hypotheses of each clause of `EventWindow`. -/
theorem wit_EventWindow :
  (∃ (m : Mach) (role : Nat) (src : Nat) (j : Nat) (w : Nat) (r : Rec),
    j < 16 ∧ w < 8 ∧ m.log.recs[m.g F.EV_CURSOR_CURSOR + j]? = some r) ∧
  (∃ (m : Mach) (role : Nat) (src : Nat) (j : Nat) (w : Nat),
    j < 16 ∧ w < 8 ∧ m.log.recs.length ≤ m.g F.EV_CURSOR_CURSOR + j) ∧
  (∃ (m : Mach) (e : Nat) (j : Nat) (w : Nat),
    j < 16 ∧ w < 8) ∧
  (∃ (m : Mach) (e : Nat) (j : Nat) (w : Nat) (role : Nat) (src : Nat),
    j < 16 ∧ w < 8) :=
  ⟨⟨lgW, 1, 9, 0, 3, { code := 3, arg0 := 8 }, by decide +kernel⟩,
   ⟨lgW, 1, 9, 15, 7, by decide +kernel⟩,
   ⟨lgW, 5, 15, 7, by decide +kernel⟩,
   ⟨lgW, 0, 0, 3, 1, 9, by decide +kernel⟩⟩

/-- States and operands that meet the hypotheses of each clause of `RecordAndCellBytes`. -/
theorem wit_RecordAndCellBytes :
  (∃ (r : Rec),
    r.code < 2 ^ 16 ∧ r.src < 2 ^ 8 ∧ r.flags < 2 ^ 8 ∧ r.arg0 < 2 ^ 32 ∧ r.arg1 < 2 ^ 32 ∧ r.cal < 2 ^ 32 ∧ r.frame < 2 ^ 64 ∧ r.sub < 2 ^ 32 ∧ r.rep < 2 ^ 16) ∧
  (∃ (c : Cell),
    1 ≤ c.typ ∧ c.typ ≤ 6 ∧ c.resend < 64 ∧ c.num < 2 ^ 16 ∧ c.data.length = 32) :=
  ⟨⟨{ code := 65535, src := 7, arg0 := 9, arg1 := 0xFFFFFFFF, frame := 0x123456789, rep := 5, flags := 3, sub := 77, cal := 99 }, by decide +kernel⟩,
   ⟨{ typ := 4, resend := 63, num := 65535, data := List.replicate 32 5 }, by decide +kernel⟩⟩

/-! ### Worked examples of the specification

Each expected value is one the cited chapter's worked example, table or register description prints. -/

/-- The example of chapter 01: the fields of `DEV_ID` at issue C, and a node address of ring 3, node 12, in `DEV_ADDR`. -/
theorem test_identity :
    ((State.reset.m.regRead hst (R.DEV_ID.idx 0 0)).2 &&& 0xFFFFFF0F).toNat = 0x00640300 ∧
    (((up.sw .DEV_ADDR 0xCC).regRead hst (R.DEV_ADDR.idx 0 0)).2).toNat = 0xCC ∧ R.DEV_FW.idx 0 0 = 3 := by decide +kernel

/-- The example of chapter 02: beacon 0 reads +6,230 ns, which is 10 frames of 9,992 cycles; ACQUIRING stays. -/
theorem test_lock_first_beacon :
    let m := (up.sb F.FRM_CTL_LOCK true).sb F.FRM_STAT_ACQUIRING true
    let t := m.lockBeacon 6230
    t.w .FRM_LOCK_ERR 0 = 0x1856 ∧ t.correction = 8 ∧ t.w .FRM_STAT 0 = 5 ∧ t.lock.remain = 2492 := by decide +kernel

/-- The example of chapter 02: +30 ns leaves 12 cycles, 8 for the first frame and 4 for the second. -/
theorem test_lock_small_error :
    let m := (up.sb F.FRM_CTL_LOCK true).sb F.FRM_STAT_ACQUIRING true
    (m.lockBeacon 30).lock.remain = 12 ∧ (m.lockBeacon 30).correction = 8 ∧
    ((m.lockBeacon 30).lockTick (10000 - 8)).correction = 4 := by decide +kernel

/-- The example of chapter 02: the fourth error in a row within 500 ns locks. -/
theorem test_lock_fourth :
    let m := (up.sb F.FRM_CTL_LOCK true).sb F.FRM_STAT_ACQUIRING true
    ([430, 230, 30, 0].foldl (fun (m : Mach) e => m.lockBeacon e) m).w .FRM_STAT 0 = 9 ∧
    ([430, 230, 30].foldl (fun (m : Mach) e => m.lockBeacon e) m).w .FRM_STAT 0 = 5 := by decide +kernel

/-- The bank 0 of the example of chapter 03: one region in bank 0 for each of its requesters. -/
def bank0 : Mach := { up.s F.MEM_ARB_CFG_FAIR 8 with mem := { up.mem with mpu := [3, 4, 5, 6, 12, 13, 2, 0, 1, 17, 18, 40, 45].map (fun q => (16 * q, { base := 0x200000, lim := 0x2000FF, rd := true, en := true })) } }

/-- The example of chapter 03: N0 7, B0 8, M 7 and BL 16 at F 8 bound the waits at 78 and 686 cycles. -/
theorem test_mem_bound : (bank0.regRead hst (R.MEM_BOUND.idx 0 0)).2 = 0x02AE004E := by decide +kernel

/-- The example of chapter 05: 1,024 A at 100 A/V is an overrange of the 10.24 V range; the code saturates at 0x7FFF, and the
slice's next conversion is suspect. -/
theorem test_overrange :
    let p := up.convert 4 false false false 40000
    p.2.code = 0x7FFF ∧ p.2.ovr = true ∧ p.2.sus = false ∧ (p.1.convert 4 false false false 0x65D2).2.sus = true ∧
    (p.1.convert 4 false false false 0x65D2).2.ovr = false ∧ (p.1.convert 4 true false false 40000).2.ovr = true := by decide +kernel

/-- The example of chapter 06: CMP[36] follows TOP from 50,000 to 40,000. -/
theorem test_rescale_value : rescaleCmp 960000 50000 40000 = 768000 ∧ rescaleCmp 0 50000 40000 = 0 ∧
    rescaleCmp 1600000 50000 40000 = 0xFFFFFFFF := by decide +kernel

/-- The example of chapter 06: a commit that takes a TOP write without compare writes rescales all four pairs and sets RESCALED. -/
theorem test_rescale :
    let m := (up.s F.PWM_GRP_TOP_TOP 40000 9).sw .PWM_CMP 960000 9 0
    let t := pwmRescale (m.setGrp 9 { used := true, topWas := some 50000 }) 9
    t.w .PWM_CMP 9 0 = 0x000BB800 ∧ t.b F.PWM_GRP_STAT_RESCALED 9 = true := by decide +kernel

/-- The example of chapter 07: slot 36 with set 1 of its page, u 10,612.625 rounded to 10,613. -/
theorem test_slot36 :
    let k : Coefs := { b := [0x70800000, -0x70600000, 0, 0], a := [-0x10000000, 0, 0], ksh := 1 }
    let r := slotEq k 0x46 0 (-0x9600) 0x9600 { e1 := 0x50, u1 := 0x2A00 }
    r.y = 0x2975 ∧ r.hist.e1 = 0x46 ∧ r.hist.e2 = 0x50 ∧ r.hist.u1 = 0x2975 ∧ r.clamp = false := by decide +kernel

/-- The example of chapter 07: the gain table of slot 36 at an error of 125. -/
theorem test_gain36 : gainOf ((List.replicate 4 0) ++ leBytes 4 0x08000000 ++ leBytes 4 0x400 ++ leBytes 4 0x10000000) 2 125 = 0x08FA0000 := by
  decide +kernel

/-- Axis 0 with the limits of the example of chapter 08. -/
def tl1 : Mach := ((((up.s F.MG_CFG_TYPE 1).sq .MG_VMAX_LO (2500000 * 65536 % 2 ^ 64)).sq .MG_AMAX_LO 1000000).sq .MG_JMAX_LO 1000000).sb F.MG_CFG_REVSTOP true

/-- The limits of the example of chapter 08: 2.5 m/s, 1 m/s² and 1 m/s³ in micrometres, with 16 fractional bits. -/
def tl1Lims : Lims := (ofQ (2500000 * 65536), ofQ (1000000 * 65536), ofQ (1000000 * 65536))

/-- The example of chapter 08: the stop point of TL1 at cruise speed is 25,375,000. -/
theorem test_stop_point : stopQ (21000000 * 65536) (2500000 * 65536) 0 tl1Lims = 25375000 * 65536 := by decide +kernel

/-- The example of chapter 08: landing 5 lies before the stop point, and a plan to landing 6 takes 194,798 frames (0x2F8EE). -/
theorem test_reach :
    let m := (tl1.sq .MG_SMIN_LO 0).sq .MG_SMAX_LO (2 ^ 62)
    (m.judge_ 0 (24600000 * 65536) (21000000 * 65536 + 62 * 65536 + 32768) (2500000 * 65536) 0 tl1Lims false false).bit = 15 ∧
    m.judge_ 0 (28800000 * 65536) (21000125 * 65536) (2500000 * 65536) 0 tl1Lims false false = { bit := 0, rev := false, frames := 194798 } := by
  decide +kernel

/-- The example of chapter 09: the plan of TL2 from landing 4 to the concourse takes 208,761 frames (0x32F79). -/
theorem test_reach_tl2 :
    let m := (tl1.sq .MG_SMIN_LO 0).sq .MG_SMAX_LO (2 ^ 62)
    (m.judge_ 0 (24600000 * 65536) (20400000 * 65536) 0 0 tl1Lims false false).frames = 208761 := by decide +kernel

/-- The car words of the example of chapter 09. -/
def cars : List Cand := [[0x48, 0x09, 0x1E, 0x01, 0, 0], [0x04, 0x3F, 0, 0, 0, 0], [0x02, 0x7F, 0x0C, 0, 0, 0], [0x83, 0x01, 0x32, 0x01, 0, 0],
  [0x88, 0x07, 0x28, 0x01, 0, 0], [0x05, 0xBF, 0, 0, 0, 0]].zipIdx.map (fun w => { mem := { mach := w.2, serves := 0xFFFF }, w := w.1 })

/-- The example of chapter 09: the costs of the down call at landing 6, and TL2 is the cheapest. -/
theorem test_costs :
    let g : Group := { kt := 10, ks := 20, full := 80 }
    cars.map (fun c => c.cost g 6 2) = [some 60, some 20, some 40, some 90, some 40, none] ∧
    (g.best cars 6 2).map (fun c => c.mem.mach) = some 1 := by decide +kernel

/-- SF3 of the example of chapter 10: enabled, degradation allowed, permitting, with 120 s to run. -/
def sf3 : Mach := (((((up.sw .SF_FN_CFG 0x80088000 3).sw .SF_FN_DEG 0x800493E0 3).s F.SF_DEG_CFG_TIME 120).sb F.SF_FN_STAT_PERMIT true 3).s F.SF_FN_STAT_TERMS 7 3)

/-- The example of chapter 10: SF3 enters degraded mode with cause 1 and reads 0xC7100078. -/
theorem test_degraded : (sf3.fnDegrade 3 1).w .SF_FN_STAT 3 = 0xC7100078 := by decide +kernel

/-- The example of chapter 16: the bytes of record 1,872. -/
theorem test_record :
    Rec.bytes { code := 0x0408, src := 0x20, arg0 := 21, arg1 := 20, cal := 984565325 % 2 ^ 32, frame := 1920109, sub := 1200 } =
    [0x08, 0x04, 0x20, 0x00, 0x15, 0, 0, 0, 0x14, 0, 0, 0, 0x4D, 0x46, 0xAF, 0x3A, 0x6D, 0x4C, 0x1D, 0, 0, 0, 0, 0, 0xB0, 0x04, 0, 0,
      0, 0, 0x5A, 0xA5] := by decide +kernel

/-- The check value of the CRC-32C that R42 names. -/
theorem test_crc : crc32c [0x31, 0x32, 0x33, 0x34, 0x35, 0x36, 0x37, 0x38, 0x39] = 0xE3069283 := by decide +kernel

/-- The request of the example of chapter 17, without its CRC. -/
def req17 : List Byte := [0xC3, 0xA5, 0x0A, 0x00, 0xCC, 0x00, 0xC1, 0x80, 0x31, 0x02, 0x10, 0x00, 0x03, 0, 0, 0, 0x03, 0x01, 0x04, 0x01, 0x01, 0x2C]

/-- The example of chapter 17: the fields of the request, which is accepted with its CRC and refused with one bit inverted. -/
theorem test_request :
    let b := req17 ++ leBytes 4 (crc32c req17)
    reqOk b = true ∧ reqOk (b.set 14 0x80) = false ∧ (reqOf b).src = 0x80C1 ∧ (reqOf b).seq = 0x0231 ∧ (reqOf b).op = 0x10 ∧
    (reqOf b).payload = [0x03, 0, 0, 0, 0x03, 0x01, 0x04, 0x01, 0x01, 0x2C] := by decide +kernel

/-- The example of chapter 17: the reply's bytes before its CRC, and FLG 0x05 when it comes from the cache. -/
theorem test_reply :
    let r : Reply := { src := 0x80C1, seq := 0x0231, op := 0x10, status := 0, data := [0x8C, 0xF0, 0xFA, 0x02, 0, 0, 0, 0, 0x01, 0x00, 0x21, 0x00] }
    (replyBytes 0xCC r false).take 26 = [0xC3, 0xA5, 0x0C, 0x00, 0xC1, 0x80, 0xCC, 0x00, 0x31, 0x02, 0x10, 0x01, 0x00, 0x00, 0x8C, 0xF0, 0xFA, 0x02,
      0, 0, 0, 0, 0x01, 0x00, 0x21, 0x00] ∧ (replyBytes 0xCC r false).length = 30 ∧ (replyBytes 0xCC r true)[11]? = some 0x05 := by decide +kernel

/-- The example of chapter 20: the order of three events of one end of latch. -/
theorem test_event_order :
    (evSort [{ code := 0x0533, src := 0x20 }, { code := 0x0404, src := 0x20 }, { code := 0x0A02, src := 2 }]).map (fun e => e.code) =
    [0x0A02, 0x0404, 0x0533] := by decide +kernel

/-- A supply dip in RUNNING shows POWER_FAIL with the cause that the example of chapter 19 stores. -/
theorem test_supply_dip :
    let t := up.powerFail 1 16380
    t.g F.DEV_STATE_STATE = 6 ∧ t.pow.cause = 1 ∧ t.pow.entry.2 = 16380 := by decide +kernel

/-- R26: a host write to an index that no register of the map has is without effect. -/
theorem test_undefined_write : (up.regWrite hst 0x4FFF 5).2 = false := by decide +kernel

/-- The idle block: a step on an empty queue changes nothing. -/
theorem test_idle : step State.reset = .next State.reset := rfl

end

end Sys2Proof.Tests
end

section
/-! PROOF. What an access to an index that no chapter defines does (R26), and what `DEV_OWN_VIOL` shows after violations and
clears (R29, R445). -/

namespace Sys2Proof.Machine

open Sys2Proof

/-! ### Register indices (R25, R26) -/

/-- A register is found at an index only where one of its copies lies. -/
theorem R.find_eq_some {r : R} {idx i j : Nat} (h : r.find idx = some (i, j)) :
    idx = r.idx i j ∧ i < r.dims.1 ∧ j < r.dims.2.2.1 := by
  simp only [R.find, Option.ite_none_left_eq_some, Option.ite_none_right_eq_some, Option.some.injEq, Prod.mk.injEq] at h
  obtain ⟨hb, ⟨hi, hj, hk⟩, hi', hj'⟩ := h
  rw [hj'] at hj hk
  rw [hi'] at hi hk
  refine ⟨?_, hi, hj⟩
  rw [R.idx_eq, Nat.add_assoc, hk]
  omega

/-- The register that stands at an index has that copy, and it lies there. -/
theorem regAt_eq_some {idx i j : Nat} {r : R} (h : regAt idx = some (r, i, j)) :
    idx = r.idx i j ∧ i < r.dims.1 ∧ j < r.dims.2.2.1 := by
  unfold regAt at h
  split at h
  · split at h
    · simp only [Option.some.injEq, Prod.mk.injEq] at h
      obtain ⟨rfl, rfl, rfl⟩ := h
      rw [idx_PRM_CELL]
      exact ⟨by omega, show idx - 0x8000 < 32768 by omega, show 0 < 1 by omega⟩
    · cases h
  · obtain ⟨r', -, hr⟩ := List.exists_of_findSome?_eq_some h
    obtain ⟨⟨i', j'⟩, hf, he⟩ := Option.map_eq_some_iff.mp hr
    cases he
    exact R.find_eq_some hf

/-- Above every low word of R8 stands a register: its high word. -/
theorem regAt_high : ∀ r ∈ lowRegs, ∀ i < r.dims.1, ∀ j < r.dims.2.2.1, (regAt (r.idx i j + 1)).isSome = true := by
  decide +kernel

theorem regAt_isSome_of_isHigh {idx : Nat} (h : isHigh idx = true) : (regAt idx).isSome = true := by
  simp only [isHigh, Bool.and_eq_true, decide_eq_true_eq] at h
  obtain ⟨hpos, hlow⟩ := h
  unfold isLow at hlow
  split at hlow
  · next r p hr =>
    obtain ⟨i, j⟩ := p
    obtain ⟨he, hi, hj⟩ := regAt_eq_some hr
    have := regAt_high r (List.contains_iff_mem.mp hlow) i hi j hj
    rwa [← he, Nat.sub_add_cancel hpos] at this
  · cases hlow

theorem isLow_of_undefined {idx : Nat} (h : regAt idx = none) : isLow idx = false := by
  simp [isLow, h]

theorem isHigh_of_undefined {idx : Nat} (h : regAt idx = none) : isHigh idx = false := by
  refine Bool.eq_false_iff.mpr fun hh => ?_
  have hsome := regAt_isSome_of_isHigh hh
  rw [h] at hsome
  cases hsome

theorem Mach.seen_undefined (m : Mach) (who : Who) {idx : Nat} (h : regAt idx = none) : m.seen who idx = 0 := by
  have hv : m.view idx = 0 := by simp [Mach.view, h]
  cases who <;> simp [Mach.seen, h, hv]

theorem Mach.regRead_undefined (m : Mach) (who : Who) {idx : Nat} (h : regAt idx = none) : m.regRead who idx = (m, 0) := by
  simp [Mach.regRead, isLow_of_undefined h, isHigh_of_undefined h, m.seen_undefined who h]

/-! ### A register write as a packet of its requester (R8) -/

theorem Mach.at_frame (m : Mach) (c : Nat) : (m.at c).frame = m.frame := rfl

@[simp] theorem packetDone_eng (m : Mach) (e : Nat) : Safety.PacketDone m (.eng e) = m := rfl
@[simp] theorem packetDone_word (m : Mach) (who : Who) (k : Nat) : (Safety.PacketDone m who).word k = m.word k := by
  cases who <;> rfl
@[simp] theorem packetDone_g (m : Mach) (who : Who) (f : Fd) (i j : Nat) : (Safety.PacketDone m who).g f i j = m.g f i j := by
  cases who <;> rfl
@[simp] theorem packetDone_b (m : Mach) (who : Who) (f : Fd) (i j : Nat) : (Safety.PacketDone m who).b f i j = m.b f i j := by
  cases who <;> rfl
@[simp] theorem packetDone_frame (m : Mach) (who : Who) : (Safety.PacketDone m who).frame = m.frame := by
  cases who <;> rfl
@[simp] theorem packetDone_viols (m : Mach) (who : Who) : (Safety.PacketDone m who).viols = m.viols := by
  cases who <;> rfl

theorem packetDone_idem (m : Mach) (who : Who) :
    Safety.PacketDone (Safety.PacketDone m who) who = Safety.PacketDone m who := by
  cases who <;> simp [Safety.PacketDone, Mach.dropLatches]

/-- A packet that stores registers and nothing else ends as one that does nothing, but for them. -/
theorem packetDone_twice (m : Mach) (who : Who) (c : Nat) (reg : List (Nat × Word)) :
    { Safety.PacketDone { Safety.PacketDone (m.at c) who with reg := reg } who with reg := m.reg, cyc := m.cyc } =
      Safety.PacketDone m who := by
  cases who <;> simp [Safety.PacketDone, Mach.dropLatches, Mach.at]

theorem fieldWriter_packetDone (m : Mach) (who : Who) (c : Nat) (h : Safety.FieldWriter m who) :
    Safety.FieldWriter (Safety.PacketDone (m.at c) who) who := by
  cases who <;> exact h

theorem exec_registerWrite (who : Who) (idx c : Nat) (v : Word) (narrow : Bool) (s : State) :
    exec (.registerWrite who idx c v narrow) s =
      .next { s with
        m := Safety.PacketDone ((Safety.PacketDone (s.m.at c) who).regWrite who idx v narrow).1 who } := by
  cases who <;> rfl

theorem Mach.refusal_at (m : Mach) (c : Nat) (who : Who) (idx : Nat) (v : Word) (narrow : Bool) :
    (m.at c).refusal who idx v narrow = m.refusal who idx v narrow := rfl

/-! ### Writes that the fabric records as violations, and writes that it ignores (R14, R24, R26) -/

/-- A write that the fabric refuses is recorded, and does nothing else. -/
theorem Mach.regWrite_refused (m : Mach) (who : Who) (idx : Nat) (v : Word) (narrow : Bool) {k : Nat}
    (h : m.refusal who idx v narrow = some k) :
    m.regWrite who idx v narrow = (m.violate k (m.actsAs who) idx, false) := by
  cases who with
  | host role src => cases h
  | eng e | dma ch => simp only [Mach.regWrite, h]

/-- A write of an undefined index that is not refused changes nothing. -/
theorem Mach.regWrite_undefined (m : Mach) (who : Who) (idx : Nat) (v : Word) (hr : regAt idx = none)
    (h : m.refusal who idx v false = none) : m.regWrite who idx v = (m, false) := by
  cases who <;> simp [Mach.regWrite, hr, h]

/-- No write of an undefined index outside the host blocks is a violation, and none of a host source. -/
theorem Mach.refusal_undefined (m : Mach) (who : Who) (idx : Nat) (v : Word) (hr : regAt idx = none)
    (h : isHostIdx idx = false ∨ ∃ role src, who = .host role src) : m.refusal who idx v false = none := by
  rcases h with hi | ⟨role, src, rfl⟩
  · cases who <;> simp [Mach.refusal, hi, hr]
  · rfl

/-- A field requester's write to a host block is a violation of kind 1, if the fabric answers. -/
theorem Mach.refusal_hostIdx (m : Mach) (who : Who) (idx : Nat) (v : Word) (h : isHostIdx idx = true) :
    m.refusal who idx v false = none ∨ m.refusal who idx v false = some 1 := by
  cases who with
  | host role src => exact .inl rfl
  | eng e | dma ch =>
    simp only [Mach.refusal, h, if_true, Bool.false_eq_true, if_false]
    split
    · exact .inl rfl
    · exact .inr rfl

/-! ### The violation record (R29, R445) -/

/-- `DEV_OWN_VIOL` holds a violation: how many were counted, and the kind, engine and index of the one described. -/
def Mach.ViolShows (m : Mach) (count kind e idx : Nat) : Prop :=
  m.b F.DEV_OWN_VIOL_VALID = true ∧ m.g F.DEV_OWN_VIOL_COUNT = count ∧ m.g F.DEV_OWN_VIOL_KIND = kind ∧
    m.g F.DEV_OWN_VIOL_ENGINE = e ∧ m.g F.DEV_OWN_VIOL_INDEX = idx

/-- A violation as the fabric remembers it, recorded again after a clear. -/
def Mach.recordAgain (m : Mach) (x : Nat × Nat × Nat × Nat × Nat) : Mach := m.violRecord x.2.1 x.2.2.1 x.2.2.2.1 x.2.2.2.2

theorem ownViolWord_fields {kind e idx : Nat} (hk : kind < 3) (he : e < 32) (hi : idx < 65536) :
    getBits (ownViolWord kind e idx) 31 31 = 1 ∧ getBits (ownViolWord kind e idx) 30 28 = 1 ∧
      getBits (ownViolWord kind e idx) 27 26 = kind ∧ getBits (ownViolWord kind e idx) 25 21 = e ∧
      getBits (ownViolWord kind e idx) 15 0 = idx := by
  simp only [getBits_eq, ownViolWord, Word.of, BitVec.toNat_ofNat]
  simp only [Nat.reducePow, Nat.reduceAdd, Nat.reduceSub]
  omega

/-- The frame counter stands in other registers. -/
theorem Mach.frame_eq_of_word {a b : Mach} (h : ∀ k, k ≠ R.DEV_OWN_VIOL.idx 0 0 → b.word k = a.word k) : b.frame = a.frame := by
  simp only [Mach.frame, Mach.q]
  rw [h _ (by decide), h _ (by decide)]

/-- Storing a word changes the registers and nothing else. -/
theorem Mach.sw_regs (m : Mach) (r : R) (v : Word) (i j : Nat) : ∃ reg, m.sw r v i j = { m with reg := reg } := ⟨_, rfl⟩

/-- Storing a field changes the registers and nothing else. -/
theorem Mach.s_regs (m : Mach) (f : Fd) (v i j : Nat) : ∃ reg, m.s f v i j = { m with reg := reg } := ⟨_, rfl⟩

@[simp] theorem Mach.withViolAt_word (m : Mach) (c k : Nat) : ({ m with violAt := c } : Mach).word k = m.word k := rfl

section
variable (m : Mach) (c kind e idx : Nat)

theorem Mach.violRecord_first (h : m.b F.DEV_OWN_VIOL_VALID = false) :
    m.violRecord c kind e idx = { m.sw .DEV_OWN_VIOL (ownViolWord kind e idx) with violAt := c } :=
  if_neg (Bool.eq_false_iff.mp h)

/-- The machine in which `DEV_OWN_VIOL` describes another violation of its cycle, from a lower engine (R445). -/
def Mach.describe (m : Mach) (kind e idx : Nat) : Mach :=
  ((m.s F.DEV_OWN_VIOL_KIND kind).s F.DEV_OWN_VIOL_ENGINE e).s F.DEV_OWN_VIOL_INDEX idx

theorem Mach.violRecord_counted (h : m.b F.DEV_OWN_VIOL_VALID = true) :
    m.violRecord c kind e idx =
      if (m.inc F.DEV_OWN_VIOL_COUNT 7).violAt = c ∧ e % 32 < (m.inc F.DEV_OWN_VIOL_COUNT 7).g F.DEV_OWN_VIOL_ENGINE then
        (m.inc F.DEV_OWN_VIOL_COUNT 7).describe kind e idx
      else m.inc F.DEV_OWN_VIOL_COUNT 7 :=
  if_pos h

/-- Counting a violation leaves the other fields of `DEV_OWN_VIOL`. -/
theorem Mach.inc_count_g (f : Fd) (hr : f.reg = .DEV_OWN_VIOL) (hd : f.hi < 28 ∨ 30 < f.lo) :
    (m.inc F.DEV_OWN_VIOL_COUNT 7).g f = m.g f :=
  m.g_s_disj F.DEV_OWN_VIOL_COUNT f _ 0 0 hr (by decide) (by decide) hd

/-- A later violation only counts, unless it came in the cycle of the one described, from a lower engine (R29, R445). -/
theorem Mach.violRecord_later (h : m.b F.DEV_OWN_VIOL_VALID = true)
    (hn : ¬ (m.violAt = c ∧ e % 32 < m.g F.DEV_OWN_VIOL_ENGINE)) :
    m.violRecord c kind e idx = m.inc F.DEV_OWN_VIOL_COUNT 7 := by
  rw [m.violRecord_counted c kind e idx h, m.inc_count_g F.DEV_OWN_VIOL_ENGINE rfl (by decide), Mach.inc_violAt, if_neg hn]

/-- What recording a violation can do. -/
theorem Mach.violRecord_cases :
    m.violRecord c kind e idx = { m.sw .DEV_OWN_VIOL (ownViolWord kind e idx) with violAt := c } ∨
      m.violRecord c kind e idx = m.inc F.DEV_OWN_VIOL_COUNT 7 ∨
      m.violRecord c kind e idx = (m.inc F.DEV_OWN_VIOL_COUNT 7).describe kind e idx := by
  cases h : m.b F.DEV_OWN_VIOL_VALID with
  | false => exact .inl (m.violRecord_first c kind e idx h)
  | true =>
    rw [m.violRecord_counted c kind e idx h]
    split
    · exact .inr (.inr rfl)
    · exact .inr (.inl rfl)

/-- Recording a violation changes registers and the cycle of the violation described, nothing else. -/
theorem Mach.violRecord_regs : ∃ reg t, m.violRecord c kind e idx = { m with reg := reg, violAt := t } := by
  rcases m.violRecord_cases c kind e idx with h | h | h
  · obtain ⟨reg, hr⟩ := m.sw_regs .DEV_OWN_VIOL (ownViolWord kind e idx) 0 0
    exact ⟨reg, c, by rw [h, hr]⟩
  · obtain ⟨reg, hr⟩ := m.s_regs F.DEV_OWN_VIOL_COUNT (satInc 7 (m.g F.DEV_OWN_VIOL_COUNT)) 0 0
    exact ⟨reg, m.violAt, by rw [h, Mach.inc, hr]⟩
  · obtain ⟨r1, h1⟩ := m.s_regs F.DEV_OWN_VIOL_COUNT (satInc 7 (m.g F.DEV_OWN_VIOL_COUNT)) 0 0
    obtain ⟨r2, h2⟩ := ({ m with reg := r1 } : Mach).s_regs F.DEV_OWN_VIOL_KIND kind 0 0
    obtain ⟨r3, h3⟩ := ({ m with reg := r2 } : Mach).s_regs F.DEV_OWN_VIOL_ENGINE e 0 0
    obtain ⟨r4, h4⟩ := ({ m with reg := r3 } : Mach).s_regs F.DEV_OWN_VIOL_INDEX idx 0 0
    exact ⟨r4, m.violAt, by rw [h, Mach.describe, Mach.inc, h1, h2, h3, h4]⟩

/-- Recording a violation changes no register but `DEV_OWN_VIOL`. -/
theorem Mach.violRecord_word {k : Nat} (hk : k ≠ R.DEV_OWN_VIOL.idx 0 0) :
    (m.violRecord c kind e idx).word k = m.word k := by
  have hinc : (m.inc F.DEV_OWN_VIOL_COUNT 7).word k = m.word k := m.word_s_ne _ _ _ _ hk
  rcases m.violRecord_cases c kind e idx with h | h | h
  · rw [h, Mach.withViolAt_word]
    exact m.word_sw_ne _ _ _ _ hk
  · rw [h, hinc]
  · rw [h, Mach.describe, Mach.word_s_ne _ _ _ _ _ hk, Mach.word_s_ne _ _ _ _ _ hk, Mach.word_s_ne _ _ _ _ _ hk, hinc]

@[simp] theorem Mach.violRecord_frame : (m.violRecord c kind e idx).frame = m.frame :=
  Mach.frame_eq_of_word fun _ hk => m.violRecord_word c kind e idx hk

@[simp] theorem Mach.violRecord_viols : (m.violRecord c kind e idx).viols = m.viols := by
  obtain ⟨reg, t, h⟩ := m.violRecord_regs c kind e idx
  rw [h]

@[simp] theorem Mach.violRecord_bar : (m.violRecord c kind e idx).bar = m.bar := by
  obtain ⟨reg, t, h⟩ := m.violRecord_regs c kind e idx
  rw [h]

@[simp] theorem Mach.violRecord_now : (m.violRecord c kind e idx).now = m.now := by
  obtain ⟨reg, t, h⟩ := m.violRecord_regs c kind e idx
  rw [h]
  rfl

/-- The first violation is the one shown. -/
theorem Mach.violRecord_shows (h : m.b F.DEV_OWN_VIOL_VALID = false) (hk : kind < 3) (he : e < 32) (hi : idx < 65536) :
    (m.violRecord c kind e idx).ViolShows 1 kind e idx := by
  have hw (f : Fd) (hf : f.reg = .DEV_OWN_VIOL) : (m.violRecord c kind e idx).g f = getBits (ownViolWord kind e idx) f.hi f.lo := by
    rw [m.violRecord_first c kind e idx h]
    simp only [Mach.g, hf]
    rw [Mach.w, Mach.withViolAt_word]
    exact congrArg (getBits · f.hi f.lo) (m.w_sw_same .DEV_OWN_VIOL (ownViolWord kind e idx) 0 0)
  obtain ⟨hvalid, hcount, hkind, hengine, hindex⟩ := ownViolWord_fields hk he hi
  refine ⟨?_, ?_, ?_, ?_, ?_⟩
  · rw [Mach.b, hw _ rfl, F.DEV_OWN_VIOL_VALID_hi, F.DEV_OWN_VIOL_VALID_lo, hvalid]
    rfl
  · rw [hw _ rfl, F.DEV_OWN_VIOL_COUNT_hi, F.DEV_OWN_VIOL_COUNT_lo, hcount]
  · rw [hw _ rfl, F.DEV_OWN_VIOL_KIND_hi, F.DEV_OWN_VIOL_KIND_lo, hkind]
  · rw [hw _ rfl, F.DEV_OWN_VIOL_ENGINE_hi, F.DEV_OWN_VIOL_ENGINE_lo, hengine]
  · rw [hw _ rfl, F.DEV_OWN_VIOL_INDEX_hi, F.DEV_OWN_VIOL_INDEX_lo, hindex]

end

/-- The counter of three bits saturates at 7 (R446). -/
theorem satInc_seven {n : Nat} (h : n ≤ 7) : satInc 7 n = min 7 (n + 1) := by
  unfold satInc
  split <;> omega

theorem Mach.violCount_le (m : Mach) : m.g F.DEV_OWN_VIOL_COUNT ≤ 7 :=
  Nat.le_of_lt_succ (getBits_lt _ 30 28)

theorem Mach.inc_count_count (m : Mach) : (m.inc F.DEV_OWN_VIOL_COUNT 7).g F.DEV_OWN_VIOL_COUNT = min 7 (m.g F.DEV_OWN_VIOL_COUNT + 1) := by
  rw [Mach.inc, Mach.g_s_same _ _ _ _ _ (by decide) (by decide), F.DEV_OWN_VIOL_COUNT_hi, F.DEV_OWN_VIOL_COUNT_lo,
    satInc_seven m.violCount_le]
  omega

theorem Mach.inc_count_w (m : Mach) : (m.inc F.DEV_OWN_VIOL_COUNT 7).w .DEV_OWN_VIOL =
    setBits (m.w .DEV_OWN_VIOL) 30 28 (min 7 (m.g F.DEV_OWN_VIOL_COUNT + 1)) := by
  rw [← satInc_seven m.violCount_le]
  exact m.w_sw_same _ _ _ _

/-- Counting a violation keeps the one shown. -/
theorem Mach.inc_count_shows {m : Mach} {n kind e idx : Nat} (h : m.ViolShows n kind e idx) :
    (m.inc F.DEV_OWN_VIOL_COUNT 7).ViolShows (min 7 (n + 1)) kind e idx := by
  obtain ⟨hvalid, hcount, hkind, hengine, hindex⟩ := h
  refine ⟨?_, ?_, ?_, ?_, ?_⟩
  · rwa [Mach.b, m.inc_count_g F.DEV_OWN_VIOL_VALID rfl (by decide), ← Mach.b]
  · rw [m.inc_count_count, hcount]
  · rw [m.inc_count_g F.DEV_OWN_VIOL_KIND rfl (by decide), hkind]
  · rw [m.inc_count_g F.DEV_OWN_VIOL_ENGINE rfl (by decide), hengine]
  · rw [m.inc_count_g F.DEV_OWN_VIOL_INDEX rfl (by decide), hindex]

/-- Violations after the one shown, none of them of its cycle and from a lower engine, are only counted. -/
theorem Mach.each_recordAgain_shows (l : List (Nat × Nat × Nat × Nat × Nat)) {m : Mach} {n kind e idx : Nat} (hn : n ≤ 7)
    (h : m.ViolShows n kind e idx) (hl : ∀ x ∈ l, x.2.1 = m.violAt → e ≤ x.2.2.2.1 % 32) :
    (each l m Mach.recordAgain).ViolShows (min 7 (n + l.length)) kind e idx := by
  induction l generalizing m n with
  | nil => simpa [Nat.min_eq_right hn] using h
  | cons x l ih =>
    have hx : m.recordAgain x = m.inc F.DEV_OWN_VIOL_COUNT 7 := by
      obtain ⟨hvalid, -, -, hengine, -⟩ := h
      refine m.violRecord_later _ _ _ _ hvalid fun hlow => ?_
      have := hl x (List.mem_cons_self ..) hlow.1.symm
      omega
    have hrest : ∀ y ∈ l, y.2.1 = (m.inc F.DEV_OWN_VIOL_COUNT 7).violAt → e ≤ y.2.2.2.1 % 32 := by
      intro y hy
      rw [Mach.inc_violAt]
      exact hl y (List.mem_cons_of_mem _ hy)
    have := ih (Nat.min_le_left ..) (Mach.inc_count_shows h) hrest
    rw [each_cons, hx, List.length_cons]
    rwa [show min 7 (min 7 (n + 1) + l.length) = min 7 (n + (l.length + 1)) by omega] at this

/-! ### A violation (R14, R29) -/

@[simp] theorem Mach.raise_frame (m : Mach) (c a b d : Nat) : (m.raise c a b d).frame = m.frame := rfl
@[simp] theorem Mach.raise_now (m : Mach) (c a b d : Nat) : (m.raise c a b d).now = m.now := rfl

section
variable (m : Mach) (kind e idx : Nat)

theorem Mach.violate_w (r : R) (i j : Nat) : (m.violate kind e idx).w r i j = (m.violRecord m.now kind e idx).w r i j := rfl

/-- A violation changes no register but `DEV_OWN_VIOL`. -/
theorem Mach.violate_keepsRegs :
    Safety.KeepsRegs m (m.violate kind e idx) [R.DEV_OWN_VIOL.idx 0 0] := fun _ hk =>
  m.violRecord_word _ _ _ _ (fun h => hk (List.mem_singleton.mpr h))

/-- A violation changes registers, what is remembered of violations and the events that wait, nothing else. -/
theorem Mach.violate_at_keeps (c : Nat) :
    { (m.at c).violate kind e idx with
      reg := m.reg, bar := m.bar, viols := m.viols, violAt := m.violAt, cyc := m.cyc } = m := by
  obtain ⟨reg, t, h⟩ := (m.at c).violRecord_regs (m.at c).now kind e idx
  rw [Mach.violate, h]
  rfl

theorem Mach.violate_shows {n k e' x : Nat} (h : (m.violRecord m.now kind e idx).ViolShows n k e' x) :
    (m.violate kind e idx).ViolShows n k e' x := h

theorem Mach.violate_viols : (m.violate kind e idx).viols =
    m.viols.filter (fun v => v.1 == m.frame) ++ [(m.frame, m.now, kind, e, idx)] := by
  simp [Mach.violate]

/-- A violation raises its event. -/
theorem Mach.violate_evq (hi : idx ≤ 0xFFFF) : ∃ ev, (m.violate kind e idx).bar.evq = m.bar.evq ++ [ev] ∧
    ev.code = 0x0100 + kind ∧ ev.src = e ∧ ev.arg1 = idx ∧ ev.frame = m.frame := by
  have h := Mach.raise_evq (m.violRecord m.now kind e idx) (0x0100 + kind) e e idx
  rw [Mach.violRecord_bar, Mach.violRecord_frame, Nat.mod_eq_of_lt (show idx < 2 ^ 32 by omega)] at h
  exact ⟨_, h, rfl, rfl, rfl, rfl⟩

end

/-- A violating write is a violation at its cycle and nothing else. -/
theorem exec_violation {s : State} {e idx : Nat} {v : Word} {narrow : Bool} {kind : Nat} (c : Nat)
    (h : Safety.Violates s.m e idx v narrow kind) :
    exec (.registerWrite (.eng e) idx c v narrow) s = .next { s with m := (s.m.at c).violate kind e idx } := by
  have hk : (s.m.at c).refusal (.eng e) idx v narrow = some kind := by
    rw [Mach.refusal_at, s.m.refusal_violates e idx v narrow kind h]
  simp only [exec_registerWrite, packetDone_eng, Mach.regWrite_refused _ _ _ _ _ hk]
  rfl

theorem violates_bounds {m : Mach} {e idx : Nat} {v : Word} {narrow : Bool} {kind : Nat}
    (h : Safety.Violates m e idx v narrow kind) : idx ≤ 0xFFFF ∧ kind < 3 := by
  obtain ⟨-, hi, ⟨-, rfl⟩ | ⟨-, -, rfl⟩ | ⟨-, -, rfl, -⟩⟩ := h <;> exact ⟨hi, by decide⟩

/-! ### Undefined indices (R26) -/

/-- Settles O3: only a low word of R8 has a high word above it, and a write of an undefined index reaches no register; the fabric
records it where it names a host block. -/
theorem undefinedIndices : Obligations.UndefinedIndices := by
  refine ⟨fun m who idx hr => m.regRead_undefined who hr, ?_, ?_⟩
  · intro s who idx c v hr hi
    have hn := (Safety.PacketDone (s.m.at c) who).refusal_undefined who idx v hr hi
    refine ⟨_, exec_registerWrite .., rfl, ?_⟩
    rw [Mach.regWrite_undefined _ _ _ _ hr hn, packetDone_idem]
    cases who <;> rfl
  · intro s who idx c v hr hi
    refine ⟨_, exec_registerWrite .., rfl, ?_⟩
    rcases (Safety.PacketDone (s.m.at c) who).refusal_hostIdx who idx v hi with hn | hv
    · rw [Mach.regWrite_undefined _ _ _ _ hr hn, packetDone_idem]
      refine ⟨fun k _ => packetDone_word .., ?_⟩
      cases who <;> rfl
    · rw [Mach.regWrite_refused _ _ _ _ _ hv]
      cases who with
      | host role src => cases hv
      | eng e | dma ch =>
        exact ⟨(s.m.at c).violate_keepsRegs 1 _ idx, s.m.violate_at_keeps 1 _ idx c⟩

/-! ### The clear of `DEV_OWN_VIOL` (R29) -/

/-- A clear sets the record to 0 and records the violations of the frame again, as if they came after it. -/
theorem Mach.clearViol_eq (m : Mach) : m.clearViol =
    each (m.viols.filter (fun x => x.1 == m.frame)) (m.sw .DEV_OWN_VIOL 0) Mach.recordAgain := by
  have hf : (m.sw .DEV_OWN_VIOL 0).frame = m.frame :=
    Mach.frame_eq_of_word fun _ hk => m.word_sw_ne .DEV_OWN_VIOL 0 0 0 hk
  rw [← hf]
  rfl

theorem Mach.recordAgain_word (m : Mach) (x : Nat × Nat × Nat × Nat × Nat) {k : Nat} (hk : k ≠ R.DEV_OWN_VIOL.idx 0 0) :
    (m.recordAgain x).word k = m.word k := m.violRecord_word _ _ _ _ hk

theorem Mach.clearViol_word (m : Mach) {k : Nat} (hk : k ≠ R.DEV_OWN_VIOL.idx 0 0) : m.clearViol.word k = m.word k := by
  rw [m.clearViol_eq, each_word _ _ _ k fun x a _ => x.recordAgain_word a hk, m.word_sw_ne _ _ _ _ hk]

theorem Mach.sw_zero_g (m : Mach) (f : Fd) (hf : f.reg = .DEV_OWN_VIOL) : (m.sw .DEV_OWN_VIOL 0).g f = 0 := by
  rw [← hf, m.g_sw_same f 0 0 0]
  simp [getBits]

theorem Mach.sw_zero_valid (m : Mach) : (m.sw .DEV_OWN_VIOL 0).b F.DEV_OWN_VIOL_VALID = false := by
  rw [Mach.b, m.sw_zero_g _ rfl]
  rfl

/-- The writable field of `DEV_OWN_VIOL` is its W1C bit: a write of 1 to it is the clear. -/
theorem Mach.doWrite_ownViol (m : Mach) (who : Who) (v : Word) (h : bit v.toNat 31 = true) :
    m.doWrite who .DEV_OWN_VIOL 0 0 v = (m.clearViol, true) := by
  have hq : m.wordOfQuad who .DEV_OWN_VIOL 0 v = none := rfl
  simp only [Mach.doWrite, hq, h, if_true]

theorem regAt_DEV_OWN_VIOL : regAt (R.DEV_OWN_VIOL.idx 0 0) = some (.DEV_OWN_VIOL, 0, 0) := by decide

/-- The active AP and the host under the maintainer role clear the record. -/
theorem Mach.regWrite_ownViol (m : Mach) (who : Who) (v : Word) (h : Safety.FieldWriter m who) (hv : bit v.toNat 31 = true) :
    m.regWrite who (R.DEV_OWN_VIOL.idx 0 0) v = (m.clearViol, true) := by
  have hhost : ∀ role src, 2 ≤ role → m.hostMay role src .DEV_OWN_VIOL = true := by
    intro role src hrole
    have : ¬ role < 2 := by omega
    simp [Mach.hostMay, R.base, this]
  rw [m.regWrite_auth who _ v .DEV_OWN_VIOL 0 0 h regAt_DEV_OWN_VIOL (by decide) rfl (by decide) (by decide) rfl hhost,
    m.doWrite_ownViol who v hv]

/-- A write of 1 to VALID by who may write it is a clear within a packet of the requester. -/
theorem exec_clear {s : State} {who : Who} {v : Word} (c : Nat) (h : Safety.FieldWriter s.m who) (hv : bit v.toNat 31 = true) :
    exec (.registerWrite who (R.DEV_OWN_VIOL.idx 0 0) c v false) s =
      .next { s with m := Safety.PacketDone (Safety.PacketDone (s.m.at c) who).clearViol who } := by
  rw [exec_registerWrite, Mach.regWrite_ownViol _ _ _ (fieldWriter_packetDone s.m who c h) hv]

/-- A packet that clears the record changes no other register. -/
theorem clear_keepsRegs (m : Mach) (who : Who) (c : Nat) :
    Safety.KeepsRegs m (Safety.PacketDone (Safety.PacketDone (m.at c) who).clearViol who) [R.DEV_OWN_VIOL.idx 0 0] := by
  intro _ hk
  rw [packetDone_word, Mach.clearViol_word _ (fun h => hk (List.mem_singleton.mpr h)), packetDone_word, Mach.at_word]

theorem Mach.ViolShows.packetDone {m : Mach} {n kind e idx : Nat} (h : m.ViolShows n kind e idx) (who : Who) :
    (Safety.PacketDone m who).ViolShows n kind e idx := by
  cases who <;> exact h

/-- A clear in a frame without violations leaves none. -/
theorem Mach.clearViol_of_none (m : Mach) (h : ∀ x ∈ m.viols, x.1 ≠ m.frame) : m.clearViol = m.sw .DEV_OWN_VIOL 0 := by
  have : m.viols.filter (fun x => x.1 == m.frame) = [] := by simpa [List.filter_eq_nil_iff] using h
  rw [m.clearViol_eq, this, each_nil]

/-- A clear shows the first violation of its frame, and counts those of the frame. -/
theorem Mach.clearViol_shows (m : Mach) {a kind e idx : Nat} {l : List (Nat × Nat × Nat × Nat × Nat)}
    (hf : m.viols.filter (fun x => x.1 == m.frame) = (m.frame, a, kind, e, idx) :: l)
    (hl : ∀ x ∈ l, x.2.1 = a → e ≤ x.2.2.2.1 % 32) (hk : kind < 3) (he : e < 32) (hi : idx < 65536) :
    m.clearViol.ViolShows (min 7 (l.length + 1)) kind e idx := by
  have hs := (m.sw .DEV_OWN_VIOL 0).violRecord_shows a kind e idx m.sw_zero_valid hk he hi
  have ht : ((m.sw .DEV_OWN_VIOL 0).recordAgain (m.frame, a, kind, e, idx)).violAt = a := by
    rw [Mach.recordAgain, Mach.violRecord_first _ _ _ _ _ m.sw_zero_valid]
  rw [m.clearViol_eq, hf, each_cons, Nat.add_comm]
  exact Mach.each_recordAgain_shows l (by decide) hs (by rwa [ht])

/-- Settles O5: a violation while VALID is 1 only counts, and a clear records the violations of its frame again, the first of them
as a first violation. -/
theorem violationRecord : Obligations.ViolationRecord := by
  refine ⟨?_, ?_, ?_, ?_⟩
  · intro s e idx c v narrow kind h hvalid hlow
    obtain ⟨hi, -⟩ := violates_bounds h
    have hlater := (s.m.at c).violRecord_later (s.m.at c).now kind e idx hvalid hlow
    refine ⟨_, exec_violation c h, rfl, ?_, (s.m.at c).violate_evq kind e idx hi, (s.m.at c).violate_keepsRegs kind e idx⟩
    rw [Mach.violate_w, hlater, Mach.inc_count_w, Mach.at_w, Mach.at_g]
  · intro s who c v h hv hnone
    refine ⟨_, exec_clear c h hv, rfl, ?_⟩
    have hclear := (Safety.PacketDone (s.m.at c) who).clearViol_of_none
      (by simpa only [packetDone_viols, packetDone_frame, Mach.at_viols, Mach.at_frame] using hnone)
    refine ⟨?_, ?_, clear_keepsRegs s.m who c, ?_⟩
    · rw [packetDone_b, hclear, Mach.sw_zero_valid]
    · rw [packetDone_g, hclear, Mach.sw_zero_g _ _ rfl]
    · obtain ⟨reg, hr⟩ := (Safety.PacketDone (s.m.at c) who).sw_regs .DEV_OWN_VIOL 0 0 0
      simp only [hclear, hr]
      exact packetDone_twice s.m who c reg
  · intro s who c a kind e idx l v h hv hf hl hk he hi
    refine ⟨_, exec_clear c h hv, rfl, ?_⟩
    have hshows := (Safety.PacketDone (s.m.at c) who).clearViol_shows
      (by simpa only [packetDone_viols, packetDone_frame, Mach.at_viols, Mach.at_frame] using hf) hl hk he hi
    obtain ⟨hvalid, hcount, hkind, hengine, hindex⟩ := hshows.packetDone who
    exact ⟨hvalid, hcount, hkind, hengine, hindex, clear_keepsRegs s.m who c⟩
  · intro s e idx c v narrow kind h he hvalid
    obtain ⟨hi, hk⟩ := violates_bounds h
    obtain ⟨hvalid, hcount, hkind, hengine, hindex⟩ :=
      (s.m.at c).violate_shows kind e idx ((s.m.at c).violRecord_shows _ kind e idx hvalid hk he (by omega))
    exact ⟨_, exec_violation c h, rfl, hvalid, hcount, hkind, hengine, hindex, _, (s.m.at c).violate_viols kind e idx⟩

end Sys2Proof.Machine
end

section
/-! PROOF. What a repeated event does to the event log (R350), and what the event window shows of the log, to a host source and
through the mirror to a field engine (R24, R353). -/

namespace Sys2Proof.Machine

open Sys2Proof

/-! ### A repeated event (R350) -/

/-- Only the newest record counts a repeat. -/
theorem bumpLast_append (l : List Rec) (a : Rec) : bumpLast (l ++ [a]) = l ++ [{ a with rep := satInc 0xFFFF a.rep }] := by
  induction l with
  | nil => rfl
  | cons x l ih =>
    have hstep : ∀ n, n ≠ [] → bumpLast (x :: n) = x :: bumpLast n
      | _ :: _, _ => rfl
    rw [List.cons_append, hstep _ (by simp), ih, List.cons_append]

theorem Rec.same_iff (a r : Rec) :
    a.same r = true ↔ a.code = r.code ∧ a.src = r.src ∧ a.arg0 = r.arg0 ∧ a.arg1 = r.arg1 := by
  simp [Rec.same, and_assoc]

/-- The record made of an event that carries a record's code, source and arguments equals that record, as R350 compares them. -/
theorem Mach.same_recOf (m : Mach) {r : Rec} {e : Ev} {extra : Nat} (h0 : r.arg0 < 2 ^ 32) (h1 : r.arg1 < 2 ^ 32)
    (hc : e.code = r.code) (hs : e.src = r.src) (ha0 : e.arg0 = r.arg0) (ha1 : e.arg1 = r.arg1) :
    r.same (m.recOf e extra) = true := by
  refine (Rec.same_iff ..).mpr ⟨hc.symm, hs.symm, ?_, ?_⟩
  · rw [Mach.recOf, ha0, Nat.mod_eq_of_lt h0]
  · rw [Mach.recOf, ha1, Nat.mod_eq_of_lt h1]

/-- A non-privileged event equal to the last record is counted there, before the capacity of the log is looked at. -/
theorem Mach.logRec_repeat {m : Mach} {l : List Rec} {a r : Rec} (hl : m.log.recs = l ++ [a]) (hp : privileged a.code = false)
    (hs : a.same r = true) :
    m.logRec r = { m with log := { m.log with recs := l ++ [{ a with rep := satInc 0xFFFF a.rep }] } } := by
  have hlast : (m.log.recs.getLast?.map (fun x => x.same r)).getD false = true := by simp [hl, hs]
  obtain ⟨hcode, -⟩ := (Rec.same_iff a r).mp hs
  rw [Mach.logRec, ← hcode, hp, if_neg Bool.false_ne_true, if_pos hlast, hl, bumpLast_append]

/-- An event that reaches a host that is up goes to the log. -/
theorem exec_eventRecord_up {s : State} (code src arg0 arg1 frame sub : Nat) (h : s.m.hostUp = true) :
    exec (.eventRecord code src arg0 arg1 frame sub) s =
      .next { s with m := s.m.logRec (s.m.recOf { code := code % 2 ^ 16, src := src % 2 ^ 8, arg0 := arg0, arg1 := arg1,
                                                  frame := frame % 2 ^ 64, sub := sub % 2 ^ 32 } 0) } := by
  rw [exec, execEventRecord, if_pos h]

/-- Settles O4: operands within their widths make a record that equals the last one, and `Mach.logRec_repeat` counts it. -/
theorem repeatedEvents : Obligations.RepeatedEvents := by
  intro s l r f sub hup hl hp hcode hsrc harg0 harg1
  refine ⟨_, exec_eventRecord_up _ _ _ _ _ _ hup, rfl, ?_⟩
  rw [Mach.logRec_repeat hl hp (s.m.same_recOf harg0 harg1 (Nat.mod_eq_of_lt hcode) (Nat.mod_eq_of_lt hsrc) rfl rfl)]
  exact ⟨rfl, rfl⟩

/-! ### The event window (R353) -/

theorem regAt_EV_WIN : ∀ j < 16, ∀ w < 8, regAt (R.EV_WIN.idx j w) = some (.EV_WIN, j, w) := by decide +kernel

/-- No word of the window is the high word of a quantity of R8. -/
theorem isHigh_EV_WIN : ∀ j < 16, ∀ w < 8, isHigh (R.EV_WIN.idx j w) = false := by decide +kernel

theorem isLow_eq_of_regAt {idx : Nat} {r : R} {p : Nat × Nat} (h : regAt idx = some (r, p)) : isLow idx = lowRegs.contains r := by
  rw [isLow, h]

/-- A register that is no half of a quantity of R8 is read without a latch. -/
theorem Mach.regRead_plain (m : Mach) (who : Who) {idx : Nat} (hl : isLow idx = false) (hh : isHigh idx = false) :
    m.regRead who idx = (m, m.seen who idx) := by
  simp [Mach.regRead, hl, hh]

/-- The bytes' number is below 256 to their count. -/
theorem leVal_lt (b : List Byte) : leVal b < 256 ^ b.length := by
  induction b with
  | nil => exact Nat.one_pos
  | cons x b ih =>
    have hx : x.toNat < 256 := x.isLt
    rw [leVal, List.length_cons, Nat.pow_succ]
    omega

theorem sliceB_length (b : List Byte) (o n : Nat) : (sliceB b o n).length = n := by
  simp only [sliceB, List.length_append, List.length_replicate]
  have := List.length_take_le n (b.drop o)
  omega

theorem fieldAt_lt (b : List Byte) (o n : Nat) : fieldAt b o n < 256 ^ n := by
  have h := leVal_lt (sliceB b o n)
  rwa [sliceB_length] at h

/-- A map that lists the values of `f` other than `z` reads as `f` at its keys, and as `z` elsewhere. -/
theorem smGet_listed {β : Type} [BEq β] [LawfulBEq β] (z : β) (f : Nat → β) (l : List Nat) (k : Nat) :
    smGet (fun _ => z) ((l.map (fun i => (i, f i))).filter (fun p => p.2 != z)) k = if k ∈ l then f k else z := by
  induction l with
  | nil => simp
  | cons i l ih =>
    rw [List.map_cons, List.filter_cons]
    by_cases hi : i = k
    · subst hi
      by_cases hz : f i = z
      · simp [hz, ih]
      · simp [hz, smGet]
    · have hk : ¬ k = i := fun e => hi e.symm
      by_cases hz : f i = z
      · simp [hz, hk, ih]
      · simp [hz, hi, hk, smGet, ih]

/-- After a refresh the mirror holds the value in force of every register of the host blocks (R24). -/
theorem Mach.refreshMirror_mirror (m : Mach) {k : Nat} (h : k ∈ mirrorIdx) :
    smGet (fun _ => (0 : Word)) m.refreshMirror.bar.mirror k = m.view k := by
  rw [Mach.refreshMirror, smGet_listed, if_pos h]

section
variable (m : Mach) {j w : Nat} (hj : j < 16) (hw : w < 8)
include hj hw

theorem evWin_mem_mirrorIdx : R.EV_WIN.idx j w ∈ mirrorIdx := by
  simp only [mirrorIdx, idx_EV_WIN, List.mem_append, List.mem_range'_1]
  omega

theorem isHostIdx_EV_WIN : isHostIdx (R.EV_WIN.idx j w) = true := by
  simp only [isHostIdx, Bool.and_eq_true, decide_eq_true_eq]
  rw [idx_EV_WIN]
  omega

theorem Mach.view_EV_WIN : m.view (R.EV_WIN.idx j w) = Word.of (m.logWord (m.g F.EV_CURSOR_CURSOR + j) w) := by
  simp only [Mach.view, regAt_EV_WIN j hj w hw]

theorem Mach.regRead_EV_WIN (who : Who) : (m.regRead who (R.EV_WIN.idx j w)).2 = m.seen who (R.EV_WIN.idx j w) := by
  have hl : isLow (R.EV_WIN.idx j w) = false := isLow_eq_of_regAt (regAt_EV_WIN j hj w hw)
  rw [m.regRead_plain who hl (isHigh_EV_WIN j hj w hw)]

/-- A host source reads the record that the cursor and the slot name, as the log stands. -/
theorem Mach.regRead_EV_WIN_host (role src : Nat) :
    (m.regRead (.host role src) (R.EV_WIN.idx j w)).2 = Word.of (m.logWord (m.g F.EV_CURSOR_CURSOR + j) w) := by
  rw [m.regRead_EV_WIN hj hw, Mach.seen, m.view_EV_WIN hj hw]

/-- A field engine reads the mirror. -/
theorem Mach.regRead_EV_WIN_eng (e : Nat) :
    (m.regRead (.eng e) (R.EV_WIN.idx j w)).2 = smGet (fun _ => (0 : Word)) m.bar.mirror (R.EV_WIN.idx j w) := by
  have h : (isHostIdx (R.EV_WIN.idx j w) && (regAt (R.EV_WIN.idx j w)).isSome) = true := by
    rw [isHostIdx_EV_WIN hj hw, regAt_EV_WIN j hj w hw]
    rfl
  rw [m.regRead_EV_WIN hj hw]
  exact if_pos h

end

theorem Mach.logWord_of_record {m : Mach} {n : Nat} {r : Rec} (w : Nat) (h : m.log.recs[n]? = some r) :
    m.logWord n w = fieldAt r.bytes (4 * w) 4 := by
  rw [Mach.logWord, h]

theorem Mach.logWord_beyond {m : Mach} {n : Nat} (w : Nat) (h : m.log.recs.length ≤ n) : m.logWord n w = 0 := by
  rw [Mach.logWord, List.getElem?_eq_none h]

/-- Settles O6: a host source reads the log itself, a field engine the mirror, which a refresh makes the host's view. -/
theorem eventWindow : Obligations.EventWindow := by
  refine ⟨?_, ?_, ?_, ?_⟩
  · intro m role src j w r hj hw hr
    rw [m.regRead_EV_WIN_host hj hw, Mach.logWord_of_record w hr]
    exact Nat.mod_eq_of_lt (fieldAt_lt r.bytes (4 * w) 4)
  · intro m role src j w hj hw hn
    rw [m.regRead_EV_WIN_host hj hw, Mach.logWord_beyond w hn]
    rfl
  · intro m e j w hj hw
    exact m.regRead_EV_WIN_eng hj hw e
  · intro m e j w role src hj hw
    rw [m.refreshMirror.regRead_EV_WIN_eng hj hw, m.refreshMirror_mirror (evWin_mem_mirrorIdx hj hw), m.view_EV_WIN hj hw,
      m.regRead_EV_WIN_host hj hw]

end Sys2Proof.Machine
end
